-- ==== Sys2Proof/Word.lean ====
section
/-! DEFINITION. The word types of the block: bytes, 16-bit halves and 32-bit words, and the three operand widths
(00_scope.md R12). -/

namespace Sys2Proof

/-- One byte, the unit of every address space (R100). -/
abbrev Byte := BitVec 8

/-- A 16-bit quantity: a selector, a port number, a descriptor word. -/
abbrev Half := BitVec 16

/-- A 32-bit quantity: a general register, a linear address, an operand value zero-extended. -/
abbrev Word := BitVec 32

/-- The operand widths: 8, 16 and 32 bits (R12). -/
inductive Width where
  | w8 | w16 | w32
  deriving DecidableEq, Repr

end Sys2Proof
end

