-- ==== Sys2Proof/Config.lean ====
section
/-! DEFINITION. What one instance of the block fixes: the parameters of 00_scope.md R11, and the free values
(constants with no body) that stand where the spec leaves a value open. -/

namespace Sys2Proof

/-- `MODEL`: the six CPU variants (R2). -/
inductive Model where
  | i8086 | i8088 | i80186 | i80188 | i80286 | i80386
  deriving DecidableEq, Repr

/-- `HAS_186` (R11): MODEL ≥ 80186. -/
def Model.has186 : Model → Bool
  | .i8086 | .i8088 => false
  | .i80186 | .i80188 | .i80286 | .i80386 => true

/-- `HAS_286` (R11): MODEL ≥ 80286. -/
def Model.has286 : Model → Bool
  | .i8086 | .i8088 | .i80186 | .i80188 => false
  | .i80286 | .i80386 => true

/-- `HAS_386` (R11): MODEL = 80386. -/
def Model.has386 : Model → Bool
  | .i80386 => true
  | .i8086 | .i8088 | .i80186 | .i80188 | .i80286 => false

/-- "8086 class" (R2): MODEL ∈ {8086, 8088, 80186, 80188}. -/
def Model.class8086 (m : Model) : Bool := !m.has286

/-- `PA_BITS` (R11): the width of a Bus address. -/
def Model.paBits : Model → Nat
  | .i8086 | .i8088 | .i80186 | .i80188 => 20
  | .i80286 => 24
  | .i80386 => 32

/-- `PS_CACHED` (R52): CF, PF, AF, ZF, SF, OF. -/
def psCached : Word := 0x08D5

/-- `PS_DIRECT[MODEL]` (R52). -/
def Model.psDirect : Model → Word
  | .i8086 | .i8088 | .i80186 | .i80188 => 0x0700
  | .i80286 => 0x7700
  | .i80386 => 0x00037700

/-- `PS_SET[MODEL]` (R52). -/
def Model.psSet : Model → Word
  | .i8086 | .i8088 | .i80186 | .i80188 => 0xF002
  | .i80286 => 0x0002
  | .i80386 => 0x00000002

/-- `CR0_ON[MODEL]` (R88): the reserved bits of CR0 that read 1. -/
def Model.cr0On : Model → Word
  | .i8086 | .i8088 | .i80186 | .i80188 => 0
  | .i80286 => 0xFFF0
  | .i80386 => 0x7FFFFFE0

/-- The selector of CS after reset (R86). -/
def Model.resetCs : Model → Half
  | .i8086 | .i8088 | .i80186 | .i80188 => 0xFFFF
  | .i80286 | .i80386 => 0xF000

/-- The instruction pointer after reset (R86). -/
def Model.resetIp : Model → Word
  | .i8086 | .i8088 | .i80186 | .i80188 => 0x0000
  | .i80286 | .i80386 => 0xFFF0

/-- `UNDEF_FLAGS` (R11, R381): either the defaults the spec states for the block, or any value at all. -/
inductive UndefStyle where
  | blockDefault   -- the deterministic defaults of R381, R405, R414, R419 to R421, R427
  | anyValue       -- every architecturally undefined value is a free value (section 4 of 93)
  deriving DecidableEq, Repr

/-- `SS_LOAD_FAULT_STYLE` (R11, R154, R156). -/
inductive LoadFaultStyle where
  | source | intel
  deriving DecidableEq, Repr

/-- `TASK_BUSY_STYLE` (R11, R631). -/
inductive TaskBusyStyle where
  | source | intel
  deriving DecidableEq, Repr

/-- How a task switch reports a stack segment that is not present. R154 makes every failure of its load a TS and refers to R627, which
makes this one an SS; no ruling of the spec settles it. DESIGN CHOICE (log 18): a parameter. -/
inductive TaskStackStyle where
  | stackFault  -- SS(selector), R627
  | taskFault   -- TS(selector), R154
  deriving DecidableEq, Repr

/-- `LAR_CONFORMING_RULE` (R11, R579): the privilege test of LAR, LSL and VERR on conforming code. DESIGN CHOICE (log 46): the spec
states the default and leaves open what else the rule can be. -/
inductive ConformingRule where
  | noDplTest   -- the default of R579: conforming code passes
  | dplTest     -- the test every other segment meets
  | unknown     -- some rule of CPL, RPL and DPL, a free value
  deriving DecidableEq, Repr

/-- `Coprocessor` (R11, D32): whether a coprocessor is attached. -/
inductive Coprocessor where
  | none       -- the default of R592: an escape does nothing and accesses no memory
  | attached   -- an escape is handed over, and an answer says what the coprocessor does (log 25)
  deriving DecidableEq, Repr

/-- The operand handed over with an escape (R592; log 25): the rm field where mod = 3, which names no register of this block, or the
linear address of the memory operand. -/
inductive CopOperand where
  | reg (rm : BitVec 3)
  | mem (ea : Word)
  deriving DecidableEq, Repr

/-- What an attached coprocessor first does with an escape (log 25). -/
structure CopRequest where
  reads : Nat           -- how many bytes of the memory operand it reads
  error : Bool          -- whether it signals an error, which raises MF (R651)
  deriving DecidableEq, Repr, Inhabited

/-- What it does when it has read its operand (log 25). -/
structure CopReply where
  stores : List Byte    -- the bytes it stores at the memory operand
  ax     : Option Half  -- a word it delivers into AX
  deriving DecidableEq, Repr, Inhabited

/-- What an attached coprocessor does with one escape (R592; log 25). -/
structure CopAnswer where
  request : CopRequest
  reply   : CopReply
  deriving DecidableEq, Repr, Inhabited

/-- What stands behind a range of Bus addresses (R103; section 1 of 93, "Bus contents"). -/
inductive BusKind where
  | ram              -- keeps what is written
  | rom              -- reads its contents, discards a write
  | hole (v : Byte)  -- nothing: every byte reads as v, a write is lost
  | device           -- reads what the device presents; reads and writes reach the device
  deriving DecidableEq, Repr

/-- A range of Bus addresses, from `first` to `last`, with what stands behind it. -/
structure BusRegion where
  first : Nat
  last  : Nat
  kind  : BusKind
  deriving DecidableEq, Repr

/-- What stands behind an address: the first region that holds it decides. DESIGN CHOICE (R103 leaves the Bus to the platform): an
address in no region is RAM (log 1). -/
def busKindAt : List BusRegion → Nat → BusKind
  | [], _ => .ram
  | r :: rs, a => if r.first ≤ a ∧ a ≤ r.last then r.kind else busKindAt rs a

/-- The parameters of R11 that an instance of the block is built with, the other key of the machine description (R9), and the
platform's Bus map. They are held in the state's
field `cfg` and no step changes them (R720). -/
structure Params where
  model          : Model
  autoStart      : Bool            -- the flag of the machine description (R9); no rule reads it (log 51)
  resetCsBase    : Word            -- `RESET_CS_BASE[MODEL]`
  resetEdx       : Word            -- `RESET_EDX`
  undef          : UndefStyle      -- `UNDEF_FLAGS`
  aaaCarryIntoAh : Bool            -- `AAA_CARRY_INTO_AH[MODEL]`
  sgdtByte5      : Option Byte     -- `SGDT_BYTE5[80386]` with opsize 16; `none`: base bits 31:24
  larConforming  : ConformingRule  -- `LAR_CONFORMING_RULE`
  leaRegUd       : Bool            -- `LEA_REG_UD[MODEL]`
  loadFaults     : LoadFaultStyle  -- `SS_LOAD_FAULT_STYLE`
  taskBusy       : TaskBusyStyle   -- `TASK_BUSY_STYLE`
  taskStack      : TaskStackStyle  -- the model's own (R154, R627; log 18)
  coprocessor    : Coprocessor     -- `Coprocessor`
  busMap         : List BusRegion  -- what the platform has behind the Bus (R103)
  deriving DecidableEq, Repr

/-- Every parameter at its default (R11) for one variant; the Bus map lists nothing, so that all of it is RAM (DESIGN CHOICE, log 1),
and `autoStart`, for which R9 gives no default, is clear (DESIGN CHOICE, log 51). -/
def Params.defaults (m : Model) : Params where
  model          := m
  autoStart      := false
  resetCsBase    := m.resetCs.setWidth 32 <<< 4
  resetEdx       := 0
  undef          := .blockDefault
  aaaCarryIntoAh := false
  sgdtByte5      := none
  larConforming  := .noDplTest
  leaRegUd       := true
  loadFaults     := .source
  taskBusy       := .source
  taskStack      := .stackFault
  coprocessor    := .none
  busMap         := []

/-- The operation that leaves a value architecturally undefined (R55, R381, R573, R575). -/
inductive UndefSite where
  | and | or | xor | test | mul | imul | div | idiv | aaa | aas | aam | aad | daa | das | rol | ror | rcl | rcr | shl | shr | sar
  | shld | shrd | bt | bts | btr | btc | bsf | bsr | fromCr | toCr | fromDr | toDr
  deriving DecidableEq, Repr

/-- FREE VALUE: the PS-shaped word that gives the undefined flags of an operation at a width, from PS as it was before the
instruction and all its operands in the order log 3 lists them, when the parameter `UNDEF_FLAGS` is `anyValue` (R381). -/
opaque Config.undefFlags : UndefSite → Width → Word → List Word → Word

/-- FREE VALUE: an undefined result (BSF and BSR of 0, SHLD and SHRD beyond the width), from the same, under `anyValue`. -/
opaque Config.undefResult : UndefSite → Width → Word → List Word → Word

/-- FREE VALUE: what the port space answers to a read once the listed answers are used up (R106): the number of oracle
answers so far, the port, the width in bytes. -/
opaque Config.portAnswer : Nat → Half → Nat → Word

/-- FREE VALUE: the vector the interrupt controller supplies once the listed vectors are used up (R683). -/
opaque Config.ackAnswer : Nat → Byte

/-- FREE VALUE: whether conforming code passes the privilege test of a query under `ConformingRule.unknown` (R579): CPL, the RPL of the
selector, the DPL of the descriptor. -/
opaque Config.conformingOk : BitVec 2 → BitVec 2 → BitVec 2 → Bool

/-- FREE VALUE: the instruction pointer and the CS selector of a new task whose TSS could not be read (R630): the number of oracle
answers so far. -/
opaque Config.taskEntry : Nat → Word × Half

/-- FREE VALUE: what an attached coprocessor first does with an escape once the listed answers are used up (R592): the number of
oracle answers so far, the two halves of the opcode, and the operand. -/
opaque Config.copRequest : Nat → BitVec 3 → BitVec 3 → CopOperand → CopRequest

/-- FREE VALUE: what it then does, from the same and the bytes it has read. -/
opaque Config.copReply : Nat → BitVec 3 → BitVec 3 → CopOperand → List Byte → CopReply

end Sys2Proof
end

