-- ==== Sys2Proof/Syntax.lean ====
section
/-! DEFINITION. The instructions: one constructor of `Instr` per row of spec/opcode_table.json, and `undefOther` for every
encoding the maps of R247 to R249 call undefined without a row of its own. Register numbers and conditions are names here;
numbers stand only in Decode.lean. -/

namespace Sys2Proof

/-- The eight general registers in encoding order (R31); the operand width of the instruction chooses the view. -/
inductive Reg where
  | ax | cx | dx | bx | sp | bp | si | di
  deriving DecidableEq, Repr

/-- The eight byte views in encoding order (R33). -/
inductive Reg8 where
  | al | cl | dl | bl | ah | ch | dh | bh
  deriving DecidableEq, Repr

/-- The segment registers in encoding order (R37). -/
inductive SReg where
  | es | cs | ss | ds | fs | gs
  deriving DecidableEq, Repr

/-- The sixteen conditions in encoding order (43_control_flow.md). -/
inductive Cond where
  | o | no | b | ae | z | nz | be | a | s | ns | p | np | l | ge | le | g
  deriving DecidableEq, Repr

/-- The prefix bytes (R233). -/
inductive Prefix where
  | es | cs | ss | ds | fs | gs | opSize | adSize | lock | repNZ | repZ
  deriving DecidableEq, Repr

/-- The register sums of 16-bit addressing (R282). -/
inductive Base16 where
  | bxsi | bxdi | bpsi | bpdi | si | di | bp | bx
  deriving DecidableEq, Repr

/-- The displacement of a 16-bit memory operand (R285): none (mod 0), a sign-extended byte (mod 1), a word (mod 2). -/
inductive Disp16 where
  | none | d8 (d : Byte) | d16 (d : Half)
  deriving DecidableEq, Repr

/-- The displacement of a 32-bit memory operand (R285). -/
inductive Disp32 where
  | none | d8 (d : Byte) | d32 (d : Word)
  deriving DecidableEq, Repr

/-- A memory operand as the ModR/M and SIB bytes name it (R282 to R284). -/
inductive MemOp where
  | base16 (b : Base16) (d : Disp16)
  | abs16 (d : Half)
  | base32 (r : Reg) (d : Disp32)
  | abs32 (d : Word)
  | sib (scale : BitVec 2) (index : Option Reg) (base : Reg) (d : Disp32)
  | sibNoBase (scale : BitVec 2) (index : Option Reg) (d : Word)
  deriving DecidableEq, Repr

/-- The E operand of a word or dword form (R280). -/
inductive RM where
  | reg (r : Reg)
  | mem (m : MemOp)
  deriving DecidableEq, Repr

/-- The E operand of a byte form (R280, R288). -/
inductive RM8 where
  | reg (r : Reg8)
  | mem (m : MemOp)
  deriving DecidableEq, Repr

/-- The count operand of a shift or rotate: `Ib`, the constant 1, or CL (R248). -/
inductive ShiftBy where
  | ib (n : Byte) | one | cl
  deriving DecidableEq, Repr

/-- The destination of a shift or rotate: a byte or a word and dword E operand. -/
inductive ShiftDst where
  | eb (e : RM8) | ev (e : RM)
  deriving DecidableEq, Repr

/-- The instructions; those with operands stand first, since compiled code can number only 244 of them, and for the same
reason the six rows of group 2 /6 (R254) are one constructor with the count and the destination as fields. Argument names: `e` the E operand, `g` the register of the ModR/M `reg` field, `m` a memory-only
operand, `ib` `iw` `iv` immediates (an `iv`, `jv` or far offset is stored zero-extended from the operand size), `jb` `jv`
relative displacements, `off` an offset, `sel` a selector, `cc` a condition. -/
inductive Instr where
  | addEbGb (e : RM8) (g : Reg8)  -- ADD Eb,Gb, 00 mask FF, R361
  | addEvGv (e : RM) (g : Reg)  -- ADD Ev,Gv, 01 mask FF, R361
  | addGbEb (g : Reg8) (e : RM8)  -- ADD Gb,Eb, 02 mask FF, R361
  | addGvEv (g : Reg) (e : RM)  -- ADD Gv,Ev, 03 mask FF, R361
  | addALIb (ib : Byte)  -- ADD AL,Ib, 04 mask FF, R361
  | addEAXIv (iv : Word)  -- ADD eAX,Iv, 05 mask FF, R361
  | addEbIb (e : RM8) (ib : Byte)  -- ADD Eb,Ib, 8000 mask FF38, R361
  | addEvIv (e : RM) (iv : Word)  -- ADD Ev,Iv, 8100 mask FF38, R361
  | addEbIb82 (e : RM8) (ib : Byte)  -- ADD Eb,Ib, 8200 mask FF38, R361
  | addEvIbs (e : RM) (ib : Byte)  -- ADD Ev,Ibs, 8300 mask FF38, R361
  | orEbGb (e : RM8) (g : Reg8)  -- OR Eb,Gb, 08 mask FF, R402
  | orEvGv (e : RM) (g : Reg)  -- OR Ev,Gv, 09 mask FF, R402
  | orGbEb (g : Reg8) (e : RM8)  -- OR Gb,Eb, 0A mask FF, R402
  | orGvEv (g : Reg) (e : RM)  -- OR Gv,Ev, 0B mask FF, R402
  | orALIb (ib : Byte)  -- OR AL,Ib, 0C mask FF, R402
  | orEAXIv (iv : Word)  -- OR eAX,Iv, 0D mask FF, R402
  | orEbIb (e : RM8) (ib : Byte)  -- OR Eb,Ib, 8008 mask FF38, R402
  | orEvIv (e : RM) (iv : Word)  -- OR Ev,Iv, 8108 mask FF38, R402
  | orEbIb82 (e : RM8) (ib : Byte)  -- OR Eb,Ib, 8208 mask FF38, R402
  | orEvIbs (e : RM) (ib : Byte)  -- OR Ev,Ibs, 8308 mask FF38, R402
  | adcEbGb (e : RM8) (g : Reg8)  -- ADC Eb,Gb, 10 mask FF, R362
  | adcEvGv (e : RM) (g : Reg)  -- ADC Ev,Gv, 11 mask FF, R362
  | adcGbEb (g : Reg8) (e : RM8)  -- ADC Gb,Eb, 12 mask FF, R362
  | adcGvEv (g : Reg) (e : RM)  -- ADC Gv,Ev, 13 mask FF, R362
  | adcALIb (ib : Byte)  -- ADC AL,Ib, 14 mask FF, R362
  | adcEAXIv (iv : Word)  -- ADC eAX,Iv, 15 mask FF, R362
  | adcEbIb (e : RM8) (ib : Byte)  -- ADC Eb,Ib, 8010 mask FF38, R362
  | adcEvIv (e : RM) (iv : Word)  -- ADC Ev,Iv, 8110 mask FF38, R362
  | adcEbIb82 (e : RM8) (ib : Byte)  -- ADC Eb,Ib, 8210 mask FF38, R362
  | adcEvIbs (e : RM) (ib : Byte)  -- ADC Ev,Ibs, 8310 mask FF38, R362
  | sbbEbGb (e : RM8) (g : Reg8)  -- SBB Eb,Gb, 18 mask FF, R364
  | sbbEvGv (e : RM) (g : Reg)  -- SBB Ev,Gv, 19 mask FF, R364
  | sbbGbEb (g : Reg8) (e : RM8)  -- SBB Gb,Eb, 1A mask FF, R364
  | sbbGvEv (g : Reg) (e : RM)  -- SBB Gv,Ev, 1B mask FF, R364
  | sbbALIb (ib : Byte)  -- SBB AL,Ib, 1C mask FF, R364
  | sbbEAXIv (iv : Word)  -- SBB eAX,Iv, 1D mask FF, R364
  | sbbEbIb (e : RM8) (ib : Byte)  -- SBB Eb,Ib, 8018 mask FF38, R364
  | sbbEvIv (e : RM) (iv : Word)  -- SBB Ev,Iv, 8118 mask FF38, R364
  | sbbEbIb82 (e : RM8) (ib : Byte)  -- SBB Eb,Ib, 8218 mask FF38, R364
  | sbbEvIbs (e : RM) (ib : Byte)  -- SBB Ev,Ibs, 8318 mask FF38, R364
  | andEbGb (e : RM8) (g : Reg8)  -- AND Eb,Gb, 20 mask FF, R401
  | andEvGv (e : RM) (g : Reg)  -- AND Ev,Gv, 21 mask FF, R401
  | andGbEb (g : Reg8) (e : RM8)  -- AND Gb,Eb, 22 mask FF, R401
  | andGvEv (g : Reg) (e : RM)  -- AND Gv,Ev, 23 mask FF, R401
  | andALIb (ib : Byte)  -- AND AL,Ib, 24 mask FF, R401
  | andEAXIv (iv : Word)  -- AND eAX,Iv, 25 mask FF, R401
  | andEbIb (e : RM8) (ib : Byte)  -- AND Eb,Ib, 8020 mask FF38, R401
  | andEvIv (e : RM) (iv : Word)  -- AND Ev,Iv, 8120 mask FF38, R401
  | andEbIb82 (e : RM8) (ib : Byte)  -- AND Eb,Ib, 8220 mask FF38, R401
  | andEvIbs (e : RM) (ib : Byte)  -- AND Ev,Ibs, 8320 mask FF38, R401
  | subEbGb (e : RM8) (g : Reg8)  -- SUB Eb,Gb, 28 mask FF, R363
  | subEvGv (e : RM) (g : Reg)  -- SUB Ev,Gv, 29 mask FF, R363
  | subGbEb (g : Reg8) (e : RM8)  -- SUB Gb,Eb, 2A mask FF, R363
  | subGvEv (g : Reg) (e : RM)  -- SUB Gv,Ev, 2B mask FF, R363
  | subALIb (ib : Byte)  -- SUB AL,Ib, 2C mask FF, R363
  | subEAXIv (iv : Word)  -- SUB eAX,Iv, 2D mask FF, R363
  | subEbIb (e : RM8) (ib : Byte)  -- SUB Eb,Ib, 8028 mask FF38, R363
  | subEvIv (e : RM) (iv : Word)  -- SUB Ev,Iv, 8128 mask FF38, R363
  | subEbIb82 (e : RM8) (ib : Byte)  -- SUB Eb,Ib, 8228 mask FF38, R363
  | subEvIbs (e : RM) (ib : Byte)  -- SUB Ev,Ibs, 8328 mask FF38, R363
  | xorEbGb (e : RM8) (g : Reg8)  -- XOR Eb,Gb, 30 mask FF, R403
  | xorEvGv (e : RM) (g : Reg)  -- XOR Ev,Gv, 31 mask FF, R403
  | xorGbEb (g : Reg8) (e : RM8)  -- XOR Gb,Eb, 32 mask FF, R403
  | xorGvEv (g : Reg) (e : RM)  -- XOR Gv,Ev, 33 mask FF, R403
  | xorALIb (ib : Byte)  -- XOR AL,Ib, 34 mask FF, R403
  | xorEAXIv (iv : Word)  -- XOR eAX,Iv, 35 mask FF, R403
  | xorEbIb (e : RM8) (ib : Byte)  -- XOR Eb,Ib, 8030 mask FF38, R403
  | xorEvIv (e : RM) (iv : Word)  -- XOR Ev,Iv, 8130 mask FF38, R403
  | xorEbIb82 (e : RM8) (ib : Byte)  -- XOR Eb,Ib, 8230 mask FF38, R403
  | xorEvIbs (e : RM) (ib : Byte)  -- XOR Ev,Ibs, 8330 mask FF38, R403
  | cmpEbGb (e : RM8) (g : Reg8)  -- CMP Eb,Gb, 38 mask FF, R365
  | cmpEvGv (e : RM) (g : Reg)  -- CMP Ev,Gv, 39 mask FF, R365
  | cmpGbEb (g : Reg8) (e : RM8)  -- CMP Gb,Eb, 3A mask FF, R365
  | cmpGvEv (g : Reg) (e : RM)  -- CMP Gv,Ev, 3B mask FF, R365
  | cmpALIb (ib : Byte)  -- CMP AL,Ib, 3C mask FF, R365
  | cmpEAXIv (iv : Word)  -- CMP eAX,Iv, 3D mask FF, R365
  | cmpEbIb (e : RM8) (ib : Byte)  -- CMP Eb,Ib, 8038 mask FF38, R365
  | cmpEvIv (e : RM) (iv : Word)  -- CMP Ev,Iv, 8138 mask FF38, R365
  | cmpEbIb82 (e : RM8) (ib : Byte)  -- CMP Eb,Ib, 8238 mask FF38, R365
  | cmpEvIbs (e : RM) (ib : Byte)  -- CMP Ev,Ibs, 8338 mask FF38, R365
  | incR (r : Reg)  -- INC r16/r32, 40 mask F8, R366
  | decR (r : Reg)  -- DEC r16/r32, 48 mask F8, R367
  | pushR (r : Reg)  -- PUSH r16/r32, 50 mask F8, R320
  | popR (r : Reg)  -- POP r16/r32, 58 mask F8, R323
  | boundGvMa (g : Reg) (m : MemOp)  -- BOUND Gv,Ma, 62 mask FF, R500
  | arplEwGw (e : RM) (g : Reg)  -- ARPL Ew,Gw, 63 mask FF, R584
  | pushIv (iv : Word)  -- PUSH Iv, 68 mask FF, R320
  | imulGvEvIv (g : Reg) (e : RM) (iv : Word)  -- IMUL Gv,Ev,Iv, 69 mask FF, R371
  | pushIbs (ib : Byte)  -- PUSH Ibs, 6A mask FF, R320
  | imulGvEvIbs (g : Reg) (e : RM) (ib : Byte)  -- IMUL Gv,Ev,Ibs, 6B mask FF, R371
  | jccJb (cc : Cond) (jb : Byte)  -- Jcc Jb, 70 mask F0, R454
  | testEbGb (e : RM8) (g : Reg8)  -- TEST Eb,Gb, 84 mask FF, R404
  | testEvGv (e : RM) (g : Reg)  -- TEST Ev,Gv, 85 mask FF, R404
  | xchgEbGb (e : RM8) (g : Reg8)  -- XCHG Eb,Gb, 86 mask FF, R313
  | xchgEvGv (e : RM) (g : Reg)  -- XCHG Ev,Gv, 87 mask FF, R313
  | movEbGb (e : RM8) (g : Reg8)  -- MOV Eb,Gb, 88 mask FF, R311
  | movEvGv (e : RM) (g : Reg)  -- MOV Ev,Gv, 89 mask FF, R311
  | movGbEb (g : Reg8) (e : RM8)  -- MOV Gb,Eb, 8A mask FF, R311
  | movGvEv (g : Reg) (e : RM)  -- MOV Gv,Ev, 8B mask FF, R311
  | movEwSw (e : RM) (sr : SReg)  -- MOV Ew,Sw, 8C mask FF, R312
  | leaGvM (g : Reg) (e : RM)  -- LEA Gv,M, 8D mask FF, R314
  | movSwEw (sr : SReg) (e : RM)  -- MOV Sw,Ew, 8E mask FF, R312
  | popEv (e : RM)  -- POP Ev, 8F00 mask FF38, R323
  | xchgEAXR (r : Reg)  -- XCHG eAX,r16/r32, 90 mask F8, R313
  | callFarAp (off : Word) (sel : Half)  -- CALL Ap, 9A mask FF, R462
  | movALOb (off : Word)  -- MOV AL,Ob, A0 mask FF, R311
  | movEAXOv (off : Word)  -- MOV eAX,Ov, A1 mask FF, R311
  | movObAL (off : Word)  -- MOV Ob,AL, A2 mask FF, R311
  | movOvEAX (off : Word)  -- MOV Ov,eAX, A3 mask FF, R311
  | testALIb (ib : Byte)  -- TEST AL,Ib, A8 mask FF, R404
  | testEAXIv (iv : Word)  -- TEST eAX,Iv, A9 mask FF, R404
  | movR8Ib (r : Reg8) (ib : Byte)  -- MOV r8,Ib, B0 mask F8, R311
  | movRIv (r : Reg) (iv : Word)  -- MOV r16/r32,Iv, B8 mask F8, R311
  | rolEbIb (e : RM8) (ib : Byte)  -- ROL Eb,Ib, C000 mask FF38, R415
  | rolEvIb (e : RM) (ib : Byte)  -- ROL Ev,Ib, C100 mask FF38, R415
  | rolEbOne (e : RM8)  -- ROL Eb,1, D000 mask FF38, R415
  | rolEvOne (e : RM)  -- ROL Ev,1, D100 mask FF38, R415
  | rolEbCL (e : RM8)  -- ROL Eb,CL, D200 mask FF38, R415
  | rolEvCL (e : RM)  -- ROL Ev,CL, D300 mask FF38, R415
  | rorEbIb (e : RM8) (ib : Byte)  -- ROR Eb,Ib, C008 mask FF38, R416
  | rorEvIb (e : RM) (ib : Byte)  -- ROR Ev,Ib, C108 mask FF38, R416
  | rorEbOne (e : RM8)  -- ROR Eb,1, D008 mask FF38, R416
  | rorEvOne (e : RM)  -- ROR Ev,1, D108 mask FF38, R416
  | rorEbCL (e : RM8)  -- ROR Eb,CL, D208 mask FF38, R416
  | rorEvCL (e : RM)  -- ROR Ev,CL, D308 mask FF38, R416
  | rclEbIb (e : RM8) (ib : Byte)  -- RCL Eb,Ib, C010 mask FF38, R417
  | rclEvIb (e : RM) (ib : Byte)  -- RCL Ev,Ib, C110 mask FF38, R417
  | rclEbOne (e : RM8)  -- RCL Eb,1, D010 mask FF38, R417
  | rclEvOne (e : RM)  -- RCL Ev,1, D110 mask FF38, R417
  | rclEbCL (e : RM8)  -- RCL Eb,CL, D210 mask FF38, R417
  | rclEvCL (e : RM)  -- RCL Ev,CL, D310 mask FF38, R417
  | rcrEbIb (e : RM8) (ib : Byte)  -- RCR Eb,Ib, C018 mask FF38, R418
  | rcrEvIb (e : RM) (ib : Byte)  -- RCR Ev,Ib, C118 mask FF38, R418
  | rcrEbOne (e : RM8)  -- RCR Eb,1, D018 mask FF38, R418
  | rcrEvOne (e : RM)  -- RCR Ev,1, D118 mask FF38, R418
  | rcrEbCL (e : RM8)  -- RCR Eb,CL, D218 mask FF38, R418
  | rcrEvCL (e : RM)  -- RCR Ev,CL, D318 mask FF38, R418
  | shlEbIb (e : RM8) (ib : Byte)  -- SHL Eb,Ib, C020 mask FF38, R411
  | shlEvIb (e : RM) (ib : Byte)  -- SHL Ev,Ib, C120 mask FF38, R411
  | shlEbOne (e : RM8)  -- SHL Eb,1, D020 mask FF38, R411
  | shlEvOne (e : RM)  -- SHL Ev,1, D120 mask FF38, R411
  | shlEbCL (e : RM8)  -- SHL Eb,CL, D220 mask FF38, R411
  | shlEvCL (e : RM)  -- SHL Ev,CL, D320 mask FF38, R411
  | shrEbIb (e : RM8) (ib : Byte)  -- SHR Eb,Ib, C028 mask FF38, R412
  | shrEvIb (e : RM) (ib : Byte)  -- SHR Ev,Ib, C128 mask FF38, R412
  | shrEbOne (e : RM8)  -- SHR Eb,1, D028 mask FF38, R412
  | shrEvOne (e : RM)  -- SHR Ev,1, D128 mask FF38, R412
  | shrEbCL (e : RM8)  -- SHR Eb,CL, D228 mask FF38, R412
  | shrEvCL (e : RM)  -- SHR Ev,CL, D328 mask FF38, R412
  | shl6 (k : ShiftBy) (d : ShiftDst)  -- SHL E,count, C030 mask FF38, R411
  | sarEbIb (e : RM8) (ib : Byte)  -- SAR Eb,Ib, C038 mask FF38, R413
  | sarEvIb (e : RM) (ib : Byte)  -- SAR Ev,Ib, C138 mask FF38, R413
  | sarEbOne (e : RM8)  -- SAR Eb,1, D038 mask FF38, R413
  | sarEvOne (e : RM)  -- SAR Ev,1, D138 mask FF38, R413
  | sarEbCL (e : RM8)  -- SAR Eb,CL, D238 mask FF38, R413
  | sarEvCL (e : RM)  -- SAR Ev,CL, D338 mask FF38, R413
  | retIw (iw : Half)  -- RET Iw, C2 mask FF, R459
  | lesGvMp (g : Reg) (m : MemOp)  -- LES Gv,Mp, C4 mask FF, R315
  | ldsGvMp (g : Reg) (m : MemOp)  -- LDS Gv,Mp, C5 mask FF, R315
  | movEbIb (e : RM8) (ib : Byte)  -- MOV Eb,Ib, C600 mask FF38, R311
  | movEvIv (e : RM) (iv : Word)  -- MOV Ev,Iv, C700 mask FF38, R311
  | enterIwIb (iw : Half) (ib : Byte)  -- ENTER Iw,Ib, C8 mask FF, R347
  | retfIw (iw : Half)  -- RETF Iw, CA mask FF, R463
  | intIb (ib : Byte)  -- INT Ib, CD mask FF, R480
  | aamIb (ib : Byte)  -- AAM Ib, D4 mask FF, R378
  | aadIb (ib : Byte)  -- AAD Ib, D5 mask FF, R379
  | esc (n : BitVec 3) (reg : BitVec 3) (e : RM)  -- ESC E, D8 mask F8, R592
  | loopnzJb (jb : Byte)  -- LOOPNZ Jb, E0 mask FF, R456
  | loopzJb (jb : Byte)  -- LOOPZ Jb, E1 mask FF, R456
  | loopJb (jb : Byte)  -- LOOP Jb, E2 mask FF, R456
  | jcxzJb (jb : Byte)  -- JCXZ Jb, E3 mask FF, R455
  | inALIb (ib : Byte)  -- IN AL,Ib, E4 mask FF, R345
  | inEAXIb (ib : Byte)  -- IN eAX,Ib, E5 mask FF, R345
  | outIbAL (ib : Byte)  -- OUT Ib,AL, E6 mask FF, R346
  | outIbEAX (ib : Byte)  -- OUT Ib,eAX, E7 mask FF, R346
  | callJv (jv : Word)  -- CALL Jv, E8 mask FF, R457
  | jmpJv (jv : Word)  -- JMP Jv, E9 mask FF, R452
  | jmpFarAp (off : Word) (sel : Half)  -- JMP Ap, EA mask FF, R461
  | jmpJb (jb : Byte)  -- JMP Jb, EB mask FF, R452
  | testEbIb (e : RM8) (ib : Byte)  -- TEST Eb,Ib, F600 mask FF38, R404
  | testEvIv (e : RM) (iv : Word)  -- TEST Ev,Iv, F700 mask FF38, R404
  | notEb (e : RM8)  -- NOT Eb, F610 mask FF38, R406
  | notEv (e : RM)  -- NOT Ev, F710 mask FF38, R406
  | negEb (e : RM8)  -- NEG Eb, F618 mask FF38, R368
  | negEv (e : RM)  -- NEG Ev, F718 mask FF38, R368
  | mulEb (e : RM8)  -- MUL Eb, F620 mask FF38, R369
  | mulEv (e : RM)  -- MUL Ev, F720 mask FF38, R369
  | imulEb (e : RM8)  -- IMUL Eb, F628 mask FF38, R370
  | imulEv (e : RM)  -- IMUL Ev, F728 mask FF38, R370
  | divEb (e : RM8)  -- DIV Eb, F630 mask FF38, R372
  | divEv (e : RM)  -- DIV Ev, F730 mask FF38, R372
  | idivEb (e : RM8)  -- IDIV Eb, F638 mask FF38, R373
  | idivEv (e : RM)  -- IDIV Ev, F738 mask FF38, R373
  | incEb (e : RM8)  -- INC Eb, FE00 mask FF38, R366
  | decEb (e : RM8)  -- DEC Eb, FE08 mask FF38, R367
  | incEv (e : RM)  -- INC Ev, FF00 mask FF38, R366
  | decEv (e : RM)  -- DEC Ev, FF08 mask FF38, R367
  | callEv (e : RM)  -- CALL Ev, FF10 mask FF38, R458
  | callFarMp (m : MemOp)  -- CALL Mp, FF18 mask FF38, R462
  | jmpEv (e : RM)  -- JMP Ev, FF20 mask FF38, R453
  | jmpFarMp (m : MemOp)  -- JMP Mp, FF28 mask FF38, R461
  | pushEv (e : RM)  -- PUSH Ev, FF30 mask FF38, R320
  | sldtEw (e : RM)  -- SLDT Ew, 0F0000 mask FFFF38, R566
  | strEw (e : RM)  -- STR Ew, 0F0008 mask FFFF38, R568
  | lldtEw (e : RM)  -- LLDT Ew, 0F0010 mask FFFF38, R565
  | ltrEw (e : RM)  -- LTR Ew, 0F0018 mask FFFF38, R567
  | verrEw (e : RM)  -- VERR Ew, 0F0020 mask FFFF38, R582
  | verwEw (e : RM)  -- VERW Ew, 0F0028 mask FFFF38, R583
  | sgdtMs (m : MemOp)  -- SGDT Ms, 0F0100 mask FFFF38, R562
  | sidtMs (m : MemOp)  -- SIDT Ms, 0F0108 mask FFFF38, R563
  | lgdtMs (m : MemOp)  -- LGDT Ms, 0F0110 mask FFFF38, R560
  | lidtMs (m : MemOp)  -- LIDT Ms, 0F0118 mask FFFF38, R561
  | smswEw (e : RM)  -- SMSW Ew, 0F0120 mask FFFF38, R570
  | lmswEw (e : RM)  -- LMSW Ew, 0F0130 mask FFFF38, R571
  | larGvEw (g : Reg) (e : RM)  -- LAR Gv,Ew, 0F02 mask FFFF, R580
  | lslGvEw (g : Reg) (e : RM)  -- LSL Gv,Ew, 0F03 mask FFFF, R581
  | movRdCd (r : Reg) (cr : BitVec 3)  -- MOV Rd,Cd, 0F20 mask FFFF, R573
  | movRdDd (r : Reg) (dr : BitVec 3)  -- MOV Rd,Dd, 0F21 mask FFFF, R575
  | movCdRd (cr : BitVec 3) (r : Reg)  -- MOV Cd,Rd, 0F22 mask FFFF, R574
  | movDdRd (dr : BitVec 3) (r : Reg)  -- MOV Dd,Rd, 0F23 mask FFFF, R575
  | jccJv (cc : Cond) (jv : Word)  -- Jcc Jv, 0F80 mask FFF0, R454
  | setccEb (cc : Cond) (e : RM8)  -- SETcc Eb, 0F90 mask FFF0, R429
  | btEvGv (e : RM) (g : Reg)  -- BT Ev,Gv, 0FA3 mask FFFF, R422
  | shldEvGvIb (e : RM) (g : Reg) (ib : Byte)  -- SHLD Ev,Gv,Ib, 0FA4 mask FFFF, R420
  | shldEvGvCL (e : RM) (g : Reg)  -- SHLD Ev,Gv,CL, 0FA5 mask FFFF, R420
  | btsEvGv (e : RM) (g : Reg)  -- BTS Ev,Gv, 0FAB mask FFFF, R423
  | shrdEvGvIb (e : RM) (g : Reg) (ib : Byte)  -- SHRD Ev,Gv,Ib, 0FAC mask FFFF, R421
  | shrdEvGvCL (e : RM) (g : Reg)  -- SHRD Ev,Gv,CL, 0FAD mask FFFF, R421
  | imulGvEv (g : Reg) (e : RM)  -- IMUL Gv,Ev, 0FAF mask FFFF, R371
  | lssGvMp (g : Reg) (m : MemOp)  -- LSS Gv,Mp, 0FB2 mask FFFF, R315
  | btrEvGv (e : RM) (g : Reg)  -- BTR Ev,Gv, 0FB3 mask FFFF, R424
  | lfsGvMp (g : Reg) (m : MemOp)  -- LFS Gv,Mp, 0FB4 mask FFFF, R315
  | lgsGvMp (g : Reg) (m : MemOp)  -- LGS Gv,Mp, 0FB5 mask FFFF, R315
  | movzxGvEb (g : Reg) (e : RM8)  -- MOVZX Gv,Eb, 0FB6 mask FFFF, R332
  | movzxGvEw (g : Reg) (e : RM)  -- MOVZX Gv,Ew, 0FB7 mask FFFF, R332
  | btEvIb (e : RM) (ib : Byte)  -- BT Ev,Ib, 0FBA20 mask FFFF38, R422
  | btsEvIb (e : RM) (ib : Byte)  -- BTS Ev,Ib, 0FBA28 mask FFFF38, R423
  | btrEvIb (e : RM) (ib : Byte)  -- BTR Ev,Ib, 0FBA30 mask FFFF38, R424
  | btcEvIb (e : RM) (ib : Byte)  -- BTC Ev,Ib, 0FBA38 mask FFFF38, R425
  | btcEvGv (e : RM) (g : Reg)  -- BTC Ev,Gv, 0FBB mask FFFF, R425
  | bsfGvEv (g : Reg) (e : RM)  -- BSF Gv,Ev, 0FBC mask FFFF, R427
  | bsrGvEv (g : Reg) (e : RM)  -- BSR Gv,Ev, 0FBD mask FFFF, R428
  | movsxGvEb (g : Reg) (e : RM8)  -- MOVSX Gv,Eb, 0FBE mask FFFF, R333
  | movsxGvEw (g : Reg) (e : RM)  -- MOVSX Gv,Ew, 0FBF mask FFFF, R333
  | pushES  -- PUSH ES, 06 mask FF, R322
  | popES  -- POP ES, 07 mask FF, R324
  | pushCS  -- PUSH CS, 0E mask FF, R322
  | pushSS  -- PUSH SS, 16 mask FF, R322
  | popSS  -- POP SS, 17 mask FF, R324
  | pushDS  -- PUSH DS, 1E mask FF, R322
  | popDS  -- POP DS, 1F mask FF, R324
  | popCS  -- POP CS, 0F mask FF, R324
  | prefixES  -- ES:, 26 mask FF, R233
  | prefixCS  -- CS:, 2E mask FF, R233
  | prefixSS  -- SS:, 36 mask FF, R233
  | prefixDS  -- DS:, 3E mask FF, R233
  | prefixFS  -- FS:, 64 mask FF, R233
  | prefixGS  -- GS:, 65 mask FF, R233
  | prefixOpSize  -- OPSIZE, 66 mask FF, R233
  | prefixAdSize  -- ADSIZE, 67 mask FF, R233
  | prefixLock  -- LOCK, F0 mask FF, R233
  | prefixRepNZ  -- REPNZ, F2 mask FF, R233
  | prefixRepZ  -- REPZ, F3 mask FF, R233
  | daa  -- DAA, 27 mask FF, R374
  | das  -- DAS, 2F mask FF, R375
  | aaa  -- AAA, 37 mask FF, R376
  | aas  -- AAS, 3F mask FF, R377
  | pusha  -- PUSHA, 60 mask FF, R325
  | popa  -- POPA, 61 mask FF, R326
  | insb  -- INS Yb,DX, 6C mask FF, R530
  | insv  -- INS Yv,DX, 6D mask FF, R530
  | outsb  -- OUTS DX,Xb, 6E mask FF, R531
  | outsv  -- OUTS DX,Xv, 6F mask FF, R531
  | nop  -- NOP, 90 mask FF, R340
  | cbw  -- CBW, 98 mask FF, R330
  | cwd  -- CWD, 99 mask FF, R331
  | wait  -- WAIT, 9B mask FF, R591
  | pushf  -- PUSHF, 9C mask FF, R552
  | popf  -- POPF, 9D mask FF, R553
  | sahf  -- SAHF, 9E mask FF, R555
  | lahf  -- LAHF, 9F mask FF, R554
  | movsb  -- MOVS Yb,Xb, A4 mask FF, R524
  | movsv  -- MOVS Yv,Xv, A5 mask FF, R524
  | cmpsb  -- CMPS Xb,Yb, A6 mask FF, R525
  | cmpsv  -- CMPS Xv,Yv, A7 mask FF, R525
  | stosb  -- STOS Yb,AL, AA mask FF, R528
  | stosv  -- STOS Yv,eAX, AB mask FF, R528
  | lodsb  -- LODS AL,Xb, AC mask FF, R527
  | lodsv  -- LODS eAX,Xv, AD mask FF, R527
  | scasb  -- SCAS AL,Yb, AE mask FF, R526
  | scasv  -- SCAS eAX,Yv, AF mask FF, R526
  | ret  -- RET, C3 mask FF, R459
  | leave  -- LEAVE, C9 mask FF, R348
  | retf  -- RETF, CB mask FF, R463
  | int3  -- INT3, CC mask FF, R481
  | into  -- INTO, CE mask FF, R482
  | iret  -- IRET, CF mask FF, R490
  | undefD6  -- (undefined), D6 mask FF, R251
  | xlat  -- XLAT, D7 mask FF, R316
  | inALDX  -- IN AL,DX, EC mask FF, R345
  | inEAXDX  -- IN eAX,DX, ED mask FF, R345
  | outDXAL  -- OUT DX,AL, EE mask FF, R346
  | outDXEAX  -- OUT DX,eAX, EF mask FF, R346
  | undefF1  -- (undefined), F1 mask FF, R251
  | hlt  -- HLT, F4 mask FF, R590
  | cmc  -- CMC, F5 mask FF, R559
  | undefF6r1  -- (undefined), F608 mask FE38, R251
  | clc  -- CLC, F8 mask FF, R559
  | stc  -- STC, F9 mask FF, R559
  | cli  -- CLI, FA mask FF, R556
  | sti  -- STI, FB mask FF, R557
  | cld  -- CLD, FC mask FF, R558
  | std  -- STD, FD mask FF, R558
  | undefFFr7  -- (undefined), FF38 mask FF38, R251
  | clts  -- CLTS, 0F06 mask FFFF, R572
  | pushFS  -- PUSH FS, 0FA0 mask FFFF, R322
  | popFS  -- POP FS, 0FA1 mask FFFF, R324
  | pushGS  -- PUSH GS, 0FA8 mask FFFF, R322
  | popGS  -- POP GS, 0FA9 mask FFFF, R324
  | undefOther  -- every undefined encoding without a row: R250, R251, R252, R254
  deriving DecidableEq, Repr

/-- The prefix an instruction of the table stands for, when it is one: a step goes on with the next byte (R231, R233). -/
def Instr.prefix? : Instr → Option Prefix
  | .prefixES => some .es
  | .prefixCS => some .cs
  | .prefixSS => some .ss
  | .prefixDS => some .ds
  | .prefixFS => some .fs
  | .prefixGS => some .gs
  | .prefixOpSize => some .opSize
  | .prefixAdSize => some .adSize
  | .prefixLock => some .lock
  | .prefixRepNZ => some .repNZ
  | .prefixRepZ => some .repZ
  | _ => none

end Sys2Proof
end

