-- ==== Sys2Proof/WellFormed.lean ====
section
/-! DEFINITION. Which instructions an encoding can stand for, in a context: the model, and the operand and address size that
the code segment and the prefixes give (R238). Every check is a Bool. -/

namespace Sys2Proof

/-- What a decoder must know beside the bytes: the variant (R250) and the operand and address size (R238). -/
structure DecCtx where
  model : Model
  op32  : Bool
  ad32  : Bool
  deriving DecidableEq, Repr

/-- 32-bit sizes exist only on the 80386 (R238). -/
def DecCtx.ok (c : DecCtx) : Bool := c.model.has386 || (!c.op32 && !c.ad32)

/-- A displacement is present or absent as mod says; mod 0 with BP means a plain displacement (R282). -/
def Base16.takes : Base16 → Disp16 → Bool
  | .bp, .none => false
  | _, _ => true

/-- The same for 32-bit bases: EBP has no form without a displacement (R283, R284). -/
def Reg.takes : Reg → Disp32 → Bool
  | .bp, .none => false
  | _, _ => true

/-- ESP is never an index (R284). -/
def MemOp.indexOk : Option Reg → Bool
  | some .sp => false
  | _ => true

/-- The memory operand has an encoding at this address size (R282 to R284). -/
def MemOp.wf (ad32 : Bool) : MemOp → Bool
  | .base16 b d => !ad32 && b.takes d
  | .abs16 _ => !ad32
  | .base32 r d => ad32 && r != .sp && r.takes d
  | .abs32 _ => ad32
  | .sib _ i b d => ad32 && MemOp.indexOk i && b.takes d
  | .sibNoBase _ i _ => ad32 && MemOp.indexOk i

/-- The E operand has an encoding at this address size. -/
def RM.wf (ad32 : Bool) : RM → Bool
  | .reg _ => true
  | .mem m => m.wf ad32

/-- The byte E operand has an encoding at this address size. -/
def RM8.wf (ad32 : Bool) : RM8 → Bool
  | .reg _ => true
  | .mem m => m.wf ad32

/-- An immediate, displacement or offset of a size fits that size (R243): at size 16 its upper half is 0. -/
def fits (is32 : Bool) (v : Word) : Bool := is32 || v.extractLsb 31 16 == 0#16

/-- The segment registers the model has: FS and GS belong to the 80386 (R37, R254). -/
def SReg.exists (m : Model) : SReg → Bool
  | .fs | .gs => m.has386
  | _ => true

/-- The destination of a shift has an encoding at this address size. -/
def ShiftDst.wf (ad32 : Bool) : ShiftDst → Bool
  | .eb e => e.wf ad32
  | .ev e => e.wf ad32

/-- A shift by an immediate belongs to the 80186 and later (R250). -/
def ShiftBy.ok (m : Model) : ShiftBy → Bool
  | .ib _ => m.has186
  | .one | .cl => true

/-- The checks of one instruction: its model has it (R250), and each field has an encoding. -/
def WellFormed (c : DecCtx) : Instr → Bool
  | .addEbGb e _ => c.ok && e.wf c.ad32
  | .addEvGv e _ => c.ok && e.wf c.ad32
  | .addGbEb _ e => c.ok && e.wf c.ad32
  | .addGvEv _ e => c.ok && e.wf c.ad32
  | .addALIb _ => c.ok
  | .addEAXIv iv => c.ok && fits c.op32 iv
  | .addEbIb e _ => c.ok && e.wf c.ad32
  | .addEvIv e iv => c.ok && e.wf c.ad32 && fits c.op32 iv
  | .addEbIb82 e _ => c.ok && e.wf c.ad32
  | .addEvIbs e _ => c.ok && e.wf c.ad32
  | .orEbGb e _ => c.ok && e.wf c.ad32
  | .orEvGv e _ => c.ok && e.wf c.ad32
  | .orGbEb _ e => c.ok && e.wf c.ad32
  | .orGvEv _ e => c.ok && e.wf c.ad32
  | .orALIb _ => c.ok
  | .orEAXIv iv => c.ok && fits c.op32 iv
  | .orEbIb e _ => c.ok && e.wf c.ad32
  | .orEvIv e iv => c.ok && e.wf c.ad32 && fits c.op32 iv
  | .orEbIb82 e _ => c.ok && e.wf c.ad32
  | .orEvIbs e _ => c.ok && e.wf c.ad32
  | .adcEbGb e _ => c.ok && e.wf c.ad32
  | .adcEvGv e _ => c.ok && e.wf c.ad32
  | .adcGbEb _ e => c.ok && e.wf c.ad32
  | .adcGvEv _ e => c.ok && e.wf c.ad32
  | .adcALIb _ => c.ok
  | .adcEAXIv iv => c.ok && fits c.op32 iv
  | .adcEbIb e _ => c.ok && e.wf c.ad32
  | .adcEvIv e iv => c.ok && e.wf c.ad32 && fits c.op32 iv
  | .adcEbIb82 e _ => c.ok && e.wf c.ad32
  | .adcEvIbs e _ => c.ok && e.wf c.ad32
  | .sbbEbGb e _ => c.ok && e.wf c.ad32
  | .sbbEvGv e _ => c.ok && e.wf c.ad32
  | .sbbGbEb _ e => c.ok && e.wf c.ad32
  | .sbbGvEv _ e => c.ok && e.wf c.ad32
  | .sbbALIb _ => c.ok
  | .sbbEAXIv iv => c.ok && fits c.op32 iv
  | .sbbEbIb e _ => c.ok && e.wf c.ad32
  | .sbbEvIv e iv => c.ok && e.wf c.ad32 && fits c.op32 iv
  | .sbbEbIb82 e _ => c.ok && e.wf c.ad32
  | .sbbEvIbs e _ => c.ok && e.wf c.ad32
  | .andEbGb e _ => c.ok && e.wf c.ad32
  | .andEvGv e _ => c.ok && e.wf c.ad32
  | .andGbEb _ e => c.ok && e.wf c.ad32
  | .andGvEv _ e => c.ok && e.wf c.ad32
  | .andALIb _ => c.ok
  | .andEAXIv iv => c.ok && fits c.op32 iv
  | .andEbIb e _ => c.ok && e.wf c.ad32
  | .andEvIv e iv => c.ok && e.wf c.ad32 && fits c.op32 iv
  | .andEbIb82 e _ => c.ok && e.wf c.ad32
  | .andEvIbs e _ => c.ok && e.wf c.ad32
  | .subEbGb e _ => c.ok && e.wf c.ad32
  | .subEvGv e _ => c.ok && e.wf c.ad32
  | .subGbEb _ e => c.ok && e.wf c.ad32
  | .subGvEv _ e => c.ok && e.wf c.ad32
  | .subALIb _ => c.ok
  | .subEAXIv iv => c.ok && fits c.op32 iv
  | .subEbIb e _ => c.ok && e.wf c.ad32
  | .subEvIv e iv => c.ok && e.wf c.ad32 && fits c.op32 iv
  | .subEbIb82 e _ => c.ok && e.wf c.ad32
  | .subEvIbs e _ => c.ok && e.wf c.ad32
  | .xorEbGb e _ => c.ok && e.wf c.ad32
  | .xorEvGv e _ => c.ok && e.wf c.ad32
  | .xorGbEb _ e => c.ok && e.wf c.ad32
  | .xorGvEv _ e => c.ok && e.wf c.ad32
  | .xorALIb _ => c.ok
  | .xorEAXIv iv => c.ok && fits c.op32 iv
  | .xorEbIb e _ => c.ok && e.wf c.ad32
  | .xorEvIv e iv => c.ok && e.wf c.ad32 && fits c.op32 iv
  | .xorEbIb82 e _ => c.ok && e.wf c.ad32
  | .xorEvIbs e _ => c.ok && e.wf c.ad32
  | .cmpEbGb e _ => c.ok && e.wf c.ad32
  | .cmpEvGv e _ => c.ok && e.wf c.ad32
  | .cmpGbEb _ e => c.ok && e.wf c.ad32
  | .cmpGvEv _ e => c.ok && e.wf c.ad32
  | .cmpALIb _ => c.ok
  | .cmpEAXIv iv => c.ok && fits c.op32 iv
  | .cmpEbIb e _ => c.ok && e.wf c.ad32
  | .cmpEvIv e iv => c.ok && e.wf c.ad32 && fits c.op32 iv
  | .cmpEbIb82 e _ => c.ok && e.wf c.ad32
  | .cmpEvIbs e _ => c.ok && e.wf c.ad32
  | .incR _ => c.ok
  | .decR _ => c.ok
  | .pushR _ => c.ok
  | .popR _ => c.ok
  | .boundGvMa _ m => c.ok && c.model.has186 && m.wf c.ad32
  | .arplEwGw e _ => c.ok && c.model.has286 && e.wf c.ad32
  | .pushIv iv => c.ok && c.model.has186 && fits c.op32 iv
  | .imulGvEvIv _ e iv => c.ok && c.model.has186 && e.wf c.ad32 && fits c.op32 iv
  | .pushIbs _ => c.ok && c.model.has186
  | .imulGvEvIbs _ e _ => c.ok && c.model.has186 && e.wf c.ad32
  | .jccJb _ _ => c.ok
  | .testEbGb e _ => c.ok && e.wf c.ad32
  | .testEvGv e _ => c.ok && e.wf c.ad32
  | .xchgEbGb e _ => c.ok && e.wf c.ad32
  | .xchgEvGv e _ => c.ok && e.wf c.ad32
  | .movEbGb e _ => c.ok && e.wf c.ad32
  | .movEvGv e _ => c.ok && e.wf c.ad32
  | .movGbEb _ e => c.ok && e.wf c.ad32
  | .movGvEv _ e => c.ok && e.wf c.ad32
  | .movEwSw e sr => c.ok && e.wf c.ad32 && sr.exists c.model
  | .leaGvM _ e => c.ok && e.wf c.ad32
  | .movSwEw sr e => c.ok && sr != .cs && sr.exists c.model && e.wf c.ad32
  | .popEv e => c.ok && e.wf c.ad32
  | .xchgEAXR r => c.ok && r != .ax
  | .callFarAp off _ => c.ok && fits c.op32 off
  | .movALOb off => c.ok && fits c.ad32 off
  | .movEAXOv off => c.ok && fits c.ad32 off
  | .movObAL off => c.ok && fits c.ad32 off
  | .movOvEAX off => c.ok && fits c.ad32 off
  | .testALIb _ => c.ok
  | .testEAXIv iv => c.ok && fits c.op32 iv
  | .movR8Ib _ _ => c.ok
  | .movRIv _ iv => c.ok && fits c.op32 iv
  | .rolEbIb e _ => c.ok && c.model.has186 && e.wf c.ad32
  | .rolEvIb e _ => c.ok && c.model.has186 && e.wf c.ad32
  | .rolEbOne e => c.ok && e.wf c.ad32
  | .rolEvOne e => c.ok && e.wf c.ad32
  | .rolEbCL e => c.ok && e.wf c.ad32
  | .rolEvCL e => c.ok && e.wf c.ad32
  | .rorEbIb e _ => c.ok && c.model.has186 && e.wf c.ad32
  | .rorEvIb e _ => c.ok && c.model.has186 && e.wf c.ad32
  | .rorEbOne e => c.ok && e.wf c.ad32
  | .rorEvOne e => c.ok && e.wf c.ad32
  | .rorEbCL e => c.ok && e.wf c.ad32
  | .rorEvCL e => c.ok && e.wf c.ad32
  | .rclEbIb e _ => c.ok && c.model.has186 && e.wf c.ad32
  | .rclEvIb e _ => c.ok && c.model.has186 && e.wf c.ad32
  | .rclEbOne e => c.ok && e.wf c.ad32
  | .rclEvOne e => c.ok && e.wf c.ad32
  | .rclEbCL e => c.ok && e.wf c.ad32
  | .rclEvCL e => c.ok && e.wf c.ad32
  | .rcrEbIb e _ => c.ok && c.model.has186 && e.wf c.ad32
  | .rcrEvIb e _ => c.ok && c.model.has186 && e.wf c.ad32
  | .rcrEbOne e => c.ok && e.wf c.ad32
  | .rcrEvOne e => c.ok && e.wf c.ad32
  | .rcrEbCL e => c.ok && e.wf c.ad32
  | .rcrEvCL e => c.ok && e.wf c.ad32
  | .shlEbIb e _ => c.ok && c.model.has186 && e.wf c.ad32
  | .shlEvIb e _ => c.ok && c.model.has186 && e.wf c.ad32
  | .shlEbOne e => c.ok && e.wf c.ad32
  | .shlEvOne e => c.ok && e.wf c.ad32
  | .shlEbCL e => c.ok && e.wf c.ad32
  | .shlEvCL e => c.ok && e.wf c.ad32
  | .shrEbIb e _ => c.ok && c.model.has186 && e.wf c.ad32
  | .shrEvIb e _ => c.ok && c.model.has186 && e.wf c.ad32
  | .shrEbOne e => c.ok && e.wf c.ad32
  | .shrEvOne e => c.ok && e.wf c.ad32
  | .shrEbCL e => c.ok && e.wf c.ad32
  | .shrEvCL e => c.ok && e.wf c.ad32
  | .shl6 k d => c.ok && k.ok c.model && d.wf c.ad32
  | .sarEbIb e _ => c.ok && c.model.has186 && e.wf c.ad32
  | .sarEvIb e _ => c.ok && c.model.has186 && e.wf c.ad32
  | .sarEbOne e => c.ok && e.wf c.ad32
  | .sarEvOne e => c.ok && e.wf c.ad32
  | .sarEbCL e => c.ok && e.wf c.ad32
  | .sarEvCL e => c.ok && e.wf c.ad32
  | .retIw _ => c.ok
  | .lesGvMp _ m => c.ok && m.wf c.ad32
  | .ldsGvMp _ m => c.ok && m.wf c.ad32
  | .movEbIb e _ => c.ok && e.wf c.ad32
  | .movEvIv e iv => c.ok && e.wf c.ad32 && fits c.op32 iv
  | .enterIwIb _ _ => c.ok && c.model.has186
  | .retfIw _ => c.ok
  | .intIb _ => c.ok
  | .aamIb _ => c.ok
  | .aadIb _ => c.ok
  | .esc _ _ e => c.ok && e.wf c.ad32
  | .loopnzJb _ => c.ok
  | .loopzJb _ => c.ok
  | .loopJb _ => c.ok
  | .jcxzJb _ => c.ok
  | .inALIb _ => c.ok
  | .inEAXIb _ => c.ok
  | .outIbAL _ => c.ok
  | .outIbEAX _ => c.ok
  | .callJv jv => c.ok && fits c.op32 jv
  | .jmpJv jv => c.ok && fits c.op32 jv
  | .jmpFarAp off _ => c.ok && fits c.op32 off
  | .jmpJb _ => c.ok
  | .testEbIb e _ => c.ok && e.wf c.ad32
  | .testEvIv e iv => c.ok && e.wf c.ad32 && fits c.op32 iv
  | .notEb e => c.ok && e.wf c.ad32
  | .notEv e => c.ok && e.wf c.ad32
  | .negEb e => c.ok && e.wf c.ad32
  | .negEv e => c.ok && e.wf c.ad32
  | .mulEb e => c.ok && e.wf c.ad32
  | .mulEv e => c.ok && e.wf c.ad32
  | .imulEb e => c.ok && e.wf c.ad32
  | .imulEv e => c.ok && e.wf c.ad32
  | .divEb e => c.ok && e.wf c.ad32
  | .divEv e => c.ok && e.wf c.ad32
  | .idivEb e => c.ok && e.wf c.ad32
  | .idivEv e => c.ok && e.wf c.ad32
  | .incEb e => c.ok && e.wf c.ad32
  | .decEb e => c.ok && e.wf c.ad32
  | .incEv e => c.ok && e.wf c.ad32
  | .decEv e => c.ok && e.wf c.ad32
  | .callEv e => c.ok && e.wf c.ad32
  | .callFarMp m => c.ok && m.wf c.ad32
  | .jmpEv e => c.ok && e.wf c.ad32
  | .jmpFarMp m => c.ok && m.wf c.ad32
  | .pushEv e => c.ok && e.wf c.ad32
  | .sldtEw e => c.ok && c.model.has286 && e.wf c.ad32
  | .strEw e => c.ok && c.model.has286 && e.wf c.ad32
  | .lldtEw e => c.ok && c.model.has286 && e.wf c.ad32
  | .ltrEw e => c.ok && c.model.has286 && e.wf c.ad32
  | .verrEw e => c.ok && c.model.has286 && e.wf c.ad32
  | .verwEw e => c.ok && c.model.has286 && e.wf c.ad32
  | .sgdtMs m => c.ok && c.model.has286 && m.wf c.ad32
  | .sidtMs m => c.ok && c.model.has286 && m.wf c.ad32
  | .lgdtMs m => c.ok && c.model.has286 && m.wf c.ad32
  | .lidtMs m => c.ok && c.model.has286 && m.wf c.ad32
  | .smswEw e => c.ok && c.model.has286 && e.wf c.ad32
  | .lmswEw e => c.ok && c.model.has286 && e.wf c.ad32
  | .larGvEw _ e => c.ok && c.model.has286 && e.wf c.ad32
  | .lslGvEw _ e => c.ok && c.model.has286 && e.wf c.ad32
  | .movRdCd _ _ => c.ok && c.model.has386
  | .movRdDd _ _ => c.ok && c.model.has386
  | .movCdRd _ _ => c.ok && c.model.has386
  | .movDdRd _ _ => c.ok && c.model.has386
  | .jccJv _ jv => c.ok && c.model.has386 && fits c.op32 jv
  | .setccEb _ e => c.ok && c.model.has386 && e.wf c.ad32
  | .btEvGv e _ => c.ok && c.model.has386 && e.wf c.ad32
  | .shldEvGvIb e _ _ => c.ok && c.model.has386 && e.wf c.ad32
  | .shldEvGvCL e _ => c.ok && c.model.has386 && e.wf c.ad32
  | .btsEvGv e _ => c.ok && c.model.has386 && e.wf c.ad32
  | .shrdEvGvIb e _ _ => c.ok && c.model.has386 && e.wf c.ad32
  | .shrdEvGvCL e _ => c.ok && c.model.has386 && e.wf c.ad32
  | .imulGvEv _ e => c.ok && c.model.has386 && e.wf c.ad32
  | .lssGvMp _ m => c.ok && c.model.has386 && m.wf c.ad32
  | .btrEvGv e _ => c.ok && c.model.has386 && e.wf c.ad32
  | .lfsGvMp _ m => c.ok && c.model.has386 && m.wf c.ad32
  | .lgsGvMp _ m => c.ok && c.model.has386 && m.wf c.ad32
  | .movzxGvEb _ e => c.ok && c.model.has386 && e.wf c.ad32
  | .movzxGvEw _ e => c.ok && c.model.has386 && e.wf c.ad32
  | .btEvIb e _ => c.ok && c.model.has386 && e.wf c.ad32
  | .btsEvIb e _ => c.ok && c.model.has386 && e.wf c.ad32
  | .btrEvIb e _ => c.ok && c.model.has386 && e.wf c.ad32
  | .btcEvIb e _ => c.ok && c.model.has386 && e.wf c.ad32
  | .btcEvGv e _ => c.ok && c.model.has386 && e.wf c.ad32
  | .bsfGvEv _ e => c.ok && c.model.has386 && e.wf c.ad32
  | .bsrGvEv _ e => c.ok && c.model.has386 && e.wf c.ad32
  | .movsxGvEb _ e => c.ok && c.model.has386 && e.wf c.ad32
  | .movsxGvEw _ e => c.ok && c.model.has386 && e.wf c.ad32
  | .pushES => c.ok
  | .popES => c.ok
  | .pushCS => c.ok
  | .pushSS => c.ok
  | .popSS => c.ok
  | .pushDS => c.ok
  | .popDS => c.ok
  | .popCS => c.ok && !c.model.has186
  | .prefixES => c.ok
  | .prefixCS => c.ok
  | .prefixSS => c.ok
  | .prefixDS => c.ok
  | .prefixFS => c.ok && c.model.has386
  | .prefixGS => c.ok && c.model.has386
  | .prefixOpSize => c.ok && c.model.has386
  | .prefixAdSize => c.ok && c.model.has386
  | .prefixLock => c.ok
  | .prefixRepNZ => c.ok
  | .prefixRepZ => c.ok
  | .daa => c.ok
  | .das => c.ok
  | .aaa => c.ok
  | .aas => c.ok
  | .pusha => c.ok && c.model.has186
  | .popa => c.ok && c.model.has186
  | .insb => c.ok && c.model.has186
  | .insv => c.ok && c.model.has186
  | .outsb => c.ok && c.model.has186
  | .outsv => c.ok && c.model.has186
  | .nop => c.ok
  | .cbw => c.ok
  | .cwd => c.ok
  | .wait => c.ok
  | .pushf => c.ok
  | .popf => c.ok
  | .sahf => c.ok
  | .lahf => c.ok
  | .movsb => c.ok
  | .movsv => c.ok
  | .cmpsb => c.ok
  | .cmpsv => c.ok
  | .stosb => c.ok
  | .stosv => c.ok
  | .lodsb => c.ok
  | .lodsv => c.ok
  | .scasb => c.ok
  | .scasv => c.ok
  | .ret => c.ok
  | .leave => c.ok && c.model.has186
  | .retf => c.ok
  | .int3 => c.ok
  | .into => c.ok
  | .iret => c.ok
  | .undefD6 => c.ok
  | .xlat => c.ok
  | .inALDX => c.ok
  | .inEAXDX => c.ok
  | .outDXAL => c.ok
  | .outDXEAX => c.ok
  | .undefF1 => c.ok
  | .hlt => c.ok
  | .cmc => c.ok
  | .undefF6r1 => c.ok
  | .clc => c.ok
  | .stc => c.ok
  | .cli => c.ok
  | .sti => c.ok
  | .cld => c.ok
  | .std => c.ok
  | .undefFFr7 => c.ok
  | .clts => c.ok && c.model.has286
  | .pushFS => c.ok && c.model.has386
  | .popFS => c.ok && c.model.has386
  | .pushGS => c.ok && c.model.has386
  | .popGS => c.ok && c.model.has386
  | .undefOther => c.ok

end Sys2Proof
end

