-- ==== Sys2Proof/Decode.lean ====
section
/-! DEFINITION. The decoder, from the bytes after a code pointer to one instruction of the table (30_encoding.md R240 to R258,
31_modrm_resolver.md R280 to R291), and after it the encoder, written from the same maps. A decoder answers `none` when it
needs more bytes than it was given; an undefined encoding decodes to an `undef` instruction as soon as the bytes that identify
it are there (R251). Prefix bytes decode to the prefix rows of the table; a step assembles them (R231). -/

namespace Sys2Proof

/-- What a decoder answers: an instruction and the bytes after it, or `none` for too few bytes. -/
abbrev Decoded := Option (Instr × List Byte)

/-! ### Numbers of the named fields -/

/-- General registers, R31. -/
def Reg.ofNum (n : BitVec 3) : Reg :=
  match n.toNat with
  | 0 => .ax | 1 => .cx | 2 => .dx | 3 => .bx | 4 => .sp | 5 => .bp | 6 => .si | _ => .di

/-- General registers, R31. -/
def Reg.num : Reg → BitVec 3
  | .ax => 0 | .cx => 1 | .dx => 2 | .bx => 3 | .sp => 4 | .bp => 5 | .si => 6 | .di => 7

/-- Byte registers, R33. -/
def Reg8.ofNum (n : BitVec 3) : Reg8 :=
  match n.toNat with
  | 0 => .al | 1 => .cl | 2 => .dl | 3 => .bl | 4 => .ah | 5 => .ch | 6 => .dh | _ => .bh

/-- Byte registers, R33. -/
def Reg8.num : Reg8 → BitVec 3
  | .al => 0 | .cl => 1 | .dl => 2 | .bl => 3 | .ah => 4 | .ch => 5 | .dh => 6 | .bh => 7

/-- Segment registers, R37; numbers 6 and 7 name none. -/
def SReg.ofNum? (n : BitVec 3) : Option SReg :=
  match n.toNat with
  | 0 => some .es | 1 => some .cs | 2 => some .ss | 3 => some .ds | 4 => some .fs | 5 => some .gs | _ => none

/-- Segment registers, R37. -/
def SReg.num : SReg → BitVec 3
  | .es => 0 | .cs => 1 | .ss => 2 | .ds => 3 | .fs => 4 | .gs => 5

/-- Conditions, the low four bits of the opcode (R247, R454). -/
def Cond.ofNum (n : Nat) : Cond :=
  match n with
  | 0 => .o | 1 => .no | 2 => .b | 3 => .ae | 4 => .z | 5 => .nz | 6 => .be | 7 => .a
  | 8 => .s | 9 => .ns | 10 => .p | 11 => .np | 12 => .l | 13 => .ge | 14 => .le | _ => .g

/-- Conditions, the low four bits of the opcode (R247, R454). -/
def Cond.num : Cond → BitVec 8
  | .o => 0 | .no => 1 | .b => 2 | .ae => 3 | .z => 4 | .nz => 5 | .be => 6 | .a => 7
  | .s => 8 | .ns => 9 | .p => 10 | .np => 11 | .l => 12 | .ge => 13 | .le => 14 | .g => 15

/-- The rm numbers of 16-bit addressing (R282). -/
def Base16.ofNum (n : BitVec 3) : Base16 :=
  match n.toNat with
  | 0 => .bxsi | 1 => .bxdi | 2 => .bpsi | 3 => .bpdi | 4 => .si | 5 => .di | 6 => .bp | _ => .bx

/-- The rm numbers of 16-bit addressing (R282). -/
def Base16.num : Base16 → BitVec 3
  | .bxsi => 0 | .bxdi => 1 | .bpsi => 2 | .bpdi => 3 | .si => 4 | .di => 5 | .bp => 6 | .bx => 7

/-! ### Immediates and displacements: least significant byte first (R110, R243, R285) -/

def take8 : List Byte → Option (Byte × List Byte)
  | b :: r => some (b, r)
  | [] => none

def take16 : List Byte → Option (Half × List Byte)
  | b0 :: b1 :: r => some (b1 ++ b0, r)
  | _ => none

def take32 : List Byte → Option (Word × List Byte)
  | b0 :: b1 :: b2 :: b3 :: r => some (b3 ++ b2 ++ b1 ++ b0, r)
  | _ => none

/-- A value of 16 or 32 bits, zero-extended (`Iv`, `Jv`, the offset of `Ap`, `Ob`, `Ov`). -/
def takeV (is32 : Bool) (bs : List Byte) : Option (Word × List Byte) :=
  if is32 then take32 bs else do
    let (v, r) ← take16 bs
    some (v.setWidth 32, r)

/-! ### ModR/M (R241) and SIB (R284) -/

def modField (b : Byte) : BitVec 2 := b.extractLsb 7 6
def regField (b : Byte) : BitVec 3 := b.extractLsb 5 3
def rmField (b : Byte) : BitVec 3 := b.extractLsb 2 0

/-- The E operand before its width is chosen. -/
inductive RawE where
  | reg (n : BitVec 3)
  | mem (m : MemOp)

def RawE.rm : RawE → RM
  | .reg n => .reg (Reg.ofNum n)
  | .mem m => .mem m

def RawE.rm8 : RawE → RM8
  | .reg n => .reg (Reg8.ofNum n)
  | .mem m => .mem m

def takeDisp16 (mod : BitVec 2) (bs : List Byte) : Option (Disp16 × List Byte) :=
  match mod.toNat with
  | 0 => some (.none, bs)
  | 1 => do let (d, r) ← take8 bs; some (.d8 d, r)
  | _ => do let (d, r) ← take16 bs; some (.d16 d, r)

def takeDisp32 (mod : BitVec 2) (bs : List Byte) : Option (Disp32 × List Byte) :=
  match mod.toNat with
  | 0 => some (.none, bs)
  | 1 => do let (d, r) ← take8 bs; some (.d8 d, r)
  | _ => do let (d, r) ← take32 bs; some (.d32 d, r)

/-- R282. -/
def takeMem16 (mod : BitVec 2) (rm : BitVec 3) (bs : List Byte) : Option (MemOp × List Byte) :=
  if rm = 6 ∧ mod = 0 then do
    let (d, r) ← take16 bs
    some (.abs16 d, r)
  else do
    let (d, r) ← takeDisp16 mod bs
    some (.base16 (Base16.ofNum rm) d, r)

/-- The index of a SIB byte; number 4 means none (R284). -/
def sibIndex (n : BitVec 3) : Option Reg :=
  if n = 4 then none else some (Reg.ofNum n)

/-- R284. -/
def takeSib (mod : BitVec 2) (bs : List Byte) : Option (MemOp × List Byte) := do
  let (s, r) ← take8 bs
  if rmField s = 5 ∧ mod = 0 then do
    let (d, r) ← take32 r
    some (.sibNoBase (modField s) (sibIndex (regField s)) d, r)
  else do
    let (d, r) ← takeDisp32 mod r
    some (.sib (modField s) (sibIndex (regField s)) (Reg.ofNum (rmField s)) d, r)

/-- R283. -/
def takeMem32 (mod : BitVec 2) (rm : BitVec 3) (bs : List Byte) : Option (MemOp × List Byte) :=
  if rm = 4 then takeSib mod bs
  else if rm = 5 ∧ mod = 0 then do
    let (d, r) ← take32 bs
    some (.abs32 d, r)
  else do
    let (d, r) ← takeDisp32 mod bs
    some (.base32 (Reg.ofNum rm) d, r)

/-- The memory operand of a ModR/M byte with mod ≠ 3. -/
def takeMem (c : DecCtx) (b : Byte) (bs : List Byte) : Option (MemOp × List Byte) :=
  if c.ad32 then takeMem32 (modField b) (rmField b) bs else takeMem16 (modField b) (rmField b) bs

/-- The E operand of a ModR/M byte (R280). -/
def takeE (c : DecCtx) (b : Byte) (bs : List Byte) : Option (RawE × List Byte) :=
  if modField b = 3 then some (.reg (rmField b), bs) else do
    let (m, r) ← takeMem c b bs
    some (.mem m, r)

/-! ### Instruction shapes: what follows the opcode -/

def plain (i : Instr) (bs : List Byte) : Decoded := some (i, bs)

/-- R250: an entry the model does not have. -/
def gate (has : Bool) (d : List Byte → Decoded) (bs : List Byte) : Decoded :=
  if has then d bs else some (.undefOther, bs)

/-- An undefined sub-opcode: the ModR/M byte identifies it (R251). -/
def undefSub (i : Instr) : List Byte → Decoded
  | _ :: r => some (i, r)
  | [] => none

/-- A group: the `reg` field selects (R240); the ModR/M byte stays in front for the shape selected. -/
def group (f : Nat → List Byte → Decoded) (bs : List Byte) : Decoded :=
  match bs with
  | b :: _ => f (regField b).toNat bs
  | [] => none

def shIb (k : Byte → Instr) (bs : List Byte) : Decoded := do
  let (v, r) ← take8 bs
  some (k v, r)

def shIw (k : Half → Instr) (bs : List Byte) : Decoded := do
  let (v, r) ← take16 bs
  some (k v, r)

def shIwIb (k : Half → Byte → Instr) (bs : List Byte) : Decoded := do
  let (v, r) ← take16 bs
  let (w, r) ← take8 r
  some (k v w, r)

/-- `Iv`, `Jv` by operand size, `Ob`, `Ov` by address size. -/
def shV (is32 : Bool) (k : Word → Instr) (bs : List Byte) : Decoded := do
  let (v, r) ← takeV is32 bs
  some (k v, r)

/-- `Ap` (R243). -/
def shAp (c : DecCtx) (k : Word → Half → Instr) (bs : List Byte) : Decoded := do
  let (o, r) ← takeV c.op32 bs
  let (s, r) ← take16 r
  some (k o s, r)

/-- A ModR/M form without immediate. -/
def shE (c : DecCtx) (k : BitVec 3 → RawE → Instr) (bs : List Byte) : Decoded := do
  let (b, r) ← take8 bs
  let (e, r) ← takeE c b r
  some (k (regField b) e, r)

def shEIb (c : DecCtx) (k : BitVec 3 → RawE → Byte → Instr) (bs : List Byte) : Decoded := do
  let (b, r) ← take8 bs
  let (e, r) ← takeE c b r
  let (v, r) ← take8 r
  some (k (regField b) e v, r)

def shEIv (c : DecCtx) (k : BitVec 3 → RawE → Word → Instr) (bs : List Byte) : Decoded := do
  let (b, r) ← take8 bs
  let (e, r) ← takeE c b r
  let (v, r) ← takeV c.op32 r
  some (k (regField b) e v, r)

/-- A memory-only form: mod = 3 is undefined (R251). -/
def shM (c : DecCtx) (k : BitVec 3 → MemOp → Instr) (bs : List Byte) : Decoded := do
  let (b, r) ← take8 bs
  if modField b = 3 then some (.undefOther, r) else do
    let (m, r) ← takeMem c b r
    some (k (regField b) m, r)

/-- A form whose `reg` field is a segment register the encoding must admit (R254). -/
def shSreg (c : DecCtx) (ok : SReg → Bool) (k : RM → SReg → Instr) (bs : List Byte) : Decoded := do
  let (b, r) ← take8 bs
  match SReg.ofNum? (regField b) with
  | some sr =>
    if ok sr then do
      let (e, r) ← takeE c b r
      some (k e.rm sr, r)
    else some (.undefOther, r)
  | none => some (.undefOther, r)

/-- MOV to and from CRn and DRn: the mod bits are ignored (R573). -/
def shCtl (k : BitVec 3 → Reg → Instr) (bs : List Byte) : Decoded := do
  let (b, r) ← take8 bs
  some (k (regField b) (Reg.ofNum (rmField b)), r)

/-- The two-byte map (R249), on the second byte. -/
def decode0F (c : DecCtx) (op : Nat) (bs : List Byte) : Decoded :=
  match op with
  | 0x00 => group (fun
      | 0 => shE c fun _ e => .sldtEw e.rm
      | 1 => shE c fun _ e => .strEw e.rm
      | 2 => shE c fun _ e => .lldtEw e.rm
      | 3 => shE c fun _ e => .ltrEw e.rm
      | 4 => shE c fun _ e => .verrEw e.rm
      | 5 => shE c fun _ e => .verwEw e.rm
      | _ => undefSub .undefOther) bs
  | 0x01 => group (fun
      | 0 => shM c fun _ m => .sgdtMs m
      | 1 => shM c fun _ m => .sidtMs m
      | 2 => shM c fun _ m => .lgdtMs m
      | 3 => shM c fun _ m => .lidtMs m
      | 4 => shE c fun _ e => .smswEw e.rm
      | 6 => shE c fun _ e => .lmswEw e.rm
      | _ => undefSub .undefOther) bs
  | 0x02 => (shE c fun g e => .larGvEw (Reg.ofNum g) e.rm) bs
  | 0x03 => (shE c fun g e => .lslGvEw (Reg.ofNum g) e.rm) bs
  | 0x06 => plain .clts bs
  | 0x20 => gate c.model.has386 (shCtl fun n r => .movRdCd r n) bs
  | 0x21 => gate c.model.has386 (shCtl fun n r => .movRdDd r n) bs
  | 0x22 => gate c.model.has386 (shCtl .movCdRd) bs
  | 0x23 => gate c.model.has386 (shCtl .movDdRd) bs
  | 0x80 => gate c.model.has386 (shV c.op32 (.jccJv .o)) bs
  | 0x81 => gate c.model.has386 (shV c.op32 (.jccJv .no)) bs
  | 0x82 => gate c.model.has386 (shV c.op32 (.jccJv .b)) bs
  | 0x83 => gate c.model.has386 (shV c.op32 (.jccJv .ae)) bs
  | 0x84 => gate c.model.has386 (shV c.op32 (.jccJv .z)) bs
  | 0x85 => gate c.model.has386 (shV c.op32 (.jccJv .nz)) bs
  | 0x86 => gate c.model.has386 (shV c.op32 (.jccJv .be)) bs
  | 0x87 => gate c.model.has386 (shV c.op32 (.jccJv .a)) bs
  | 0x88 => gate c.model.has386 (shV c.op32 (.jccJv .s)) bs
  | 0x89 => gate c.model.has386 (shV c.op32 (.jccJv .ns)) bs
  | 0x8A => gate c.model.has386 (shV c.op32 (.jccJv .p)) bs
  | 0x8B => gate c.model.has386 (shV c.op32 (.jccJv .np)) bs
  | 0x8C => gate c.model.has386 (shV c.op32 (.jccJv .l)) bs
  | 0x8D => gate c.model.has386 (shV c.op32 (.jccJv .ge)) bs
  | 0x8E => gate c.model.has386 (shV c.op32 (.jccJv .le)) bs
  | 0x8F => gate c.model.has386 (shV c.op32 (.jccJv .g)) bs
  | 0x90 => gate c.model.has386 (shE c fun _ e => .setccEb .o e.rm8) bs
  | 0x91 => gate c.model.has386 (shE c fun _ e => .setccEb .no e.rm8) bs
  | 0x92 => gate c.model.has386 (shE c fun _ e => .setccEb .b e.rm8) bs
  | 0x93 => gate c.model.has386 (shE c fun _ e => .setccEb .ae e.rm8) bs
  | 0x94 => gate c.model.has386 (shE c fun _ e => .setccEb .z e.rm8) bs
  | 0x95 => gate c.model.has386 (shE c fun _ e => .setccEb .nz e.rm8) bs
  | 0x96 => gate c.model.has386 (shE c fun _ e => .setccEb .be e.rm8) bs
  | 0x97 => gate c.model.has386 (shE c fun _ e => .setccEb .a e.rm8) bs
  | 0x98 => gate c.model.has386 (shE c fun _ e => .setccEb .s e.rm8) bs
  | 0x99 => gate c.model.has386 (shE c fun _ e => .setccEb .ns e.rm8) bs
  | 0x9A => gate c.model.has386 (shE c fun _ e => .setccEb .p e.rm8) bs
  | 0x9B => gate c.model.has386 (shE c fun _ e => .setccEb .np e.rm8) bs
  | 0x9C => gate c.model.has386 (shE c fun _ e => .setccEb .l e.rm8) bs
  | 0x9D => gate c.model.has386 (shE c fun _ e => .setccEb .ge e.rm8) bs
  | 0x9E => gate c.model.has386 (shE c fun _ e => .setccEb .le e.rm8) bs
  | 0x9F => gate c.model.has386 (shE c fun _ e => .setccEb .g e.rm8) bs
  | 0xA0 => gate c.model.has386 (plain .pushFS) bs
  | 0xA1 => gate c.model.has386 (plain .popFS) bs
  | 0xA3 => gate c.model.has386 (shE c fun g e => .btEvGv e.rm (Reg.ofNum g)) bs
  | 0xA4 => gate c.model.has386 (shEIb c fun g e ib => .shldEvGvIb e.rm (Reg.ofNum g) ib) bs
  | 0xA5 => gate c.model.has386 (shE c fun g e => .shldEvGvCL e.rm (Reg.ofNum g)) bs
  | 0xA8 => gate c.model.has386 (plain .pushGS) bs
  | 0xA9 => gate c.model.has386 (plain .popGS) bs
  | 0xAB => gate c.model.has386 (shE c fun g e => .btsEvGv e.rm (Reg.ofNum g)) bs
  | 0xAC => gate c.model.has386 (shEIb c fun g e ib => .shrdEvGvIb e.rm (Reg.ofNum g) ib) bs
  | 0xAD => gate c.model.has386 (shE c fun g e => .shrdEvGvCL e.rm (Reg.ofNum g)) bs
  | 0xAF => gate c.model.has386 (shE c fun g e => .imulGvEv (Reg.ofNum g) e.rm) bs
  | 0xB2 => gate c.model.has386 (shM c fun g m => .lssGvMp (Reg.ofNum g) m) bs
  | 0xB3 => gate c.model.has386 (shE c fun g e => .btrEvGv e.rm (Reg.ofNum g)) bs
  | 0xB4 => gate c.model.has386 (shM c fun g m => .lfsGvMp (Reg.ofNum g) m) bs
  | 0xB5 => gate c.model.has386 (shM c fun g m => .lgsGvMp (Reg.ofNum g) m) bs
  | 0xB6 => gate c.model.has386 (shE c fun g e => .movzxGvEb (Reg.ofNum g) e.rm8) bs
  | 0xB7 => gate c.model.has386 (shE c fun g e => .movzxGvEw (Reg.ofNum g) e.rm) bs
  | 0xBA => gate c.model.has386 (group (fun
      | 4 => shEIb c fun _ e ib => .btEvIb e.rm ib
      | 5 => shEIb c fun _ e ib => .btsEvIb e.rm ib
      | 6 => shEIb c fun _ e ib => .btrEvIb e.rm ib
      | 7 => shEIb c fun _ e ib => .btcEvIb e.rm ib
      | _ => undefSub .undefOther)) bs
  | 0xBB => gate c.model.has386 (shE c fun g e => .btcEvGv e.rm (Reg.ofNum g)) bs
  | 0xBC => gate c.model.has386 (shE c fun g e => .bsfGvEv (Reg.ofNum g) e.rm) bs
  | 0xBD => gate c.model.has386 (shE c fun g e => .bsrGvEv (Reg.ofNum g) e.rm) bs
  | 0xBE => gate c.model.has386 (shE c fun g e => .movsxGvEb (Reg.ofNum g) e.rm8) bs
  | 0xBF => gate c.model.has386 (shE c fun g e => .movsxGvEw (Reg.ofNum g) e.rm) bs
  | _ => plain .undefOther bs

/-- 0x0F as the escape to the two-byte map (R240). -/
def escape (c : DecCtx) : List Byte → Decoded
  | b :: r => decode0F c b.toNat r
  | [] => none

/-- The one-byte map (R247), opcodes 0x00 to 0x3F. -/
def decodeOp0 (c : DecCtx) (op : Nat) (bs : List Byte) : Decoded :=
  match op with
  | 0x00 => (shE c fun g e => .addEbGb e.rm8 (Reg8.ofNum g)) bs
  | 0x01 => (shE c fun g e => .addEvGv e.rm (Reg.ofNum g)) bs
  | 0x02 => (shE c fun g e => .addGbEb (Reg8.ofNum g) e.rm8) bs
  | 0x03 => (shE c fun g e => .addGvEv (Reg.ofNum g) e.rm) bs
  | 0x04 => shIb .addALIb bs
  | 0x05 => shV c.op32 .addEAXIv bs
  | 0x06 => plain .pushES bs
  | 0x07 => plain .popES bs
  | 0x08 => (shE c fun g e => .orEbGb e.rm8 (Reg8.ofNum g)) bs
  | 0x09 => (shE c fun g e => .orEvGv e.rm (Reg.ofNum g)) bs
  | 0x0A => (shE c fun g e => .orGbEb (Reg8.ofNum g) e.rm8) bs
  | 0x0B => (shE c fun g e => .orGvEv (Reg.ofNum g) e.rm) bs
  | 0x0C => shIb .orALIb bs
  | 0x0D => shV c.op32 .orEAXIv bs
  | 0x0E => plain .pushCS bs
  | 0x0F => if c.model.has286 then escape c bs else if c.model.has186 then plain .undefOther bs else plain .popCS bs
  | 0x10 => (shE c fun g e => .adcEbGb e.rm8 (Reg8.ofNum g)) bs
  | 0x11 => (shE c fun g e => .adcEvGv e.rm (Reg.ofNum g)) bs
  | 0x12 => (shE c fun g e => .adcGbEb (Reg8.ofNum g) e.rm8) bs
  | 0x13 => (shE c fun g e => .adcGvEv (Reg.ofNum g) e.rm) bs
  | 0x14 => shIb .adcALIb bs
  | 0x15 => shV c.op32 .adcEAXIv bs
  | 0x16 => plain .pushSS bs
  | 0x17 => plain .popSS bs
  | 0x18 => (shE c fun g e => .sbbEbGb e.rm8 (Reg8.ofNum g)) bs
  | 0x19 => (shE c fun g e => .sbbEvGv e.rm (Reg.ofNum g)) bs
  | 0x1A => (shE c fun g e => .sbbGbEb (Reg8.ofNum g) e.rm8) bs
  | 0x1B => (shE c fun g e => .sbbGvEv (Reg.ofNum g) e.rm) bs
  | 0x1C => shIb .sbbALIb bs
  | 0x1D => shV c.op32 .sbbEAXIv bs
  | 0x1E => plain .pushDS bs
  | 0x1F => plain .popDS bs
  | 0x20 => (shE c fun g e => .andEbGb e.rm8 (Reg8.ofNum g)) bs
  | 0x21 => (shE c fun g e => .andEvGv e.rm (Reg.ofNum g)) bs
  | 0x22 => (shE c fun g e => .andGbEb (Reg8.ofNum g) e.rm8) bs
  | 0x23 => (shE c fun g e => .andGvEv (Reg.ofNum g) e.rm) bs
  | 0x24 => shIb .andALIb bs
  | 0x25 => shV c.op32 .andEAXIv bs
  | 0x26 => plain .prefixES bs
  | 0x27 => plain .daa bs
  | 0x28 => (shE c fun g e => .subEbGb e.rm8 (Reg8.ofNum g)) bs
  | 0x29 => (shE c fun g e => .subEvGv e.rm (Reg.ofNum g)) bs
  | 0x2A => (shE c fun g e => .subGbEb (Reg8.ofNum g) e.rm8) bs
  | 0x2B => (shE c fun g e => .subGvEv (Reg.ofNum g) e.rm) bs
  | 0x2C => shIb .subALIb bs
  | 0x2D => shV c.op32 .subEAXIv bs
  | 0x2E => plain .prefixCS bs
  | 0x2F => plain .das bs
  | 0x30 => (shE c fun g e => .xorEbGb e.rm8 (Reg8.ofNum g)) bs
  | 0x31 => (shE c fun g e => .xorEvGv e.rm (Reg.ofNum g)) bs
  | 0x32 => (shE c fun g e => .xorGbEb (Reg8.ofNum g) e.rm8) bs
  | 0x33 => (shE c fun g e => .xorGvEv (Reg.ofNum g) e.rm) bs
  | 0x34 => shIb .xorALIb bs
  | 0x35 => shV c.op32 .xorEAXIv bs
  | 0x36 => plain .prefixSS bs
  | 0x37 => plain .aaa bs
  | 0x38 => (shE c fun g e => .cmpEbGb e.rm8 (Reg8.ofNum g)) bs
  | 0x39 => (shE c fun g e => .cmpEvGv e.rm (Reg.ofNum g)) bs
  | 0x3A => (shE c fun g e => .cmpGbEb (Reg8.ofNum g) e.rm8) bs
  | 0x3B => (shE c fun g e => .cmpGvEv (Reg.ofNum g) e.rm) bs
  | 0x3C => shIb .cmpALIb bs
  | 0x3D => shV c.op32 .cmpEAXIv bs
  | 0x3E => plain .prefixDS bs
  | 0x3F => plain .aas bs
  | _ => plain .undefOther bs

/-- The one-byte map (R247), opcodes 0x40 to 0x7F. -/
def decodeOp1 (c : DecCtx) (op : Nat) (bs : List Byte) : Decoded :=
  match op with
  | 0x40 => plain (.incR .ax) bs
  | 0x41 => plain (.incR .cx) bs
  | 0x42 => plain (.incR .dx) bs
  | 0x43 => plain (.incR .bx) bs
  | 0x44 => plain (.incR .sp) bs
  | 0x45 => plain (.incR .bp) bs
  | 0x46 => plain (.incR .si) bs
  | 0x47 => plain (.incR .di) bs
  | 0x48 => plain (.decR .ax) bs
  | 0x49 => plain (.decR .cx) bs
  | 0x4A => plain (.decR .dx) bs
  | 0x4B => plain (.decR .bx) bs
  | 0x4C => plain (.decR .sp) bs
  | 0x4D => plain (.decR .bp) bs
  | 0x4E => plain (.decR .si) bs
  | 0x4F => plain (.decR .di) bs
  | 0x50 => plain (.pushR .ax) bs
  | 0x51 => plain (.pushR .cx) bs
  | 0x52 => plain (.pushR .dx) bs
  | 0x53 => plain (.pushR .bx) bs
  | 0x54 => plain (.pushR .sp) bs
  | 0x55 => plain (.pushR .bp) bs
  | 0x56 => plain (.pushR .si) bs
  | 0x57 => plain (.pushR .di) bs
  | 0x58 => plain (.popR .ax) bs
  | 0x59 => plain (.popR .cx) bs
  | 0x5A => plain (.popR .dx) bs
  | 0x5B => plain (.popR .bx) bs
  | 0x5C => plain (.popR .sp) bs
  | 0x5D => plain (.popR .bp) bs
  | 0x5E => plain (.popR .si) bs
  | 0x5F => plain (.popR .di) bs
  | 0x60 => gate c.model.has186 (plain .pusha) bs
  | 0x61 => gate c.model.has186 (plain .popa) bs
  | 0x62 => gate c.model.has186 (shM c fun g m => .boundGvMa (Reg.ofNum g) m) bs
  | 0x63 => gate c.model.has286 (shE c fun g e => .arplEwGw e.rm (Reg.ofNum g)) bs
  | 0x64 => gate c.model.has386 (plain .prefixFS) bs
  | 0x65 => gate c.model.has386 (plain .prefixGS) bs
  | 0x66 => gate c.model.has386 (plain .prefixOpSize) bs
  | 0x67 => gate c.model.has386 (plain .prefixAdSize) bs
  | 0x68 => gate c.model.has186 (shV c.op32 .pushIv) bs
  | 0x69 => gate c.model.has186 (shEIv c fun g e iv => .imulGvEvIv (Reg.ofNum g) e.rm iv) bs
  | 0x6A => gate c.model.has186 (shIb .pushIbs) bs
  | 0x6B => gate c.model.has186 (shEIb c fun g e ib => .imulGvEvIbs (Reg.ofNum g) e.rm ib) bs
  | 0x6C => gate c.model.has186 (plain .insb) bs
  | 0x6D => gate c.model.has186 (plain .insv) bs
  | 0x6E => gate c.model.has186 (plain .outsb) bs
  | 0x6F => gate c.model.has186 (plain .outsv) bs
  | 0x70 => shIb (.jccJb .o) bs
  | 0x71 => shIb (.jccJb .no) bs
  | 0x72 => shIb (.jccJb .b) bs
  | 0x73 => shIb (.jccJb .ae) bs
  | 0x74 => shIb (.jccJb .z) bs
  | 0x75 => shIb (.jccJb .nz) bs
  | 0x76 => shIb (.jccJb .be) bs
  | 0x77 => shIb (.jccJb .a) bs
  | 0x78 => shIb (.jccJb .s) bs
  | 0x79 => shIb (.jccJb .ns) bs
  | 0x7A => shIb (.jccJb .p) bs
  | 0x7B => shIb (.jccJb .np) bs
  | 0x7C => shIb (.jccJb .l) bs
  | 0x7D => shIb (.jccJb .ge) bs
  | 0x7E => shIb (.jccJb .le) bs
  | 0x7F => shIb (.jccJb .g) bs
  | _ => plain .undefOther bs

/-- The one-byte map (R247), opcodes 0x80 to 0xBF. -/
def decodeOp2 (c : DecCtx) (op : Nat) (bs : List Byte) : Decoded :=
  match op with
  | 0x80 => group (fun
      | 0 => shEIb c fun _ e ib => .addEbIb e.rm8 ib
      | 1 => shEIb c fun _ e ib => .orEbIb e.rm8 ib
      | 2 => shEIb c fun _ e ib => .adcEbIb e.rm8 ib
      | 3 => shEIb c fun _ e ib => .sbbEbIb e.rm8 ib
      | 4 => shEIb c fun _ e ib => .andEbIb e.rm8 ib
      | 5 => shEIb c fun _ e ib => .subEbIb e.rm8 ib
      | 6 => shEIb c fun _ e ib => .xorEbIb e.rm8 ib
      | _ => shEIb c fun _ e ib => .cmpEbIb e.rm8 ib) bs
  | 0x81 => group (fun
      | 0 => shEIv c fun _ e iv => .addEvIv e.rm iv
      | 1 => shEIv c fun _ e iv => .orEvIv e.rm iv
      | 2 => shEIv c fun _ e iv => .adcEvIv e.rm iv
      | 3 => shEIv c fun _ e iv => .sbbEvIv e.rm iv
      | 4 => shEIv c fun _ e iv => .andEvIv e.rm iv
      | 5 => shEIv c fun _ e iv => .subEvIv e.rm iv
      | 6 => shEIv c fun _ e iv => .xorEvIv e.rm iv
      | _ => shEIv c fun _ e iv => .cmpEvIv e.rm iv) bs
  | 0x82 => group (fun
      | 0 => shEIb c fun _ e ib => .addEbIb82 e.rm8 ib
      | 1 => shEIb c fun _ e ib => .orEbIb82 e.rm8 ib
      | 2 => shEIb c fun _ e ib => .adcEbIb82 e.rm8 ib
      | 3 => shEIb c fun _ e ib => .sbbEbIb82 e.rm8 ib
      | 4 => shEIb c fun _ e ib => .andEbIb82 e.rm8 ib
      | 5 => shEIb c fun _ e ib => .subEbIb82 e.rm8 ib
      | 6 => shEIb c fun _ e ib => .xorEbIb82 e.rm8 ib
      | _ => shEIb c fun _ e ib => .cmpEbIb82 e.rm8 ib) bs
  | 0x83 => group (fun
      | 0 => shEIb c fun _ e ib => .addEvIbs e.rm ib
      | 1 => shEIb c fun _ e ib => .orEvIbs e.rm ib
      | 2 => shEIb c fun _ e ib => .adcEvIbs e.rm ib
      | 3 => shEIb c fun _ e ib => .sbbEvIbs e.rm ib
      | 4 => shEIb c fun _ e ib => .andEvIbs e.rm ib
      | 5 => shEIb c fun _ e ib => .subEvIbs e.rm ib
      | 6 => shEIb c fun _ e ib => .xorEvIbs e.rm ib
      | _ => shEIb c fun _ e ib => .cmpEvIbs e.rm ib) bs
  | 0x84 => (shE c fun g e => .testEbGb e.rm8 (Reg8.ofNum g)) bs
  | 0x85 => (shE c fun g e => .testEvGv e.rm (Reg.ofNum g)) bs
  | 0x86 => (shE c fun g e => .xchgEbGb e.rm8 (Reg8.ofNum g)) bs
  | 0x87 => (shE c fun g e => .xchgEvGv e.rm (Reg.ofNum g)) bs
  | 0x88 => (shE c fun g e => .movEbGb e.rm8 (Reg8.ofNum g)) bs
  | 0x89 => (shE c fun g e => .movEvGv e.rm (Reg.ofNum g)) bs
  | 0x8A => (shE c fun g e => .movGbEb (Reg8.ofNum g) e.rm8) bs
  | 0x8B => (shE c fun g e => .movGvEv (Reg.ofNum g) e.rm) bs
  | 0x8C => shSreg c (fun sr => sr.exists c.model) .movEwSw bs
  | 0x8D => (shE c fun g e => .leaGvM (Reg.ofNum g) e.rm) bs
  | 0x8E => (shSreg c (fun sr => sr != .cs && sr.exists c.model) fun e sr => .movSwEw sr e) bs
  | 0x8F => group (fun
      | 0 => shE c fun _ e => .popEv e.rm
      | _ => undefSub .undefOther) bs
  | 0x90 => plain .nop bs
  | 0x91 => plain (.xchgEAXR .cx) bs
  | 0x92 => plain (.xchgEAXR .dx) bs
  | 0x93 => plain (.xchgEAXR .bx) bs
  | 0x94 => plain (.xchgEAXR .sp) bs
  | 0x95 => plain (.xchgEAXR .bp) bs
  | 0x96 => plain (.xchgEAXR .si) bs
  | 0x97 => plain (.xchgEAXR .di) bs
  | 0x98 => plain .cbw bs
  | 0x99 => plain .cwd bs
  | 0x9A => shAp c .callFarAp bs
  | 0x9B => plain .wait bs
  | 0x9C => plain .pushf bs
  | 0x9D => plain .popf bs
  | 0x9E => plain .sahf bs
  | 0x9F => plain .lahf bs
  | 0xA0 => shV c.ad32 .movALOb bs
  | 0xA1 => shV c.ad32 .movEAXOv bs
  | 0xA2 => shV c.ad32 .movObAL bs
  | 0xA3 => shV c.ad32 .movOvEAX bs
  | 0xA4 => plain .movsb bs
  | 0xA5 => plain .movsv bs
  | 0xA6 => plain .cmpsb bs
  | 0xA7 => plain .cmpsv bs
  | 0xA8 => shIb .testALIb bs
  | 0xA9 => shV c.op32 .testEAXIv bs
  | 0xAA => plain .stosb bs
  | 0xAB => plain .stosv bs
  | 0xAC => plain .lodsb bs
  | 0xAD => plain .lodsv bs
  | 0xAE => plain .scasb bs
  | 0xAF => plain .scasv bs
  | 0xB0 => shIb (.movR8Ib .al) bs
  | 0xB1 => shIb (.movR8Ib .cl) bs
  | 0xB2 => shIb (.movR8Ib .dl) bs
  | 0xB3 => shIb (.movR8Ib .bl) bs
  | 0xB4 => shIb (.movR8Ib .ah) bs
  | 0xB5 => shIb (.movR8Ib .ch) bs
  | 0xB6 => shIb (.movR8Ib .dh) bs
  | 0xB7 => shIb (.movR8Ib .bh) bs
  | 0xB8 => shV c.op32 (.movRIv .ax) bs
  | 0xB9 => shV c.op32 (.movRIv .cx) bs
  | 0xBA => shV c.op32 (.movRIv .dx) bs
  | 0xBB => shV c.op32 (.movRIv .bx) bs
  | 0xBC => shV c.op32 (.movRIv .sp) bs
  | 0xBD => shV c.op32 (.movRIv .bp) bs
  | 0xBE => shV c.op32 (.movRIv .si) bs
  | 0xBF => shV c.op32 (.movRIv .di) bs
  | _ => plain .undefOther bs

/-- The one-byte map (R247), opcodes 0xC0 to 0xFF. -/
def decodeOp3 (c : DecCtx) (op : Nat) (bs : List Byte) : Decoded :=
  match op with
  | 0xC0 => gate c.model.has186 (group (fun
      | 0 => shEIb c fun _ e ib => .rolEbIb e.rm8 ib
      | 1 => shEIb c fun _ e ib => .rorEbIb e.rm8 ib
      | 2 => shEIb c fun _ e ib => .rclEbIb e.rm8 ib
      | 3 => shEIb c fun _ e ib => .rcrEbIb e.rm8 ib
      | 4 => shEIb c fun _ e ib => .shlEbIb e.rm8 ib
      | 5 => shEIb c fun _ e ib => .shrEbIb e.rm8 ib
      | 6 => shEIb c fun _ e ib => .shl6 (.ib ib) (.eb e.rm8)
      | _ => shEIb c fun _ e ib => .sarEbIb e.rm8 ib)) bs
  | 0xC1 => gate c.model.has186 (group (fun
      | 0 => shEIb c fun _ e ib => .rolEvIb e.rm ib
      | 1 => shEIb c fun _ e ib => .rorEvIb e.rm ib
      | 2 => shEIb c fun _ e ib => .rclEvIb e.rm ib
      | 3 => shEIb c fun _ e ib => .rcrEvIb e.rm ib
      | 4 => shEIb c fun _ e ib => .shlEvIb e.rm ib
      | 5 => shEIb c fun _ e ib => .shrEvIb e.rm ib
      | 6 => shEIb c fun _ e ib => .shl6 (.ib ib) (.ev e.rm)
      | _ => shEIb c fun _ e ib => .sarEvIb e.rm ib)) bs
  | 0xC2 => shIw .retIw bs
  | 0xC3 => plain .ret bs
  | 0xC4 => (shM c fun g m => .lesGvMp (Reg.ofNum g) m) bs
  | 0xC5 => (shM c fun g m => .ldsGvMp (Reg.ofNum g) m) bs
  | 0xC6 => group (fun
      | 0 => shEIb c fun _ e ib => .movEbIb e.rm8 ib
      | _ => undefSub .undefOther) bs
  | 0xC7 => group (fun
      | 0 => shEIv c fun _ e iv => .movEvIv e.rm iv
      | _ => undefSub .undefOther) bs
  | 0xC8 => gate c.model.has186 (shIwIb .enterIwIb) bs
  | 0xC9 => gate c.model.has186 (plain .leave) bs
  | 0xCA => shIw .retfIw bs
  | 0xCB => plain .retf bs
  | 0xCC => plain .int3 bs
  | 0xCD => shIb .intIb bs
  | 0xCE => plain .into bs
  | 0xCF => plain .iret bs
  | 0xD0 => group (fun
      | 0 => shE c fun _ e => .rolEbOne e.rm8
      | 1 => shE c fun _ e => .rorEbOne e.rm8
      | 2 => shE c fun _ e => .rclEbOne e.rm8
      | 3 => shE c fun _ e => .rcrEbOne e.rm8
      | 4 => shE c fun _ e => .shlEbOne e.rm8
      | 5 => shE c fun _ e => .shrEbOne e.rm8
      | 6 => shE c fun _ e => .shl6 .one (.eb e.rm8)
      | _ => shE c fun _ e => .sarEbOne e.rm8) bs
  | 0xD1 => group (fun
      | 0 => shE c fun _ e => .rolEvOne e.rm
      | 1 => shE c fun _ e => .rorEvOne e.rm
      | 2 => shE c fun _ e => .rclEvOne e.rm
      | 3 => shE c fun _ e => .rcrEvOne e.rm
      | 4 => shE c fun _ e => .shlEvOne e.rm
      | 5 => shE c fun _ e => .shrEvOne e.rm
      | 6 => shE c fun _ e => .shl6 .one (.ev e.rm)
      | _ => shE c fun _ e => .sarEvOne e.rm) bs
  | 0xD2 => group (fun
      | 0 => shE c fun _ e => .rolEbCL e.rm8
      | 1 => shE c fun _ e => .rorEbCL e.rm8
      | 2 => shE c fun _ e => .rclEbCL e.rm8
      | 3 => shE c fun _ e => .rcrEbCL e.rm8
      | 4 => shE c fun _ e => .shlEbCL e.rm8
      | 5 => shE c fun _ e => .shrEbCL e.rm8
      | 6 => shE c fun _ e => .shl6 .cl (.eb e.rm8)
      | _ => shE c fun _ e => .sarEbCL e.rm8) bs
  | 0xD3 => group (fun
      | 0 => shE c fun _ e => .rolEvCL e.rm
      | 1 => shE c fun _ e => .rorEvCL e.rm
      | 2 => shE c fun _ e => .rclEvCL e.rm
      | 3 => shE c fun _ e => .rcrEvCL e.rm
      | 4 => shE c fun _ e => .shlEvCL e.rm
      | 5 => shE c fun _ e => .shrEvCL e.rm
      | 6 => shE c fun _ e => .shl6 .cl (.ev e.rm)
      | _ => shE c fun _ e => .sarEvCL e.rm) bs
  | 0xD4 => shIb .aamIb bs
  | 0xD5 => shIb .aadIb bs
  | 0xD6 => plain .undefD6 bs
  | 0xD7 => plain .xlat bs
  | 0xD8 => (shE c fun g e => .esc 0 g e.rm) bs
  | 0xD9 => (shE c fun g e => .esc 1 g e.rm) bs
  | 0xDA => (shE c fun g e => .esc 2 g e.rm) bs
  | 0xDB => (shE c fun g e => .esc 3 g e.rm) bs
  | 0xDC => (shE c fun g e => .esc 4 g e.rm) bs
  | 0xDD => (shE c fun g e => .esc 5 g e.rm) bs
  | 0xDE => (shE c fun g e => .esc 6 g e.rm) bs
  | 0xDF => (shE c fun g e => .esc 7 g e.rm) bs
  | 0xE0 => shIb .loopnzJb bs
  | 0xE1 => shIb .loopzJb bs
  | 0xE2 => shIb .loopJb bs
  | 0xE3 => shIb .jcxzJb bs
  | 0xE4 => shIb .inALIb bs
  | 0xE5 => shIb .inEAXIb bs
  | 0xE6 => shIb .outIbAL bs
  | 0xE7 => shIb .outIbEAX bs
  | 0xE8 => shV c.op32 .callJv bs
  | 0xE9 => shV c.op32 .jmpJv bs
  | 0xEA => shAp c .jmpFarAp bs
  | 0xEB => shIb .jmpJb bs
  | 0xEC => plain .inALDX bs
  | 0xED => plain .inEAXDX bs
  | 0xEE => plain .outDXAL bs
  | 0xEF => plain .outDXEAX bs
  | 0xF0 => plain .prefixLock bs
  | 0xF1 => plain .undefF1 bs
  | 0xF2 => plain .prefixRepNZ bs
  | 0xF3 => plain .prefixRepZ bs
  | 0xF4 => plain .hlt bs
  | 0xF5 => plain .cmc bs
  | 0xF6 => group (fun
      | 0 => shEIb c fun _ e ib => .testEbIb e.rm8 ib
      | 1 => undefSub .undefF6r1
      | 2 => shE c fun _ e => .notEb e.rm8
      | 3 => shE c fun _ e => .negEb e.rm8
      | 4 => shE c fun _ e => .mulEb e.rm8
      | 5 => shE c fun _ e => .imulEb e.rm8
      | 6 => shE c fun _ e => .divEb e.rm8
      | _ => shE c fun _ e => .idivEb e.rm8) bs
  | 0xF7 => group (fun
      | 0 => shEIv c fun _ e iv => .testEvIv e.rm iv
      | 1 => undefSub .undefF6r1
      | 2 => shE c fun _ e => .notEv e.rm
      | 3 => shE c fun _ e => .negEv e.rm
      | 4 => shE c fun _ e => .mulEv e.rm
      | 5 => shE c fun _ e => .imulEv e.rm
      | 6 => shE c fun _ e => .divEv e.rm
      | _ => shE c fun _ e => .idivEv e.rm) bs
  | 0xF8 => plain .clc bs
  | 0xF9 => plain .stc bs
  | 0xFA => plain .cli bs
  | 0xFB => plain .sti bs
  | 0xFC => plain .cld bs
  | 0xFD => plain .std bs
  | 0xFE => group (fun
      | 0 => shE c fun _ e => .incEb e.rm8
      | 1 => shE c fun _ e => .decEb e.rm8
      | _ => undefSub .undefOther) bs
  | 0xFF => group (fun
      | 0 => shE c fun _ e => .incEv e.rm
      | 1 => shE c fun _ e => .decEv e.rm
      | 2 => shE c fun _ e => .callEv e.rm
      | 3 => shM c fun _ m => .callFarMp m
      | 4 => shE c fun _ e => .jmpEv e.rm
      | 5 => shM c fun _ m => .jmpFarMp m
      | 6 => shE c fun _ e => .pushEv e.rm
      | _ => undefSub .undefFFr7) bs
  | _ => plain .undefOther bs

/-- One instruction from its first byte on, prefix bytes being instructions of their own. -/
def decode (c : DecCtx) : List Byte → Decoded
  | [] => none
  | b :: bs =>
    if b.toNat < 0x40 then decodeOp0 c b.toNat bs
    else if b.toNat < 0x80 then decodeOp1 c b.toNat bs
    else if b.toNat < 0xC0 then decodeOp2 c b.toNat bs
    else decodeOp3 c b.toNat bs

/-! ### The encoder -/

def put16 (v : Half) : List Byte := [v.extractLsb 7 0, v.extractLsb 15 8]

def put32 (v : Word) : List Byte := [v.extractLsb 7 0, v.extractLsb 15 8, v.extractLsb 23 16, v.extractLsb 31 24]

def putV (is32 : Bool) (v : Word) : List Byte := if is32 then put32 v else put16 (v.setWidth 16)

/-- A ModR/M or SIB byte from its fields (R241, R284). -/
def fields (hi : BitVec 2) (mid lo : BitVec 3) : Byte := hi ++ mid ++ lo

def Disp16.mod : Disp16 → BitVec 2
  | .none => 0 | .d8 _ => 1 | .d16 _ => 2

def Disp16.bytes : Disp16 → List Byte
  | .none => [] | .d8 d => [d] | .d16 d => put16 d

def Disp32.mod : Disp32 → BitVec 2
  | .none => 0 | .d8 _ => 1 | .d32 _ => 2

def Disp32.bytes : Disp32 → List Byte
  | .none => [] | .d8 d => [d] | .d32 d => put32 d

def indexNum : Option Reg → BitVec 3
  | some r => r.num
  | none => 4

/-- ModR/M byte, SIB byte and displacement of a memory operand (R282 to R285). -/
def putM (reg : BitVec 3) : MemOp → List Byte
  | .base16 b d => fields d.mod reg b.num :: d.bytes
  | .abs16 d => fields 0 reg 6 :: put16 d
  | .base32 r d => fields d.mod reg r.num :: d.bytes
  | .abs32 d => fields 0 reg 5 :: put32 d
  | .sib s i b d => fields d.mod reg 4 :: fields s (indexNum i) b.num :: d.bytes
  | .sibNoBase s i d => fields 0 reg 4 :: fields s (indexNum i) 5 :: put32 d

def putE (reg : BitVec 3) : RM → List Byte
  | .reg r => [fields 3 reg r.num]
  | .mem m => putM reg m

def putE8 (reg : BitVec 3) : RM8 → List Byte
  | .reg r => [fields 3 reg r.num]
  | .mem m => putM reg m

/-- Group 2 /6 (R254). -/
def putShl6 : ShiftBy → ShiftDst → List Byte
  | .ib n, .eb e => 0xC0 :: (putE8 6 e ++ [n])
  | .ib n, .ev e => 0xC1 :: (putE 6 e ++ [n])
  | .one, .eb e => 0xD0 :: putE8 6 e
  | .one, .ev e => 0xD1 :: putE 6 e
  | .cl, .eb e => 0xD2 :: putE8 6 e
  | .cl, .ev e => 0xD3 :: putE 6 e

/-- The bytes of an instruction in a context, prefixes excluded (R230). -/
def encode (c : DecCtx) : Instr → List Byte
  | .addEbGb e g => 0x00 :: (putE8 g.num e)
  | .addEvGv e g => 0x01 :: (putE g.num e)
  | .addGbEb g e => 0x02 :: (putE8 g.num e)
  | .addGvEv g e => 0x03 :: (putE g.num e)
  | .addALIb ib => 0x04 :: ([ib])
  | .addEAXIv iv => 0x05 :: (putV c.op32 iv)
  | .addEbIb e ib => 0x80 :: (putE8 0 e ++ [ib])
  | .addEvIv e iv => 0x81 :: (putE 0 e ++ putV c.op32 iv)
  | .addEbIb82 e ib => 0x82 :: (putE8 0 e ++ [ib])
  | .addEvIbs e ib => 0x83 :: (putE 0 e ++ [ib])
  | .orEbGb e g => 0x08 :: (putE8 g.num e)
  | .orEvGv e g => 0x09 :: (putE g.num e)
  | .orGbEb g e => 0x0A :: (putE8 g.num e)
  | .orGvEv g e => 0x0B :: (putE g.num e)
  | .orALIb ib => 0x0C :: ([ib])
  | .orEAXIv iv => 0x0D :: (putV c.op32 iv)
  | .orEbIb e ib => 0x80 :: (putE8 1 e ++ [ib])
  | .orEvIv e iv => 0x81 :: (putE 1 e ++ putV c.op32 iv)
  | .orEbIb82 e ib => 0x82 :: (putE8 1 e ++ [ib])
  | .orEvIbs e ib => 0x83 :: (putE 1 e ++ [ib])
  | .adcEbGb e g => 0x10 :: (putE8 g.num e)
  | .adcEvGv e g => 0x11 :: (putE g.num e)
  | .adcGbEb g e => 0x12 :: (putE8 g.num e)
  | .adcGvEv g e => 0x13 :: (putE g.num e)
  | .adcALIb ib => 0x14 :: ([ib])
  | .adcEAXIv iv => 0x15 :: (putV c.op32 iv)
  | .adcEbIb e ib => 0x80 :: (putE8 2 e ++ [ib])
  | .adcEvIv e iv => 0x81 :: (putE 2 e ++ putV c.op32 iv)
  | .adcEbIb82 e ib => 0x82 :: (putE8 2 e ++ [ib])
  | .adcEvIbs e ib => 0x83 :: (putE 2 e ++ [ib])
  | .sbbEbGb e g => 0x18 :: (putE8 g.num e)
  | .sbbEvGv e g => 0x19 :: (putE g.num e)
  | .sbbGbEb g e => 0x1A :: (putE8 g.num e)
  | .sbbGvEv g e => 0x1B :: (putE g.num e)
  | .sbbALIb ib => 0x1C :: ([ib])
  | .sbbEAXIv iv => 0x1D :: (putV c.op32 iv)
  | .sbbEbIb e ib => 0x80 :: (putE8 3 e ++ [ib])
  | .sbbEvIv e iv => 0x81 :: (putE 3 e ++ putV c.op32 iv)
  | .sbbEbIb82 e ib => 0x82 :: (putE8 3 e ++ [ib])
  | .sbbEvIbs e ib => 0x83 :: (putE 3 e ++ [ib])
  | .andEbGb e g => 0x20 :: (putE8 g.num e)
  | .andEvGv e g => 0x21 :: (putE g.num e)
  | .andGbEb g e => 0x22 :: (putE8 g.num e)
  | .andGvEv g e => 0x23 :: (putE g.num e)
  | .andALIb ib => 0x24 :: ([ib])
  | .andEAXIv iv => 0x25 :: (putV c.op32 iv)
  | .andEbIb e ib => 0x80 :: (putE8 4 e ++ [ib])
  | .andEvIv e iv => 0x81 :: (putE 4 e ++ putV c.op32 iv)
  | .andEbIb82 e ib => 0x82 :: (putE8 4 e ++ [ib])
  | .andEvIbs e ib => 0x83 :: (putE 4 e ++ [ib])
  | .subEbGb e g => 0x28 :: (putE8 g.num e)
  | .subEvGv e g => 0x29 :: (putE g.num e)
  | .subGbEb g e => 0x2A :: (putE8 g.num e)
  | .subGvEv g e => 0x2B :: (putE g.num e)
  | .subALIb ib => 0x2C :: ([ib])
  | .subEAXIv iv => 0x2D :: (putV c.op32 iv)
  | .subEbIb e ib => 0x80 :: (putE8 5 e ++ [ib])
  | .subEvIv e iv => 0x81 :: (putE 5 e ++ putV c.op32 iv)
  | .subEbIb82 e ib => 0x82 :: (putE8 5 e ++ [ib])
  | .subEvIbs e ib => 0x83 :: (putE 5 e ++ [ib])
  | .xorEbGb e g => 0x30 :: (putE8 g.num e)
  | .xorEvGv e g => 0x31 :: (putE g.num e)
  | .xorGbEb g e => 0x32 :: (putE8 g.num e)
  | .xorGvEv g e => 0x33 :: (putE g.num e)
  | .xorALIb ib => 0x34 :: ([ib])
  | .xorEAXIv iv => 0x35 :: (putV c.op32 iv)
  | .xorEbIb e ib => 0x80 :: (putE8 6 e ++ [ib])
  | .xorEvIv e iv => 0x81 :: (putE 6 e ++ putV c.op32 iv)
  | .xorEbIb82 e ib => 0x82 :: (putE8 6 e ++ [ib])
  | .xorEvIbs e ib => 0x83 :: (putE 6 e ++ [ib])
  | .cmpEbGb e g => 0x38 :: (putE8 g.num e)
  | .cmpEvGv e g => 0x39 :: (putE g.num e)
  | .cmpGbEb g e => 0x3A :: (putE8 g.num e)
  | .cmpGvEv g e => 0x3B :: (putE g.num e)
  | .cmpALIb ib => 0x3C :: ([ib])
  | .cmpEAXIv iv => 0x3D :: (putV c.op32 iv)
  | .cmpEbIb e ib => 0x80 :: (putE8 7 e ++ [ib])
  | .cmpEvIv e iv => 0x81 :: (putE 7 e ++ putV c.op32 iv)
  | .cmpEbIb82 e ib => 0x82 :: (putE8 7 e ++ [ib])
  | .cmpEvIbs e ib => 0x83 :: (putE 7 e ++ [ib])
  | .incR r => [(0x40 + r.num.setWidth 8)]
  | .decR r => [(0x48 + r.num.setWidth 8)]
  | .pushR r => [(0x50 + r.num.setWidth 8)]
  | .popR r => [(0x58 + r.num.setWidth 8)]
  | .boundGvMa g m => 0x62 :: (putM g.num m)
  | .arplEwGw e g => 0x63 :: (putE g.num e)
  | .pushIv iv => 0x68 :: (putV c.op32 iv)
  | .imulGvEvIv g e iv => 0x69 :: (putE g.num e ++ putV c.op32 iv)
  | .pushIbs ib => 0x6A :: ([ib])
  | .imulGvEvIbs g e ib => 0x6B :: (putE g.num e ++ [ib])
  | .jccJb cc jb => (0x70 + cc.num) :: ([jb])
  | .testEbGb e g => 0x84 :: (putE8 g.num e)
  | .testEvGv e g => 0x85 :: (putE g.num e)
  | .xchgEbGb e g => 0x86 :: (putE8 g.num e)
  | .xchgEvGv e g => 0x87 :: (putE g.num e)
  | .movEbGb e g => 0x88 :: (putE8 g.num e)
  | .movEvGv e g => 0x89 :: (putE g.num e)
  | .movGbEb g e => 0x8A :: (putE8 g.num e)
  | .movGvEv g e => 0x8B :: (putE g.num e)
  | .movEwSw e sr => 0x8C :: (putE sr.num e)
  | .leaGvM g e => 0x8D :: (putE g.num e)
  | .movSwEw sr e => 0x8E :: (putE sr.num e)
  | .popEv e => 0x8F :: (putE 0 e)
  | .xchgEAXR r => [(0x90 + r.num.setWidth 8)]
  | .callFarAp off sel => 0x9A :: (putV c.op32 off ++ put16 sel)
  | .movALOb off => 0xA0 :: (putV c.ad32 off)
  | .movEAXOv off => 0xA1 :: (putV c.ad32 off)
  | .movObAL off => 0xA2 :: (putV c.ad32 off)
  | .movOvEAX off => 0xA3 :: (putV c.ad32 off)
  | .testALIb ib => 0xA8 :: ([ib])
  | .testEAXIv iv => 0xA9 :: (putV c.op32 iv)
  | .movR8Ib r ib => (0xB0 + r.num.setWidth 8) :: ([ib])
  | .movRIv r iv => (0xB8 + r.num.setWidth 8) :: (putV c.op32 iv)
  | .rolEbIb e ib => 0xC0 :: (putE8 0 e ++ [ib])
  | .rolEvIb e ib => 0xC1 :: (putE 0 e ++ [ib])
  | .rolEbOne e => 0xD0 :: (putE8 0 e)
  | .rolEvOne e => 0xD1 :: (putE 0 e)
  | .rolEbCL e => 0xD2 :: (putE8 0 e)
  | .rolEvCL e => 0xD3 :: (putE 0 e)
  | .rorEbIb e ib => 0xC0 :: (putE8 1 e ++ [ib])
  | .rorEvIb e ib => 0xC1 :: (putE 1 e ++ [ib])
  | .rorEbOne e => 0xD0 :: (putE8 1 e)
  | .rorEvOne e => 0xD1 :: (putE 1 e)
  | .rorEbCL e => 0xD2 :: (putE8 1 e)
  | .rorEvCL e => 0xD3 :: (putE 1 e)
  | .rclEbIb e ib => 0xC0 :: (putE8 2 e ++ [ib])
  | .rclEvIb e ib => 0xC1 :: (putE 2 e ++ [ib])
  | .rclEbOne e => 0xD0 :: (putE8 2 e)
  | .rclEvOne e => 0xD1 :: (putE 2 e)
  | .rclEbCL e => 0xD2 :: (putE8 2 e)
  | .rclEvCL e => 0xD3 :: (putE 2 e)
  | .rcrEbIb e ib => 0xC0 :: (putE8 3 e ++ [ib])
  | .rcrEvIb e ib => 0xC1 :: (putE 3 e ++ [ib])
  | .rcrEbOne e => 0xD0 :: (putE8 3 e)
  | .rcrEvOne e => 0xD1 :: (putE 3 e)
  | .rcrEbCL e => 0xD2 :: (putE8 3 e)
  | .rcrEvCL e => 0xD3 :: (putE 3 e)
  | .shlEbIb e ib => 0xC0 :: (putE8 4 e ++ [ib])
  | .shlEvIb e ib => 0xC1 :: (putE 4 e ++ [ib])
  | .shlEbOne e => 0xD0 :: (putE8 4 e)
  | .shlEvOne e => 0xD1 :: (putE 4 e)
  | .shlEbCL e => 0xD2 :: (putE8 4 e)
  | .shlEvCL e => 0xD3 :: (putE 4 e)
  | .shrEbIb e ib => 0xC0 :: (putE8 5 e ++ [ib])
  | .shrEvIb e ib => 0xC1 :: (putE 5 e ++ [ib])
  | .shrEbOne e => 0xD0 :: (putE8 5 e)
  | .shrEvOne e => 0xD1 :: (putE 5 e)
  | .shrEbCL e => 0xD2 :: (putE8 5 e)
  | .shrEvCL e => 0xD3 :: (putE 5 e)
  | .shl6 k d => putShl6 k d
  | .sarEbIb e ib => 0xC0 :: (putE8 7 e ++ [ib])
  | .sarEvIb e ib => 0xC1 :: (putE 7 e ++ [ib])
  | .sarEbOne e => 0xD0 :: (putE8 7 e)
  | .sarEvOne e => 0xD1 :: (putE 7 e)
  | .sarEbCL e => 0xD2 :: (putE8 7 e)
  | .sarEvCL e => 0xD3 :: (putE 7 e)
  | .retIw iw => 0xC2 :: (put16 iw)
  | .lesGvMp g m => 0xC4 :: (putM g.num m)
  | .ldsGvMp g m => 0xC5 :: (putM g.num m)
  | .movEbIb e ib => 0xC6 :: (putE8 0 e ++ [ib])
  | .movEvIv e iv => 0xC7 :: (putE 0 e ++ putV c.op32 iv)
  | .enterIwIb iw ib => 0xC8 :: (put16 iw ++ [ib])
  | .retfIw iw => 0xCA :: (put16 iw)
  | .intIb ib => 0xCD :: ([ib])
  | .aamIb ib => 0xD4 :: ([ib])
  | .aadIb ib => 0xD5 :: ([ib])
  | .esc n reg e => (0xD8 + n.setWidth 8) :: (putE reg e)
  | .loopnzJb jb => 0xE0 :: ([jb])
  | .loopzJb jb => 0xE1 :: ([jb])
  | .loopJb jb => 0xE2 :: ([jb])
  | .jcxzJb jb => 0xE3 :: ([jb])
  | .inALIb ib => 0xE4 :: ([ib])
  | .inEAXIb ib => 0xE5 :: ([ib])
  | .outIbAL ib => 0xE6 :: ([ib])
  | .outIbEAX ib => 0xE7 :: ([ib])
  | .callJv jv => 0xE8 :: (putV c.op32 jv)
  | .jmpJv jv => 0xE9 :: (putV c.op32 jv)
  | .jmpFarAp off sel => 0xEA :: (putV c.op32 off ++ put16 sel)
  | .jmpJb jb => 0xEB :: ([jb])
  | .testEbIb e ib => 0xF6 :: (putE8 0 e ++ [ib])
  | .testEvIv e iv => 0xF7 :: (putE 0 e ++ putV c.op32 iv)
  | .notEb e => 0xF6 :: (putE8 2 e)
  | .notEv e => 0xF7 :: (putE 2 e)
  | .negEb e => 0xF6 :: (putE8 3 e)
  | .negEv e => 0xF7 :: (putE 3 e)
  | .mulEb e => 0xF6 :: (putE8 4 e)
  | .mulEv e => 0xF7 :: (putE 4 e)
  | .imulEb e => 0xF6 :: (putE8 5 e)
  | .imulEv e => 0xF7 :: (putE 5 e)
  | .divEb e => 0xF6 :: (putE8 6 e)
  | .divEv e => 0xF7 :: (putE 6 e)
  | .idivEb e => 0xF6 :: (putE8 7 e)
  | .idivEv e => 0xF7 :: (putE 7 e)
  | .incEb e => 0xFE :: (putE8 0 e)
  | .decEb e => 0xFE :: (putE8 1 e)
  | .incEv e => 0xFF :: (putE 0 e)
  | .decEv e => 0xFF :: (putE 1 e)
  | .callEv e => 0xFF :: (putE 2 e)
  | .callFarMp m => 0xFF :: (putM 3 m)
  | .jmpEv e => 0xFF :: (putE 4 e)
  | .jmpFarMp m => 0xFF :: (putM 5 m)
  | .pushEv e => 0xFF :: (putE 6 e)
  | .sldtEw e => 0x0F :: 0x00 :: (putE 0 e)
  | .strEw e => 0x0F :: 0x00 :: (putE 1 e)
  | .lldtEw e => 0x0F :: 0x00 :: (putE 2 e)
  | .ltrEw e => 0x0F :: 0x00 :: (putE 3 e)
  | .verrEw e => 0x0F :: 0x00 :: (putE 4 e)
  | .verwEw e => 0x0F :: 0x00 :: (putE 5 e)
  | .sgdtMs m => 0x0F :: 0x01 :: (putM 0 m)
  | .sidtMs m => 0x0F :: 0x01 :: (putM 1 m)
  | .lgdtMs m => 0x0F :: 0x01 :: (putM 2 m)
  | .lidtMs m => 0x0F :: 0x01 :: (putM 3 m)
  | .smswEw e => 0x0F :: 0x01 :: (putE 4 e)
  | .lmswEw e => 0x0F :: 0x01 :: (putE 6 e)
  | .larGvEw g e => 0x0F :: 0x02 :: (putE g.num e)
  | .lslGvEw g e => 0x0F :: 0x03 :: (putE g.num e)
  | .movRdCd r cr => [0x0F, 0x20, fields 3 cr r.num]
  | .movRdDd r dr => [0x0F, 0x21, fields 3 dr r.num]
  | .movCdRd cr r => [0x0F, 0x22, fields 3 cr r.num]
  | .movDdRd dr r => [0x0F, 0x23, fields 3 dr r.num]
  | .jccJv cc jv => 0x0F :: (0x80 + cc.num) :: (putV c.op32 jv)
  | .setccEb cc e => 0x0F :: (0x90 + cc.num) :: (putE8 0 e)
  | .btEvGv e g => 0x0F :: 0xA3 :: (putE g.num e)
  | .shldEvGvIb e g ib => 0x0F :: 0xA4 :: (putE g.num e ++ [ib])
  | .shldEvGvCL e g => 0x0F :: 0xA5 :: (putE g.num e)
  | .btsEvGv e g => 0x0F :: 0xAB :: (putE g.num e)
  | .shrdEvGvIb e g ib => 0x0F :: 0xAC :: (putE g.num e ++ [ib])
  | .shrdEvGvCL e g => 0x0F :: 0xAD :: (putE g.num e)
  | .imulGvEv g e => 0x0F :: 0xAF :: (putE g.num e)
  | .lssGvMp g m => 0x0F :: 0xB2 :: (putM g.num m)
  | .btrEvGv e g => 0x0F :: 0xB3 :: (putE g.num e)
  | .lfsGvMp g m => 0x0F :: 0xB4 :: (putM g.num m)
  | .lgsGvMp g m => 0x0F :: 0xB5 :: (putM g.num m)
  | .movzxGvEb g e => 0x0F :: 0xB6 :: (putE8 g.num e)
  | .movzxGvEw g e => 0x0F :: 0xB7 :: (putE g.num e)
  | .btEvIb e ib => 0x0F :: 0xBA :: (putE 4 e ++ [ib])
  | .btsEvIb e ib => 0x0F :: 0xBA :: (putE 5 e ++ [ib])
  | .btrEvIb e ib => 0x0F :: 0xBA :: (putE 6 e ++ [ib])
  | .btcEvIb e ib => 0x0F :: 0xBA :: (putE 7 e ++ [ib])
  | .btcEvGv e g => 0x0F :: 0xBB :: (putE g.num e)
  | .bsfGvEv g e => 0x0F :: 0xBC :: (putE g.num e)
  | .bsrGvEv g e => 0x0F :: 0xBD :: (putE g.num e)
  | .movsxGvEb g e => 0x0F :: 0xBE :: (putE8 g.num e)
  | .movsxGvEw g e => 0x0F :: 0xBF :: (putE g.num e)
  | .pushES => [0x06]
  | .popES => [0x07]
  | .pushCS => [0x0E]
  | .pushSS => [0x16]
  | .popSS => [0x17]
  | .pushDS => [0x1E]
  | .popDS => [0x1F]
  | .popCS => [0x0F]
  | .prefixES => [0x26]
  | .prefixCS => [0x2E]
  | .prefixSS => [0x36]
  | .prefixDS => [0x3E]
  | .prefixFS => [0x64]
  | .prefixGS => [0x65]
  | .prefixOpSize => [0x66]
  | .prefixAdSize => [0x67]
  | .prefixLock => [0xF0]
  | .prefixRepNZ => [0xF2]
  | .prefixRepZ => [0xF3]
  | .daa => [0x27]
  | .das => [0x2F]
  | .aaa => [0x37]
  | .aas => [0x3F]
  | .pusha => [0x60]
  | .popa => [0x61]
  | .insb => [0x6C]
  | .insv => [0x6D]
  | .outsb => [0x6E]
  | .outsv => [0x6F]
  | .nop => [0x90]
  | .cbw => [0x98]
  | .cwd => [0x99]
  | .wait => [0x9B]
  | .pushf => [0x9C]
  | .popf => [0x9D]
  | .sahf => [0x9E]
  | .lahf => [0x9F]
  | .movsb => [0xA4]
  | .movsv => [0xA5]
  | .cmpsb => [0xA6]
  | .cmpsv => [0xA7]
  | .stosb => [0xAA]
  | .stosv => [0xAB]
  | .lodsb => [0xAC]
  | .lodsv => [0xAD]
  | .scasb => [0xAE]
  | .scasv => [0xAF]
  | .ret => [0xC3]
  | .leave => [0xC9]
  | .retf => [0xCB]
  | .int3 => [0xCC]
  | .into => [0xCE]
  | .iret => [0xCF]
  | .undefD6 => [0xD6]
  | .xlat => [0xD7]
  | .inALDX => [0xEC]
  | .inEAXDX => [0xED]
  | .outDXAL => [0xEE]
  | .outDXEAX => [0xEF]
  | .undefF1 => [0xF1]
  | .hlt => [0xF4]
  | .cmc => [0xF5]
  | .undefF6r1 => [0xF6, 0x08]
  | .clc => [0xF8]
  | .stc => [0xF9]
  | .cli => [0xFA]
  | .sti => [0xFB]
  | .cld => [0xFC]
  | .std => [0xFD]
  | .undefFFr7 => [0xFF, 0x38]
  | .clts => [0x0F, 0x06]
  | .pushFS => [0x0F, 0xA0]
  | .popFS => [0x0F, 0xA1]
  | .pushGS => [0x0F, 0xA8]
  | .popGS => [0x0F, 0xA9]
  | .undefOther => [0xFE, 0x38]

/-! ### The host's question -/

/-- The bytes of a word whose bit 0 is the least significant bit of the first byte. -/
def bytesOf (w : Nat) : Nat → List Byte
  | 0 => []
  | n + 1 => BitVec.ofNat 8 w :: bytesOf (w / 256) n

/-- The bytes of a table row's word: the low `nbits` bits of `w`, then zeros up to the longest instruction without prefixes. -/
def tableBytes (nbits w : Nat) : List Byte := bytesOf (w % 2 ^ nbits) 12

/-- The context a table row's word is read in: the 80386 in a 16-bit code segment, but the row POP CS, which only the 8086 and
8088 have (R252). -/
def tableCtx (nbits w : Nat) : DecCtx :=
  if nbits = 8 ∧ w % 256 = 0x0F then ⟨.i8086, false, false⟩ else ⟨.i80386, false, false⟩

/-- The instruction the decoder reads from a table row's word. -/
def decodeTableWord (nbits w : Nat) : Option Instr :=
  (decode (tableCtx nbits w) (tableBytes nbits w)).map Prod.fst

end Sys2Proof
end

