-- ==== Sys2Proof/Machine/Bits.lean ====
section
/-! DEFINITION. Widths, truncation, sign extension, single bits, parity and byte order (00_scope.md R12, R13; 20_memory.md
R110). A value of width w is a `Word` whose bits above w are 0. -/

namespace Sys2Proof

def Width.bits : Width → Nat
  | .w8 => 8 | .w16 => 16 | .w32 => 32

def Width.bytes : Width → Nat
  | .w8 => 1 | .w16 => 2 | .w32 => 4

/-- `mask(w)` (R12). -/
def Width.mask : Width → Word
  | .w8 => 0xFF | .w16 => 0xFFFF | .w32 => 0xFFFFFFFF

/-- `msb(w)`, the source's BYTE, WORD, DWORD (R12, R48). -/
def Width.msb : Width → Word
  | .w8 => 0x80 | .w16 => 0x8000 | .w32 => 0x80000000

/-- `trunc_w` (R12). -/
def trunc (w : Width) (v : Word) : Word := v &&& w.mask

/-- `sext_w`, as a 32-bit word (R13). -/
def sext (w : Width) (v : Word) : Word :=
  match w with
  | .w8 => (v.setWidth 8).signExtend 32
  | .w16 => (v.setWidth 16).signExtend 32
  | .w32 => v

/-- `signed_w` (R13). -/
def signed (w : Width) (v : Word) : Int := (sext w v).toInt

/-- `trunc_w` of an unbounded integer (R12). -/
def truncInt (w : Width) (i : Int) : Word := trunc w (BitVec.ofInt 32 i)

/-- `v[i]`. -/
def bit (v : Word) (i : Nat) : Bool := v.getLsbD i

/-- A Bool as the number 0 or 1. -/
def ofBool (b : Bool) : Word := if b then 1 else 0

/-- The bits of `mask` set to `v`. -/
def putMask (x mask : Word) (v : Bool) : Word := if v then x ||| mask else x &&& ~~~mask

/-- 1 when the low byte has an even number of 1 bits (R47). -/
def evenParity (v : Word) : Bool :=
  !(bit v 0 ^^ bit v 1 ^^ bit v 2 ^^ bit v 3 ^^ bit v 4 ^^ bit v 5 ^^ bit v 6 ^^ bit v 7)

/-- The n low bytes of a value, least significant first (R110). -/
def leBytes : Nat → Word → List Byte
  | 0, _ => []
  | n + 1, v => v.setWidth 8 :: leBytes n (v >>> 8)

/-- The value of bytes, least significant first (R110). -/
def ofLe : List Byte → Word
  | [] => 0
  | b :: bs => b.setWidth 32 ||| (ofLe bs <<< 8)

end Sys2Proof
end

