-- ==== Sys2Proof/Machine/State.lean ====
section
/-! DEFINITION. The state of the machine as plain data: everything 10_state.md names (INVENTORY.md lists it field by field),
the memory behind the Bus, and the model's own oracle fields; the reasons a step can stop; the state after reset. -/

namespace Sys2Proof.Machine

/-- Why a step has no next state although the machine is at fault. -/
inductive Fault where
  /-- Raised by the fetch: the code segment holds prefix bytes only, so the dispatcher's loop never ends (R231, R743). Safe. -/
  | endlessPrefixes
  /-- Raised by the step itself: the state is one that the rules exclude (`State.sound`), a host-level invariant failure that has
  no step (R10, D52; log 17). Safe. -/
  | corruptState
  deriving DecidableEq, Repr

/-- Why the model gives an instruction no meaning. -/
inductive Refusal where
  /-- Raised by an arm of `exec` without a meaning yet. Safe. -/
  | notModelled (mnemonic : String)
  /-- Raised by an undefined encoding on the 8086 and 8088, which have no invalid-opcode exception (R252, D13). Safe. -/
  | undefinedEncoding8086
  /-- Raised by LEA with a register operand where `LEA_REG_UD` is false, so that it does not raise UD (R253, D47). Safe. -/
  | leaRegister
  /-- Raised by a step, an IRET or a task switch that would run with VM = 1 (R8, R491, R625, D30). Safe. -/
  | virtual8086
  deriving DecidableEq, Repr

/-- The eight general registers, stored as 32 bits on every model (R30). -/
structure Gpr where
  ax : Word
  cx : Word
  dx : Word
  bx : Word
  sp : Word
  bp : Word
  si : Word
  di : Word
  deriving DecidableEq, Repr

/-- A segment register with its shadow record (R37, R38). The record's CPL field, which only CS has, is `State.cpl`. -/
structure SegReg where
  sel      : Half
  base     : Word
  limit    : Word
  acc      : Half
  ext      : Half
  dpl      : BitVec 2
  addrDesc : Option Word     -- `none` is `ADDR_INVALID`
  deriving DecidableEq, Repr

/-- Which of the six flags the cached words represent (R48). -/
structure CachedSet where
  cf : Bool
  pf : Bool
  af : Bool
  zf : Bool
  sf : Bool
  of : Bool
  deriving DecidableEq, Repr

/-- The flag engine (R47, R48): the stored PS word and the lazily cached result. -/
structure FlagEngine where
  ps          : Word
  resultDst   : Word
  resultSrc   : Word
  resultArith : Word
  resultLogic : Word
  width       : Width
  cached      : CachedSet
  deriving DecidableEq, Repr

/-- GDTR and IDTR (R60). -/
structure TableReg where
  base  : Word
  limit : Half
  deriving DecidableEq, Repr

/-- LDTR (R61). It is invalid exactly when its selector is null. -/
structure LdtReg where
  sel   : Half
  base  : Word
  limit : Word
  deriving DecidableEq, Repr

/-- The two TSS formats (R611). -/
inductive TssKind where
  | tss286 | tss386
  deriving DecidableEq, Repr

/-- TR (R62). -/
structure TaskReg where
  sel   : Half
  base  : Word
  limit : Word
  kind  : TssKind
  deriving DecidableEq, Repr

/-- The bits of `opFlags` that are no prefix (R63). -/
structure OpFlags where
  noIntr  : Bool
  noWrite : Bool
  noRead  : Bool
  deriving DecidableEq, Repr

/-- `opPrefixes`: the prefixes of the instruction being executed (R63, R235). -/
structure Prefixes where
  seg      : Option SReg
  lock     : Bool
  repz     : Bool
  repnz    : Bool
  dataSize : Bool
  addrSize : Bool
  deriving DecidableEq, Repr

/-- No prefix. -/
def Prefixes.none : Prefixes := ⟨.none, false, false, false, false, false⟩

/-- `intFlags`: a maskable request is pending; the core is halted (R66). -/
structure IntFlags where
  intr : Bool
  halt : Bool
  deriving DecidableEq, Repr

/-- The bytes behind the Bus: RAM, the contents of ROM and what devices present, as cells at strictly rising addresses, none of them
holding what an unlisted byte reads as. -/
abbrev Memory := List Host.Cell

/-- One access to the port space (R106): the port, the number of bytes, the value. -/
inductive PortEvent where
  | read  (port : Half) (n : Nat) (v : Word)
  | write (port : Half) (n : Nat) (v : Word)
  deriving DecidableEq, Repr

/-- One operation of the Bus that reaches a device (R103): its Bus address and the bytes read or written there, the lowest address
first; their number is the width of the operation. -/
inductive BusEvent where
  | read  (a : Nat) (bs : List Byte)
  | write (a : Nat) (bs : List Byte)
  deriving DecidableEq, Repr

/-- One escape handed to an attached coprocessor (R592): the two halves of the opcode, the operand, and the bytes read from it. -/
structure CopEvent where
  n       : BitVec 3
  reg     : BitVec 3
  operand : CopOperand
  data    : List Byte
  deriving DecidableEq, Repr

/-- The state of the block, its memory and its oracles. -/
structure State where
  cfg : Params
  gpr : Gpr
  pc : Word
  opLIP : Word
  es : SegReg
  cs : SegReg
  ss : SegReg
  ds : SegReg
  fs : SegReg
  gs : SegReg
  cpl : BitVec 2
  flags : FlagEngine
  cr0 : Word
  cr2 : Word
  cr3 : Word
  dr0 : Word
  dr1 : Word
  dr2 : Word
  dr3 : Word
  dr4 : Word
  dr5 : Word
  dr6 : Word
  dr7 : Word
  gdtr : TableReg
  idtr : TableReg
  ldtr : LdtReg
  tr : TaskReg
  opFlags : OpFlags
  opPrefixes : Prefixes
  regEA : Option Word
  regEAWrite : Option Word
  nFault : Option Byte
  intFlags : IntFlags
  lastOpcode : Byte           -- the opcode byte the core publishes for a debugger (R9; log 51)
  mem : Memory
  noTrap : Bool               -- the model's own: no single-step trap after this instruction (R682, R690)
  portAnswers : List Word     -- the model's own: what the next port reads answer (R106)
  intAcks : List Byte         -- the model's own: what `IntAck` answers next (R683)
  oracleCount : Nat           -- the model's own: how many free answers were taken
  portLog : List PortEvent    -- the model's own: the port accesses made, latest first
  busLog : List BusEvent      -- the model's own: the Bus operations that reached a device, latest first (R103)
  copAnswers : List CopAnswer -- the model's own: what an attached coprocessor does next (R592)
  copLog : List CopEvent      -- the model's own: the escapes handed over, latest first
  deriving DecidableEq, Repr

/-- DS, ES, SS, FS and GS after reset (R88). -/
def SegReg.resetData : SegReg := ⟨0, 0, 0xFFFF, 0x9300, 0, 0, none⟩

/-- CS after reset (R86). -/
def SegReg.resetCode (p : Params) : SegReg := ⟨p.model.resetCs, p.resetCsBase, 0xFFFF, 0x9B00, 0, 0, none⟩

/-- PS after reset: the initial mask, no flag cached (R87). The cached words are read by no rule then. -/
def FlagEngine.reset (m : Model) : FlagEngine :=
  ⟨m.psSet, 0, 0, 0, 0, .w8, ⟨false, false, false, false, false, false⟩⟩

/-- The machine right after reset, for given parameters (R85 to R89), with empty memory and nothing listed by the oracles. -/
def State.resetFor (p : Params) : State where
  cfg := p
  gpr := ⟨0, 0, p.resetEdx, 0, 0, 0, 0, 0⟩
  pc := p.model.resetIp
  opLIP := p.resetCsBase + p.model.resetIp
  es := .resetData
  cs := .resetCode p
  ss := .resetData
  ds := .resetData
  fs := .resetData
  gs := .resetData
  cpl := 0
  flags := .reset p.model
  cr0 := p.model.cr0On
  cr2 := 0
  cr3 := 0
  dr0 := 0
  dr1 := 0
  dr2 := 0
  dr3 := 0
  dr4 := 0
  dr5 := 0
  dr6 := 0
  dr7 := 0
  gdtr := ⟨0, 0xFFFF⟩
  idtr := ⟨0, 0x03FF⟩
  ldtr := ⟨0, 0, 0⟩
  tr := ⟨0, 0, 0, .tss286⟩
  opFlags := ⟨false, false, false⟩
  opPrefixes := .none
  regEA := none
  regEAWrite := none
  nFault := none
  intFlags := ⟨false, false⟩
  lastOpcode := 0
  mem := []
  noTrap := false
  portAnswers := []
  intAcks := []
  oracleCount := 0
  portLog := []
  busLog := []
  copAnswers := []
  copLog := []

/-- The machine right after reset with the memory the platform holds behind the Bus (R724). -/
def State.resetOn (p : Params) (m : Memory) : State := { State.resetFor p with mem := m }

/-- The machine right after reset: an 80386 with every parameter at its default. -/
def State.reset : State := .resetFor (.defaults .i80386)

end Sys2Proof.Machine
end

