-- ==== Sys2Proof/Machine/Flags.lean ====
section
/-! DEFINITION. The flag engine: the formulas of R47, materialisation (R49), reading and writing PS (R53), and every way an
instruction installs flags. -/

namespace Sys2Proof.Machine

/-- The six cached flags (R46). -/
inductive Flag where
  | cf | pf | af | zf | sf | of
  deriving DecidableEq, Repr

/-- Their places in PS (R46). -/
def Flag.mask : Flag → Word
  | .cf => 0x001 | .pf => 0x004 | .af => 0x010 | .zf => 0x040 | .sf => 0x080 | .of => 0x800

def CachedSet.has (c : CachedSet) : Flag → Bool
  | .cf => c.cf | .pf => c.pf | .af => c.af | .zf => c.zf | .sf => c.sf | .of => c.of

def CachedSet.drop (c : CachedSet) : Flag → CachedSet
  | .cf => { c with cf := false } | .pf => { c with pf := false } | .af => { c with af := false }
  | .zf => { c with zf := false } | .sf => { c with sf := false } | .of => { c with of := false }

def CachedSet.empty : CachedSet := ⟨false, false, false, false, false, false⟩
def CachedSet.all : CachedSet := ⟨true, true, true, true, true, true⟩

/-- The source's `NOTCF` (R48). -/
def CachedSet.notCF : CachedSet := ⟨false, true, true, true, true, true⟩

/-- PF, ZF and SF. -/
def CachedSet.pzs : CachedSet := ⟨false, true, false, true, true, false⟩

/-- The formulas of R47 on D, S, A, L and the size bit. -/
def FlagEngine.formula (e : FlagEngine) : Flag → Bool
  | .cf => ((e.resultDst ^^^ ((e.resultDst ^^^ e.resultSrc) &&& (e.resultSrc ^^^ e.resultArith))) &&& e.width.msb) != 0
  | .pf => evenParity e.resultLogic
  | .af => ((e.resultArith ^^^ (e.resultDst ^^^ e.resultSrc)) &&& 0x10) != 0
  | .zf => (e.resultLogic &&& ((e.width.msb - 1) ||| e.width.msb)) == 0
  | .sf => (e.resultLogic &&& e.width.msb) != 0
  | .of => (((e.resultDst ^^^ e.resultArith) &&& (e.resultSrc ^^^ e.resultArith)) &&& e.width.msb) != 0

/-- The value of a flag: by its formula while cached, else its stored bit (R47). -/
def FlagEngine.flag (e : FlagEngine) (f : Flag) : Bool :=
  if e.cached.has f then e.formula f else (e.ps &&& f.mask) != 0

/-- A PS word with one flag's current value written into it (R49). -/
def FlagEngine.commit (e : FlagEngine) (f : Flag) (ps : Word) : Word := putMask ps f.mask (e.flag f)

/-- The stored PS word with every cached flag materialised (R49). -/
def FlagEngine.stored (e : FlagEngine) : Word :=
  e.commit .cf (e.commit .pf (e.commit .af (e.commit .zf (e.commit .sf (e.commit .of e.ps)))))

/-- Write one flag's value if it is cached now and will not be in the set `n`. -/
def FlagEngine.commitLost (e : FlagEngine) (n : CachedSet) (f : Flag) (ps : Word) : Word :=
  if e.cached.has f && !n.has f then e.commit f ps else ps

/-- Install a new cached result: first commit what the new set does not represent (R49). -/
def FlagEngine.install (e : FlagEngine) (n : CachedSet) (w : Width) (dst src arith logic : Word) : FlagEngine where
  ps := e.commitLost n .cf (e.commitLost n .pf (e.commitLost n .af (e.commitLost n .zf (e.commitLost n .sf
    (e.commitLost n .of e.ps)))))
  resultDst := dst
  resultSrc := src
  resultArith := arith
  resultLogic := logic
  width := w
  cached := n

/-- Set one flag explicitly: write its bit and take it out of the cached set (R49). -/
def FlagEngine.setFlag (e : FlagEngine) (f : Flag) (v : Bool) : FlagEngine :=
  { e with ps := putMask e.ps f.mask v, cached := e.cached.drop f }

/-- Set a flag explicitly from the word `v`, if it is one of `mask` (R49). -/
def FlagEngine.setFrom (v mask : Word) (f : Flag) (e : FlagEngine) : FlagEngine :=
  if (mask &&& f.mask) != 0 then e.setFlag f ((v &&& f.mask) != 0) else e

/-- Set the flags of `mask` explicitly from the word `v`; the others stay as they are, cached or stored (R49). -/
def FlagEngine.setFlags (e : FlagEngine) (v mask : Word) : FlagEngine :=
  .setFrom v mask .of <| .setFrom v mask .sf <| .setFrom v mask .zf <| .setFrom v mask .af <| .setFrom v mask .pf <|
    .setFrom v mask .cf e

/-- `setPS` (R53): the bits of `writable` from `v`, everything else kept, no flag cached afterwards. -/
def FlagEngine.setPS (e : FlagEngine) (v writable : Word) : FlagEngine :=
  { e with ps := (e.stored &&& ~~~writable) ||| (v &&& writable), cached := .empty }

/-- `getPS` (R53). -/
def State.getPS (s : State) : Word :=
  (s.flags.stored &&& (psCached ||| s.cfg.model.psDirect)) ||| s.cfg.model.psSet

/-- The value of a cached flag. -/
def State.flag (s : State) (f : Flag) : Bool := s.flags.flag f

def State.setFlag (f : Flag) (v : Bool) (s : State) : State := { s with flags := s.flags.setFlag f v }

def State.setPS (v writable : Word) (s : State) : State := { s with flags := s.flags.setPS v writable }

/-- Everything PS can hold on this model (R53). -/
def State.psWritable (s : State) : Word := psCached ||| s.cfg.model.psDirect

/-! ### The direct flags (R46, R54) -/

def psTF : Word := 0x00100
def psIF : Word := 0x00200
def psDF : Word := 0x00400
def psIOPL : Word := 0x03000
def psNT : Word := 0x04000
def psRF : Word := 0x10000
def psVM : Word := 0x20000

/-- A direct flag of PS. -/
def State.direct (s : State) (mask : Word) : Bool := (s.flags.ps &&& mask) != 0

def State.setDirect (mask : Word) (v : Bool) (s : State) : State :=
  { s with flags := { s.flags with ps := putMask s.flags.ps mask v } }

/-- IOPL, bits 13:12 (R46). -/
def State.iopl (s : State) : BitVec 2 := s.getPS.extractLsb 13 12

/-! ### Flag updates of the instruction classes -/

/-- Addition: D and S before, A = L the sum (R47). -/
def State.flagsAdd (w : Width) (d c a : Word) (s : State) : State :=
  { s with flags := s.flags.install .all w d c a a }

/-- Subtraction: the roles of D and A exchanged (R50). -/
def State.flagsSub (w : Width) (d c a : Word) (s : State) : State :=
  { s with flags := s.flags.install .all w a c d a }

/-- INC: as an addition of 1, CF kept (R48). -/
def State.flagsInc (w : Width) (d a : Word) (s : State) : State :=
  { s with flags := s.flags.install .notCF w d 1 a a }

/-- DEC: as a subtraction of 1, CF kept (R48, R50). -/
def State.flagsDec (w : Width) (d a : Word) (s : State) : State :=
  { s with flags := s.flags.install .notCF w a 1 d a }

/-- PF, ZF and SF from a result, the other three kept (R374, R414). DESIGN CHOICE (log 49): the three are cached, and resultDst,
resultSrc and resultArith are 0. -/
def State.flagsPZS (w : Width) (a : Word) (s : State) : State :=
  { s with flags := s.flags.install .pzs w 0 0 0 a }

/-- The flags of `mask` that the architecture leaves undefined after an operation: with `UNDEF_FLAGS` at the block's default they
keep what was just computed, else they are the free value of the operation, its width, PS as it was before and all its operands
(R381, section 4 of 93; log 3). DESIGN CHOICE (log 49): a free flag is written to the stored PS word and leaves the cached set, also
the AF that R405 names in the set; every other flag stays in the set of R405, R414 and R419. -/
def State.undefine (site : UndefSite) (w : Width) (mask old : Word) (ops : List Word) (s : State) : State :=
  match s.cfg.undef with
  | .blockDefault => s
  | .anyValue => { s with flags := s.flags.setFlags (Config.undefFlags site w old ops) mask }

/-- A result the architecture leaves undefined (R420, R421, R427): the block's default, or the free value. -/
def State.undefValue (s : State) (site : UndefSite) (w : Width) (dflt : Word) (ops : List Word) : Word :=
  match s.cfg.undef with
  | .blockDefault => dflt
  | .anyValue => Config.undefResult site w s.getPS ops

end Sys2Proof.Machine
end

