-- ==== Sys2Proof/Machine/Memory.lean ====
section
/-! DEFINITION. Memory as a canonical list of cells: one byte is read and written here, every wider access is made of these
(20_memory.md R103, R110). -/

namespace Sys2Proof.Machine

/-- What a byte that nothing has written reads as. DESIGN CHOICE: the spec leaves it to the platform (R724); log 1. -/
def Memory.unlisted : Byte := 0

/-- The byte at an address. -/
def Memory.read : Memory → Nat → Byte
  | [], _ => Memory.unlisted
  | (k, v) :: r, a => if a = k then v else if a < k then Memory.unlisted else Memory.read r a

/-- Write one byte; a cell that would hold the unlisted value is not kept. -/
def Memory.write : Memory → Nat → Byte → Memory
  | [], a, v => if v = Memory.unlisted then [] else [(a, v)]
  | (k, x) :: r, a, v =>
    if a = k then (if v = Memory.unlisted then r else (k, v) :: r)
    else if a < k then (if v = Memory.unlisted then (k, x) :: r else (a, v) :: (k, x) :: r)
    else (k, x) :: Memory.write r a v

/-- The canonical form from an address on: strictly rising addresses, no cell with the unlisted value. -/
def Memory.wfFrom : Nat → Memory → Bool
  | _, [] => true
  | lo, (k, v) :: r => decide (lo ≤ k) && decide (v ≠ Memory.unlisted) && Memory.wfFrom (k + 1) r

/-- The canonical form. -/
def Memory.wf (m : Memory) : Bool := Memory.wfFrom 0 m

end Sys2Proof.Machine
end

