-- ==== Sys2Proof/Machine/Ops.lean ====
section
/-! DEFINITION. The operations every meaning is made of: registers, the Bus, paging, segment access, the stack, the descriptor
loader, the task switch, delivery of interrupts and exceptions, taking an exception (`raiseExn`) and the return from one
(`iretTo`). -/

namespace Sys2Proof.Machine

/-! ### The three ways an operation ends -/

/-- The fault-class exceptions with their error codes (R651). -/
inductive Exn where
  | de | br | ud | nm | mf
  | ts (e : Half)
  | np (e : Half)
  | ss (e : Half)
  | gp (e : Half)
  | pg (e : Half)
  deriving DecidableEq, Repr

/-- The vector of an exception (R651). -/
def Exn.vector : Exn → Byte
  | .de => 0x00 | .br => 0x05 | .ud => 0x06 | .nm => 0x07 | .mf => 0x10
  | .ts _ => 0x0A | .np _ => 0x0B | .ss _ => 0x0C | .gp _ => 0x0D | .pg _ => 0x0E

/-- The error code, where the vector carries one (R653). -/
def Exn.code : Exn → Option Half
  | .de | .br | .ud | .nm | .mf => none
  | .ts e | .np e | .ss e | .gp e | .pg e => some e

/-- Why an operation does not go on: an exception to take, or a stop of the model. -/
inductive Stop where
  | exn (x : Exn)
  | fault (f : Fault)
  | refused (r : Refusal)
  deriving DecidableEq, Repr

/-- Operations on the state that may stop; the state at the stop is kept (R668). -/
abbrev M := EStateM Stop State

def State.setNoReadWrite (s : State) : State := { s with opFlags := { s.opFlags with noRead := true, noWrite := true } }

/-- Ask for an exception. NOREAD and NOWRITE are set, and cleared before the handler is dispatched (R669). -/
def raise {α : Type} (x : Exn) : M α := fun s => .error (.exn x) s.setNoReadWrite

def refuse {α : Type} (r : Refusal) : M α := throw (.refused r)

/-- Go on only if a test holds. -/
def ensure (ok : Bool) (x : Exn) : M Unit := if ok then pure () else raise x

/-- An operation performed only if a test holds. -/
def whenM (c : Bool) (m : M Unit) : M Unit := if c then m else pure ()

/-- The value of a state. -/
def read {α : Type} (f : State → α) : M α := do return f (← get)

/-! ### Modes and registers -/

/-- Protected mode (R140). -/
def State.protectedMode (s : State) : Bool := s.cfg.model.has286 && bit s.cr0 0

/-- Paging enabled (R200). -/
def State.pagingOn (s : State) : Bool := s.cfg.model.has386 && bit s.cr0 31

/-- An ordinary access is user-level at CPL 3 (R206). -/
def State.user (s : State) : Bool := s.cpl == 3

def Gpr.get (g : Gpr) : Reg → Word
  | .ax => g.ax | .cx => g.cx | .dx => g.dx | .bx => g.bx | .sp => g.sp | .bp => g.bp | .si => g.si | .di => g.di

def Gpr.set (g : Gpr) (r : Reg) (v : Word) : Gpr :=
  match r with
  | .ax => { g with ax := v } | .cx => { g with cx := v } | .dx => { g with dx := v } | .bx => { g with bx := v }
  | .sp => { g with sp := v } | .bp => { g with bp := v } | .si => { g with si := v } | .di => { g with di := v }

/-- Replace the bits of a width, keep the rest (R32, R33). -/
def merge (w : Width) (old v : Word) : Word := (old &&& ~~~w.mask) ||| (v &&& w.mask)

/-- A general register at a width (R31, R32). -/
def State.reg (s : State) (w : Width) (r : Reg) : Word := trunc w (s.gpr.get r)

/-- Write a general register at a width (R32). -/
def State.setReg (w : Width) (r : Reg) (v : Word) (s : State) : State :=
  { s with gpr := s.gpr.set r (merge w (s.gpr.get r) v) }

/-- The register a byte register is part of (R33). -/
def home8 : Reg8 → Reg
  | .al | .ah => .ax | .cl | .ch => .cx | .dl | .dh => .dx | .bl | .bh => .bx

/-- Whether a byte register is a high byte (R33). -/
def high8 : Reg8 → Bool
  | .al | .cl | .dl | .bl => false
  | .ah | .ch | .dh | .bh => true

/-- A byte register (R33). -/
def State.reg8 (s : State) (r : Reg8) : Word :=
  trunc .w8 (if high8 r then s.gpr.get (home8 r) >>> 8 else s.gpr.get (home8 r))

/-- Replace one byte of a word, keep the rest (R33). -/
def mergeByte (high : Bool) (old v : Word) : Word :=
  if high then (old &&& ~~~0xFF00#32) ||| ((v &&& 0xFF) <<< 8) else merge .w8 old v

/-- Write a byte register: exactly those eight bits (R33). -/
def State.setReg8 (r : Reg8) (v : Word) (s : State) : State :=
  { s with gpr := s.gpr.set (home8 r) (mergeByte (high8 r) (s.gpr.get (home8 r)) v) }

def State.seg (s : State) : SReg → SegReg
  | .es => s.es | .cs => s.cs | .ss => s.ss | .ds => s.ds | .fs => s.fs | .gs => s.gs

def State.setSeg (r : SReg) (v : SegReg) (s : State) : State :=
  match r with
  | .es => { s with es := v } | .cs => { s with cs := v } | .ss => { s with ss := v }
  | .ds => { s with ds := v } | .fs => { s with fs := v } | .gs => { s with gs := v }

/-- The D bit of the code segment (R238, D55). -/
def State.code32 (s : State) : Bool := s.cfg.model.has386 && s.cs.ext.getLsbD 6

/-- Operand size 32 (R238). -/
def State.op32 (s : State) : Bool := s.cfg.model.has386 && (s.cs.ext.getLsbD 6 ^^ s.opPrefixes.dataSize)

/-- Address size 32 (R238). -/
def State.ad32 (s : State) : Bool := s.cfg.model.has386 && (s.cs.ext.getLsbD 6 ^^ s.opPrefixes.addrSize)

/-- `opsize` as a width. -/
def State.opW (s : State) : Width := if s.op32 then .w32 else .w16

/-- `adsize` as a width. -/
def State.adW (s : State) : Width := if s.ad32 then .w32 else .w16

/-- What the decoder needs of the state. -/
def State.ctx (s : State) : DecCtx := ⟨s.cfg.model, s.op32, s.ad32⟩

def State.setPc (v : Word) (s : State) : State := { s with pc := v }

def State.setOpLIP (v : Word) (s : State) : State := { s with opLIP := v }

def State.setCr0 (v : Word) (s : State) : State := { s with cr0 := v }

def State.setCr2 (v : Word) (s : State) : State := { s with cr2 := v }

def State.setCr3 (v : Word) (s : State) : State := { s with cr3 := v }

def State.setGdtr (v : TableReg) (s : State) : State := { s with gdtr := v }

def State.setIdtr (v : TableReg) (s : State) : State := { s with idtr := v }

def State.setLdtr (v : LdtReg) (s : State) : State := { s with ldtr := v }

def State.setTr (v : TaskReg) (s : State) : State := { s with tr := v }

def State.setNFault (v : Option Byte) (s : State) : State := { s with nFault := v }

def State.setNoTrap (v : Bool) (s : State) : State := { s with noTrap := v }
def State.setLastOpcode (v : Byte) (s : State) : State := { s with lastOpcode := v }

def State.setHalt (v : Bool) (s : State) : State := { s with intFlags := { s.intFlags with halt := v } }

def State.setNoWrite (v : Bool) (s : State) : State := { s with opFlags := { s.opFlags with noWrite := v } }

def State.setNoIntr (v : Bool) (s : State) : State := { s with opFlags := { s.opFlags with noIntr := v } }

/-- Truncate an instruction pointer to the code segment's width (R41, R43). -/
def State.truncPc (s : State) (v : Word) : Word := if s.code32 then v else v &&& 0xFFFF

/-- Go on at a new offset of the code segment: in a 16-bit code segment bits 31:16 are 0, whatever the operand size (R41, D8;
log 10). -/
def State.jumpTo (v : Word) (s : State) : State := s.setPc (s.truncPc v)

/-! ### The Bus and the page walk (20_memory.md, 22_paging.md) -/

/-- The address the Bus sees: the low `PA_BITS` bits (R102). -/
def busAddr (m : Model) (a : Nat) : Nat := a % 2 ^ m.paBits

/-- What stands behind the Bus at an address: the platform's argument (R103, section 1 of 93). DESIGN CHOICE (log 1): where the map
names no region, RAM that keeps what is written. -/
def State.busKind (s : State) (a : Nat) : BusKind := busKindAt s.cfg.busMap (busAddr s.cfg.model a)

/-- What a byte of the Bus reads as (R103): in a hole the value the platform gives it, else the contents; a device presents its
bytes there (log 42). -/
def State.busByte (s : State) (a : Nat) : Byte :=
  match s.busKind a with
  | .hole v => v
  | .ram | .rom | .device => s.mem.read (busAddr s.cfg.model a)

/-- What one byte written to the Bus does to memory (R103): RAM keeps it, ROM and a hole lose it, a device's cells stay (log 42). That
RAM is what the map does not name is the model's choice (log 1). -/
def State.setBusByte (a : Nat) (v : Byte) (s : State) : State :=
  match s.busKind a with
  | .ram => { s with mem := s.mem.write (busAddr s.cfg.model a) v }
  | .rom | .hole _ | .device => s

/-- The value at a list of byte addresses, the first least significant (R110). -/
def State.busRead (s : State) (as : List Nat) : Word := ofLe (as.map s.busByte)

/-- Memory after bytes are written to a list of addresses, in order. -/
def State.busWrite : List Nat → List Byte → State → State
  | a :: as, b :: bs, s => State.busWrite as bs (s.setBusByte a b)
  | _, _, s => s

/-- The operations on the Bus that one access is made of, each with the addresses of its bytes (R103). -/
abbrev BusOps := List (List Nat)

/-- One operation for each byte (R104). -/
def byteOps (as : List Nat) : BusOps := as.map fun a => [a]

/-- One operation of one, two or four bytes; the models without `HAS_386`, which use no dword operation, make two words of four bytes
(R103, R113; log 42). -/
def busOps (m : Model) (as : List Nat) : BusOps :=
  match as with
  | [_] | [_, _] => [as]
  | [a, b, c, d] => if m.has386 then [as] else [[a, b], [c, d]]
  | _ => byteOps as

/-- An operation reaches a device: a device stands behind one of its bytes. -/
def State.reachesDevice (s : State) (as : List Nat) : Bool := as.any fun a => s.busKind a == .device

/-- Bus operations that reached a device, in order. -/
def State.logBus (es : List BusEvent) (s : State) : State := { s with busLog := es.reverse ++ s.busLog }

/-- What devices see of read operations: each with its width (R103; log 42). -/
def State.readEvents (s : State) (ops : BusOps) : List BusEvent :=
  (ops.filter s.reachesDevice).map fun as => .read (busAddr s.cfg.model (as.headD 0)) (as.map s.busByte)

/-- What devices see of write operations. -/
def State.writeEvents (s : State) : BusOps → List Byte → List BusEvent
  | [], _ => []
  | as :: r, bs =>
    (if s.reachesDevice as then [.write (busAddr s.cfg.model (as.headD 0)) (bs.take as.length)] else []) ++
      s.writeEvents r (bs.drop as.length)

/-- `BusRead` (R103): the bytes, and devices see the operations. -/
def busFetch (ops : BusOps) : M (List Byte) := do
  let s ← get
  modify (State.logBus (s.readEvents ops))
  return ops.flatten.map s.busByte

/-- `BusWrite` (R103): memory takes the bytes, and devices see the operations. -/
def State.busStore (ops : BusOps) (bs : List Byte) (s : State) : State :=
  (s.busWrite ops.flatten bs).logBus (s.writeEvents ops bs)

/-- The n addresses from `a` on. -/
def addrs (a : Nat) : Nat → List Nat
  | 0 => []
  | n + 1 => a :: addrs (a + 1) n

/-- `PageFault` (R204). -/
def pageFault {α : Type} (la : Word) (present wr user : Bool) : M α := do
  modify (State.setCr2 la)
  raise (.pg ((if present then 1 else 0) ||| (if wr then 2 else 0) ||| (if user then 4 else 0)))

/-- The address of the directory entry of a linear address (R203). -/
def State.pdeAddr (s : State) (la : Word) : Word := (s.cr3 &&& 0xFFFFF000#32) + (la >>> 22) * 4

/-- The address of its page-table entry (R203). -/
def pteAddr (pde la : Word) : Word := (pde &&& 0xFFFFF000#32) + ((la >>> 12) &&& 0x3FF#32) * 4

/-- `Translate` (R203). -/
def translate (la : Word) (wr user : Bool) : M Word := do
  let s ← get
  let pdeA := s.pdeAddr la
  let pde := ofLe (← busFetch [addrs pdeA.toNat 4])
  if !bit pde 0 then pageFault la false wr user else
    let pteA := pteAddr pde la
    let pte := ofLe (← busFetch [addrs pteA.toNat 4])
    if !bit pte 0 then pageFault la false wr user
    else if user && (!bit pde 2 || !bit pte 2) then pageFault la true wr user
    else if user && wr && (!bit pde 1 || !bit pte 1) then pageFault la true wr user
    else do
      modify fun s => if bit pde 5 then s else s.busStore [addrs pdeA.toNat 4] (leBytes 4 (pde ||| 0x20))
      let new := pte ||| 0x20 ||| (if wr then 0x40 else 0)
      modify fun s => if new == pte then s else s.busStore [addrs pteA.toNat 4] (leBytes 4 new)
      return (pte &&& 0xFFFFF000) + (la &&& 0xFFF)

/-- The physical addresses of n bytes from `la` on that cross a page: every byte is translated (R104). -/
def translateEach (la : Word) (wr user : Bool) : Nat → M (List Nat)
  | 0 => pure []
  | n + 1 => do
    let pa ← translate la wr user
    let rest ← translateEach (la + 1) wr user n
    return pa.toNat :: rest

/-- The Bus operations of an access of n bytes at a linear address: one, or one for each byte where it crosses a page (R102,
R104). -/
def physOf (la : Word) (n : Nat) (wr user : Bool) : M BusOps := do
  let s ← get
  if !s.pagingOn then return busOps s.cfg.model (addrs la.toNat n)
  else if (la &&& 0xFFF).toNat + n > 0x1000 then return byteOps (← translateEach la wr user n)
  else do
    let pa ← translate la wr user
    return busOps s.cfg.model (addrs pa.toNat n)

/-- `MemRead` (R104). -/
def memRead (la : Word) (n : Nat) (user : Bool) : M Word := do
  let ops ← physOf la n false user
  return ofLe (← busFetch ops)

/-- `MemWrite` (R104): every byte is translated before the first is written. -/
def memWrite (la : Word) (n : Nat) (v : Word) (user : Bool) : M Unit := do
  let ops ← physOf la n true user
  modify (State.busStore ops (leBytes n v))

/-- A system read: supervisor, no segment (R177, R206). -/
def sysRead (la : Word) (n : Nat) : M Word := memRead la n false

/-- A system write. -/
def sysWrite (la : Word) (n : Nat) (v : Word) : M Unit := memWrite la n v false

/-! ### Segment access (21_segmentation.md section 4) -/

inductive Access where
  | read | write | execute
  deriving DecidableEq, Repr

/-- A segment as an access sees it: its record, whether a refusal is SS(0) or GP(0) (R175), whether its record can be invalid
(R171), and the privilege of the access (R206). -/
structure View where
  record   : SegReg
  isStack  : Bool
  nullable : Bool
  user     : Bool

/-- A segment register as an access sees it. -/
def State.view (s : State) (r : SReg) : View where
  record := s.seg r
  isStack := r == .ss
  nullable := r != .ss && r != .cs
  user := s.user

/-- The exception of a refused access (R175). -/
def View.exn (v : View) : Exn := if v.isStack then .ss 0 else .gp 0

/-- The record describes a code segment (R145). -/
def SegReg.isCode (r : SegReg) : Bool := r.acc.getLsbD 11

/-- Expand-down: data with E = 1 (R172, R173). -/
def SegReg.expandDown (r : SegReg) : Bool := !r.isCode && r.acc.getLsbD 10

/-- The limit test for n bytes at an offset: in protected mode by the direction of the segment (R172, R173), in real mode always
that of R172 (R142). -/
def SegReg.inLimit (r : SegReg) (prot : Bool) (off n : Nat) : Bool :=
  if prot && r.expandDown then
    decide (off > r.limit.toNat) && decide (off + n ≤ (if r.ext.getLsbD 6 then 0xFFFFFFFF else 0xFFFF) + 1)
  else decide (off + n ≤ r.limit.toNat + 1)

/-- The rights test (R174). -/
def SegReg.rights (r : SegReg) : Access → Bool
  | .read => !r.isCode || r.acc.getLsbD 9
  | .write => !r.isCode && r.acc.getLsbD 9
  | .execute => true

/-- `SegCheck` as a test (R170). -/
def View.allows (v : View) (m : Model) (prot : Bool) (off n : Nat) (k : Access) : Bool :=
  m.class8086 ||
    ((!prot || (!(v.nullable && v.record.acc == 0) && v.record.rights k)) && v.record.inLimit prot off n)

/-- `SegCheck` (R170). -/
def View.check (v : View) (off n : Nat) (k : Access) : M Unit := do
  let s ← get
  ensure (v.allows s.cfg.model s.protectedMode off n k) v.exn

/-- The linear address of an offset (R101). -/
def SegReg.linear (r : SegReg) (off : Nat) : Word := r.base + BitVec.ofNat 32 off

/-- The addresses of n bytes on the 8086 class: the offset wraps byte by byte (R114). -/
def SegReg.wrapAddrs (r : SegReg) (off : Nat) : Nat → List Nat
  | 0 => []
  | n + 1 => (r.linear (off % 0x10000)).toNat :: r.wrapAddrs (off + 1) n

/-- The Bus operations of n bytes at an offset on the 8086 class: one, or one for each byte where the offset wraps (R114; log 42). -/
def SegReg.wrapOps (r : SegReg) (m : Model) (off n : Nat) : BusOps :=
  if off % 0x10000 + n ≤ 0x10000 then busOps m (r.wrapAddrs off n) else byteOps (r.wrapAddrs off n)

/-- The Bus operations of an access that passed its segment check. -/
def View.phys (v : View) (off n : Nat) (wr : Bool) : M BusOps := do
  let s ← get
  if s.cfg.model.class8086 then return v.record.wrapOps s.cfg.model off n
  else physOf (v.record.linear off) n wr v.user

/-- The bytes of a read through a segment. -/
def View.readBytes (v : View) (off n : Nat) (k : Access) : M (List Byte) := do
  v.check off n k
  let ops ← v.phys off n false
  busFetch ops

/-- Bytes written through a segment. -/
def View.writeBytes (v : View) (off : Nat) (bs : List Byte) : M Unit := do
  v.check off bs.length .write
  let ops ← v.phys off bs.length true
  modify (State.busStore ops bs)

/-- A read through a segment. -/
def View.read (v : View) (off n : Nat) (k : Access := .read) : M Word := do
  return ofLe (← v.readBytes off n k)

/-- A write through a segment. -/
def View.write (v : View) (off n : Nat) (x : Word) : M Unit := v.writeBytes off (leBytes n x)

/-- The write permission of a destination: segment and page (R290, R530). DESIGN CHOICE (log 13): the test of the page is a full
`Translate` for writing, so that it sets ACCESSED and DIRTY (R203) even where no write follows. -/
def View.probe (v : View) (off n : Nat) : M Unit := do
  v.check off n .write
  let _ ← v.phys off n true
  pure ()

/-- The write permission of a read-modify-write destination, tested before it is read (R290, D56): segment and page, in protected mode
(log 13, 14). -/
def View.checkWrite (v : View) (off n : Nat) : M Unit := do
  let s ← get
  whenM s.protectedMode (v.probe off n)

/-- `SegRead` (R170). -/
def segRead (r : SReg) (off n : Nat) : M Word := do
  (← Machine.read (·.view r)).read off n

/-- `SegWrite` (R170). -/
def segWrite (r : SReg) (off n : Nat) (x : Word) : M Unit := do
  (← Machine.read (·.view r)).write off n x

/-! ### The stack (R317 to R319) -/

/-- A stack with a local stack pointer (R318). -/
structure Stack where
  view : View
  w    : Width
  sp   : Word

/-- The width of a stack pointer, from the BIG bit of the record (R317). -/
def stackWidth (m : Model) (r : SegReg) : Width := if m.has386 && r.ext.getLsbD 6 then .w32 else .w16

/-- The current stack. -/
def State.stack (s : State) : Stack :=
  let w := stackWidth s.cfg.model s.ss
  ⟨s.view .ss, w, s.reg w .sp⟩

/-- `Push_w` on the local pointer (R318). -/
def Stack.push (k : Stack) (w : Width) (v : Word) : M Stack := do
  let new := trunc k.w (k.sp - BitVec.ofNat 32 w.bytes)
  k.view.write new.toNat w.bytes (trunc w v)
  return { k with sp := new }

/-- Push several values, the first first. -/
def Stack.pushAll (k : Stack) (w : Width) : List Word → M Stack
  | [] => pure k
  | v :: vs => do (← k.push w v).pushAll w vs

/-- The stack offset k bytes above the local pointer (R319, log 11). -/
def Stack.at (k : Stack) (n : Nat) : Word := trunc k.w (k.sp + BitVec.ofNat 32 n)

/-- Read n bytes of the stack at k bytes above the local pointer. -/
def Stack.peek (k : Stack) (at_ n : Nat) : M Word := k.view.read (k.at at_).toNat n

/-- The local pointer moved up. -/
def Stack.drop (k : Stack) (n : Nat) : Stack := { k with sp := k.at n }

/-- Commit the local pointer (R318). -/
def Stack.commit (k : Stack) : M Unit := modify (State.setReg k.w .sp k.sp)

/-- `Push_w` (R318). -/
def push (w : Width) (v : Word) : M Unit := do
  (← (← Machine.read (·.stack)).push w v).commit

/-- `Pop_w` (R319). -/
def pop (w : Width) : M Word := do
  let k ← Machine.read (·.stack)
  let v ← k.peek 0 w.bytes
  (k.drop w.bytes).commit
  return v

/-! ### Selectors and descriptors (21_segmentation.md sections 2 and 3) -/

/-- Null: index 0 in the GDT (R151). -/
def selNull (sel : Half) : Bool := sel &&& 0xFFFC == 0

/-- The table indicator: the LDT (R40). -/
def selTI (sel : Half) : Bool := sel.getLsbD 2

/-- The requested privilege level (R40). -/
def selRPL (sel : Half) : BitVec 2 := sel.extractLsb 1 0

/-- The error code of a fault about a selector (R163). -/
def selErr (ext sel : Half) : Half := (sel &&& 0xFFFC) ||| ext

/-- A descriptor: its address and its four words (R143). -/
structure Desc where
  addr : Word
  w0   : Half
  w1   : Half
  w2   : Half
  w3   : Half

def Desc.isSegment (d : Desc) : Bool := d.w2.getLsbD 12
def Desc.type (d : Desc) : Nat := (d.w2.extractLsb 11 8).toNat
def Desc.dpl (d : Desc) : BitVec 2 := d.w2.extractLsb 14 13
def Desc.present (d : Desc) : Bool := d.w2.getLsbD 15
def Desc.isCode (d : Desc) : Bool := d.w2.getLsbD 11
def Desc.conforming (d : Desc) : Bool := d.w2.getLsbD 10

/-- R of code, W of data (R145). -/
def Desc.rw (d : Desc) : Bool := d.w2.getLsbD 9

/-- The base of a segment, LDT or TSS descriptor (R147). -/
def Desc.base (d : Desc) : Word :=
  d.w1.setWidth 32 ||| ((d.w2.setWidth 32 &&& 0xFF) <<< 16) ||| ((d.w3.setWidth 32 &&& 0xFF00) <<< 16)

/-- Its limit, scaled by G (R147). -/
def Desc.limit (d : Desc) : Word :=
  let l := d.w0.setWidth 32 ||| ((d.w3.setWidth 32 &&& 0xF) <<< 16)
  if d.w3.getLsbD 7 then (l <<< 12) ||| 0xFFF else l

/-- The target offset of a gate of a width (R148). -/
def Desc.gateOffset (d : Desc) (w : Width) : Word :=
  match w with
  | .w32 => d.w0.setWidth 32 ||| (d.w3.setWidth 32 <<< 16)
  | _ => d.w0.setWidth 32

/-- The four words at an address (R149). -/
def readDesc (a : Word) : M Desc := do
  let w0 ← sysRead a 2
  let w1 ← sysRead (a + 2) 2
  let w2 ← sysRead (a + 4) 2
  let has ← read (·.cfg.model.has386)
  let w3 ← (if has then sysRead (a + 6) 2 else pure 0 : M Word)
  return ⟨a, w0.setWidth 16, w1.setWidth 16, w2.setWidth 16, w3.setWidth 16⟩

/-- Base and limit of the table a selector refers to. -/
def State.table (s : State) (sel : Half) : Word × Nat :=
  if selTI sel then (s.ldtr.base, s.ldtr.limit.toNat) else (s.gdtr.base, s.gdtr.limit.toNat)

/-- The address of the descriptor a selector names (R149). -/
def State.descAddr (s : State) (sel : Half) : Word := (s.table sel).1 + (sel &&& 0xFFF8).setWidth 32

/-- `FetchDesc` (R149): none when the selector is beyond the table's limit. -/
def fetchDesc (sel : Half) : M (Option Desc) := do
  let s ← get
  if (sel &&& 0xFFF8).toNat + 7 > (s.table sel).2 then return none
  else do
    let d ← readDesc (s.descAddr sel)
    return some d

/-- Why a selector load is refused. -/
inductive SelFault where
  | null | limit | type | privilege | notPresent
  deriving DecidableEq, Repr

/-- GP(0) for null, NP(sel) for not present, GP(sel) else. -/
def SelFault.gpNp (ext sel : Half) : SelFault → Exn
  | .null => .gp 0
  | .notPresent => .np (selErr ext sel)
  | .limit | .type | .privilege => .gp (selErr ext sel)

/-- The vectors of a failed SS load in the two styles (R154, D39). -/
def SelFault.ssLoad (style : LoadFaultStyle) (ext sel : Half) : SelFault → Exn
  | .null => .gp 0
  | .limit | .type => .gp (selErr ext sel)
  | .privilege => match style with | .source => .ss (selErr ext sel) | .intel => .gp (selErr ext sel)
  | .notPresent => match style with | .source => .np (selErr ext sel) | .intel => .ss (selErr ext sel)

/-- A test's result, or the exception its failure stands for. -/
def orRaise {α : Type} (x : SelFault → Exn) : Except SelFault α → M α
  | .ok a => pure a
  | .error f => raise (x f)

/-- Fetch the descriptor of a non-null selector and apply a rule to it. -/
def testSel {α : Type} (sel : Half) (rule : Desc → Except SelFault α) : M (Except SelFault (Desc × α)) := do
  if selNull sel then return .error .null
  else match ← fetchDesc sel with
    | none => return .error .limit
    | some d => return (rule d).map fun a => (d, a)

/-- The CS rule of a direct far JMP or CALL (R152): the new CPL. -/
def ruleCsDirect (cpl : BitVec 2) (sel : Half) (d : Desc) : Except SelFault (BitVec 2) :=
  if !(d.isSegment && d.isCode) then .error .type
  else if !d.present then .error .notPresent
  else if d.conforming then (if d.dpl ≤ cpl then .ok cpl else .error .privilege)
  else if d.dpl == cpl && selRPL sel == cpl then .ok d.dpl
  else .error .privilege

/-- The CS rule of a gate's target (R153). -/
def ruleCsGate (cpl : BitVec 2) (isCall : Bool) (d : Desc) : Except SelFault (BitVec 2) :=
  if !(d.isSegment && d.isCode) then .error .type
  else if cpl < d.dpl then .error .privilege
  else if !d.present then .error .notPresent
  else if !d.conforming && d.dpl < cpl then (if isCall then .ok d.dpl else .error .privilege)
  else .ok cpl

/-- The CS rule of far RET and IRET (R153). -/
def ruleCsReturn (cpl : BitVec 2) (sel : Half) (d : Desc) : Except SelFault (BitVec 2) :=
  if !(d.isSegment && d.isCode) then .error .type
  else if selRPL sel < cpl then .error .privilege
  else if !d.conforming && d.dpl != selRPL sel then .error .privilege
  else if d.conforming && selRPL sel < d.dpl then .error .privilege
  else if !d.present then .error .notPresent
  else .ok (selRPL sel)

/-- The SS rule at a level (R154). -/
def ruleSs (lvl : BitVec 2) (sel : Half) (d : Desc) : Except SelFault Unit :=
  if !d.isSegment || d.isCode || !d.rw then .error .type
  else if !(d.dpl == lvl && selRPL sel == lvl) then .error .privilege
  else if !d.present then .error .notPresent
  else .ok ()

/-- The rule of DS, ES, FS and GS (R155). -/
def ruleData (cpl : BitVec 2) (sel : Half) (d : Desc) : Except SelFault Unit :=
  if !d.isSegment || (d.isCode && !d.rw) then .error .type
  else if !(d.isCode && d.conforming) && (d.dpl < cpl || d.dpl < selRPL sel) then .error .privilege
  else if !d.present then .error .notPresent
  else .ok ()

/-- The shadow record of a loaded descriptor (R159). -/
def Desc.record (d : Desc) (sel : Half) : SegReg := ⟨sel, d.base, d.limit, d.w2 ||| 0x0100, d.w3, d.dpl, some d.addr⟩

/-- Write the accessed bit back, if it is clear (R160). -/
def markAccessed (d : Desc) : M Unit :=
  whenM (!d.w2.getLsbD 8) (sysWrite (d.addr + 4) 2 ((d.w2 ||| 0x0100).setWidth 32))

/-- Phase (c) of a transfer that loads SS and CS: their accessed bits (R160, R468). DESIGN CHOICE (log 45): that of SS is written
first. -/
def markStackAndCode (ss cs : Desc) : M Unit := do
  markAccessed ss
  markAccessed cs

/-- An invalid record that keeps its selector (R151); its DPL is that of the access word 0 (R38), EXT stays (log 39). -/
def SegReg.invalid (r : SegReg) (sel : Half) : SegReg :=
  { r with sel := sel, acc := 0, base := 0, limit := 0, dpl := 0, addrDesc := none }

/-- A real-mode load (R141). -/
def SegReg.realLoad (r : SegReg) (sel : Half) : SegReg :=
  { r with sel := sel, base := sel.setWidth 32 <<< 4, addrDesc := none }

/-- The real-mode load of a register; of CS, CPL becomes 0 too (R141). -/
def State.realLoad (r : SReg) (sel : Half) (s : State) : State :=
  let s := s.setSeg r ((s.seg r).realLoad sel)
  if r = .cs then { s with cpl := 0 } else s

/-- Load SS in protected mode (R154). -/
def loadSs (sel : Half) : M Unit := do
  let s ← get
  let (d, _) ← orRaise (SelFault.ssLoad s.cfg.loadFaults 0 sel) (← testSel sel (ruleSs s.cpl sel))
  markAccessed d
  modify (State.setSeg .ss (d.record sel))

/-- Load DS, ES, FS or GS in protected mode (R151, R155). -/
def loadData (r : SReg) (sel : Half) : M Unit := do
  let s ← get
  if selNull sel then modify (State.setSeg r ((s.seg r).invalid sel))
  else do
    let (d, _) ← orRaise (SelFault.gpNp 0 sel) (← testSel sel (ruleData s.cpl sel))
    markAccessed d
    modify (State.setSeg r (d.record sel))

/-- `LoadSeg` for the kinds SS and DATA, and for POP CS in real mode (R150). -/
def loadSeg (r : SReg) (sel : Half) : M Unit := do
  let s ← get
  if !s.protectedMode then modify (State.realLoad r sel)
  else if r = .ss then loadSs sel
  else loadData r sel

/-- A code segment that passed its tests and waits for its commit (R468). -/
structure NewCode where
  sel  : Half
  desc : Desc
  cpl  : BitVec 2

/-- The CS record and CPL of a new code segment; CPL stands in the RPL bits of CS (R152). -/
def NewCode.commit (n : NewCode) (s : State) : State :=
  { s with cs := n.desc.record ((n.sel &&& 0xFFFC) ||| n.cpl.setWidth 16), cpl := n.cpl }

/-- Test a code selector by a rule (R152, R153); nothing is written. -/
def testCode (ext sel : Half) (rule : Desc → Except SelFault (BitVec 2)) : M NewCode := do
  let (d, c) ← orRaise (SelFault.gpNp ext sel) (← testSel sel rule)
  return ⟨sel, d, c⟩

/-- The LDT load (R156); its failures are left to the caller. -/
def ruleLdt (d : Desc) : Except SelFault Unit :=
  if d.isSegment || d.type != 2 then .error .type
  else if !d.present then .error .notPresent
  else .ok ()

/-- Load LDTR; `x` gives the exception of a failure (R156). -/
def loadLdt (x : SelFault → Exn) (sel : Half) : M Unit :=
  if selNull sel then modify (State.setLdtr ⟨sel, 0, 0⟩)
  else if selTI sel then raise (x .type)
  else do
    let (d, _) ← orRaise x (← testSel sel ruleLdt)
    modify (State.setLdtr ⟨sel, d.base, d.limit⟩)

/-- Null one data register that the new level may not keep (R162). -/
def SegReg.nullOuter (cpl : BitVec 2) (r : SegReg) : SegReg :=
  if r.acc != 0 && !(r.isCode && r.acc.getLsbD 10) && r.dpl < cpl then r.invalid 0 else r

/-- Null DS, ES, FS and GS after a return to an outer level (R162). -/
def State.nullOuter (s : State) : State :=
  let s := { s with ds := s.ds.nullOuter s.cpl, es := s.es.nullOuter s.cpl }
  if s.cfg.model.has386 then { s with fs := s.fs.nullOuter s.cpl, gs := s.gs.nullOuter s.cpl } else s

/-! ### The task state segment and the task switch (47_task_and_mode.md) -/

/-- The smallest limit of a TSS (R612). -/
def TssKind.minLimit : TssKind → Nat
  | .tss286 => 0x2B | .tss386 => 0x67

/-- The width of a field (R611). -/
def TssKind.width : TssKind → Width
  | .tss286 => .w16 | .tss386 => .w32

/-- The TSS a descriptor type stands for and whether it is busy (R146); the 386 format exists on the 80386. -/
def tssOfType (m : Model) : Nat → Option (TssKind × Bool)
  | 0x1 => some (.tss286, false)
  | 0x3 => some (.tss286, true)
  | 0x9 => if m.has386 then some (.tss386, false) else none
  | 0xB => if m.has386 then some (.tss386, true) else none
  | _ => none

/-- The stack the current TSS names for a level: selector and pointer (R615). -/
def tssStack (lvl : BitVec 2) (ext : Half) : M (Half × Word) := do
  let tr ← read (·.tr)
  let (spOff, ssOff) := match tr.kind with
    | .tss286 => (2 + 4 * lvl.toNat, 4 + 4 * lvl.toNat)
    | .tss386 => (4 + 8 * lvl.toNat, 8 + 8 * lvl.toNat)
  ensure (decide (ssOff + 1 ≤ tr.limit.toNat)) (.ts (selErr ext tr.sel))
  let sp ← sysRead (tr.base + BitVec.ofNat 32 spOff) tr.kind.width.bytes
  let ss ← sysRead (tr.base + BitVec.ofNat 32 ssOff) 2
  return (ss.setWidth 16, sp)

/-- The stack pointer an inner stack starts from (R472, R674): a 16-bit pointer from a TSS286 leaves the upper half of ESP (D23; log
36). -/
def State.innerSp (s : State) (newSp : Word) : Word :=
  match s.tr.kind with
  | .tss286 => merge .w16 (s.gpr.get .sp) newSp
  | .tss386 => newSp

/-- What starts a task switch (R620). -/
inductive SwitchKind where
  | jmp | call | int | iret
  deriving DecidableEq, Repr

/-- CALL or INT: the new task is nested (R626). -/
def SwitchKind.nests : SwitchKind → Bool
  | .call | .int => true
  | .jmp | .iret => false

/-- What the new TSS's busy bit must be (R631). -/
def SwitchKind.needsBusy (k : SwitchKind) : TaskBusyStyle → Bool
  | .source => false
  | .intel => k == .iret

/-- Whether the old TSS's busy bit is cleared (R631). -/
def SwitchKind.clearsOld (k : SwitchKind) : TaskBusyStyle → Bool
  | .source => true
  | .intel => !k.nests

/-- A TSS that passed the tests of R621. -/
structure NewTask where
  sel  : Half
  desc : Desc
  kind : TssKind

/-- The tests of R621; nothing is written. -/
def testTask (sel : Half) (k : SwitchKind) (ext : Half) : M NewTask := do
  let s ← get
  ensure (decide (s.tr.kind.minLimit ≤ s.tr.limit.toNat)) (.ts (selErr ext s.tr.sel))
  let bad : Exn := match k with
    | .iret => .ts (selErr ext sel)
    | _ => .gp (selErr ext sel)
  ensure (!(selNull sel || selTI sel)) bad
  match ← fetchDesc sel with
  | none => raise bad
  | some d =>
    match tssOfType s.cfg.model d.type with
    | none => raise bad
    | some (kind, busy) => do
      ensure (!d.isSegment) bad
      ensure (busy == k.needsBusy s.cfg.taskBusy) bad
      ensure d.present (.np (selErr ext sel))
      ensure (decide (kind.minLimit ≤ d.limit.toNat)) (.ts (selErr ext sel))
      return ⟨sel, d, kind⟩

/-- Write fields at offsets of a TSS, in order. -/
def writeFields (base : Word) (n : Nat) : List (Nat × Word) → M Unit
  | [] => pure ()
  | (off, v) :: r => do
    sysWrite (base + BitVec.ofNat 32 off) n v
    writeFields base n r

/-- The fields the save step writes (R613, R614, R622). -/
def State.tssFields (s : State) (retpc ps : Word) : List (Nat × Word) :=
  match s.tr.kind with
  | .tss286 =>
    [(0x12, s.gpr.ax), (0x14, s.gpr.cx), (0x16, s.gpr.dx), (0x18, s.gpr.bx), (0x1A, s.gpr.sp), (0x1C, s.gpr.bp),
     (0x1E, s.gpr.si), (0x20, s.gpr.di), (0x22, s.es.sel.setWidth 32), (0x24, s.cs.sel.setWidth 32),
     (0x26, s.ss.sel.setWidth 32), (0x28, s.ds.sel.setWidth 32), (0x0E, retpc), (0x10, ps),
     (0x2A, s.ldtr.sel.setWidth 32)]
  | .tss386 =>
    [(0x28, s.gpr.ax), (0x2C, s.gpr.cx), (0x30, s.gpr.dx), (0x34, s.gpr.bx), (0x38, s.gpr.sp), (0x3C, s.gpr.bp),
     (0x40, s.gpr.si), (0x44, s.gpr.di), (0x48, s.es.sel.setWidth 32), (0x4C, s.cs.sel.setWidth 32),
     (0x50, s.ss.sel.setWidth 32), (0x54, s.ds.sel.setWidth 32), (0x58, s.fs.sel.setWidth 32),
     (0x5C, s.gs.sel.setWidth 32), (0x20, retpc), (0x24, ps), (0x60, s.ldtr.sel.setWidth 32), (0x1C, s.cr3)]

/-- Step 2: save the running task (R622); IRET stores NT as 0. -/
def saveTask (k : SwitchKind) (retpc : Word) : M Unit := do
  let s ← get
  let ps := if k = .iret then s.getPS &&& ~~~psNT else s.getPS
  writeFields s.tr.base s.tr.kind.width.bytes (s.tssFields retpc ps)

/-- Step 3: the old TSS's busy bit (R623). -/
def clearBusy : M Unit := do
  let s ← get
  let a := s.gdtr.base + (s.tr.sel &&& 0xFFF8).setWidth 32 + 4
  let w2 ← sysRead a 2
  sysWrite a 2 (w2 &&& ~~~0x0200)

/-- Step 4: the new TSS's busy bit, TR and CR0.TS (R624, R629). -/
def enterTask (n : NewTask) (setBusy : Bool) : M Unit := do
  whenM setBusy (sysWrite (n.desc.addr + 4) 2 ((n.desc.w2 ||| 0x0200).setWidth 32))
  modify (State.setTr ⟨n.sel, n.desc.base, n.desc.limit, n.kind⟩)
  modify fun s => s.setCr0 (s.cr0 ||| 8)

/-- What a TSS holds of a task, its entry point apart (R613, R614). -/
structure TaskImage where
  cr3 : Word
  ps  : Word
  gpr : Gpr
  es  : Half
  ss  : Half
  ds  : Half
  fs  : Half
  gs  : Half
  ldt : Half

/-- Read one field of the TSS in TR. -/
def tssField (n off : Nat) : M Word := do
  let base ← read (·.tr.base)
  sysRead (base + BitVec.ofNat 32 off) n

/-- Read a selector field of the TSS in TR. -/
def tssSel (off : Nat) : M Half := do return (← tssField 2 off).setWidth 16

/-- The other fields of the new TSS (R625); what the 286 format lacks is 0, CR3 unchanged (R611). DESIGN CHOICE (log 19): they
are read in the order PS, general registers, ES, SS, DS, FS, GS, LDT, in the 386 format after CR3. -/
def readTask : M TaskImage := do
  let s ← get
  match s.tr.kind with
  | .tss286 =>
    return {
      cr3 := s.cr3, ps := ← tssField 2 0x10,
      gpr := ⟨← tssField 2 0x12, ← tssField 2 0x14, ← tssField 2 0x16, ← tssField 2 0x18, ← tssField 2 0x1A,
        ← tssField 2 0x1C, ← tssField 2 0x1E, ← tssField 2 0x20⟩,
      es := ← tssSel 0x22, ss := ← tssSel 0x26, ds := ← tssSel 0x28, fs := 0, gs := 0, ldt := ← tssSel 0x2A }
  | .tss386 =>
    return {
      cr3 := ← tssField 4 0x1C, ps := ← tssField 4 0x24,
      gpr := ⟨← tssField 4 0x28, ← tssField 4 0x2C, ← tssField 4 0x30, ← tssField 4 0x34, ← tssField 4 0x38,
        ← tssField 4 0x3C, ← tssField 4 0x40, ← tssField 4 0x44⟩,
      es := ← tssSel 0x48, ss := ← tssSel 0x50, ds := ← tssSel 0x54, fs := ← tssSel 0x58,
      gs := ← tssSel 0x5C, ldt := ← tssSel 0x60 }

/-- opLIP at the new task's entry point (R630). -/
def attributeToTask : M Unit := modify fun s => s.setOpLIP (s.cs.base + s.pc)

/-- A not-present segment raises NP, every other failure TS (R627). -/
def SelFault.tsNp (ext sel : Half) : SelFault → Exn
  | .notPresent => .np (selErr ext sel)
  | .null | .limit | .type | .privilege => .ts (selErr ext sel)

/-- For SS a not-present segment raises SS by R627 and TS by R154; the parameter says which (log 18). -/
def SelFault.tsSs (style : TaskStackStyle) (ext sel : Half) : SelFault → Exn
  | .notPresent => (match style with | .stackFault => .ss (selErr ext sel) | .taskFault => .ts (selErr ext sel))
  | .null | .limit | .type | .privilege => .ts (selErr ext sel)

/-- The CS rule of a task switch: code, then present, then privilege (R627). -/
def ruleCsTask (sel : Half) (d : Desc) : Except SelFault Unit :=
  if !(d.isSegment && d.isCode) then .error .type
  else if !d.present then .error .notPresent
  else if d.conforming then (if d.dpl ≤ selRPL sel then .ok () else .error .privilege)
  else if d.dpl == selRPL sel then .ok ()
  else .error .privilege

/-- One segment register of the new task (R627). -/
def loadTaskSeg (r : SReg) (sel : Half) (x : SelFault → Exn) (rule : Desc → Except SelFault Unit) : M Unit := do
  let (d, _) ← orRaise x (← testSel sel rule)
  markAccessed d
  modify (State.setSeg r (d.record sel))

/-- A data segment register of the new task; a null selector loads as null (R627). -/
def loadTaskData (r : SReg) (sel ext : Half) : M Unit := do
  let s ← get
  if selNull sel then modify (State.setSeg r ((s.seg r).invalid sel))
  else loadTaskSeg r sel (SelFault.tsNp ext sel) (ruleData s.cpl sel)

/-- The new task's entry point: pc, an invalid CS with its selector, its CPL, and opLIP there, so that every later fault is
attributed to the new task (R625, R630). -/
def State.enterAt (pc : Word) (cs : Half) (s : State) : State :=
  let s := { s with pc := pc, cs := s.cs.invalid cs, cpl := selRPL cs }
  s.setOpLIP (s.cs.base + s.pc)

/-- The new task with an entry point that could not be read (R630): what is not known of it is a free value (log 19). -/
def State.enterUnread (pc : Option Word) (s : State) : State :=
  let e := Config.taskEntry s.oracleCount
  State.enterAt (pc.getD (trunc s.tr.kind.width e.1)) e.2 { s with oracleCount := s.oracleCount + 1 }

/-- An operation that leaves a changed state where it stops. -/
def onStop {α : Type} (f : State → State) (m : M α) : M α := fun s =>
  match m s with
  | .ok a t => .ok a t
  | .error e t => .error e (f t)

/-- The entry point of the new task, its first fields read, is entered; a page fault in reading it is attributed to the new task too
(R625, R630; log 19). The answer is its CS selector. -/
def enterEntry : M Half := do
  let k ← read (·.tr.kind)
  let (pcAt, csAt) := match k with
    | .tss286 => (0x0E, 0x24)
    | .tss386 => (0x20, 0x4C)
  let pc ← onStop (State.enterUnread none) (tssField k.width.bytes pcAt)
  let cs ← onStop (State.enterUnread (some pc)) (tssSel csAt)
  modify (State.enterAt pc cs)
  return cs

/-- Every general register's lower half from `i`, its upper half kept. -/
def Gpr.withLow (g i : Gpr) : Gpr where
  ax := merge .w16 g.ax i.ax
  cx := merge .w16 g.cx i.cx
  dx := merge .w16 g.dx i.dx
  bx := merge .w16 g.bx i.bx
  sp := merge .w16 g.sp i.sp
  bp := merge .w16 g.bp i.bp
  si := merge .w16 g.si i.si
  di := merge .w16 g.di i.di

/-- PS with VM 0, the general registers and the five other records, invalid with their new selectors (R625); FS and GS exist on the
80386 (log 28). The upper halves of the general registers, which a TSS286 lacks, are loaded as 0 on the 80386 (R611) and never
touched before it (R34, D7; log 48). -/
def State.enterImage (i : TaskImage) (s : State) : State :=
  State.setPS (i.ps &&& ~~~psVM) s.psWritable
    { s with
      gpr := if s.cfg.model.has386 then i.gpr else s.gpr.withLow i.gpr
      es := s.es.invalid i.es, ss := s.ss.invalid i.ss, ds := s.ds.invalid i.ds
      fs := if s.cfg.model.has386 then s.fs.invalid i.fs else s.fs
      gs := if s.cfg.model.has386 then s.gs.invalid i.gs else s.gs }

/-- The segment registers of the new task, CS, SS, DS, ES, FS, GS (R625, D34). -/
def loadTaskSegs (cs : Half) (i : TaskImage) (ext : Half) : M Unit := do
  loadTaskSeg .cs cs (SelFault.tsNp ext cs) (ruleCsTask cs)
  modify fun s => s.jumpTo s.pc
  attributeToTask
  let s ← get
  loadTaskSeg .ss i.ss (SelFault.tsSs s.cfg.taskStack ext i.ss) (ruleSs s.cpl i.ss)
  loadTaskData .ds i.ds ext
  loadTaskData .es i.es ext
  if s.cfg.model.has386 then do
    loadTaskData .fs i.fs ext
    loadTaskData .gs i.gs ext
  else pure ()

/-- Step 6: NT and the back-link (R626). -/
def nestTask (back : Half) : M Unit := do
  modify (State.setDirect psNT true)
  let base ← read (·.tr.base)
  sysWrite base 2 (back.setWidth 32)

/-- Steps 5 and 6: the state of the new task (R625, R626, R630; log 19). LDTR is loaded under the old CR3, then VM = 1 in the image
is refused (D30), then CR3 is loaded; the registers whose load cannot fail are already the new task's, so that a fault finds
them. -/
def loadTask (k : SwitchKind) (ext back : Half) : M Unit := do
  let cs ← enterEntry
  let i ← readTask
  modify (State.enterImage i)
  loadLdt (fun _ => .ts (selErr ext i.ldt)) i.ldt
  if bit i.ps 17 then refuse .virtual8086 else do
    modify (State.setCr3 i.cr3)
    whenM k.nests (nestTask back)
    loadTaskSegs cs i ext

/-- `TaskSwitch` (R620 to R631). `retpc` is the pc saved in the old task. -/
def taskSwitch (sel : Half) (k : SwitchKind) (retpc : Word) (ext : Half) : M Unit := do
  let n ← testTask sel k ext
  let s ← get
  saveTask k retpc
  whenM (k.clearsOld s.cfg.taskBusy) clearBusy
  enterTask n (!k.needsBusy s.cfg.taskBusy)
  loadTask k ext s.tr.sel

/-! ### Delivery through the vector table and the IDT (60_exceptions.md section 3) -/

/-- What is delivered (R671). -/
inductive DeliveryKind where
  | software | exception | external
  deriving DecidableEq, Repr

/-- The EXT bit (R163, R671). -/
def DeliveryKind.ext : DeliveryKind → Half
  | .software => 0
  | .exception | .external => 1

/-- Real-mode delivery (R670). -/
def deliverReal (n : Byte) (retpc : Word) : M Unit := do
  let s ← get
  ensure (s.cfg.model.class8086 || decide (n.toNat * 4 + 3 ≤ s.idtr.limit.toNat)) (.gp 0)
  let a := (if s.cfg.model.class8086 then 0 else s.idtr.base) + n.setWidth 32 * 4
  let off ← sysRead a 2
  let seg ← sysRead (a + 2) 2
  let k ← s.stack.pushAll .w16 [s.getPS, s.cs.sel.setWidth 32, retpc]
  k.commit
  modify (State.setDirect psIF false)
  modify (State.setDirect psTF false)
  modify (State.realLoad .cs (seg.setWidth 16))
  modify (State.jumpTo off)

/-- The flags a gate clears (R675). -/
def State.gateFlags (interruptGate : Bool) (s : State) : State :=
  let s := (s.setDirect psTF false).setDirect psNT false
  let s := if s.cfg.model.has386 then s.setDirect psRF false else s
  if interruptGate then s.setDirect psIF false else s

/-- What a delivery pushes after the return pointer: the error code of an exception (R653, R673). -/
def errorPush : DeliveryKind → Option Half → List Word
  | .exception, some e => [e.setWidth 32]
  | _, _ => []

/-- Commit of a gate delivery (R675): CS, CPL, pc, flags. -/
def commitGate (c : NewCode) (off : Word) (interruptGate : Bool) : M Unit :=
  modify fun s => State.gateFlags interruptGate ((c.commit s).jumpTo off)

/-- Interrupt or trap gate (R672 to R675) of a width. -/
def deliverGate (g : Desc) (w : Width) (interruptGate : Bool) (kind : DeliveryKind) (e : Option Half) (retpc : Word) :
    M Unit := do
  let s ← get
  let c ← testCode kind.ext g.w1 (ruleCsGate s.cpl true)
  let frame := [s.getPS, s.cs.sel.setWidth 32, retpc] ++ errorPush kind e
  if c.cpl < s.cpl then do
    let (newSs, newSp) ← tssStack c.cpl kind.ext
    let (d, _) ← orRaise (fun _ => .ts (selErr kind.ext newSs)) (← testSel newSs (ruleSs c.cpl newSs))
    let r := d.record newSs
    let kw := stackWidth s.cfg.model r
    let k ← Stack.pushAll ⟨⟨r, true, false, false⟩, kw, trunc kw (s.innerSp newSp)⟩ w
      ([s.ss.sel.setWidth 32, s.stack.sp] ++ frame)
    markStackAndCode d c.desc
    modify (State.setSeg .ss r)
    k.commit
    commitGate c (g.gateOffset w) interruptGate
  else do
    let k ← s.stack.pushAll w frame
    markAccessed c.desc
    k.commit
    commitGate c (g.gateOffset w) interruptGate

/-- Task gate (R676). -/
def deliverTask (sel : Half) (kind : DeliveryKind) (e : Option Half) (retpc : Word) : M Unit := do
  taskSwitch sel .int retpc kind.ext
  let s ← get
  let k ← s.stack.pushAll s.tr.kind.width (errorPush kind e)
  k.commit

/-- The gates the IDT may hold (R671): width, and whether it is an interrupt gate; the 386 gates exist on the 80386. -/
inductive IdtGate where
  | task
  | code (w : Width) (interruptGate : Bool)

def idtGate (m : Model) : Nat → Option IdtGate
  | 0x5 => some .task
  | 0x6 => some (.code .w16 true)
  | 0x7 => some (.code .w16 false)
  | 0xE => if m.has386 then some (.code .w32 true) else none
  | 0xF => if m.has386 then some (.code .w32 false) else none
  | _ => none

/-- The error code of a fault about an IDT entry (R163). -/
def idtErr (n : Byte) (ext : Half) : Half := n.setWidth 16 * 8 + 2 + ext

/-- Protected-mode delivery (R671). -/
def deliverProt (n : Byte) (kind : DeliveryKind) (e : Option Half) (retpc : Word) : M Unit := do
  let s ← get
  ensure (decide (n.toNat * 8 + 7 ≤ s.idtr.limit.toNat)) (.gp (idtErr n kind.ext))
  let g ← readDesc (s.idtr.base + n.setWidth 32 * 8)
  match idtGate s.cfg.model g.type with
  | none => raise (.gp (idtErr n kind.ext))
  | some gate => do
    ensure (!g.isSegment) (.gp (idtErr n kind.ext))
    ensure (kind != .software || decide (s.cpl ≤ g.dpl)) (.gp (idtErr n 0))
    ensure g.present (.np (idtErr n kind.ext))
    match gate with
    | .task => deliverTask g.w1 kind e retpc
    | .code w intr => deliverGate g w intr kind e retpc

/-- `Deliver` (R670, R671). -/
def deliver (n : Byte) (kind : DeliveryKind) (e : Option Half) (retpc : Word) : M Unit := do
  let s ← get
  if s.protectedMode then deliverProt n kind e retpc else deliverReal n retpc

/-! ### Taking an exception (60_exceptions.md section 2) -/

/-- `resetRegs()`: every register to its reset value; parameters, memory, environment and the published opcode byte, which is no
register, kept (R720; log 51). -/
def State.resetRegs (s : State) : State :=
  { State.resetFor s.cfg with
    mem := s.mem, portAnswers := s.portAnswers, intAcks := s.intAcks, oracleCount := s.oracleCount, portLog := s.portLog
    busLog := s.busLog, copAnswers := s.copAnswers, copLog := s.copLog, lastOpcode := s.lastOpcode }

/-- The instruction abandoned: NOREAD, NOWRITE, NOINTR and the prefixes clear (R660, R669), pc at its first byte (R661), no
trap to follow (R690); `n` is the vector in flight. -/
def State.abandon (n : Byte) (s : State) : State :=
  { s with
    opFlags := ⟨false, false, false⟩, opPrefixes := .none, nFault := some n, pc := s.opLIP - s.cs.base, noTrap := true }

/-- Triple fault: the block is reset (R663, R721). -/
def tripleFault (s : State) : Host.Outcome State Fault Refusal := .next { s.resetRegs with noTrap := true }

/-- The outcome of an attempted delivery; `again` is what a fault in it leads to. -/
def afterDelivery (again : State → Host.Outcome State Fault Refusal) :
    EStateM.Result Stop State Unit → Host.Outcome State Fault Refusal
  | .ok _ s => .next s
  | .error (.exn _) s => again s
  | .error (.fault f) _ => .fault f
  | .error (.refused r) _ => .refused r

/-- Double fault: vector 8 with code 0; a fault in its delivery is a triple fault (R662, R663). -/
def doubleFault (s : State) : Host.Outcome State Fault Refusal :=
  let s := s.abandon 0x08
  afterDelivery tripleFault (deliver 0x08 .exception (some 0) s.pc s)

/-- `Raise` (R660): TAKING AN EXCEPTION. On the 8086 class there is no double fault (R666, R721): DESIGN CHOICE (log 50), a fault while
one is in flight is delivered there as if none were, and its vector is then the one in flight. -/
def raiseExn (x : Exn) (s : State) : Host.Outcome State Fault Refusal :=
  if s.nFault.isNone || s.cfg.model.class8086 then
    let s := s.abandon x.vector
    afterDelivery doubleFault (deliver x.vector .exception x.code s.pc s)
  else if s.nFault ≠ some 0x08 then doubleFault s
  else tripleFault s

/-- Run an operation as an instruction: an exception it asks for is taken. -/
def finish (m : M Unit) (s : State) : Host.Outcome State Fault Refusal :=
  match m s with
  | .ok _ s' => .next s'
  | .error (.exn x) s' => raiseExn x s'
  | .error (.fault f) _ => .fault f
  | .error (.refused r) _ => .refused r

/-! ### The return from an exception (43_control_flow.md R490 to R492) -/

/-- A set of PS bits kept when a condition holds. -/
def bitsIf (c : Bool) (mask : Word) : Word := if c then mask else 0

/-- The PS bits IRET and POPF may write, without RF (R491). -/
def State.popfWritable (s : State) : Word :=
  psCached ||| psTF ||| psDF
    ||| bitsIf (!s.protectedMode || decide (s.cpl ≤ s.iopl)) psIF
    ||| bitsIf (s.cfg.model.has286 && (if s.protectedMode then s.cpl == 0 else s.cfg.model.has386)) psIOPL
    ||| bitsIf (s.cfg.model.has286 && (s.protectedMode || s.cfg.model.has386)) psNT

/-- The PS bits IRET may write at an operand size (R491). -/
def State.iretWritable (s : State) : Word := s.popfWritable ||| bitsIf s.op32 psRF

/-- Commit of SS and the stack pointer of an outer level; a 16-bit pointer or stack keeps the upper half of ESP (D23). -/
def commitOuterStack (d : Desc) (sel : Half) (w : Width) (sp : Word) : M Unit := do
  modify (State.setSeg .ss (d.record sel))
  let kw ← read fun s => stackWidth s.cfg.model s.ss
  modify (State.setReg (if kw = .w32 ∧ w = .w32 then .w32 else .w16) .sp sp)

/-- Test the SS a return to an outer level pops (R474, R492). -/
def testOuterSs (sel : Half) (lvl : BitVec 2) : M Desc := do
  let style ← read (·.cfg.loadFaults)
  let (d, _) ← orRaise (SelFault.ssLoad style 0 sel) (← testSel sel (ruleSs lvl sel))
  return d

/-- IRET without a task switch in protected mode (R490, R492). -/
def iretProt (w : Width) : M Unit := do
  let s ← get
  let k := s.stack
  let n := w.bytes
  let off ← k.peek 0 n
  let sel := (← k.peek n 2).setWidth 16
  let fl ← k.peek (2 * n) n
  if s.cfg.model.has386 && w == .w32 && bit fl 17 && s.cpl == 0 then refuse .virtual8086 else do
    let c ← testCode 0 sel (ruleCsReturn s.cpl sel)
    let ps := fun (s' : State) => s'.setPS fl s.iretWritable
    if c.cpl == s.cpl then do
      markAccessed c.desc
      (k.drop (3 * n)).commit
      modify fun s => ps ((c.commit s).jumpTo off)
    else do
      let newSp ← k.peek (3 * n) n
      let newSs := (← k.peek (4 * n) 2).setWidth 16
      let d ← testOuterSs newSs c.cpl
      markStackAndCode d c.desc
      modify fun s => ps ((c.commit s).jumpTo off)
      commitOuterStack d newSs w newSp
      modify State.nullOuter

/-- IRET in real mode (R490). -/
def iretReal (w : Width) : M Unit := do
  let s ← get
  let k := s.stack
  let n := w.bytes
  let off ← k.peek 0 n
  let sel ← k.peek n 2
  let fl ← k.peek (2 * n) n
  (k.drop (3 * n)).commit
  modify (State.realLoad .cs (sel.setWidth 16))
  modify (State.jumpTo off)
  modify (State.setPS fl s.iretWritable)

/-- IRET through the back-link (R490). -/
def iretTask : M Unit := do
  let s ← get
  let back ← sysRead s.tr.base 2
  taskSwitch (back.setWidth 16) .iret s.pc 0

/-- The return without the clearing of `nFault`. -/
def iretBody : M Unit := do
  let s ← get
  if !s.protectedMode then iretReal s.opW
  else if s.direct psNT then iretTask
  else iretProt s.opW

/-- THE RETURN FROM AN EXCEPTION (R490): by the back-link with NT, else by the stack; `nFault` is cleared. -/
def interruptReturn : M Unit := do
  iretBody
  modify (State.setNFault none)

end Sys2Proof.Machine
end

