-- ==== Sys2Proof/Machine/Operands.lean ====
section
/-! DEFINITION. Operand forms: effective addresses (31_modrm_resolver.md), operand locations, and reading and writing them. -/

namespace Sys2Proof.Machine

/-! ### Effective addresses -/

/-- A displacement of 16-bit addressing (R285). -/
def dispValue16 : Disp16 → Word
  | .none => 0
  | .d8 d => d.signExtend 32
  | .d16 d => d.setWidth 32

/-- A displacement of 32-bit addressing (R285). -/
def dispValue32 : Disp32 → Word
  | .none => 0
  | .d8 d => d.signExtend 32
  | .d32 d => d

/-- The register sum of 16-bit addressing (R282). -/
def State.sum16 (s : State) : Base16 → Word
  | .bxsi => s.reg .w16 .bx + s.reg .w16 .si
  | .bxdi => s.reg .w16 .bx + s.reg .w16 .di
  | .bpsi => s.reg .w16 .bp + s.reg .w16 .si
  | .bpdi => s.reg .w16 .bp + s.reg .w16 .di
  | .si => s.reg .w16 .si
  | .di => s.reg .w16 .di
  | .bp => s.reg .w16 .bp
  | .bx => s.reg .w16 .bx

/-- The default segment of a 16-bit base (R282, R286). -/
def baseSeg16 : Base16 → SReg
  | .bpsi | .bpdi | .bp => .ss
  | .bxsi | .bxdi | .si | .di | .bx => .ds

/-- The default segment of a 32-bit base (R284, R286). -/
def baseSeg32 : Reg → SReg
  | .sp | .bp => .ss
  | .ax | .cx | .dx | .bx | .si | .di => .ds

/-- The scaled index of a SIB byte (R284). -/
def State.index (s : State) (scale : BitVec 2) : Option Reg → Word
  | none => 0
  | some r => s.gpr.get r <<< scale.toNat

/-- The offset of a memory operand, truncated to the address size (R281 to R284). -/
def State.offset (s : State) : MemOp → Word
  | .base16 b d => trunc .w16 (s.sum16 b + dispValue16 d)
  | .abs16 d => d.setWidth 32
  | .base32 r d => s.gpr.get r + dispValue32 d
  | .abs32 d => d
  | .sib sc i b d => s.gpr.get b + s.index sc i + dispValue32 d
  | .sibNoBase sc i d => d + s.index sc i

/-- The default segment of a memory operand (R286). -/
def defaultSeg : MemOp → SReg
  | .base16 b _ => baseSeg16 b
  | .abs16 _ => .ds
  | .base32 r _ => baseSeg32 r
  | .abs32 _ => .ds
  | .sib _ _ b _ => baseSeg32 b
  | .sibNoBase _ _ _ => .ds

/-- A default segment unless a prefix overrides it (R287). -/
def State.effSeg (s : State) (dflt : SReg) : SReg := s.opPrefixes.seg.getD dflt

/-- Segment and offset of a memory operand (R280). -/
def State.resolve (s : State) (m : MemOp) : SReg × Nat := (s.effSeg (defaultSeg m), (s.offset m).toNat)

/-! ### Locations -/

/-- Where an operand is. -/
inductive Loc where
  | byteReg (r : Reg8)
  | reg (r : Reg)
  | mem (seg : SReg) (off : Nat)
  deriving DecidableEq, Repr

/-- The linear address of a location in memory, `ADDR_INVALID` for a register (R64, R281, R288). -/
def State.eaOf (s : State) : Loc → Option Word
  | .mem seg off => some ((s.seg seg).linear off)
  | .byteReg _ | .reg _ => none

/-- `regEA` when an operand is resolved (R64, R281, R288; log 40 says which operands the model counts). -/
def State.captureEA (l : Loc) (s : State) : State := { s with regEA := s.eaOf l }

/-- `regEAWrite` when an operand is written back (R64, R290; log 40). -/
def State.captureWrite (l : Loc) (s : State) : State := { s with regEAWrite := s.eaOf l }

/-- Where an operand will be, with `regEA` captured. -/
def capture (l : Loc) : M Loc := do
  modify (State.captureEA l)
  return l

/-- The location of a memory operand in a state. -/
def State.memLoc (s : State) (m : MemOp) : Loc := .mem (s.resolve m).1 (s.resolve m).2

/-- The location of an E operand in a state (R280). -/
def State.rmLoc (s : State) : RM → Loc
  | .reg r => .reg r
  | .mem m => s.memLoc m

/-- The location of a byte E operand in a state. -/
def State.rm8Loc (s : State) : RM8 → Loc
  | .reg r => .byteReg r
  | .mem m => s.memLoc m

/-- Resolve a memory operand (R281). -/
def locM (m : MemOp) : M Loc := do capture ((← get).memLoc m)

/-- Resolve an E operand. -/
def locE (e : RM) : M Loc := do capture ((← get).rmLoc e)

/-- Resolve a byte E operand. -/
def locE8 (e : RM8) : M Loc := do capture ((← get).rm8Loc e)

/-- An `Ob` or `Ov` operand (R291). -/
def locO (off : Word) : M Loc := do capture (.mem ((← get).effSeg .ds) off.toNat)

/-- `ReadE` (R290). -/
def readLoc (w : Width) : Loc → M Word
  | .byteReg r => read (·.reg8 r)
  | .reg r => read (·.reg w r)
  | .mem seg off => segRead seg off w.bytes

/-- `WriteE` (R290). -/
def writeLoc (w : Width) (l : Loc) (v : Word) : M Unit :=
  match l with
  | .byteReg r => modify (State.setReg8 r v)
  | .reg r => modify (State.setReg w r v)
  | .mem seg off => do
    modify (State.captureWrite (.mem seg off))
    segWrite seg off w.bytes v

/-- The write permission of a read-modify-write destination, tested before the read (R290, D56; log 13, 14); the address to be written
is captured with it. -/
def checkLoc (w : Width) : Loc → M Unit
  | .byteReg _ | .reg _ => pure ()
  | .mem seg off => do
    modify (State.captureWrite (.mem seg off))
    (← read (·.view seg)).checkWrite off w.bytes

/-- NOWRITE: the instruction writes no destination back (R63, R246). -/
def noWrite : M Unit := modify (State.setNoWrite true)

/-- A read-modify-write instruction: `f` gives the new value and what then happens to the flags (R246). -/
def readModifyWrite (w : Width) (l : Loc) (f : State → Word → Word × (State → State)) : M Unit := do
  checkLoc w l
  let d ← readLoc w l
  let s ← get
  writeLoc w l (f s d).1
  modify (f s d).2

/-- A selector or other 16-bit register written to E: memory always 16 bits, a register at `opsize` (R312, R566, R570). -/
def storeHalfAt (l : Loc) (v : Half) : M Unit := do
  let s ← get
  match l with
  | .mem _ _ => writeLoc .w16 l (v.setWidth 32)
  | .reg _ | .byteReg _ => writeLoc s.opW l (v.setWidth 32)

/-- The same, with the operand resolved first. -/
def storeHalf (e : RM) (v : Half) : M Unit := do storeHalfAt (← locE e) v

/-- A far pointer: offset, then selector (R113, R460). -/
def readFar (m : MemOp) : M (Word × Half) := do
  let s ← get
  let _ ← locM m
  let o ← segRead (s.resolve m).1 (s.resolve m).2 s.opW.bytes
  let sel ← segRead (s.resolve m).1 ((s.resolve m).2 + s.opW.bytes) 2
  return (o, sel.setWidth 16)

/-- The conditions (R430). -/
def State.cond (s : State) : Cond → Bool
  | .o => s.flag .of
  | .no => !s.flag .of
  | .b => s.flag .cf
  | .ae => !s.flag .cf
  | .z => s.flag .zf
  | .nz => !s.flag .zf
  | .be => s.flag .cf || s.flag .zf
  | .a => !s.flag .cf && !s.flag .zf
  | .s => s.flag .sf
  | .ns => !s.flag .sf
  | .p => s.flag .pf
  | .np => !s.flag .pf
  | .l => s.flag .sf != s.flag .of
  | .ge => s.flag .sf == s.flag .of
  | .le => s.flag .zf || (s.flag .sf != s.flag .of)
  | .g => !s.flag .zf && (s.flag .sf == s.flag .of)

/-- An immediate byte sign-extended to `opsize` (`Ibs`, R243). -/
def State.sextOp (s : State) (ib : Byte) : Word := trunc s.opW (ib.signExtend 32)

end Sys2Proof.Machine
end

