-- ==== Sys2Proof/Machine/Arith.lean ====
section
/-! DEFINITION. Arithmetic: the two-operand instructions of 41_arithmetic.md and the logic ones that share their forms
(42_logic_shift_bit.md R401 to R405), INC, DEC, NEG, NOT, MUL, IMUL, DIV, IDIV and the decimal adjusts. -/

namespace Sys2Proof.Machine

/-! ### The two-operand operations -/

/-- The operations of the six-form pattern and of group 1 (R248, R360), and TEST. -/
inductive Alu where
  | add | or | adc | sbb | and | sub | xor | cmp | test
  deriving DecidableEq, Repr

/-- CMP and TEST do not write their destination (R365, R404). -/
def Alu.writes : Alu → Bool
  | .cmp | .test => false
  | .add | .or | .adc | .sbb | .and | .sub | .xor => true

/-- The result at a width, from the carry, the destination and the source (R361 to R365, R401 to R404). DESIGN CHOICE (log 49):
the cache words hold it at that width too. -/
def Alu.result (op : Alu) (w : Width) (c : Bool) (d x : Word) : Word :=
  match op with
  | .add => trunc w (d + x)
  | .adc => trunc w (d + x + ofBool c)
  | .sub | .cmp => trunc w (d - x)
  | .sbb => trunc w (d - x - ofBool c)
  | .and | .test => trunc w (d &&& x)
  | .or => trunc w (d ||| x)
  | .xor => trunc w (d ^^^ x)

/-- The operation a free AF belongs to (R381, R405); arithmetic leaves no flag undefined. -/
def Alu.site : Alu → UndefSite
  | .or => .or
  | .xor => .xor
  | .test => .test
  | .and | .add | .adc | .sbb | .sub | .cmp => .and

/-- `FlagsLogic_w` (R405); the undefined AF is a function of the operation, the old PS, D, S and L (log 3). -/
def State.flagsLogic (site : UndefSite) (w : Width) (d x l : Word) (s : State) : State :=
  let e := s.flags.install ⟨false, true, true, true, true, false⟩ w d x l l
  State.undefine site w Flag.af.mask s.getPS [d, x, l] { s with flags := (e.setFlag .cf false).setFlag .of false }

/-- The flags, from the destination, the source and the result. -/
def Alu.flags (op : Alu) (w : Width) (d x a : Word) : State → State :=
  match op with
  | .add | .adc => State.flagsAdd w d x a
  | .sub | .sbb | .cmp => State.flagsSub w d x a
  | .and | .or | .xor | .test => State.flagsLogic op.site w d x a

/-- Before the operands are read: the write permission, or NOWRITE (R290, R365, R404). -/
def Alu.prepare (op : Alu) (w : Width) (dst : Loc) : M Unit := if op.writes then checkLoc w dst else noWrite

/-- One two-operand instruction on a destination and a source value (R360). -/
def alu (op : Alu) (w : Width) (dst : Loc) (src : M Word) : M Unit := do
  op.prepare w dst
  let d ← readLoc w dst
  let x ← src
  let s ← get
  let a := op.result w (s.flag .cf) d x
  whenM op.writes (writeLoc w dst a)
  modify (op.flags w d x a)

/-! The nine forms (R360). -/

def aluEbGb (op : Alu) (e : RM8) (g : Reg8) : M Unit := do alu op .w8 (← locE8 e) (readLoc .w8 (.byteReg g))
def aluGbEb (op : Alu) (g : Reg8) (e : RM8) : M Unit := do
  let l ← locE8 e
  alu op .w8 (.byteReg g) (readLoc .w8 l)
def aluALIb (op : Alu) (ib : Byte) : M Unit := alu op .w8 (.byteReg .al) (pure (ib.setWidth 32))
def aluEbIb (op : Alu) (e : RM8) (ib : Byte) : M Unit := do alu op .w8 (← locE8 e) (pure (ib.setWidth 32))
def aluEvGv (op : Alu) (e : RM) (g : Reg) : M Unit := do
  let s ← get
  alu op s.opW (← locE e) (readLoc s.opW (.reg g))
def aluGvEv (op : Alu) (g : Reg) (e : RM) : M Unit := do
  let s ← get
  let l ← locE e
  alu op s.opW (.reg g) (readLoc s.opW l)
def aluEAXIv (op : Alu) (iv : Word) : M Unit := do
  let s ← get
  alu op s.opW (.reg .ax) (pure iv)
def aluEvIv (op : Alu) (e : RM) (iv : Word) : M Unit := do
  let s ← get
  alu op s.opW (← locE e) (pure iv)
def aluEvIbs (op : Alu) (e : RM) (ib : Byte) : M Unit := do
  let s ← get
  alu op s.opW (← locE e) (pure (s.sextOp ib))

/-! ### One-operand operations -/

/-- INC, DEC, NEG and NOT (R366 to R368, R406). -/
inductive Unary where
  | inc | dec | neg | not
  deriving DecidableEq, Repr

def Unary.result (op : Unary) (w : Width) (d : Word) : Word :=
  match op with
  | .inc => trunc w (d + 1)
  | .dec => trunc w (d - 1)
  | .neg => trunc w (0 - d)
  | .not => trunc w (d ^^^ w.mask)

def Unary.flags (op : Unary) (w : Width) (d a : Word) : State → State :=
  match op with
  | .inc => State.flagsInc w d a
  | .dec => State.flagsDec w d a
  | .neg => State.flagsSub w 0 d a
  | .not => id

def unary (op : Unary) (w : Width) (l : Loc) : M Unit :=
  readModifyWrite w l fun _ d => (op.result w d, op.flags w d (op.result w d))

def unaryEb (op : Unary) (e : RM8) : M Unit := do unary op .w8 (← locE8 e)
def unaryEv (op : Unary) (e : RM) : M Unit := do
  let s ← get
  unary op s.opW (← locE e)
def unaryR (op : Unary) (r : Reg) : M Unit := do unary op (← get).opW (.reg r)

/-! ### Multiplication (R369 to R371) -/

/-- PF, AF, ZF and SF. -/
def psPAZS : Word := 0x00D4

/-- CF = OF = `big`; PF, AF, ZF, SF undefined, default unchanged (R381). -/
def State.flagsMul (w : Width) (sgn big : Bool) (a b : Word) (s : State) : State :=
  ((s.setFlag .cf big).setFlag .of big).undefine (if sgn then .imul else .mul) w psPAZS s.getPS [a, b]

/-- The exact product, 64 bits wide (R369, R370). -/
def product (w : Width) (sgn : Bool) (a b : Word) : BitVec 64 :=
  if sgn then (sext w a).signExtend 64 * (sext w b).signExtend 64 else a.setWidth 64 * b.setWidth 64

/-- The lower half of a product. -/
def lowHalf (w : Width) (p : BitVec 64) : Word := trunc w (p.setWidth 32)

/-- The upper half of a product. -/
def highHalf (w : Width) (p : BitVec 64) : Word := trunc w ((p >>> w.bits).setWidth 32)

/-- Whether the upper half carries information (R369, R370). -/
def overflows (w : Width) (sgn : Bool) (p : BitVec 64) : Bool :=
  if sgn then p != (sext w (lowHalf w p)).signExtend 64 else highHalf w p != 0

/-- Write a double-width result: AX, DX:AX or EDX:EAX (R369). -/
def State.setPair (w : Width) (hi lo : Word) (s : State) : State :=
  match w with
  | .w8 => s.setReg .w16 .ax ((hi <<< 8) ||| lo)
  | .w16 | .w32 => (s.setReg w .ax lo).setReg w .dx hi

/-- MUL and one-operand IMUL. -/
def mul (w : Width) (sgn : Bool) (l : Loc) : M Unit := do
  let b ← readLoc w l
  modify fun s =>
    let a := s.reg w .ax
    let p := product w sgn a b
    (s.setPair w (highHalf w p) (lowHalf w p)).flagsMul w sgn (overflows w sgn p) a b

def mulEb (sgn : Bool) (e : RM8) : M Unit := do mul .w8 sgn (← locE8 e)
def mulEv (sgn : Bool) (e : RM) : M Unit := do
  let s ← get
  mul s.opW sgn (← locE e)

/-- Two- and three-operand IMUL: `m` is the second factor (R371). -/
def imulTo (g : Reg) (e : RM) (m : State → Word) : M Unit := do
  let s ← get
  let w := s.opW
  let a ← readLoc w (← locE e)
  let p := product w true a (m s)
  modify fun s' => (s'.setReg w g (lowHalf w p)).flagsMul w true (overflows w true p) a (m s)

/-! ### Division (R372, R373) -/

/-- All six cached flags. -/
def psSix : Word := psCached

/-- The dividend as two halves: AH:AL, DX:AX or EDX:EAX (R372). -/
def State.dividend (w : Width) (s : State) : Word × Word :=
  match w with
  | .w8 => (s.reg8 .ah, s.reg8 .al)
  | .w16 | .w32 => (s.reg w .dx, s.reg w .ax)

/-- Quotient and remainder to AL and AH, AX and DX, EAX and EDX (R372). -/
def State.setDivision (w : Width) (q r : Word) (s : State) : State :=
  match w with
  | .w8 => (s.setReg8 .al q).setReg8 .ah r
  | .w16 | .w32 => (s.setReg w .ax q).setReg w .dx r

/-- Unsigned division: none where DIV_ERR is raised (R372). -/
def divUnsigned (w : Width) (hi lo d : Word) : Option (Word × Word) :=
  let n := hi.toNat * 2 ^ w.bits + lo.toNat
  if d = 0 then none
  else if n / d.toNat > w.mask.toNat then none
  else some (BitVec.ofNat 32 (n / d.toNat), BitVec.ofNat 32 (n % d.toNat))

/-- Signed division, truncating toward zero: none where DIV_ERR is raised (R373). -/
def divSigned (w : Width) (hi lo d : Word) : Option (Word × Word) :=
  let n := signed w hi * 2 ^ w.bits + lo.toNat
  let dv := signed w d
  if dv = 0 then none
  else
    let q := n.tdiv dv
    if q < -(2 ^ (w.bits - 1)) ∨ q > 2 ^ (w.bits - 1) - 1 then none
    else some (truncInt w q, truncInt w (n.tmod dv))

/-- DIV and IDIV; all six flags undefined, default unchanged (R381). -/
def divide (w : Width) (sgn : Bool) (l : Loc) : M Unit := do
  let d ← readLoc w l
  let s ← get
  let (hi, lo) := s.dividend w
  match (if sgn then divSigned w hi lo d else divUnsigned w hi lo d) with
  | none => raise .de
  | some (q, r) => modify fun s => (s.setDivision w q r).undefine (if sgn then .idiv else .div) w psSix s.getPS [hi, lo, d]

def divideEb (sgn : Bool) (e : RM8) : M Unit := do divide .w8 sgn (← locE8 e)
def divideEv (sgn : Bool) (e : RM) : M Unit := do
  let s ← get
  divide s.opW sgn (← locE e)

/-! ### Decimal adjust (R374 to R379) -/

/-- CF and AF as given, PF, ZF and SF from AL, OF undefined (R374); `old` is AL before. -/
def State.flagsDecimal (site : UndefSite) (old al : Word) (cf af : Bool) (s : State) : State :=
  (((s.flagsPZS .w8 al).setFlag .cf cf).setFlag .af af).undefine site .w8 Flag.of.mask s.getPS [old]

/-- Whether the low digit needs its correction. -/
def State.lowAdjust (s : State) : Bool := decide ((s.reg8 .al &&& 0x0F).toNat > 9) || s.flag .af

/-- DAA (R374). -/
def daa (s : State) : State :=
  let al := s.reg8 .al
  let af := s.lowAdjust
  let t := if af then al + 6 else al
  let cf := decide (t.toNat > 0x9F) || s.flag .cf
  let t := if cf then t + 0x60 else t
  (s.setReg8 .al t).flagsDecimal .daa al (trunc .w8 t) cf af

/-- DAS (R375). -/
def das (s : State) : State :=
  let a0 := s.reg8 .al
  let c0 := s.flag .cf
  let af := s.lowAdjust
  let a1 := if af then trunc .w8 (a0 - 6) else a0
  let c1 := af && (c0 || decide (a0.toNat < 6))
  let big := decide (a0.toNat > 0x99) || c0
  let a2 := if big then trunc .w8 (a1 - 0x60) else a1
  (s.setReg8 .al a2).flagsDecimal .das a0 a2 (big || c1) af

/-- CF = AF as given; PF, ZF, SF, OF undefined, default unchanged (R376, R381); `ax` is AX before. -/
def State.flagsAscii (site : UndefSite) (v : Bool) (ax : Word) (s : State) : State :=
  ((s.setFlag .cf v).setFlag .af v).undefine site .w16 (Flag.pf.mask ||| Flag.zf.mask ||| Flag.sf.mask ||| Flag.of.mask)
    s.getPS [ax]

/-- AAA and AAS: `d6` and `d1` are the corrections of AL and AH, `d16` that of AX as a whole (R376, R377). -/
def asciiAdjust (site : UndefSite) (d6 d1 d16 : Word) (s : State) : State :=
  let adj := s.lowAdjust
  let s1 :=
    if !adj then s
    else if s.cfg.aaaCarryIntoAh then s.setReg .w16 .ax (s.reg .w16 .ax + d16)
    else (s.setReg8 .al (s.reg8 .al + d6)).setReg8 .ah (s.reg8 .ah + d1)
  (s1.setReg8 .al (s1.reg8 .al &&& 0x0F)).flagsAscii site adj (s.reg .w16 .ax)

/-- AAA (R376). -/
def aaa (s : State) : State := asciiAdjust .aaa 6 1 0x106 s

/-- AAS (R377). -/
def aas (s : State) : State := asciiAdjust .aas (0 - 6) (0 - 1) (0 - 0x106) s

/-- PF, ZF, SF from AL; CF, AF, OF undefined, default unchanged (R378, R379, R381). -/
def State.flagsBase (site : UndefSite) (ops : List Word) (al : Word) (s : State) : State :=
  (s.flagsPZS .w8 al).undefine site .w8 (Flag.cf.mask ||| Flag.af.mask ||| Flag.of.mask) s.getPS ops

/-- AAM (R378). -/
def aam (ib : Byte) : M Unit := do
  ensure (ib != 0) .de
  modify fun s =>
    let al := s.reg8 .al
    let q := al / ib.setWidth 32
    let r := al % ib.setWidth 32
    ((s.setReg8 .ah q).setReg8 .al r).flagsBase .aam [al, ib.setWidth 32] r

/-- AAD (R379). -/
def aad (ib : Byte) (s : State) : State :=
  let r := trunc .w8 (s.reg8 .al + s.reg8 .ah * ib.setWidth 32)
  ((s.setReg8 .al r).setReg8 .ah 0).flagsBase .aad [s.reg8 .al, s.reg8 .ah, ib.setWidth 32] r

/-! ### The meanings -/

/-- ADD Eb,Gb, R361. -/
def execAddEbGb (e : RM8) (g : Reg8) (s : State) : Host.Outcome State Fault Refusal :=
  finish (aluEbGb .add e g) s

/-- ADD Ev,Gv, R361. -/
def execAddEvGv (e : RM) (g : Reg) (s : State) : Host.Outcome State Fault Refusal :=
  finish (aluEvGv .add e g) s

/-- ADD Gb,Eb, R361. -/
def execAddGbEb (g : Reg8) (e : RM8) (s : State) : Host.Outcome State Fault Refusal :=
  finish (aluGbEb .add g e) s

/-- ADD Gv,Ev, R361. -/
def execAddGvEv (g : Reg) (e : RM) (s : State) : Host.Outcome State Fault Refusal :=
  finish (aluGvEv .add g e) s

/-- ADD AL,Ib, R361. -/
def execAddALIb (ib : Byte) (s : State) : Host.Outcome State Fault Refusal :=
  finish (aluALIb .add ib) s

/-- ADD eAX,Iv, R361. -/
def execAddEAXIv (iv : Word) (s : State) : Host.Outcome State Fault Refusal :=
  finish (aluEAXIv .add iv) s

/-- ADD Eb,Ib, R361. -/
def execAddEbIb (e : RM8) (ib : Byte) (s : State) : Host.Outcome State Fault Refusal :=
  finish (aluEbIb .add e ib) s

/-- ADD Ev,Iv, R361. -/
def execAddEvIv (e : RM) (iv : Word) (s : State) : Host.Outcome State Fault Refusal :=
  finish (aluEvIv .add e iv) s

/-- ADD Eb,Ib, R361. -/
def execAddEbIb82 (e : RM8) (ib : Byte) (s : State) : Host.Outcome State Fault Refusal :=
  finish (aluEbIb .add e ib) s

/-- ADD Ev,Ibs, R361. -/
def execAddEvIbs (e : RM) (ib : Byte) (s : State) : Host.Outcome State Fault Refusal :=
  finish (aluEvIbs .add e ib) s

/-- OR Eb,Gb, R402. -/
def execOrEbGb (e : RM8) (g : Reg8) (s : State) : Host.Outcome State Fault Refusal :=
  finish (aluEbGb .or e g) s

/-- OR Ev,Gv, R402. -/
def execOrEvGv (e : RM) (g : Reg) (s : State) : Host.Outcome State Fault Refusal :=
  finish (aluEvGv .or e g) s

/-- OR Gb,Eb, R402. -/
def execOrGbEb (g : Reg8) (e : RM8) (s : State) : Host.Outcome State Fault Refusal :=
  finish (aluGbEb .or g e) s

/-- OR Gv,Ev, R402. -/
def execOrGvEv (g : Reg) (e : RM) (s : State) : Host.Outcome State Fault Refusal :=
  finish (aluGvEv .or g e) s

/-- OR AL,Ib, R402. -/
def execOrALIb (ib : Byte) (s : State) : Host.Outcome State Fault Refusal :=
  finish (aluALIb .or ib) s

/-- OR eAX,Iv, R402. -/
def execOrEAXIv (iv : Word) (s : State) : Host.Outcome State Fault Refusal :=
  finish (aluEAXIv .or iv) s

/-- OR Eb,Ib, R402. -/
def execOrEbIb (e : RM8) (ib : Byte) (s : State) : Host.Outcome State Fault Refusal :=
  finish (aluEbIb .or e ib) s

/-- OR Ev,Iv, R402. -/
def execOrEvIv (e : RM) (iv : Word) (s : State) : Host.Outcome State Fault Refusal :=
  finish (aluEvIv .or e iv) s

/-- OR Eb,Ib, R402. -/
def execOrEbIb82 (e : RM8) (ib : Byte) (s : State) : Host.Outcome State Fault Refusal :=
  finish (aluEbIb .or e ib) s

/-- OR Ev,Ibs, R402. -/
def execOrEvIbs (e : RM) (ib : Byte) (s : State) : Host.Outcome State Fault Refusal :=
  finish (aluEvIbs .or e ib) s

/-- ADC Eb,Gb, R362. -/
def execAdcEbGb (e : RM8) (g : Reg8) (s : State) : Host.Outcome State Fault Refusal :=
  finish (aluEbGb .adc e g) s

/-- ADC Ev,Gv, R362. -/
def execAdcEvGv (e : RM) (g : Reg) (s : State) : Host.Outcome State Fault Refusal :=
  finish (aluEvGv .adc e g) s

/-- ADC Gb,Eb, R362. -/
def execAdcGbEb (g : Reg8) (e : RM8) (s : State) : Host.Outcome State Fault Refusal :=
  finish (aluGbEb .adc g e) s

/-- ADC Gv,Ev, R362. -/
def execAdcGvEv (g : Reg) (e : RM) (s : State) : Host.Outcome State Fault Refusal :=
  finish (aluGvEv .adc g e) s

/-- ADC AL,Ib, R362. -/
def execAdcALIb (ib : Byte) (s : State) : Host.Outcome State Fault Refusal :=
  finish (aluALIb .adc ib) s

/-- ADC eAX,Iv, R362. -/
def execAdcEAXIv (iv : Word) (s : State) : Host.Outcome State Fault Refusal :=
  finish (aluEAXIv .adc iv) s

/-- ADC Eb,Ib, R362. -/
def execAdcEbIb (e : RM8) (ib : Byte) (s : State) : Host.Outcome State Fault Refusal :=
  finish (aluEbIb .adc e ib) s

/-- ADC Ev,Iv, R362. -/
def execAdcEvIv (e : RM) (iv : Word) (s : State) : Host.Outcome State Fault Refusal :=
  finish (aluEvIv .adc e iv) s

/-- ADC Eb,Ib, R362. -/
def execAdcEbIb82 (e : RM8) (ib : Byte) (s : State) : Host.Outcome State Fault Refusal :=
  finish (aluEbIb .adc e ib) s

/-- ADC Ev,Ibs, R362. -/
def execAdcEvIbs (e : RM) (ib : Byte) (s : State) : Host.Outcome State Fault Refusal :=
  finish (aluEvIbs .adc e ib) s

/-- SBB Eb,Gb, R364. -/
def execSbbEbGb (e : RM8) (g : Reg8) (s : State) : Host.Outcome State Fault Refusal :=
  finish (aluEbGb .sbb e g) s

/-- SBB Ev,Gv, R364. -/
def execSbbEvGv (e : RM) (g : Reg) (s : State) : Host.Outcome State Fault Refusal :=
  finish (aluEvGv .sbb e g) s

/-- SBB Gb,Eb, R364. -/
def execSbbGbEb (g : Reg8) (e : RM8) (s : State) : Host.Outcome State Fault Refusal :=
  finish (aluGbEb .sbb g e) s

/-- SBB Gv,Ev, R364. -/
def execSbbGvEv (g : Reg) (e : RM) (s : State) : Host.Outcome State Fault Refusal :=
  finish (aluGvEv .sbb g e) s

/-- SBB AL,Ib, R364. -/
def execSbbALIb (ib : Byte) (s : State) : Host.Outcome State Fault Refusal :=
  finish (aluALIb .sbb ib) s

/-- SBB eAX,Iv, R364. -/
def execSbbEAXIv (iv : Word) (s : State) : Host.Outcome State Fault Refusal :=
  finish (aluEAXIv .sbb iv) s

/-- SBB Eb,Ib, R364. -/
def execSbbEbIb (e : RM8) (ib : Byte) (s : State) : Host.Outcome State Fault Refusal :=
  finish (aluEbIb .sbb e ib) s

/-- SBB Ev,Iv, R364. -/
def execSbbEvIv (e : RM) (iv : Word) (s : State) : Host.Outcome State Fault Refusal :=
  finish (aluEvIv .sbb e iv) s

/-- SBB Eb,Ib, R364. -/
def execSbbEbIb82 (e : RM8) (ib : Byte) (s : State) : Host.Outcome State Fault Refusal :=
  finish (aluEbIb .sbb e ib) s

/-- SBB Ev,Ibs, R364. -/
def execSbbEvIbs (e : RM) (ib : Byte) (s : State) : Host.Outcome State Fault Refusal :=
  finish (aluEvIbs .sbb e ib) s

/-- AND Eb,Gb, R401. -/
def execAndEbGb (e : RM8) (g : Reg8) (s : State) : Host.Outcome State Fault Refusal :=
  finish (aluEbGb .and e g) s

/-- AND Ev,Gv, R401. -/
def execAndEvGv (e : RM) (g : Reg) (s : State) : Host.Outcome State Fault Refusal :=
  finish (aluEvGv .and e g) s

/-- AND Gb,Eb, R401. -/
def execAndGbEb (g : Reg8) (e : RM8) (s : State) : Host.Outcome State Fault Refusal :=
  finish (aluGbEb .and g e) s

/-- AND Gv,Ev, R401. -/
def execAndGvEv (g : Reg) (e : RM) (s : State) : Host.Outcome State Fault Refusal :=
  finish (aluGvEv .and g e) s

/-- AND AL,Ib, R401. -/
def execAndALIb (ib : Byte) (s : State) : Host.Outcome State Fault Refusal :=
  finish (aluALIb .and ib) s

/-- AND eAX,Iv, R401. -/
def execAndEAXIv (iv : Word) (s : State) : Host.Outcome State Fault Refusal :=
  finish (aluEAXIv .and iv) s

/-- AND Eb,Ib, R401. -/
def execAndEbIb (e : RM8) (ib : Byte) (s : State) : Host.Outcome State Fault Refusal :=
  finish (aluEbIb .and e ib) s

/-- AND Ev,Iv, R401. -/
def execAndEvIv (e : RM) (iv : Word) (s : State) : Host.Outcome State Fault Refusal :=
  finish (aluEvIv .and e iv) s

/-- AND Eb,Ib, R401. -/
def execAndEbIb82 (e : RM8) (ib : Byte) (s : State) : Host.Outcome State Fault Refusal :=
  finish (aluEbIb .and e ib) s

/-- AND Ev,Ibs, R401. -/
def execAndEvIbs (e : RM) (ib : Byte) (s : State) : Host.Outcome State Fault Refusal :=
  finish (aluEvIbs .and e ib) s

/-- SUB Eb,Gb, R363. -/
def execSubEbGb (e : RM8) (g : Reg8) (s : State) : Host.Outcome State Fault Refusal :=
  finish (aluEbGb .sub e g) s

/-- SUB Ev,Gv, R363. -/
def execSubEvGv (e : RM) (g : Reg) (s : State) : Host.Outcome State Fault Refusal :=
  finish (aluEvGv .sub e g) s

/-- SUB Gb,Eb, R363. -/
def execSubGbEb (g : Reg8) (e : RM8) (s : State) : Host.Outcome State Fault Refusal :=
  finish (aluGbEb .sub g e) s

/-- SUB Gv,Ev, R363. -/
def execSubGvEv (g : Reg) (e : RM) (s : State) : Host.Outcome State Fault Refusal :=
  finish (aluGvEv .sub g e) s

/-- SUB AL,Ib, R363. -/
def execSubALIb (ib : Byte) (s : State) : Host.Outcome State Fault Refusal :=
  finish (aluALIb .sub ib) s

/-- SUB eAX,Iv, R363. -/
def execSubEAXIv (iv : Word) (s : State) : Host.Outcome State Fault Refusal :=
  finish (aluEAXIv .sub iv) s

/-- SUB Eb,Ib, R363. -/
def execSubEbIb (e : RM8) (ib : Byte) (s : State) : Host.Outcome State Fault Refusal :=
  finish (aluEbIb .sub e ib) s

/-- SUB Ev,Iv, R363. -/
def execSubEvIv (e : RM) (iv : Word) (s : State) : Host.Outcome State Fault Refusal :=
  finish (aluEvIv .sub e iv) s

/-- SUB Eb,Ib, R363. -/
def execSubEbIb82 (e : RM8) (ib : Byte) (s : State) : Host.Outcome State Fault Refusal :=
  finish (aluEbIb .sub e ib) s

/-- SUB Ev,Ibs, R363. -/
def execSubEvIbs (e : RM) (ib : Byte) (s : State) : Host.Outcome State Fault Refusal :=
  finish (aluEvIbs .sub e ib) s

/-- XOR Eb,Gb, R403. -/
def execXorEbGb (e : RM8) (g : Reg8) (s : State) : Host.Outcome State Fault Refusal :=
  finish (aluEbGb .xor e g) s

/-- XOR Ev,Gv, R403. -/
def execXorEvGv (e : RM) (g : Reg) (s : State) : Host.Outcome State Fault Refusal :=
  finish (aluEvGv .xor e g) s

/-- XOR Gb,Eb, R403. -/
def execXorGbEb (g : Reg8) (e : RM8) (s : State) : Host.Outcome State Fault Refusal :=
  finish (aluGbEb .xor g e) s

/-- XOR Gv,Ev, R403. -/
def execXorGvEv (g : Reg) (e : RM) (s : State) : Host.Outcome State Fault Refusal :=
  finish (aluGvEv .xor g e) s

/-- XOR AL,Ib, R403. -/
def execXorALIb (ib : Byte) (s : State) : Host.Outcome State Fault Refusal :=
  finish (aluALIb .xor ib) s

/-- XOR eAX,Iv, R403. -/
def execXorEAXIv (iv : Word) (s : State) : Host.Outcome State Fault Refusal :=
  finish (aluEAXIv .xor iv) s

/-- XOR Eb,Ib, R403. -/
def execXorEbIb (e : RM8) (ib : Byte) (s : State) : Host.Outcome State Fault Refusal :=
  finish (aluEbIb .xor e ib) s

/-- XOR Ev,Iv, R403. -/
def execXorEvIv (e : RM) (iv : Word) (s : State) : Host.Outcome State Fault Refusal :=
  finish (aluEvIv .xor e iv) s

/-- XOR Eb,Ib, R403. -/
def execXorEbIb82 (e : RM8) (ib : Byte) (s : State) : Host.Outcome State Fault Refusal :=
  finish (aluEbIb .xor e ib) s

/-- XOR Ev,Ibs, R403. -/
def execXorEvIbs (e : RM) (ib : Byte) (s : State) : Host.Outcome State Fault Refusal :=
  finish (aluEvIbs .xor e ib) s

/-- CMP Eb,Gb, R365. -/
def execCmpEbGb (e : RM8) (g : Reg8) (s : State) : Host.Outcome State Fault Refusal :=
  finish (aluEbGb .cmp e g) s

/-- CMP Ev,Gv, R365. -/
def execCmpEvGv (e : RM) (g : Reg) (s : State) : Host.Outcome State Fault Refusal :=
  finish (aluEvGv .cmp e g) s

/-- CMP Gb,Eb, R365. -/
def execCmpGbEb (g : Reg8) (e : RM8) (s : State) : Host.Outcome State Fault Refusal :=
  finish (aluGbEb .cmp g e) s

/-- CMP Gv,Ev, R365. -/
def execCmpGvEv (g : Reg) (e : RM) (s : State) : Host.Outcome State Fault Refusal :=
  finish (aluGvEv .cmp g e) s

/-- CMP AL,Ib, R365. -/
def execCmpALIb (ib : Byte) (s : State) : Host.Outcome State Fault Refusal :=
  finish (aluALIb .cmp ib) s

/-- CMP eAX,Iv, R365. -/
def execCmpEAXIv (iv : Word) (s : State) : Host.Outcome State Fault Refusal :=
  finish (aluEAXIv .cmp iv) s

/-- CMP Eb,Ib, R365. -/
def execCmpEbIb (e : RM8) (ib : Byte) (s : State) : Host.Outcome State Fault Refusal :=
  finish (aluEbIb .cmp e ib) s

/-- CMP Ev,Iv, R365. -/
def execCmpEvIv (e : RM) (iv : Word) (s : State) : Host.Outcome State Fault Refusal :=
  finish (aluEvIv .cmp e iv) s

/-- CMP Eb,Ib, R365. -/
def execCmpEbIb82 (e : RM8) (ib : Byte) (s : State) : Host.Outcome State Fault Refusal :=
  finish (aluEbIb .cmp e ib) s

/-- CMP Ev,Ibs, R365. -/
def execCmpEvIbs (e : RM) (ib : Byte) (s : State) : Host.Outcome State Fault Refusal :=
  finish (aluEvIbs .cmp e ib) s

/-- INC r16/r32, R366. -/
def execIncR (r : Reg) (s : State) : Host.Outcome State Fault Refusal :=
  finish (unaryR .inc r) s

/-- DEC r16/r32, R367. -/
def execDecR (r : Reg) (s : State) : Host.Outcome State Fault Refusal :=
  finish (unaryR .dec r) s

/-- IMUL Gv,Ev,Iv, R371. -/
def execImulGvEvIv (g : Reg) (e : RM) (iv : Word) (s : State) : Host.Outcome State Fault Refusal :=
  finish (imulTo g e fun _ => iv) s

/-- IMUL Gv,Ev,Ibs, R371. -/
def execImulGvEvIbs (g : Reg) (e : RM) (ib : Byte) (s : State) : Host.Outcome State Fault Refusal :=
  finish (imulTo g e fun s => s.sextOp ib) s

/-- TEST Eb,Gb, R404. -/
def execTestEbGb (e : RM8) (g : Reg8) (s : State) : Host.Outcome State Fault Refusal :=
  finish (aluEbGb .test e g) s

/-- TEST Ev,Gv, R404. -/
def execTestEvGv (e : RM) (g : Reg) (s : State) : Host.Outcome State Fault Refusal :=
  finish (aluEvGv .test e g) s

/-- TEST AL,Ib, R404. -/
def execTestALIb (ib : Byte) (s : State) : Host.Outcome State Fault Refusal :=
  finish (aluALIb .test ib) s

/-- TEST eAX,Iv, R404. -/
def execTestEAXIv (iv : Word) (s : State) : Host.Outcome State Fault Refusal :=
  finish (aluEAXIv .test iv) s

/-- AAM Ib, R378. -/
def execAamIb (ib : Byte) (s : State) : Host.Outcome State Fault Refusal :=
  finish (aam ib) s

/-- AAD Ib, R379. -/
def execAadIb (ib : Byte) (s : State) : Host.Outcome State Fault Refusal :=
  .next (aad ib s)

/-- TEST Eb,Ib, R404. -/
def execTestEbIb (e : RM8) (ib : Byte) (s : State) : Host.Outcome State Fault Refusal :=
  finish (aluEbIb .test e ib) s

/-- TEST Ev,Iv, R404. -/
def execTestEvIv (e : RM) (iv : Word) (s : State) : Host.Outcome State Fault Refusal :=
  finish (aluEvIv .test e iv) s

/-- NOT Eb, R406. -/
def execNotEb (e : RM8) (s : State) : Host.Outcome State Fault Refusal :=
  finish (unaryEb .not e) s

/-- NOT Ev, R406. -/
def execNotEv (e : RM) (s : State) : Host.Outcome State Fault Refusal :=
  finish (unaryEv .not e) s

/-- NEG Eb, R368. -/
def execNegEb (e : RM8) (s : State) : Host.Outcome State Fault Refusal :=
  finish (unaryEb .neg e) s

/-- NEG Ev, R368. -/
def execNegEv (e : RM) (s : State) : Host.Outcome State Fault Refusal :=
  finish (unaryEv .neg e) s

/-- MUL Eb, R369. -/
def execMulEb (e : RM8) (s : State) : Host.Outcome State Fault Refusal :=
  finish (mulEb false e) s

/-- MUL Ev, R369. -/
def execMulEv (e : RM) (s : State) : Host.Outcome State Fault Refusal :=
  finish (mulEv false e) s

/-- IMUL Eb, R370. -/
def execImulEb (e : RM8) (s : State) : Host.Outcome State Fault Refusal :=
  finish (mulEb true e) s

/-- IMUL Ev, R370. -/
def execImulEv (e : RM) (s : State) : Host.Outcome State Fault Refusal :=
  finish (mulEv true e) s

/-- DIV Eb, R372. -/
def execDivEb (e : RM8) (s : State) : Host.Outcome State Fault Refusal :=
  finish (divideEb false e) s

/-- DIV Ev, R372. -/
def execDivEv (e : RM) (s : State) : Host.Outcome State Fault Refusal :=
  finish (divideEv false e) s

/-- IDIV Eb, R373. -/
def execIdivEb (e : RM8) (s : State) : Host.Outcome State Fault Refusal :=
  finish (divideEb true e) s

/-- IDIV Ev, R373. -/
def execIdivEv (e : RM) (s : State) : Host.Outcome State Fault Refusal :=
  finish (divideEv true e) s

/-- INC Eb, R366. -/
def execIncEb (e : RM8) (s : State) : Host.Outcome State Fault Refusal :=
  finish (unaryEb .inc e) s

/-- DEC Eb, R367. -/
def execDecEb (e : RM8) (s : State) : Host.Outcome State Fault Refusal :=
  finish (unaryEb .dec e) s

/-- INC Ev, R366. -/
def execIncEv (e : RM) (s : State) : Host.Outcome State Fault Refusal :=
  finish (unaryEv .inc e) s

/-- DEC Ev, R367. -/
def execDecEv (e : RM) (s : State) : Host.Outcome State Fault Refusal :=
  finish (unaryEv .dec e) s

/-- IMUL Gv,Ev, R371. -/
def execImulGvEv (g : Reg) (e : RM) (s : State) : Host.Outcome State Fault Refusal :=
  finish (imulTo g e fun s => s.reg s.opW g) s

/-- DAA, R374. -/
def execDaa (s : State) : Host.Outcome State Fault Refusal :=
  .next (daa s)

/-- DAS, R375. -/
def execDas (s : State) : Host.Outcome State Fault Refusal :=
  .next (das s)

/-- AAA, R376. -/
def execAaa (s : State) : Host.Outcome State Fault Refusal :=
  .next (aaa s)

/-- AAS, R377. -/
def execAas (s : State) : Host.Outcome State Fault Refusal :=
  .next (aas s)

end Sys2Proof.Machine
end

