-- ==== Sys2Proof/Machine/BitOps.lean ====
section
/-! DEFINITION. Bit tests, bit scans and SETcc (42_logic_shift_bit.md R422 to R430). -/

namespace Sys2Proof.Machine

/-- BT, BTS, BTR, BTC (R422 to R425). -/
inductive BitOp where
  | test | set | reset | complement
  deriving DecidableEq, Repr

/-- The unit with the bit changed. -/
def BitOp.apply (op : BitOp) (v : Word) (n : Nat) : Word :=
  match op with
  | .test => v
  | .set => v ||| (1#32 <<< n)
  | .reset => v &&& ~~~(1#32 <<< n)
  | .complement => v ^^^ (1#32 <<< n)

/-- The instruction the free flags belong to (R381). -/
def BitOp.site : BitOp → UndefSite
  | .test => .bt
  | .set => .bts
  | .reset => .btr
  | .complement => .btc

/-- CF from bit n of the unit v; the other five undefined, default unchanged (R422). -/
def State.flagsBit (site : UndefSite) (w : Width) (v : Word) (n : Nat) (s : State) : State :=
  (s.setFlag .cf (bit v n)).undefine site w (psCached &&& ~~~Flag.cf.mask) s.getPS [v, BitVec.ofNat 32 n]

/-- One bit instruction on a unit. DESIGN CHOICE (log 47): BT sets NOWRITE, as CMP and TEST do. -/
def bitAt (op : BitOp) (w : Width) (l : Loc) (n : Nat) : M Unit :=
  if op = .test then do
    noWrite
    let v ← readLoc w l
    modify (State.flagsBit op.site w v n)
  else readModifyWrite w l fun _ v => (op.apply v n, State.flagsBit op.site w v n)

/-- The immediate forms: the bit number is `Ib mod w` (R426). -/
def bitIb (op : BitOp) (e : RM) (ib : Byte) : M Unit := do
  let s ← get
  bitAt op s.opW (← locE e) (ib.toNat % s.opW.bits)

/-- The unit a register bit offset selects: a signed offset for memory (R426). -/
def State.bitUnit (s : State) (e : RM) (k : Word) : Loc × Nat :=
  let w := s.opW
  match s.rmLoc e with
  | .mem seg off =>
    let i := signed w k
    (.mem seg (truncInt s.adW (off + w.bytes * i.fdiv w.bits)).toNat, (i.fmod w.bits).toNat)
  | .reg r => (.reg r, k.toNat % w.bits)
  | .byteReg r => (.byteReg r, k.toNat % w.bits)

/-- The register forms (R426). DESIGN CHOICE (log 40): `regEA` is the address of the unit that is accessed, not that of the ModR/M
offset. -/
def bitGv (op : BitOp) (e : RM) (g : Reg) : M Unit := do
  let s ← get
  let u := s.bitUnit e (s.reg s.opW g)
  bitAt op s.opW (← capture u.1) u.2

/-- The smallest set bit from i on, of n more (R427). -/
def scanUp (v : Word) : Nat → Nat → Nat
  | 0, i => i
  | n + 1, i => if bit v i then i else scanUp v n (i + 1)

/-- The largest set bit below n (R428). -/
def scanDown (v : Word) : Nat → Nat
  | 0 => 0
  | n + 1 => if bit v n then n else scanDown v n

/-- The instruction the free values of a scan belong to (R381). -/
def scanSite (up : Bool) : UndefSite := if up then .bsf else .bsr

/-- ZF of the source v; the other five undefined, default unchanged (R427); `old` is the destination before. -/
def State.flagsScan (site : UndefSite) (w : Width) (v old : Word) (s : State) : State :=
  (s.setFlag .zf (v == 0)).undefine site w (psCached &&& ~~~Flag.zf.mask) s.getPS [v, old]

/-- BSF (`up`) and BSR; the destination is undefined for 0, default unchanged (R427, R428). -/
def bitScan (up : Bool) (g : Reg) (e : RM) : M Unit := do
  let s ← get
  let w := s.opW
  let v ← readLoc w (← locE e)
  let old := s.reg w g
  let r := if v = 0 then s.undefValue (scanSite up) w old [v, old]
    else BitVec.ofNat 32 (if up then scanUp v 32 0 else scanDown v 32)
  modify fun s => (s.setReg w g r).flagsScan (scanSite up) w v old

/-- SETcc (R429). -/
def setcc (c : Cond) (e : RM8) : M Unit := do
  let s ← get
  writeLoc .w8 (← locE8 e) (ofBool (s.cond c))

/-! ### The meanings -/

/-- SETcc Eb, R429. -/
def execSetccEb (cc : Cond) (e : RM8) (s : State) : Host.Outcome State Fault Refusal :=
  finish (setcc cc e) s

/-- BT Ev,Gv, R422. -/
def execBtEvGv (e : RM) (g : Reg) (s : State) : Host.Outcome State Fault Refusal :=
  finish (bitGv .test e g) s

/-- BTS Ev,Gv, R423. -/
def execBtsEvGv (e : RM) (g : Reg) (s : State) : Host.Outcome State Fault Refusal :=
  finish (bitGv .set e g) s

/-- BTR Ev,Gv, R424. -/
def execBtrEvGv (e : RM) (g : Reg) (s : State) : Host.Outcome State Fault Refusal :=
  finish (bitGv .reset e g) s

/-- BT Ev,Ib, R422. -/
def execBtEvIb (e : RM) (ib : Byte) (s : State) : Host.Outcome State Fault Refusal :=
  finish (bitIb .test e ib) s

/-- BTS Ev,Ib, R423. -/
def execBtsEvIb (e : RM) (ib : Byte) (s : State) : Host.Outcome State Fault Refusal :=
  finish (bitIb .set e ib) s

/-- BTR Ev,Ib, R424. -/
def execBtrEvIb (e : RM) (ib : Byte) (s : State) : Host.Outcome State Fault Refusal :=
  finish (bitIb .reset e ib) s

/-- BTC Ev,Ib, R425. -/
def execBtcEvIb (e : RM) (ib : Byte) (s : State) : Host.Outcome State Fault Refusal :=
  finish (bitIb .complement e ib) s

/-- BTC Ev,Gv, R425. -/
def execBtcEvGv (e : RM) (g : Reg) (s : State) : Host.Outcome State Fault Refusal :=
  finish (bitGv .complement e g) s

/-- BSF Gv,Ev, R427. -/
def execBsfGvEv (g : Reg) (e : RM) (s : State) : Host.Outcome State Fault Refusal :=
  finish (bitScan true g e) s

/-- BSR Gv,Ev, R428. -/
def execBsrGvEv (g : Reg) (e : RM) (s : State) : Host.Outcome State Fault Refusal :=
  finish (bitScan false g e) s

end Sys2Proof.Machine
end

