-- ==== Sys2Proof/Machine/Move.lean ====
section
/-! DEFINITION. MOV, XCHG, LEA, the far-pointer loads, XLAT and the width conversions (40_data_movement.md). -/

namespace Sys2Proof.Machine

/-- MOV: the source is read, then the destination written (R311). -/
def move (w : Width) (dst src : Loc) : M Unit := do
  let v ← readLoc w src
  writeLoc w dst v

def moveToE8 (e : RM8) (src : Loc) : M Unit := do move .w8 (← locE8 e) src
def moveFromE8 (dst : Loc) (e : RM8) : M Unit := do move .w8 dst (← locE8 e)
def moveToE (e : RM) (g : Reg) : M Unit := do
  let s ← get
  move s.opW (← locE e) (.reg g)
def moveFromE (g : Reg) (e : RM) : M Unit := do
  let s ← get
  move s.opW (.reg g) (← locE e)

/-- MOV between AL or eAX and an offset operand (R291, R311). -/
def moveOffset (w : Width) (acc : Loc) (off : Word) (store : Bool) : M Unit := do
  let l ← locO off
  if store then move w l acc else move w acc l

/-- MOV of an immediate (R311). -/
def moveImmE8 (e : RM8) (v : Word) : M Unit := do writeLoc .w8 (← locE8 e) v
def moveImmE (e : RM) (v : Word) : M Unit := do
  let s ← get
  writeLoc s.opW (← locE e) v

/-- A load of SS blocks interrupts and the single-step trap until after the next instruction (R312, R324, R682). -/
def ssShadow (r : SReg) : M Unit :=
  whenM (r == .ss) (modify fun s => (s.setNoIntr true).setNoTrap true)

/-- MOV Sw,Ew (R312). -/
def moveToSeg (r : SReg) (e : RM) : M Unit := do
  let v ← readLoc .w16 (← locE e)
  loadSeg r (v.setWidth 16)
  ssShadow r

/-- MOV Ew,Sw (R312). -/
def moveFromSeg (e : RM) (r : SReg) : M Unit := do
  let s ← get
  storeHalf e (s.seg r).sel

/-- XCHG (R313). -/
def exchange (w : Width) (l g : Loc) : M Unit := do
  checkLoc w l
  let t ← readLoc w l
  let v ← readLoc w g
  writeLoc w l v
  writeLoc w g t

def exchangeE8 (e : RM8) (g : Reg8) : M Unit := do exchange .w8 (← locE8 e) (.byteReg g)
def exchangeE (e : RM) (g : Reg) : M Unit := do
  let s ← get
  exchange s.opW (← locE e) (.reg g)
def exchangeAcc (r : Reg) : M Unit := do exchange (← get).opW (.reg .ax) (.reg r)

/-- LEA: no segment check, no access, no override (R314, R292); a register operand raises UD under `LEA_REG_UD` (R253). DESIGN CHOICE
(log 40): the operand it resolves writes `regEA`, through its default segment, and nothing writes `regEAWrite`. -/
def lea (g : Reg) : RM → M Unit
  | .reg _ => do
    let s ← get
    if s.cfg.leaRegUd then raise .ud else refuse .leaRegister
  | .mem m => do
    let s ← get
    let _ ← capture (.mem (defaultSeg m) (s.offset m).toNat)
    modify (State.setReg s.opW g (s.offset m))

/-- LDS, LES, LFS, LGS, LSS (R315). -/
def loadFar (r : SReg) (g : Reg) (m : MemOp) : M Unit := do
  let s ← get
  let (o, sel) ← readFar m
  loadSeg r sel
  modify (State.setReg s.opW g o)

/-- XLAT (R316). DESIGN CHOICE (log 40): its memory operand writes `regEA` although it has no ModR/M byte. -/
def xlat : M Unit := do
  let s ← get
  let off := trunc s.adW (s.reg s.adW .bx + s.reg8 .al)
  let l ← capture (.mem (s.effSeg .ds) off.toNat)
  let v ← readLoc .w8 l
  modify (State.setReg8 .al v)

/-- CBW and CWDE (R330). -/
def convertAcc (s : State) : State :=
  if s.op32 then s.setReg .w32 .ax (sext .w16 (s.reg .w16 .ax)) else s.setReg .w16 .ax (sext .w8 (s.reg .w8 .ax))

/-- CWD and CDQ (R331). -/
def convertDouble (s : State) : State :=
  s.setReg s.opW .dx (if s.reg s.opW .ax &&& s.opW.msb = 0 then 0 else 0xFFFFFFFF)

/-- MOVZX and MOVSX from a byte (R332, R333). -/
def extendByte (sgn : Bool) (g : Reg) (e : RM8) : M Unit := do
  let s ← get
  let v ← readLoc .w8 (← locE8 e)
  modify (State.setReg s.opW g (if sgn then sext .w8 v else v))

/-- MOVZX and MOVSX from a word (R332, R333). -/
def extendWord (sgn : Bool) (g : Reg) (e : RM) : M Unit := do
  let s ← get
  let v ← readLoc .w16 (← locE e)
  modify (State.setReg s.opW g (if sgn then sext .w16 v else v))

/-! ### The meanings -/

/-- XCHG Eb,Gb, R313. -/
def execXchgEbGb (e : RM8) (g : Reg8) (s : State) : Host.Outcome State Fault Refusal :=
  finish (exchangeE8 e g) s

/-- XCHG Ev,Gv, R313. -/
def execXchgEvGv (e : RM) (g : Reg) (s : State) : Host.Outcome State Fault Refusal :=
  finish (exchangeE e g) s

/-- MOV Eb,Gb, R311. -/
def execMovEbGb (e : RM8) (g : Reg8) (s : State) : Host.Outcome State Fault Refusal :=
  finish (moveToE8 e (.byteReg g)) s

/-- MOV Ev,Gv, R311. -/
def execMovEvGv (e : RM) (g : Reg) (s : State) : Host.Outcome State Fault Refusal :=
  finish (moveToE e g) s

/-- MOV Gb,Eb, R311. -/
def execMovGbEb (g : Reg8) (e : RM8) (s : State) : Host.Outcome State Fault Refusal :=
  finish (moveFromE8 (.byteReg g) e) s

/-- MOV Gv,Ev, R311. -/
def execMovGvEv (g : Reg) (e : RM) (s : State) : Host.Outcome State Fault Refusal :=
  finish (moveFromE g e) s

/-- MOV Ew,Sw, R312. -/
def execMovEwSw (e : RM) (sr : SReg) (s : State) : Host.Outcome State Fault Refusal :=
  finish (moveFromSeg e sr) s

/-- LEA Gv,M, R314. -/
def execLeaGvM (g : Reg) (e : RM) (s : State) : Host.Outcome State Fault Refusal :=
  finish (lea g e) s

/-- MOV Sw,Ew, R312. -/
def execMovSwEw (sr : SReg) (e : RM) (s : State) : Host.Outcome State Fault Refusal :=
  finish (moveToSeg sr e) s

/-- XCHG eAX,r16/r32, R313. -/
def execXchgEAXR (r : Reg) (s : State) : Host.Outcome State Fault Refusal :=
  finish (exchangeAcc r) s

/-- MOV AL,Ob, R311. -/
def execMovALOb (off : Word) (s : State) : Host.Outcome State Fault Refusal :=
  finish (moveOffset .w8 (.byteReg .al) off false) s

/-- MOV eAX,Ov, R311. -/
def execMovEAXOv (off : Word) (s : State) : Host.Outcome State Fault Refusal :=
  finish (moveOffset s.opW (.reg .ax) off false) s

/-- MOV Ob,AL, R311. -/
def execMovObAL (off : Word) (s : State) : Host.Outcome State Fault Refusal :=
  finish (moveOffset .w8 (.byteReg .al) off true) s

/-- MOV Ov,eAX, R311. -/
def execMovOvEAX (off : Word) (s : State) : Host.Outcome State Fault Refusal :=
  finish (moveOffset s.opW (.reg .ax) off true) s

/-- MOV r8,Ib, R311. -/
def execMovR8Ib (r : Reg8) (ib : Byte) (s : State) : Host.Outcome State Fault Refusal :=
  finish (writeLoc .w8 (.byteReg r) (ib.setWidth 32)) s

/-- MOV r16/r32,Iv, R311. -/
def execMovRIv (r : Reg) (iv : Word) (s : State) : Host.Outcome State Fault Refusal :=
  finish (writeLoc s.opW (.reg r) iv) s

/-- LES Gv,Mp, R315. -/
def execLesGvMp (g : Reg) (m : MemOp) (s : State) : Host.Outcome State Fault Refusal :=
  finish (loadFar .es g m) s

/-- LDS Gv,Mp, R315. -/
def execLdsGvMp (g : Reg) (m : MemOp) (s : State) : Host.Outcome State Fault Refusal :=
  finish (loadFar .ds g m) s

/-- MOV Eb,Ib, R311. -/
def execMovEbIb (e : RM8) (ib : Byte) (s : State) : Host.Outcome State Fault Refusal :=
  finish (moveImmE8 e (ib.setWidth 32)) s

/-- MOV Ev,Iv, R311. -/
def execMovEvIv (e : RM) (iv : Word) (s : State) : Host.Outcome State Fault Refusal :=
  finish (moveImmE e iv) s

/-- LSS Gv,Mp, R315. -/
def execLssGvMp (g : Reg) (m : MemOp) (s : State) : Host.Outcome State Fault Refusal :=
  finish (loadFar .ss g m) s

/-- LFS Gv,Mp, R315. -/
def execLfsGvMp (g : Reg) (m : MemOp) (s : State) : Host.Outcome State Fault Refusal :=
  finish (loadFar .fs g m) s

/-- LGS Gv,Mp, R315. -/
def execLgsGvMp (g : Reg) (m : MemOp) (s : State) : Host.Outcome State Fault Refusal :=
  finish (loadFar .gs g m) s

/-- MOVZX Gv,Eb, R332. -/
def execMovzxGvEb (g : Reg) (e : RM8) (s : State) : Host.Outcome State Fault Refusal :=
  finish (extendByte false g e) s

/-- MOVZX Gv,Ew, R332. -/
def execMovzxGvEw (g : Reg) (e : RM) (s : State) : Host.Outcome State Fault Refusal :=
  finish (extendWord false g e) s

/-- MOVSX Gv,Eb, R333. -/
def execMovsxGvEb (g : Reg) (e : RM8) (s : State) : Host.Outcome State Fault Refusal :=
  finish (extendByte true g e) s

/-- MOVSX Gv,Ew, R333. -/
def execMovsxGvEw (g : Reg) (e : RM) (s : State) : Host.Outcome State Fault Refusal :=
  finish (extendWord true g e) s

/-- NOP, R340. -/
def execNop (s : State) : Host.Outcome State Fault Refusal :=
  .next s

/-- CBW, R330. -/
def execCbw (s : State) : Host.Outcome State Fault Refusal :=
  .next (convertAcc s)

/-- CWD, R331. -/
def execCwd (s : State) : Host.Outcome State Fault Refusal :=
  .next (convertDouble s)

/-- XLAT, R316. -/
def execXlat (s : State) : Host.Outcome State Fault Refusal :=
  finish (xlat) s

end Sys2Proof.Machine
end

