-- ==== Sys2Proof/Machine/StackOps.lean ====
section
/-! DEFINITION. PUSH, POP, PUSHA, POPA, ENTER and LEAVE (40_data_movement.md section 3). -/

namespace Sys2Proof.Machine

/-- What PUSH of a general register pushes: of SP on the 8086 class, the value after the decrement (R320, R321). -/
def State.pushValue (s : State) (r : Reg) : Word :=
  if r = .sp ∧ s.cfg.model.class8086 then s.reg s.opW .sp - 2 else s.reg s.opW r

def pushReg (r : Reg) : M Unit := do
  let s ← get
  push s.opW (s.pushValue r)

/-- PUSH Ev (R320): the operand is read before the stack pointer changes. -/
def pushE : RM → M Unit
  | .reg r => do
    let _ ← locE (.reg r)
    pushReg r
  | .mem m => do
    let s ← get
    let v ← readLoc s.opW (← locM m)
    push s.opW v

def pushImm (v : State → Word) : M Unit := do
  let s ← get
  push s.opW (v s)

/-- PUSH of a segment register (R322). -/
def pushSeg (r : SReg) : M Unit := do
  let s ← get
  push s.opW ((s.seg r).sel.setWidth 32)

/-- POP of a general register (R323). -/
def popReg (r : Reg) : M Unit := do
  let s ← get
  let v ← pop s.opW
  modify (State.setReg s.opW r v)

/-- POP Ev (R323): a memory address is computed with the incremented stack pointer, which is committed after the write. DESIGN CHOICE
(log 40): the operand is resolved, and `regEA` captured, when the pop has been read, so that a pop that faults leaves `regEA` as
ADDR_INVALID; R231 decodes operands first, R323 says only with which stack pointer. -/
def popE : RM → M Unit
  | .reg r => do
    let _ ← locE (.reg r)
    popReg r
  | .mem m => do
    let s ← get
    let k := s.stack
    let v ← k.peek 0 s.opW.bytes
    let k' := k.drop s.opW.bytes
    let l ← capture ((s.setReg k.w .sp k'.sp).memLoc m)
    writeLoc s.opW l v
    k'.commit

/-- POP of a segment register (R324): the stack pointer is committed after the load. -/
def popSeg (r : SReg) : M Unit := do
  let s ← get
  let k := s.stack
  let v ← k.peek 0 s.opW.bytes
  loadSeg r (v.setWidth 16)
  (k.drop s.opW.bytes).commit
  ssShadow r

/-- PUSHA (R325). -/
def pushAllRegs : M Unit := do
  let s ← get
  let w := s.opW
  let k ← s.stack.pushAll w
    [s.gpr.ax, s.gpr.cx, s.gpr.dx, s.gpr.bx, s.gpr.sp, s.gpr.bp, s.gpr.si, s.gpr.di]
  k.commit

/-- POPA (R326): the fourth value is read and discarded. -/
def popAllRegs : M Unit := do
  let s ← get
  let w := s.opW
  let k := s.stack
  let n := w.bytes
  let di ← k.peek 0 n
  let si ← k.peek n n
  let bp ← k.peek (2 * n) n
  let _ ← k.peek (3 * n) n
  let bx ← k.peek (4 * n) n
  let dx ← k.peek (5 * n) n
  let cx ← k.peek (6 * n) n
  let ax ← k.peek (7 * n) n
  (k.drop (8 * n)).commit
  modify fun s => (((((((s.setReg w .di di).setReg w .si si).setReg w .bp bp).setReg w .bx bx).setReg w .dx dx).setReg
    w .cx cx).setReg w .ax ax)

/-- The frame pointers ENTER copies: n of them, below `bp` (R347). -/
def copyFrames (w : Width) : Nat → Word → Stack → M Stack
  | 0, _, k => pure k
  | n + 1, bp, k => do
    let bp' := trunc k.w (bp - BitVec.ofNat 32 w.bytes)
    let v ← k.view.read bp'.toNat w.bytes
    let k' ← k.push w v
    copyFrames w n bp' k'

/-- The part of ENTER for a level above 0 (R347). -/
def enterLevels (w : Width) (level : Nat) (bp frame : Word) (k : Stack) : M Stack :=
  match level with
  | 0 => pure k
  | n + 1 => do
    let k' ← copyFrames w n bp k
    k'.push w frame

/-- rBP after the loop of ENTER, level − 1 operands lower (R347). -/
def enterBp (w kw : Width) (level : Nat) (bp : Word) : Word := trunc kw (bp - BitVec.ofNat 32 ((level - 1) * w.bytes))

/-- ENTER (R347): the loop leaves rBP lowered at the stack's width before the frame pointer replaces it at the operand size. -/
def enter (iw : Half) (ib : Byte) : M Unit := do
  let s ← get
  let w := s.opW
  let level := ib.toNat % 32
  let k0 := s.stack
  let k1 ← k0.push w (s.gpr.get .bp)
  let k2 ← enterLevels w level (s.reg k0.w .bp) k1.sp k1
  modify fun s' => (s'.setReg k0.w .bp (enterBp w k0.w level (s.reg k0.w .bp))).setReg w .bp k1.sp
  Stack.commit { k2 with sp := trunc k2.w (k2.sp - iw.setWidth 32) }

/-- LEAVE (R348). -/
def leave : M Unit := do
  let s ← get
  let k : Stack := { s.stack with sp := s.reg s.stack.w .bp }
  let t ← k.peek 0 s.opW.bytes
  (k.drop s.opW.bytes).commit
  modify (State.setReg s.opW .bp t)

/-! ### The meanings -/

/-- PUSH r16/r32, R320. -/
def execPushR (r : Reg) (s : State) : Host.Outcome State Fault Refusal :=
  finish (pushReg r) s

/-- POP r16/r32, R323. -/
def execPopR (r : Reg) (s : State) : Host.Outcome State Fault Refusal :=
  finish (popReg r) s

/-- PUSH Iv, R320. -/
def execPushIv (iv : Word) (s : State) : Host.Outcome State Fault Refusal :=
  finish (pushImm fun _ => iv) s

/-- PUSH Ibs, R320. -/
def execPushIbs (ib : Byte) (s : State) : Host.Outcome State Fault Refusal :=
  finish (pushImm fun s => s.sextOp ib) s

/-- POP Ev, R323. -/
def execPopEv (e : RM) (s : State) : Host.Outcome State Fault Refusal :=
  finish (popE e) s

/-- ENTER Iw,Ib, R347. -/
def execEnterIwIb (iw : Half) (ib : Byte) (s : State) : Host.Outcome State Fault Refusal :=
  finish (enter iw ib) s

/-- PUSH Ev, R320. -/
def execPushEv (e : RM) (s : State) : Host.Outcome State Fault Refusal :=
  finish (pushE e) s

/-- PUSH ES, R322. -/
def execPushES (s : State) : Host.Outcome State Fault Refusal :=
  finish (pushSeg .es) s

/-- POP ES, R324. -/
def execPopES (s : State) : Host.Outcome State Fault Refusal :=
  finish (popSeg .es) s

/-- PUSH CS, R322. -/
def execPushCS (s : State) : Host.Outcome State Fault Refusal :=
  finish (pushSeg .cs) s

/-- PUSH SS, R322. -/
def execPushSS (s : State) : Host.Outcome State Fault Refusal :=
  finish (pushSeg .ss) s

/-- POP SS, R324. -/
def execPopSS (s : State) : Host.Outcome State Fault Refusal :=
  finish (popSeg .ss) s

/-- PUSH DS, R322. -/
def execPushDS (s : State) : Host.Outcome State Fault Refusal :=
  finish (pushSeg .ds) s

/-- POP DS, R324. -/
def execPopDS (s : State) : Host.Outcome State Fault Refusal :=
  finish (popSeg .ds) s

/-- POP CS, R324. -/
def execPopCS (s : State) : Host.Outcome State Fault Refusal :=
  finish (popSeg .cs) s

/-- PUSHA, R325. -/
def execPusha (s : State) : Host.Outcome State Fault Refusal :=
  finish (pushAllRegs) s

/-- POPA, R326. -/
def execPopa (s : State) : Host.Outcome State Fault Refusal :=
  finish (popAllRegs) s

/-- LEAVE, R348. -/
def execLeave (s : State) : Host.Outcome State Fault Refusal :=
  finish (leave) s

/-- PUSH FS, R322. -/
def execPushFS (s : State) : Host.Outcome State Fault Refusal :=
  finish (pushSeg .fs) s

/-- POP FS, R324. -/
def execPopFS (s : State) : Host.Outcome State Fault Refusal :=
  finish (popSeg .fs) s

/-- PUSH GS, R322. -/
def execPushGS (s : State) : Host.Outcome State Fault Refusal :=
  finish (pushSeg .gs) s

/-- POP GS, R324. -/
def execPopGS (s : State) : Host.Outcome State Fault Refusal :=
  finish (popSeg .gs) s

end Sys2Proof.Machine
end

