-- ==== Sys2Proof/Machine/Control.lean ====
section
/-! DEFINITION. Control transfer (43_control_flow.md): near and far jumps, calls and returns, conditional jumps and loops,
software interrupts, IRET and BOUND. -/

namespace Sys2Proof.Machine

/-! ### Near transfers (R452 to R459) -/

/-- The target of a relative transfer: displacement added to the return address, truncated to `opsize` (R450, R452). -/
def State.target (s : State) (disp : Word) : Word := trunc s.opW (s.pc + disp)

/-- A relative jump when a condition holds. -/
def State.jumpIf (c : Bool) (disp : Word) (s : State) : State := if c then s.jumpTo (s.target disp) else s

/-- A displacement byte, sign-extended (R243). -/
def disp8 (jb : Byte) : Word := jb.signExtend 32

/-- A displacement of `opsize` bits, sign-extended (R243). -/
def State.dispV (s : State) (jv : Word) : Word := sext s.opW jv

def jumpRel (disp : State → Word) (s : State) : State := s.jumpIf true (disp s)

/-- Jcc (R454). -/
def jumpCond (c : Cond) (disp : State → Word) (s : State) : State := s.jumpIf (s.cond c) (disp s)

/-- JCXZ (R455). -/
def jumpCxZero (jb : Byte) (s : State) : State := s.jumpIf (s.reg s.adW .cx == 0) (disp8 jb)

/-- LOOP, LOOPZ, LOOPNZ: `z` is the ZF the branch needs, if any (R456). -/
def loopRel (z : Option Bool) (jb : Byte) (s : State) : State :=
  let c := trunc s.adW (s.reg s.adW .cx - 1)
  let s' := s.setReg s.adW .cx c
  s'.jumpIf (c != 0 && (match z with | none => true | some b => s.flag .zf == b)) (disp8 jb)

/-- JMP Ev (R453). -/
def jumpE (e : RM) : M Unit := do
  let s ← get
  let t ← readLoc s.opW (← locE e)
  modify (State.jumpTo t)

/-- CALL Jv (R457). -/
def callRel (jv : Word) : M Unit := do
  let s ← get
  push s.opW s.pc
  modify (State.jumpTo (s.target (s.dispV jv)))

/-- CALL Ev (R458): the target is read before the push. -/
def callE (e : RM) : M Unit := do
  let s ← get
  let t ← readLoc s.opW (← locE e)
  push s.opW s.pc
  modify (State.jumpTo t)

/-- RET and RET Iw (R459). -/
def retNear (iw : Half) : M Unit := do
  let s ← get
  let t ← pop s.opW
  let k ← read (·.stack)
  (k.drop iw.toNat).commit
  modify (State.jumpTo t)

/-! ### Far transfers (R460 to R474) -/

/-- Far JMP and CALL in real mode (R464). -/
def farReal (isCall : Bool) (off : Word) (sel : Half) : M Unit := do
  let s ← get
  whenM isCall do
    let k ← s.stack.pushAll s.opW [s.cs.sel.setWidth 32, s.pc]
    k.commit
  modify fun s => (s.realLoad .cs sel).jumpTo off

/-- Far JMP and CALL to a code segment (R152, R462). -/
def farCode (isCall : Bool) (off : Word) (sel : Half) (d : Desc) : M Unit := do
  let s ← get
  let cpl ← orRaise (SelFault.gpNp 0 sel) (ruleCsDirect s.cpl sel d)
  let c : NewCode := ⟨sel, d, cpl⟩
  let k ← s.stack.pushAll s.opW (if isCall then [s.cs.sel.setWidth 32, s.pc] else [])
  markAccessed d
  k.commit
  modify fun s => (c.commit s).jumpTo off

/-- The parameters of a call gate: n units from the old stack top up, at offsets that are not truncated (R12, R472). -/
def readParams (k : Stack) (w : Width) (i : Nat) : Nat → M (List Word)
  | 0 => pure []
  | n + 1 => do
    let v ← k.view.read (k.sp.toNat + i * w.bytes) w.bytes
    let r ← readParams k w (i + 1) n
    return v :: r

/-- The number of parameters of a call gate (R182). -/
def Desc.gateCount (d : Desc) : Nat := (d.w2.extractLsb 4 0).toNat

/-- The stack switch of an inter-privilege call (R472). -/
def callInner (g : Desc) (w : Width) (c : NewCode) : M Unit := do
  let s ← get
  let (newSs, newSp) ← tssStack c.cpl 0
  let (d, _) ← orRaise (fun _ => .ts (selErr 0 newSs)) (← testSel newSs (ruleSs c.cpl newSs))
  let ps ← readParams s.stack w 0 g.gateCount
  let r := d.record newSs
  let kw := stackWidth s.cfg.model r
  let k ← Stack.pushAll ⟨⟨r, true, false, false⟩, kw, trunc kw (s.innerSp newSp)⟩ w
    ([s.ss.sel.setWidth 32, s.stack.sp] ++ ps.reverse ++ [s.cs.sel.setWidth 32, s.pc])
  markStackAndCode d c.desc
  modify (State.setSeg .ss r)
  k.commit
  modify fun s => (c.commit s).jumpTo (g.gateOffset w)

/-- The gate access check (R181). -/
def gateCheck (sel : Half) (g : Desc) : M Unit := do
  let s ← get
  ensure (decide (s.cpl ≤ g.dpl) && decide (selRPL sel ≤ g.dpl)) (.gp (selErr 0 sel))
  ensure g.present (.np (selErr 0 sel))

/-- Far transfer through a call gate of a width (R471). -/
def farGate (isCall : Bool) (sel : Half) (g : Desc) (w : Width) : M Unit := do
  gateCheck sel g
  let s ← get
  let c ← testCode 0 g.w1 (ruleCsGate s.cpl isCall)
  if isCall && decide (c.cpl < s.cpl) then callInner g w c
  else do
    let k ← s.stack.pushAll w (if isCall then [s.cs.sel.setWidth 32, s.pc] else [])
    markAccessed c.desc
    k.commit
    modify fun s => (c.commit s).jumpTo (g.gateOffset w)

/-- The kind of task switch a far transfer asks for (R620). -/
def farKind (isCall : Bool) : SwitchKind := if isCall then .call else .jmp

/-- Far transfer to a TSS (R470). -/
def farTss (isCall : Bool) (sel : Half) (d : Desc) : M Unit := do
  let s ← get
  ensure (decide (s.cpl ≤ d.dpl) && decide (selRPL sel ≤ d.dpl)) (.gp (selErr 0 sel))
  taskSwitch sel (farKind isCall) s.pc 0

/-- Far transfer through a task gate (R470, R181). -/
def farTaskGate (isCall : Bool) (sel : Half) (g : Desc) : M Unit := do
  gateCheck sel g
  let s ← get
  taskSwitch g.w1 (farKind isCall) s.pc 0

/-- What a far JMP or CALL may name among the system descriptors (R470); 386 kinds exist on the 80386. -/
inductive FarSystem where
  | gate (w : Width) | taskGate | tss

def farSystem (m : Model) : Nat → Option FarSystem
  | 0x4 => some (.gate .w16)
  | 0xC => if m.has386 then some (.gate .w32) else none
  | 0x5 => some .taskGate
  | 0x1 => some .tss
  | 0x9 => if m.has386 then some .tss else none
  | _ => none

/-- Far JMP and CALL in protected mode (R470). DESIGN CHOICE (log 52): the `FetchDesc` of R470 is also that of R152, so the descriptor of
a code segment is read once; R621 makes its own, so that of a TSS is read twice, here and in `testTask`. -/
def farProt (isCall : Bool) (off : Word) (sel : Half) : M Unit := do
  let s ← get
  ensure (!selNull sel) (.gp 0)
  match ← fetchDesc sel with
  | none => raise (.gp (selErr 0 sel))
  | some d =>
    if d.isSegment then farCode isCall off sel d
    else match farSystem s.cfg.model d.type with
      | none => raise (.gp (selErr 0 sel))
      | some (.gate w) => farGate isCall sel d w
      | some .taskGate => farTaskGate isCall sel d
      | some .tss => farTss isCall sel d

/-- Far JMP (R461) and CALL (R462). -/
def farTransfer (isCall : Bool) (off : Word) (sel : Half) : M Unit := do
  let s ← get
  if s.protectedMode then farProt isCall off sel else farReal isCall off sel

/-- The Mp forms: the pointer is read before anything else (R460). -/
def farMem (isCall : Bool) (m : MemOp) : M Unit := do
  let (off, sel) ← readFar m
  farTransfer isCall off sel

/-- RETF in real mode (R464). -/
def retFarReal (iw : Half) : M Unit := do
  let s ← get
  let k := s.stack
  let n := s.opW.bytes
  let off ← k.peek 0 n
  let sel ← k.peek n n
  (k.drop (2 * n + iw.toNat)).commit
  modify fun s => (s.realLoad .cs (sel.setWidth 16)).jumpTo off

/-- RETF in protected mode (R473, R474). -/
def retFarProt (iw : Half) : M Unit := do
  let s ← get
  let w := s.opW
  let k := s.stack
  let n := w.bytes
  let off ← k.peek 0 n
  let sel := (← k.peek n 2).setWidth 16
  let c ← testCode 0 sel (ruleCsReturn s.cpl sel)
  if c.cpl == s.cpl then do
    markAccessed c.desc
    (k.drop (2 * n + iw.toNat)).commit
    modify fun s => (c.commit s).jumpTo off
  else do
    let newSp ← k.peek (2 * n + iw.toNat) n
    let newSs := (← k.peek (3 * n + iw.toNat) 2).setWidth 16
    let d ← testOuterSs newSs c.cpl
    markStackAndCode d c.desc
    modify fun s => (c.commit s).jumpTo off
    commitOuterStack d newSs w (newSp + iw.setWidth 32)
    modify State.nullOuter

/-- RETF and RETF Iw (R463). -/
def retFar (iw : Half) : M Unit := do
  let s ← get
  if s.protectedMode then retFarProt iw else retFarReal iw

/-! ### Software interrupts and BOUND (R480 to R482, R500) -/

/-- INT n, INT3 and taken INTO: deliver, and no single-step trap afterwards (R480, R690). -/
def softInt (n : Byte) : M Unit := do
  let s ← get
  deliver n .software none s.pc
  modify (State.setNoTrap true)

/-- INTO (R482). -/
def intOnOverflow : M Unit := do
  let s ← get
  whenM (s.flag .of) (softInt 4)

/-- BOUND (R500). -/
def bound (g : Reg) (m : MemOp) : M Unit := do
  let s ← get
  let w := s.opW
  let _ ← locM m
  let lo ← segRead (s.resolve m).1 (s.resolve m).2 w.bytes
  let hi ← segRead (s.resolve m).1 ((s.resolve m).2 + w.bytes) w.bytes
  let i := signed w (s.reg w g)
  ensure (decide (signed w lo ≤ i) && decide (i ≤ signed w hi)) .br

/-! ### The meanings -/

/-- BOUND Gv,Ma, R500. -/
def execBoundGvMa (g : Reg) (m : MemOp) (s : State) : Host.Outcome State Fault Refusal :=
  finish (bound g m) s

/-- Jcc Jb, R454. -/
def execJccJb (cc : Cond) (jb : Byte) (s : State) : Host.Outcome State Fault Refusal :=
  .next (jumpCond cc (fun _ => disp8 jb) s)

/-- CALL Ap, R462. -/
def execCallFarAp (off : Word) (sel : Half) (s : State) : Host.Outcome State Fault Refusal :=
  finish (farTransfer true off sel) s

/-- RET Iw, R459. -/
def execRetIw (iw : Half) (s : State) : Host.Outcome State Fault Refusal :=
  finish (retNear iw) s

/-- RETF Iw, R463. -/
def execRetfIw (iw : Half) (s : State) : Host.Outcome State Fault Refusal :=
  finish (retFar iw) s

/-- INT Ib, R480. -/
def execIntIb (ib : Byte) (s : State) : Host.Outcome State Fault Refusal :=
  finish (softInt ib) s

/-- LOOPNZ Jb, R456. -/
def execLoopnzJb (jb : Byte) (s : State) : Host.Outcome State Fault Refusal :=
  .next (loopRel (some false) jb s)

/-- LOOPZ Jb, R456. -/
def execLoopzJb (jb : Byte) (s : State) : Host.Outcome State Fault Refusal :=
  .next (loopRel (some true) jb s)

/-- LOOP Jb, R456. -/
def execLoopJb (jb : Byte) (s : State) : Host.Outcome State Fault Refusal :=
  .next (loopRel none jb s)

/-- JCXZ Jb, R455. -/
def execJcxzJb (jb : Byte) (s : State) : Host.Outcome State Fault Refusal :=
  .next (jumpCxZero jb s)

/-- CALL Jv, R457. -/
def execCallJv (jv : Word) (s : State) : Host.Outcome State Fault Refusal :=
  finish (callRel jv) s

/-- JMP Jv, R452. -/
def execJmpJv (jv : Word) (s : State) : Host.Outcome State Fault Refusal :=
  .next (jumpRel (fun s => s.dispV jv) s)

/-- JMP Ap, R461. -/
def execJmpFarAp (off : Word) (sel : Half) (s : State) : Host.Outcome State Fault Refusal :=
  finish (farTransfer false off sel) s

/-- JMP Jb, R452. -/
def execJmpJb (jb : Byte) (s : State) : Host.Outcome State Fault Refusal :=
  .next (jumpRel (fun _ => disp8 jb) s)

/-- CALL Ev, R458. -/
def execCallEv (e : RM) (s : State) : Host.Outcome State Fault Refusal :=
  finish (callE e) s

/-- CALL Mp, R462. -/
def execCallFarMp (m : MemOp) (s : State) : Host.Outcome State Fault Refusal :=
  finish (farMem true m) s

/-- JMP Ev, R453. -/
def execJmpEv (e : RM) (s : State) : Host.Outcome State Fault Refusal :=
  finish (jumpE e) s

/-- JMP Mp, R461. -/
def execJmpFarMp (m : MemOp) (s : State) : Host.Outcome State Fault Refusal :=
  finish (farMem false m) s

/-- Jcc Jv, R454. -/
def execJccJv (cc : Cond) (jv : Word) (s : State) : Host.Outcome State Fault Refusal :=
  .next (jumpCond cc (fun s => s.dispV jv) s)

/-- RET, R459. -/
def execRet (s : State) : Host.Outcome State Fault Refusal :=
  finish (retNear 0) s

/-- RETF, R463. -/
def execRetf (s : State) : Host.Outcome State Fault Refusal :=
  finish (retFar 0) s

/-- INT3, R481. -/
def execInt3 (s : State) : Host.Outcome State Fault Refusal :=
  finish (softInt 3) s

/-- INTO, R482. -/
def execInto (s : State) : Host.Outcome State Fault Refusal :=
  finish (intOnOverflow) s

/-- IRET, R490. -/
def execIret (s : State) : Host.Outcome State Fault Refusal :=
  finish (interruptReturn) s

end Sys2Proof.Machine
end

