-- ==== Sys2Proof/Machine/PortIO.lean ====
section
/-! DEFINITION. The port space (20_memory.md R106, R107) with its oracle, IN and OUT (40_data_movement.md R345, R346). -/

namespace Sys2Proof.Machine

/-- The I/O permission bits of n ports from p on (R616). -/
def bitmapAllows (mb p : Nat) : Nat → M Unit
  | 0 => pure ()
  | n + 1 => do
    let tr ← read (·.tr)
    ensure (decide (mb + p / 8 ≤ tr.limit.toNat)) (.gp 0)
    let b ← sysRead (tr.base + BitVec.ofNat 32 (mb + p / 8)) 1
    ensure (!bit b (p % 8)) (.gp 0)
    bitmapAllows mb (p + 1) n

/-- The I/O privilege check (R107, R616). -/
def ioCheck (port : Half) (n : Nat) : M Unit := do
  let s ← get
  if s.protectedMode && decide (s.iopl < s.cpl) then
    if s.cfg.model.has386 && s.tr.kind == .tss386 then do
      let mb ← sysRead (s.tr.base + 0x66) 2
      bitmapAllows mb.toNat port.toNat n
    else raise (.gp 0)
  else pure ()

/-- The answer of the port space to a read, and the oracle after it (R106; log 4). -/
def State.portAnswer (s : State) (port : Half) (w : Width) : Word × State :=
  match s.portAnswers with
  | v :: r => (trunc w v, { s with portAnswers := r })
  | [] => (trunc w (Config.portAnswer s.oracleCount port w.bytes), { s with oracleCount := s.oracleCount + 1 })

def State.logPort (e : PortEvent) (s : State) : State := { s with portLog := e :: s.portLog }

/-- `IoRead` (R106). -/
def ioRead (port : Half) (w : Width) : M Word := do
  let s ← get
  let (v, s') := s.portAnswer port w
  set (s'.logPort (.read port w.bytes v))
  return v

/-- `IoWrite` (R106). -/
def ioWrite (port : Half) (w : Width) (v : Word) : M Unit := modify (State.logPort (.write port w.bytes (trunc w v)))

/-- The port number in DX. -/
def State.dxPort (s : State) : Half := (s.reg .w16 .dx).setWidth 16

/-- IN (R345). -/
def input (w : Width) (port : Half) (dst : Loc) : M Unit := do
  ioCheck port w.bytes
  let v ← ioRead port w
  writeLoc w dst v

/-- OUT (R346). -/
def output (w : Width) (port : Half) (src : Loc) : M Unit := do
  ioCheck port w.bytes
  let v ← readLoc w src
  ioWrite port w v

/-! ### The meanings -/

/-- IN AL,Ib, R345. -/
def execInALIb (ib : Byte) (s : State) : Host.Outcome State Fault Refusal :=
  finish (input .w8 (ib.setWidth 16) (.byteReg .al)) s

/-- IN eAX,Ib, R345. -/
def execInEAXIb (ib : Byte) (s : State) : Host.Outcome State Fault Refusal :=
  finish (input s.opW (ib.setWidth 16) (.reg .ax)) s

/-- OUT Ib,AL, R346. -/
def execOutIbAL (ib : Byte) (s : State) : Host.Outcome State Fault Refusal :=
  finish (output .w8 (ib.setWidth 16) (.byteReg .al)) s

/-- OUT Ib,eAX, R346. -/
def execOutIbEAX (ib : Byte) (s : State) : Host.Outcome State Fault Refusal :=
  finish (output s.opW (ib.setWidth 16) (.reg .ax)) s

/-- IN AL,DX, R345. -/
def execInALDX (s : State) : Host.Outcome State Fault Refusal :=
  finish (input .w8 s.dxPort (.byteReg .al)) s

/-- IN eAX,DX, R345. -/
def execInEAXDX (s : State) : Host.Outcome State Fault Refusal :=
  finish (input s.opW s.dxPort (.reg .ax)) s

/-- OUT DX,AL, R346. -/
def execOutDXAL (s : State) : Host.Outcome State Fault Refusal :=
  finish (output .w8 s.dxPort (.byteReg .al)) s

/-- OUT DX,eAX, R346. -/
def execOutDXEAX (s : State) : Host.Outcome State Fault Refusal :=
  finish (output s.opW s.dxPort (.reg .ax)) s

end Sys2Proof.Machine
end

