-- ==== Sys2Proof/Machine/Shift.lean ====
section
/-! DEFINITION. Shifts, rotates and double shifts (42_logic_shift_bit.md R410 to R421). -/

namespace Sys2Proof.Machine

/-- The operations of group 2 (R248). -/
inductive ShiftOp where
  | rol | ror | rcl | rcr | shl | shr | sar
  deriving DecidableEq, Repr

/-- What a shift or rotate gives: the value, CF and OF. -/
structure ShiftResult where
  value : Word
  cf    : Bool
  of    : Bool
  deriving DecidableEq, Repr

/-- The most significant bit at a width. -/
def msbOf (w : Width) (v : Word) : Bool := bit v (w.bits - 1)

/-- The bit below it. -/
def msb2Of (w : Width) (v : Word) : Bool := bit v (w.bits - 2)

/-- The ring CF ++ D of w + 1 bits (R417). -/
def ring (w : Width) (cf : Bool) (d : Word) : BitVec 64 :=
  (if cf then 1#64 <<< w.bits else 0) ||| d.setWidth 64

/-- The ring turned left by n. -/
def ringLeft (w : Width) (n : Nat) (t : BitVec 64) : BitVec 64 :=
  ((t <<< n) ||| (t >>> (w.bits + 1 - n))) &&& ((1#64 <<< (w.bits + 1)) - 1)

/-- The ring turned right by n. -/
def ringRight (w : Width) (n : Nat) (t : BitVec 64) : BitVec 64 :=
  ((t >>> n) ||| (t <<< (w.bits + 1 - n))) &&& ((1#64 <<< (w.bits + 1)) - 1)

/-- The operations for a count c ≠ 0 (R411 to R413, R415 to R418). -/
def ShiftOp.compute (op : ShiftOp) (w : Width) (cf : Bool) (d : Word) (c : Nat) : ShiftResult :=
  match op with
  | .shl =>
    let l := trunc w (d <<< c)
    let k := decide (c ≤ w.bits) && bit d (w.bits - c)
    ⟨l, k, msbOf w l ^^ k⟩
  | .shr =>
    ⟨d >>> c, decide (c ≤ w.bits) && bit d (c - 1), msbOf w d⟩
  | .sar =>
    ⟨trunc w ((sext w d).sshiftRight (min c w.bits)), if c ≤ w.bits then bit d (c - 1) else msbOf w d, false⟩
  | .rol =>
    let n := c % w.bits
    let l := trunc w ((d <<< n) ||| (d >>> (w.bits - n)))
    ⟨l, bit l 0, msbOf w l ^^ bit l 0⟩
  | .ror =>
    let n := c % w.bits
    let l := trunc w ((d >>> n) ||| (d <<< (w.bits - n)))
    ⟨l, msbOf w l, msbOf w l ^^ msb2Of w l⟩
  | .rcl =>
    let t := ringLeft w (c % (w.bits + 1)) (ring w cf d)
    let l := trunc w (t.setWidth 32)
    ⟨l, t.getLsbD w.bits, msbOf w l ^^ t.getLsbD w.bits⟩
  | .rcr =>
    let t := ringRight w (c % (w.bits + 1)) (ring w cf d)
    let l := trunc w (t.setWidth 32)
    ⟨l, t.getLsbD w.bits, msbOf w l ^^ msb2Of w l⟩

/-- A shift writes PF, ZF and SF, a rotate does not (R414, R419). -/
def ShiftOp.isShift : ShiftOp → Bool
  | .shl | .shr | .sar => true
  | .rol | .ror | .rcl | .rcr => false

/-- OF is architecturally defined for the count 1 only (R414, R419). -/
def ofUndefined (c : Nat) : Word := if c = 1 then 0 else Flag.of.mask

/-- The instruction the free flags belong to (R381). -/
def ShiftOp.site : ShiftOp → UndefSite
  | .rol => .rol | .ror => .ror | .rcl => .rcl | .rcr => .rcr | .shl => .shl | .shr => .shr | .sar => .sar

/-- The flags for a count c ≠ 0 (R414, R419); the default of what is undefined is what the rules compute. -/
def ShiftOp.flags (op : ShiftOp) (w : Width) (d : Word) (c : Nat) (r : ShiftResult) (s : State) : State :=
  if op.isShift then
    (((s.flagsPZS w r.value).setFlag .cf r.cf).setFlag .of r.of).undefine op.site w (Flag.af.mask ||| ofUndefined c) s.getPS
      [d, BitVec.ofNat 32 c]
  else ((s.setFlag .cf r.cf).setFlag .of r.of).undefine op.site w (ofUndefined c) s.getPS [d, BitVec.ofNat 32 c]

/-- One shift or rotate by a masked count; a count of 0 writes the operand back and no flag (R410). -/
def shift (op : ShiftOp) (w : Width) (l : Loc) (c : Nat) : M Unit :=
  readModifyWrite w l fun s d =>
    if c = 0 then (d, id)
    else
      let r := op.compute w (s.flag .cf) d c
      (r.value, op.flags w d c r)

/-- The count operand, masked with 0x1F on every model (R410). -/
def State.count (s : State) : ShiftBy → Nat
  | .ib n => n.toNat % 32
  | .one => 1
  | .cl => (s.reg8 .cl).toNat % 32

def shiftEb (op : ShiftOp) (k : ShiftBy) (e : RM8) : M Unit := do
  let s ← get
  shift op .w8 (← locE8 e) (s.count k)

def shiftEv (op : ShiftOp) (k : ShiftBy) (e : RM) : M Unit := do
  let s ← get
  shift op s.opW (← locE e) (s.count k)

/-- Group 2 on either destination. -/
def shiftDst (op : ShiftOp) (k : ShiftBy) : ShiftDst → M Unit
  | .eb e => shiftEb op k e
  | .ev e => shiftEv op k e

/-! ### SHLD and SHRD (R420, R421) -/

/-- The default result and carry of SHLD (`left`) and SHRD for a count c ≠ 0. -/
def doubleShiftValue (left : Bool) (w : Width) (d g : Word) (c : Nat) : Word × Bool :=
  let n := w.bits
  let d' : BitVec 64 := d.setWidth 64
  let g' : BitVec 64 := g.setWidth 64
  if c ≤ n then
    if left then (trunc w ((((d' <<< n ||| g') <<< c) >>> n).setWidth 32), bit d (n - c))
    else (trunc w (((g' <<< n ||| d') >>> c).setWidth 32), bit d (c - 1))
  else
    let t := d' <<< (2 * n) ||| g' <<< n ||| d'
    if left then (trunc w (((t <<< c) >>> (2 * n)).setWidth 32), t.getLsbD (3 * n - c))
    else (trunc w ((t >>> c).setWidth 32), t.getLsbD (c - 1))

/-- AF undefined, OF too beyond a count of 1, and all six beyond the width (R381, R420). -/
def doubleShiftUndefined (w : Width) (c : Nat) : Word :=
  if c ≤ w.bits then Flag.af.mask ||| ofUndefined c else psCached

/-- The instruction the free values of a double shift belong to (R381). -/
def doubleSite (left : Bool) : UndefSite := if left then .shld else .shrd

/-- The flags of a double shift of d and g for a count c ≠ 0. -/
def State.flagsDouble (left : Bool) (w : Width) (d g l : Word) (cf : Bool) (c : Nat) (s : State) : State :=
  (((s.flagsPZS w l).setFlag .cf cf).setFlag .of (msbOf w l ^^ msbOf w d)).undefine (doubleSite left) w
    (doubleShiftUndefined w c) s.getPS [d, g, BitVec.ofNat 32 c]

/-- SHLD and SHRD by a masked count (log 15 for the count 0); the undefined result beyond the width is a function of the direction,
the old PS, both operands and the count (log 3). -/
def doubleShift (left : Bool) (e : RM) (g : Reg) (k : ShiftBy) : M Unit := do
  let s ← get
  let w := s.opW
  let c := s.count k
  let x := s.reg w g
  readModifyWrite w (← locE e) fun s' d =>
    if c = 0 then (d, id)
    else
      let r := doubleShiftValue left w d x c
      let l := if c ≤ w.bits then r.1 else trunc w (s'.undefValue (doubleSite left) w r.1 [d, x, BitVec.ofNat 32 c])
      (l, State.flagsDouble left w d x l r.2 c)

/-! ### The meanings -/

/-- ROL Eb,Ib, R415. -/
def execRolEbIb (e : RM8) (ib : Byte) (s : State) : Host.Outcome State Fault Refusal :=
  finish (shiftEb .rol (.ib ib) e) s

/-- ROL Ev,Ib, R415. -/
def execRolEvIb (e : RM) (ib : Byte) (s : State) : Host.Outcome State Fault Refusal :=
  finish (shiftEv .rol (.ib ib) e) s

/-- ROL Eb,1, R415. -/
def execRolEbOne (e : RM8) (s : State) : Host.Outcome State Fault Refusal :=
  finish (shiftEb .rol .one e) s

/-- ROL Ev,1, R415. -/
def execRolEvOne (e : RM) (s : State) : Host.Outcome State Fault Refusal :=
  finish (shiftEv .rol .one e) s

/-- ROL Eb,CL, R415. -/
def execRolEbCL (e : RM8) (s : State) : Host.Outcome State Fault Refusal :=
  finish (shiftEb .rol .cl e) s

/-- ROL Ev,CL, R415. -/
def execRolEvCL (e : RM) (s : State) : Host.Outcome State Fault Refusal :=
  finish (shiftEv .rol .cl e) s

/-- ROR Eb,Ib, R416. -/
def execRorEbIb (e : RM8) (ib : Byte) (s : State) : Host.Outcome State Fault Refusal :=
  finish (shiftEb .ror (.ib ib) e) s

/-- ROR Ev,Ib, R416. -/
def execRorEvIb (e : RM) (ib : Byte) (s : State) : Host.Outcome State Fault Refusal :=
  finish (shiftEv .ror (.ib ib) e) s

/-- ROR Eb,1, R416. -/
def execRorEbOne (e : RM8) (s : State) : Host.Outcome State Fault Refusal :=
  finish (shiftEb .ror .one e) s

/-- ROR Ev,1, R416. -/
def execRorEvOne (e : RM) (s : State) : Host.Outcome State Fault Refusal :=
  finish (shiftEv .ror .one e) s

/-- ROR Eb,CL, R416. -/
def execRorEbCL (e : RM8) (s : State) : Host.Outcome State Fault Refusal :=
  finish (shiftEb .ror .cl e) s

/-- ROR Ev,CL, R416. -/
def execRorEvCL (e : RM) (s : State) : Host.Outcome State Fault Refusal :=
  finish (shiftEv .ror .cl e) s

/-- RCL Eb,Ib, R417. -/
def execRclEbIb (e : RM8) (ib : Byte) (s : State) : Host.Outcome State Fault Refusal :=
  finish (shiftEb .rcl (.ib ib) e) s

/-- RCL Ev,Ib, R417. -/
def execRclEvIb (e : RM) (ib : Byte) (s : State) : Host.Outcome State Fault Refusal :=
  finish (shiftEv .rcl (.ib ib) e) s

/-- RCL Eb,1, R417. -/
def execRclEbOne (e : RM8) (s : State) : Host.Outcome State Fault Refusal :=
  finish (shiftEb .rcl .one e) s

/-- RCL Ev,1, R417. -/
def execRclEvOne (e : RM) (s : State) : Host.Outcome State Fault Refusal :=
  finish (shiftEv .rcl .one e) s

/-- RCL Eb,CL, R417. -/
def execRclEbCL (e : RM8) (s : State) : Host.Outcome State Fault Refusal :=
  finish (shiftEb .rcl .cl e) s

/-- RCL Ev,CL, R417. -/
def execRclEvCL (e : RM) (s : State) : Host.Outcome State Fault Refusal :=
  finish (shiftEv .rcl .cl e) s

/-- RCR Eb,Ib, R418. -/
def execRcrEbIb (e : RM8) (ib : Byte) (s : State) : Host.Outcome State Fault Refusal :=
  finish (shiftEb .rcr (.ib ib) e) s

/-- RCR Ev,Ib, R418. -/
def execRcrEvIb (e : RM) (ib : Byte) (s : State) : Host.Outcome State Fault Refusal :=
  finish (shiftEv .rcr (.ib ib) e) s

/-- RCR Eb,1, R418. -/
def execRcrEbOne (e : RM8) (s : State) : Host.Outcome State Fault Refusal :=
  finish (shiftEb .rcr .one e) s

/-- RCR Ev,1, R418. -/
def execRcrEvOne (e : RM) (s : State) : Host.Outcome State Fault Refusal :=
  finish (shiftEv .rcr .one e) s

/-- RCR Eb,CL, R418. -/
def execRcrEbCL (e : RM8) (s : State) : Host.Outcome State Fault Refusal :=
  finish (shiftEb .rcr .cl e) s

/-- RCR Ev,CL, R418. -/
def execRcrEvCL (e : RM) (s : State) : Host.Outcome State Fault Refusal :=
  finish (shiftEv .rcr .cl e) s

/-- SHL Eb,Ib, R411. -/
def execShlEbIb (e : RM8) (ib : Byte) (s : State) : Host.Outcome State Fault Refusal :=
  finish (shiftEb .shl (.ib ib) e) s

/-- SHL Ev,Ib, R411. -/
def execShlEvIb (e : RM) (ib : Byte) (s : State) : Host.Outcome State Fault Refusal :=
  finish (shiftEv .shl (.ib ib) e) s

/-- SHL Eb,1, R411. -/
def execShlEbOne (e : RM8) (s : State) : Host.Outcome State Fault Refusal :=
  finish (shiftEb .shl .one e) s

/-- SHL Ev,1, R411. -/
def execShlEvOne (e : RM) (s : State) : Host.Outcome State Fault Refusal :=
  finish (shiftEv .shl .one e) s

/-- SHL Eb,CL, R411. -/
def execShlEbCL (e : RM8) (s : State) : Host.Outcome State Fault Refusal :=
  finish (shiftEb .shl .cl e) s

/-- SHL Ev,CL, R411. -/
def execShlEvCL (e : RM) (s : State) : Host.Outcome State Fault Refusal :=
  finish (shiftEv .shl .cl e) s

/-- SHR Eb,Ib, R412. -/
def execShrEbIb (e : RM8) (ib : Byte) (s : State) : Host.Outcome State Fault Refusal :=
  finish (shiftEb .shr (.ib ib) e) s

/-- SHR Ev,Ib, R412. -/
def execShrEvIb (e : RM) (ib : Byte) (s : State) : Host.Outcome State Fault Refusal :=
  finish (shiftEv .shr (.ib ib) e) s

/-- SHR Eb,1, R412. -/
def execShrEbOne (e : RM8) (s : State) : Host.Outcome State Fault Refusal :=
  finish (shiftEb .shr .one e) s

/-- SHR Ev,1, R412. -/
def execShrEvOne (e : RM) (s : State) : Host.Outcome State Fault Refusal :=
  finish (shiftEv .shr .one e) s

/-- SHR Eb,CL, R412. -/
def execShrEbCL (e : RM8) (s : State) : Host.Outcome State Fault Refusal :=
  finish (shiftEb .shr .cl e) s

/-- SHR Ev,CL, R412. -/
def execShrEvCL (e : RM) (s : State) : Host.Outcome State Fault Refusal :=
  finish (shiftEv .shr .cl e) s

/-- SHL E,count, R411. -/
def execShl6 (k : ShiftBy) (d : ShiftDst) (s : State) : Host.Outcome State Fault Refusal :=
  finish (shiftDst .shl k d) s

/-- SAR Eb,Ib, R413. -/
def execSarEbIb (e : RM8) (ib : Byte) (s : State) : Host.Outcome State Fault Refusal :=
  finish (shiftEb .sar (.ib ib) e) s

/-- SAR Ev,Ib, R413. -/
def execSarEvIb (e : RM) (ib : Byte) (s : State) : Host.Outcome State Fault Refusal :=
  finish (shiftEv .sar (.ib ib) e) s

/-- SAR Eb,1, R413. -/
def execSarEbOne (e : RM8) (s : State) : Host.Outcome State Fault Refusal :=
  finish (shiftEb .sar .one e) s

/-- SAR Ev,1, R413. -/
def execSarEvOne (e : RM) (s : State) : Host.Outcome State Fault Refusal :=
  finish (shiftEv .sar .one e) s

/-- SAR Eb,CL, R413. -/
def execSarEbCL (e : RM8) (s : State) : Host.Outcome State Fault Refusal :=
  finish (shiftEb .sar .cl e) s

/-- SAR Ev,CL, R413. -/
def execSarEvCL (e : RM) (s : State) : Host.Outcome State Fault Refusal :=
  finish (shiftEv .sar .cl e) s

/-- SHLD Ev,Gv,Ib, R420. -/
def execShldEvGvIb (e : RM) (g : Reg) (ib : Byte) (s : State) : Host.Outcome State Fault Refusal :=
  finish (doubleShift true e g (.ib ib)) s

/-- SHLD Ev,Gv,CL, R420. -/
def execShldEvGvCL (e : RM) (g : Reg) (s : State) : Host.Outcome State Fault Refusal :=
  finish (doubleShift true e g .cl) s

/-- SHRD Ev,Gv,Ib, R421. -/
def execShrdEvGvIb (e : RM) (g : Reg) (ib : Byte) (s : State) : Host.Outcome State Fault Refusal :=
  finish (doubleShift false e g (.ib ib)) s

/-- SHRD Ev,Gv,CL, R421. -/
def execShrdEvGvCL (e : RM) (g : Reg) (s : State) : Host.Outcome State Fault Refusal :=
  finish (doubleShift false e g .cl) s

end Sys2Proof.Machine
end

