-- ==== Sys2Proof/Machine/StringOps.lean ====
section
/-! DEFINITION. String instructions and the REP sequencer (44_string.md): one element a step. -/

namespace Sys2Proof.Machine

/-- Move an index register by n, up or down by DF (R521). -/
def State.advance (r : Reg) (n : Nat) (s : State) : State :=
  let v := s.reg s.adW r
  let v' := if s.direct psDF then v - BitVec.ofNat 32 n else v + BitVec.ofNat 32 n
  s.setReg s.adW r v'

/-- The offset in an index register (R520). -/
def State.indexOff (s : State) (r : Reg) : Nat := (s.reg s.adW r).toNat

/-- The source element at seg:rSI (R522), with `regEA` captured (log 40). -/
def readSource (w : Width) : M Word := do
  let s ← get
  readLoc w (← capture (.mem (s.effSeg .ds) (s.indexOff .si)))

/-- The destination element at ES:rDI (R522), with `regEA` captured. -/
def readDest (w : Width) : M Word := do
  let s ← get
  readLoc w (← capture (.mem .es (s.indexOff .di)))

/-- Write the destination element: `regEA` and `regEAWrite` are its address. -/
def writeDest (w : Width) (v : Word) : M Unit := do
  let s ← get
  writeLoc w (← capture (.mem .es (s.indexOff .di))) v

/-- MOVS (R524). -/
def movsElement (w : Width) : M Unit := do
  let v ← readSource w
  writeDest w v
  modify fun s => (s.advance .si w.bytes).advance .di w.bytes

/-- CMPS (R525). -/
def cmpsElement (w : Width) : M Unit := do
  let d ← readSource w
  let x ← readDest w
  modify fun s => ((s.flagsSub w d x (trunc w (d - x))).advance .si w.bytes).advance .di w.bytes

/-- SCAS (R526). -/
def scasElement (w : Width) : M Unit := do
  let x ← readDest w
  modify fun s =>
    let d := s.reg w .ax
    (s.flagsSub w d x (trunc w (d - x))).advance .di w.bytes

/-- LODS (R527). -/
def lodsElement (w : Width) : M Unit := do
  let v ← readSource w
  modify fun s => (s.setReg w .ax v).advance .si w.bytes

/-- STOS (R528). -/
def stosElement (w : Width) : M Unit := do
  let s ← get
  writeDest w (s.reg w .ax)
  modify (State.advance .di w.bytes)

/-- INS (R530): the write check precedes the port read. -/
def insElement (w : Width) : M Unit := do
  let s ← get
  ioCheck s.dxPort w.bytes
  (s.view .es).probe (s.indexOff .di) w.bytes
  let v ← ioRead s.dxPort w
  writeDest w v
  modify (State.advance .di w.bytes)

/-- OUTS (R531). -/
def outsElement (w : Width) : M Unit := do
  let s ← get
  ioCheck s.dxPort w.bytes
  let v ← readSource w
  ioWrite s.dxPort w v
  modify (State.advance .si w.bytes)

/-- Whether a repeated CMPS or SCAS goes on by ZF (R523). -/
def State.repMatches (s : State) (compares : Bool) : Bool :=
  !compares || (if s.opPrefixes.repz then s.flag .zf else !s.flag .zf)

/-- After an element: the count, and pc back to the first prefix byte while the repetition goes on (R523). -/
def State.repNext (compares : Bool) (s : State) : State :=
  let c := trunc s.adW (s.reg s.adW .cx - 1)
  let s' := s.setReg s.adW .cx c
  if c != 0 && s'.repMatches compares then s'.setPc (s'.opLIP - s'.cs.base) else s'

/-- One step of a string instruction (R523). -/
def stringStep (compares : Bool) (element : M Unit) : M Unit := do
  let s ← get
  if !(s.opPrefixes.repz || s.opPrefixes.repnz) then element
  else if s.reg s.adW .cx == 0 then pure ()
  else do
    element
    modify (State.repNext compares)

/-- The `v` form: words or dwords by operand size (R520). -/
def stringStepV (compares : Bool) (element : Width → M Unit) : M Unit := do
  let s ← get
  stringStep compares (element s.opW)

/-! ### The meanings -/

/-- INS Yb,DX, R530. -/
def execInsb (s : State) : Host.Outcome State Fault Refusal :=
  finish (stringStep false (insElement .w8)) s

/-- INS Yv,DX, R530. -/
def execInsv (s : State) : Host.Outcome State Fault Refusal :=
  finish (stringStepV false insElement) s

/-- OUTS DX,Xb, R531. -/
def execOutsb (s : State) : Host.Outcome State Fault Refusal :=
  finish (stringStep false (outsElement .w8)) s

/-- OUTS DX,Xv, R531. -/
def execOutsv (s : State) : Host.Outcome State Fault Refusal :=
  finish (stringStepV false outsElement) s

/-- MOVS Yb,Xb, R524. -/
def execMovsb (s : State) : Host.Outcome State Fault Refusal :=
  finish (stringStep false (movsElement .w8)) s

/-- MOVS Yv,Xv, R524. -/
def execMovsv (s : State) : Host.Outcome State Fault Refusal :=
  finish (stringStepV false movsElement) s

/-- CMPS Xb,Yb, R525. -/
def execCmpsb (s : State) : Host.Outcome State Fault Refusal :=
  finish (stringStep true (cmpsElement .w8)) s

/-- CMPS Xv,Yv, R525. -/
def execCmpsv (s : State) : Host.Outcome State Fault Refusal :=
  finish (stringStepV true cmpsElement) s

/-- STOS Yb,AL, R528. -/
def execStosb (s : State) : Host.Outcome State Fault Refusal :=
  finish (stringStep false (stosElement .w8)) s

/-- STOS Yv,eAX, R528. -/
def execStosv (s : State) : Host.Outcome State Fault Refusal :=
  finish (stringStepV false stosElement) s

/-- LODS AL,Xb, R527. -/
def execLodsb (s : State) : Host.Outcome State Fault Refusal :=
  finish (stringStep false (lodsElement .w8)) s

/-- LODS eAX,Xv, R527. -/
def execLodsv (s : State) : Host.Outcome State Fault Refusal :=
  finish (stringStepV false lodsElement) s

/-- SCAS AL,Yb, R526. -/
def execScasb (s : State) : Host.Outcome State Fault Refusal :=
  finish (stringStep true (scasElement .w8)) s

/-- SCAS eAX,Yv, R526. -/
def execScasv (s : State) : Host.Outcome State Fault Refusal :=
  finish (stringStepV true scasElement) s

end Sys2Proof.Machine
end

