-- ==== Sys2Proof/Machine/System.lean ====
section
/-! DEFINITION. Flag, system and protection instructions (45_system.md), the undefined encodings (30_encoding.md R251, R252)
and the prefixes (R233). -/

namespace Sys2Proof.Machine

/-! ### PS (R552 to R559) -/

/-- PUSHF: a 32-bit image has VM = RF = 0 (R552). -/
def pushFlags : M Unit := do
  let s ← get
  push s.opW (s.getPS &&& ~~~(psVM ||| psRF))

/-- POPF (R553). -/
def popFlags : M Unit := do
  let s ← get
  let v ← pop s.opW
  modify (State.setPS v s.popfWritable)

/-- LAHF (R554). -/
def lahf (s : State) : State := s.setReg8 .ah s.getPS

/-- SAHF (R555). -/
def sahf (s : State) : State := s.setPS (s.reg8 .ah) 0x00D5

/-- CLI and STI need CPL ≤ IOPL in protected mode (R107, R556). -/
def ioplCheck : M Unit := do
  let s ← get
  ensure (!s.protectedMode || decide (s.cpl ≤ s.iopl)) (.gp 0)

/-- CLI (R556). -/
def cli : M Unit := do
  ioplCheck
  modify (State.setDirect psIF false)

/-- STI (R557). -/
def sti : M Unit := do
  ioplCheck
  modify fun s => (s.setDirect psIF true).setNoIntr true

/-! ### Privilege and modes (R550, R564) -/

/-- CPL 0 in protected mode (R550). -/
def privileged : M Unit := do
  let s ← get
  ensure (!s.protectedMode || s.cpl == 0) (.gp 0)

/-- Instructions that exist only in protected mode (R564). -/
def protectedOnly : M Unit := do
  let s ← get
  ensure s.protectedMode .ud

/-! ### Table registers (R560 to R568) -/

/-- The six bytes of LGDT and LIDT (R560). -/
def readTable (m : MemOp) : M TableReg := do
  let s ← get
  let _ ← locM m
  privileged
  let lim ← segRead (s.resolve m).1 (s.resolve m).2 2
  let b ← segRead (s.resolve m).1 ((s.resolve m).2 + 2) 4
  return ⟨if s.op32 then b else b &&& 0x00FFFFFF, lim.setWidth 16⟩

def lgdt (m : MemOp) : M Unit := do
  let t ← readTable m
  modify (State.setGdtr t)

def lidt (m : MemOp) : M Unit := do
  let t ← readTable m
  modify (State.setIdtr t)

/-- The sixth byte of SGDT and SIDT (R562, D47). -/
def State.tableByte5 (s : State) (base : Word) : Byte :=
  if !s.cfg.model.has386 then 0xFF
  else if s.op32 then base.extractLsb 31 24
  else s.cfg.sgdtByte5.getD (base.extractLsb 31 24)

/-- SGDT and SIDT (R562, R563; both writes are tested before the first, log 13 and 16). -/
def storeTable (m : MemOp) (t : State → TableReg) : M Unit := do
  let s ← get
  let _ ← locM m
  let v := s.view (s.resolve m).1
  let off := (s.resolve m).2
  v.probe off 2
  v.probe (off + 2) 4
  modify (State.captureWrite (s.memLoc m))
  v.write off 2 ((t s).limit.setWidth 32)
  v.write (off + 2) 4 (((t s).base &&& 0x00FFFFFF#32) ||| ((s.tableByte5 (t s).base).setWidth 32 <<< 24))

/-- The exceptions of LLDT in the two styles (R156). -/
def lldtExn (style : LoadFaultStyle) (sel : Half) : SelFault → Exn :=
  match style with
  | .source => fun _ => .ts (selErr 0 sel)
  | .intel => SelFault.gpNp 0 sel

/-- LLDT (R565). The operand is resolved first, and then mode and privilege are tested, as in every instruction of this file with a
ModR/M operand (R231, steps 4 and 5; log 40). -/
def lldt (e : RM) : M Unit := do
  let l ← locE e
  protectedOnly
  privileged
  let s ← get
  let sel := (← readLoc .w16 l).setWidth 16
  loadLdt (lldtExn s.cfg.loadFaults sel) sel

/-- SLDT and STR (R566, R568). -/
def storeSel (e : RM) (sel : State → Half) : M Unit := do
  let l ← locE e
  protectedOnly
  let s ← get
  storeHalfAt l (sel s)

/-- The TR rule: an available TSS (R157). -/
def ruleTr (m : Model) (d : Desc) : Except SelFault TssKind :=
  if d.isSegment then .error .type
  else match tssOfType m d.type with
    | some (k, false) => if d.present then .ok k else .error .notPresent
    | _ => .error .type

/-- LTR (R157, R567): the descriptor is marked busy. -/
def ltr (e : RM) : M Unit := do
  let l ← locE e
  protectedOnly
  privileged
  let s ← get
  let sel := (← readLoc .w16 l).setWidth 16
  ensure (!(selNull sel || selTI sel)) (.gp (selErr 0 sel))
  let (d, k) ← orRaise (SelFault.gpNp 0 sel) (← testSel sel (ruleTr s.cfg.model))
  sysWrite (d.addr + 4) 2 ((d.w2 ||| 0x0200).setWidth 32)
  modify (State.setTr ⟨sel, d.base, d.limit, k⟩)

/-! ### Control and debug registers (R570 to R575) -/

/-- SMSW (R570). -/
def smsw (e : RM) : M Unit := do
  let s ← get
  storeHalf e (s.cr0.setWidth 16)

/-- LMSW: MP, EM, TS are written, PE can be set (R571). -/
def lmsw (e : RM) : M Unit := do
  let l ← locE e
  privileged
  let v ← readLoc .w16 l
  modify fun s => s.setCr0 ((s.cr0 &&& ~~~0x0E) ||| (v &&& 0x0F))

/-- CLTS (R572). -/
def clts : M Unit := do
  privileged
  modify fun s => s.setCr0 (s.cr0 &&& ~~~0x08)

/-- PE, MP, EM, TS, ET and PG (R56). -/
def cr0Writable : Word := 0x8000001F

/-- The flags after a move to or from CRn and DRn: undefined, default unchanged (R573). -/
def State.flagsControl (site : UndefSite) (n : BitVec 3) (v : Word) (s : State) : State :=
  s.undefine site .w32 psCached s.getPS [n.setWidth 32, v]

/-- The control registers that exist (R573). -/
def State.cr (s : State) (n : BitVec 3) : Option Word :=
  match n.toNat with
  | 0 => some s.cr0 | 2 => some s.cr2 | 3 => some s.cr3 | _ => none

/-- MOV Rd,Cd (R573). -/
def moveFromCr (r : Reg) (n : BitVec 3) : M Unit := do
  privileged
  let s ← get
  match s.cr n with
  | none => raise .ud
  | some v => modify fun s => (s.setReg .w32 r v).flagsControl .fromCr n v

/-- MOV Cd,Rd (R574). -/
def moveToCr (n : BitVec 3) (r : Reg) : M Unit := do
  privileged
  let s ← get
  let v := s.reg .w32 r
  match n.toNat with
  | 0 => do
    ensure (!(bit v 31 && !bit v 0)) (.gp 0)
    modify fun s => (s.setCr0 ((s.cr0 &&& ~~~cr0Writable) ||| (v &&& cr0Writable))).flagsControl .toCr n v
  | 2 => modify fun s => (s.setCr2 v).flagsControl .toCr n v
  | 3 => modify fun s => (s.setCr3 v).flagsControl .toCr n v
  | _ => raise .ud

/-- The debug registers (R59). -/
def State.dr (s : State) (n : BitVec 3) : Word :=
  match n.toNat with
  | 0 => s.dr0 | 1 => s.dr1 | 2 => s.dr2 | 3 => s.dr3 | 4 => s.dr4 | 5 => s.dr5 | 6 => s.dr6 | _ => s.dr7

def State.setDr (n : BitVec 3) (v : Word) (s : State) : State :=
  match n.toNat with
  | 0 => { s with dr0 := v } | 1 => { s with dr1 := v } | 2 => { s with dr2 := v } | 3 => { s with dr3 := v }
  | 4 => { s with dr4 := v } | 5 => { s with dr5 := v } | 6 => { s with dr6 := v } | _ => { s with dr7 := v }

/-- MOV Rd,Dd (R575). -/
def moveFromDr (r : Reg) (n : BitVec 3) : M Unit := do
  privileged
  modify fun s => (s.setReg .w32 r (s.dr n)).flagsControl .fromDr n (s.dr n)

/-- MOV Dd,Rd (R575). -/
def moveToDr (n : BitVec 3) (r : Reg) : M Unit := do
  privileged
  modify fun s => (s.setDr n (s.reg .w32 r)).flagsControl .toDr n (s.reg .w32 r)

/-! ### Protection queries (R579 to R584) -/

/-- `LoadVER` (R158): permissive, no fault. -/
def loadVer (sel : Half) : M (Option Desc) := if selNull sel then pure none else fetchDesc sel

/-- `PrivOK` (R579). -/
def privOk (cpl : BitVec 2) (sel : Half) (d : Desc) : Bool := decide (cpl ≤ d.dpl) && decide (selRPL sel ≤ d.dpl)

/-- The privilege test with the parameter for conforming code (R579, D47; log 46). -/
def queryOk (r : ConformingRule) (cpl : BitVec 2) (sel : Half) (d : Desc) : Bool :=
  if d.isSegment && d.isCode && d.conforming then
    match r with
    | .noDplTest => true
    | .dplTest => privOk cpl sel d
    | .unknown => Config.conformingOk cpl (selRPL sel) d.dpl
  else privOk cpl sel d

/-- The system types LAR accepts (R580). -/
def larType (m : Model) (t : Nat) : Bool :=
  t == 1 || t == 2 || t == 3 || t == 4 || t == 5 || (m.has386 && (t == 9 || t == 0xB || t == 0xC))

/-- The system types LSL accepts (R581). -/
def lslType (m : Model) (t : Nat) : Bool :=
  t == 1 || t == 2 || t == 3 || (m.has386 && (t == 9 || t == 0xB))

/-- What LAR delivers (R580). -/
def Desc.rights (d : Desc) (w : Width) : Word :=
  match w with
  | .w32 => ((d.w3.setWidth 32 <<< 16) ||| d.w2.setWidth 32) &&& 0x00F0FF00
  | _ => d.w2.setWidth 32 &&& 0xFF00

/-- LAR and LSL (R580, R581): `types` the system types accepted, `value` what is delivered. -/
def queryLoad (g : Reg) (e : RM) (types : Model → Nat → Bool) (value : Width → Desc → Word) : M Unit := do
  let l ← locE e
  protectedOnly
  let s ← get
  let sel := (← readLoc .w16 l).setWidth 16
  match ← loadVer sel with
  | none => modify (State.setFlag .zf false)
  | some d =>
    if (d.isSegment || types s.cfg.model d.type) && queryOk s.cfg.larConforming s.cpl sel d then
      modify fun s => (s.setReg s.opW g (trunc s.opW (value s.opW d))).setFlag .zf true
    else modify (State.setFlag .zf false)

/-- VERR (R582). -/
def verrOk (s : State) (sel : Half) (d : Desc) : Bool :=
  d.isSegment && (!d.isCode || d.rw) && queryOk s.cfg.larConforming s.cpl sel d

/-- VERW (R583). -/
def verwOk (s : State) (sel : Half) (d : Desc) : Bool :=
  d.isSegment && !d.isCode && d.rw && privOk s.cpl sel d

/-- VERR and VERW: ZF (R582, R583). -/
def verify (e : RM) (ok : State → Half → Desc → Bool) : M Unit := do
  let l ← locE e
  protectedOnly
  let s ← get
  let sel := (← readLoc .w16 l).setWidth 16
  match ← loadVer sel with
  | none => modify (State.setFlag .zf false)
  | some d => modify (State.setFlag .zf (ok s sel d))

/-- ARPL (R584). DESIGN CHOICE (log 14): the write permission is tested as for any read-modify-write instruction (R290), also where
nothing will be written. -/
def arpl (e : RM) (g : Reg) : M Unit := do
  let l ← locE e
  protectedOnly
  let s ← get
  checkLoc .w16 l
  let d ← readLoc .w16 l
  let x := s.reg .w16 g
  if (d &&& 3).toNat < (x &&& 3).toNat then do
    writeLoc .w16 l ((d &&& 0xFFFC) ||| (x &&& 3))
    modify (State.setFlag .zf true)
  else modify (State.setFlag .zf false)

/-! ### HLT, WAIT, ESC (R590 to R592) -/

/-- HLT (R590). -/
def halt : M Unit := do
  privileged
  modify (State.setHalt true)

/-- WAIT: NM when MP and TS are set, else nothing (R591). -/
def waitCoprocessor : M Unit := do
  let s ← get
  ensure (!(s.cfg.model.has286 && bit s.cr0 1 && bit s.cr0 3)) .nm

/-- The operand an escape hands over (R592). -/
def State.copOperand (s : State) : RM → CopOperand
  | .reg r => .reg r.num
  | .mem m => .mem ((s.seg (s.resolve m).1).linear (s.resolve m).2)

/-- What an attached coprocessor first does with an escape: by the first listed answer, else a free value (R592; log 25). -/
def State.copRequest (s : State) (n reg : BitVec 3) (o : CopOperand) : CopRequest :=
  match s.copAnswers with
  | a :: _ => a.request
  | [] => Config.copRequest s.oracleCount n reg o

/-- What it does when it has read its operand. -/
def State.copReply (s : State) (n reg : BitVec 3) (o : CopOperand) (data : List Byte) : CopReply :=
  match s.copAnswers with
  | a :: _ => a.reply
  | [] => Config.copReply s.oracleCount n reg o data

/-- An escape was answered: its answer is used up and the event is on record. -/
def State.copSeen (ev : CopEvent) (s : State) : State :=
  { s with
    copLog := ev :: s.copLog, copAnswers := s.copAnswers.tail
    oracleCount := if s.copAnswers.isEmpty then s.oracleCount + 1 else s.oracleCount }

/-- An escape was completed: a word for AX is written. -/
def State.copDone (a : CopReply) (ev : CopEvent) (s : State) : State :=
  match a.ax with
  | none => s.copSeen ev
  | some v => (s.copSeen ev).setReg .w16 .ax (v.setWidth 32)

/-- The bytes a coprocessor reads from an operand; reading none is no access. -/
def copRead (l : Loc) (n : Nat) : M (List Byte) :=
  match l, n with
  | .mem seg off, n + 1 => do (← read (·.view seg)).readBytes off (n + 1) .read
  | _, _ => pure []

/-- The bytes a coprocessor stores at an operand; storing none is no access. -/
def copWrite (l : Loc) : List Byte → M Unit
  | [] => pure ()
  | b :: bs =>
    match l with
    | .mem seg off => do
      modify (State.captureWrite l)
      (← read (·.view seg)).writeBytes off (b :: bs)
    | .byteReg _ | .reg _ => pure ()

/-- An escape with its operand handed to an attached coprocessor (R592): an error it signals raises MF, which the 8086 class does not
have (R651), before anything else of the answer happens (R652, R668); else it reads and writes its memory operand, at `l`, through
the segment checks, and the answer is used up when the accesses are made. -/
def coprocess (n reg : BitVec 3) (o : CopOperand) (l : Loc) : M Unit := do
  let s ← get
  let q := s.copRequest n reg o
  if q.error && s.cfg.model.has286 then do
    modify (State.copSeen ⟨n, reg, o, []⟩)
    raise .mf
  else do
    let data ← copRead l q.reads
    let a := s.copReply n reg o data
    copWrite l a.stores
    modify (State.copDone a ⟨n, reg, o, data⟩)

/-- ESC: NM when EM or TS is set, else the coprocessor: none, which does nothing and accesses no memory, or the one attached
(R11, R592, D32; log 25). -/
def escape (n reg : BitVec 3) (e : RM) : M Unit := do
  let s ← get
  let l ← locE e
  ensure (!(s.cfg.model.has286 && (bit s.cr0 2 || bit s.cr0 3))) .nm
  match s.cfg.coprocessor with
  | .none => pure ()
  | .attached => coprocess n reg (s.copOperand e) l

/-! ### Undefined encodings and prefixes -/

/-- UD from the 80186 on (R251); the 8086 and 8088 are refused (R252, D13). -/
def undefinedOpcode : M Unit := do
  let s ← get
  if s.cfg.model.has186 then raise .ud else refuse .undefinedEncoding8086

/-- A prefix recorded: the last segment override and the last repeat prefix win (R235). -/
def Prefixes.note (p : Prefixes) : Prefix → Prefixes
  | .es => { p with seg := some .es }
  | .cs => { p with seg := some .cs }
  | .ss => { p with seg := some .ss }
  | .ds => { p with seg := some .ds }
  | .fs => { p with seg := some .fs }
  | .gs => { p with seg := some .gs }
  | .opSize => { p with dataSize := true }
  | .adSize => { p with addrSize := true }
  | .lock => { p with lock := true }
  | .repNZ => { p with repnz := true, repz := false }
  | .repZ => { p with repz := true, repnz := false }

/-- A prefix byte: its bit and NOINTR (R233, R235). -/
def State.notePrefix (p : Prefix) (s : State) : State :=
  State.setNoIntr true { s with opPrefixes := s.opPrefixes.note p }

/-! ### The meanings -/

/-- ARPL Ew,Gw, R584. -/
def execArplEwGw (e : RM) (g : Reg) (s : State) : Host.Outcome State Fault Refusal :=
  finish (arpl e g) s

/-- ESC E, R592. -/
def execEsc (n : BitVec 3) (reg : BitVec 3) (e : RM) (s : State) : Host.Outcome State Fault Refusal :=
  finish (escape n reg e) s

/-- SLDT Ew, R566. -/
def execSldtEw (e : RM) (s : State) : Host.Outcome State Fault Refusal :=
  finish (storeSel e (·.ldtr.sel)) s

/-- STR Ew, R568. -/
def execStrEw (e : RM) (s : State) : Host.Outcome State Fault Refusal :=
  finish (storeSel e (·.tr.sel)) s

/-- LLDT Ew, R565. -/
def execLldtEw (e : RM) (s : State) : Host.Outcome State Fault Refusal :=
  finish (lldt e) s

/-- LTR Ew, R567. -/
def execLtrEw (e : RM) (s : State) : Host.Outcome State Fault Refusal :=
  finish (ltr e) s

/-- VERR Ew, R582. -/
def execVerrEw (e : RM) (s : State) : Host.Outcome State Fault Refusal :=
  finish (verify e verrOk) s

/-- VERW Ew, R583. -/
def execVerwEw (e : RM) (s : State) : Host.Outcome State Fault Refusal :=
  finish (verify e verwOk) s

/-- SGDT Ms, R562. -/
def execSgdtMs (m : MemOp) (s : State) : Host.Outcome State Fault Refusal :=
  finish (storeTable m (·.gdtr)) s

/-- SIDT Ms, R563. -/
def execSidtMs (m : MemOp) (s : State) : Host.Outcome State Fault Refusal :=
  finish (storeTable m (·.idtr)) s

/-- LGDT Ms, R560. -/
def execLgdtMs (m : MemOp) (s : State) : Host.Outcome State Fault Refusal :=
  finish (lgdt m) s

/-- LIDT Ms, R561. -/
def execLidtMs (m : MemOp) (s : State) : Host.Outcome State Fault Refusal :=
  finish (lidt m) s

/-- SMSW Ew, R570. -/
def execSmswEw (e : RM) (s : State) : Host.Outcome State Fault Refusal :=
  finish (smsw e) s

/-- LMSW Ew, R571. -/
def execLmswEw (e : RM) (s : State) : Host.Outcome State Fault Refusal :=
  finish (lmsw e) s

/-- LAR Gv,Ew, R580. -/
def execLarGvEw (g : Reg) (e : RM) (s : State) : Host.Outcome State Fault Refusal :=
  finish (queryLoad g e larType fun w d => d.rights w) s

/-- LSL Gv,Ew, R581. -/
def execLslGvEw (g : Reg) (e : RM) (s : State) : Host.Outcome State Fault Refusal :=
  finish (queryLoad g e lslType fun _ d => d.limit) s

/-- MOV Rd,Cd, R573. -/
def execMovRdCd (r : Reg) (cr : BitVec 3) (s : State) : Host.Outcome State Fault Refusal :=
  finish (moveFromCr r cr) s

/-- MOV Rd,Dd, R575. -/
def execMovRdDd (r : Reg) (dr : BitVec 3) (s : State) : Host.Outcome State Fault Refusal :=
  finish (moveFromDr r dr) s

/-- MOV Cd,Rd, R574. -/
def execMovCdRd (cr : BitVec 3) (r : Reg) (s : State) : Host.Outcome State Fault Refusal :=
  finish (moveToCr cr r) s

/-- MOV Dd,Rd, R575. -/
def execMovDdRd (dr : BitVec 3) (r : Reg) (s : State) : Host.Outcome State Fault Refusal :=
  finish (moveToDr dr r) s

/-- ES: prefix, R233. -/
def execPrefixES (s : State) : Host.Outcome State Fault Refusal :=
  .next (s.notePrefix .es)

/-- CS: prefix, R233. -/
def execPrefixCS (s : State) : Host.Outcome State Fault Refusal :=
  .next (s.notePrefix .cs)

/-- SS: prefix, R233. -/
def execPrefixSS (s : State) : Host.Outcome State Fault Refusal :=
  .next (s.notePrefix .ss)

/-- DS: prefix, R233. -/
def execPrefixDS (s : State) : Host.Outcome State Fault Refusal :=
  .next (s.notePrefix .ds)

/-- FS: prefix, R233. -/
def execPrefixFS (s : State) : Host.Outcome State Fault Refusal :=
  .next (s.notePrefix .fs)

/-- GS: prefix, R233. -/
def execPrefixGS (s : State) : Host.Outcome State Fault Refusal :=
  .next (s.notePrefix .gs)

/-- OPSIZE prefix, R233. -/
def execPrefixOpSize (s : State) : Host.Outcome State Fault Refusal :=
  .next (s.notePrefix .opSize)

/-- ADSIZE prefix, R233. -/
def execPrefixAdSize (s : State) : Host.Outcome State Fault Refusal :=
  .next (s.notePrefix .adSize)

/-- LOCK prefix, R233. -/
def execPrefixLock (s : State) : Host.Outcome State Fault Refusal :=
  .next (s.notePrefix .lock)

/-- REPNZ prefix, R233. -/
def execPrefixRepNZ (s : State) : Host.Outcome State Fault Refusal :=
  .next (s.notePrefix .repNZ)

/-- REPZ prefix, R233. -/
def execPrefixRepZ (s : State) : Host.Outcome State Fault Refusal :=
  .next (s.notePrefix .repZ)

/-- WAIT, R591. -/
def execWait (s : State) : Host.Outcome State Fault Refusal :=
  finish (waitCoprocessor) s

/-- PUSHF, R552. -/
def execPushf (s : State) : Host.Outcome State Fault Refusal :=
  finish (pushFlags) s

/-- POPF, R553. -/
def execPopf (s : State) : Host.Outcome State Fault Refusal :=
  finish (popFlags) s

/-- SAHF, R555. -/
def execSahf (s : State) : Host.Outcome State Fault Refusal :=
  .next (sahf s)

/-- LAHF, R554. -/
def execLahf (s : State) : Host.Outcome State Fault Refusal :=
  .next (lahf s)

/-- (undefined), R251. -/
def execUndefD6 (s : State) : Host.Outcome State Fault Refusal :=
  finish (undefinedOpcode) s

/-- (undefined), R251. -/
def execUndefF1 (s : State) : Host.Outcome State Fault Refusal :=
  finish (undefinedOpcode) s

/-- HLT, R590. -/
def execHlt (s : State) : Host.Outcome State Fault Refusal :=
  finish (halt) s

/-- CMC, R559. -/
def execCmc (s : State) : Host.Outcome State Fault Refusal :=
  .next (s.setFlag .cf (!s.flag .cf))

/-- (undefined), R251. -/
def execUndefF6r1 (s : State) : Host.Outcome State Fault Refusal :=
  finish (undefinedOpcode) s

/-- CLC, R559. -/
def execClc (s : State) : Host.Outcome State Fault Refusal :=
  .next (s.setFlag .cf false)

/-- STC, R559. -/
def execStc (s : State) : Host.Outcome State Fault Refusal :=
  .next (s.setFlag .cf true)

/-- CLI, R556. -/
def execCli (s : State) : Host.Outcome State Fault Refusal :=
  finish (cli) s

/-- STI, R557. -/
def execSti (s : State) : Host.Outcome State Fault Refusal :=
  finish (sti) s

/-- CLD, R558. -/
def execCld (s : State) : Host.Outcome State Fault Refusal :=
  .next (s.setDirect psDF false)

/-- STD, R558. -/
def execStd (s : State) : Host.Outcome State Fault Refusal :=
  .next (s.setDirect psDF true)

/-- (undefined), R251. -/
def execUndefFFr7 (s : State) : Host.Outcome State Fault Refusal :=
  finish (undefinedOpcode) s

/-- CLTS, R572. -/
def execClts (s : State) : Host.Outcome State Fault Refusal :=
  finish (clts) s

/-- Every other undefined encoding, R251, R252. -/
def execUndefOther (s : State) : Host.Outcome State Fault Refusal :=
  finish undefinedOpcode s

end Sys2Proof.Machine
end

