-- ==== Sys2Proof/Machine/Sequencer.lean ====
section
/-! DEFINITION. The instruction step around the meanings (30_encoding.md R231, R232): fetch with its prefixes, acceptance of an
external interrupt, the halted state, retirement with the single-step trap. -/

namespace Sys2Proof.Machine

/-- The offset after the one at `pc` (R43). -/
def State.nextPc (s : State) : Word := s.truncPc (s.pc + 1)

/-- `Fetch8` (R232). -/
def fetchByte : M Byte := do
  let s ← get
  let v ← (s.view .cs).read s.pc.toNat 1 .execute
  modify fun s => s.setPc s.nextPc
  return v.setWidth 8

/-- Fetch one instruction: bytes until the decoder has enough; a prefix is recorded and the next byte begins anew (R231).
`acc` are the bytes since the last prefix; the byte of R231's step 2, which begins them, is published for a debugger (R9; log 51). -/
def fetchInstr : Nat → List Byte → M Instr
  | 0, _ => throw (.fault .endlessPrefixes)
  | n + 1, acc => do
    let b ← fetchByte
    whenM acc.isEmpty (modify (State.setLastOpcode b))
    let s ← get
    match decode s.ctx (acc ++ [b]) with
    | none => fetchInstr n (acc ++ [b])
    | some (i, _) =>
      match i.prefix? with
      | some p => do
        modify (State.notePrefix p)
        fetchInstr n []
      | none => pure i

/-- More bytes than a code segment has without repetition, plus one instruction: whoever fetches them all is in a loop of
prefixes (R743). -/
def fetchFuel : Nat := 2 ^ 32 + 16

/-- What starts an instruction step: opLIP, empty prefixes and flags (R231). -/
def State.begin (s : State) : State :=
  { s with
    opLIP := s.cs.base + s.pc, opPrefixes := .none, opFlags := ⟨false, false, false⟩, regEA := none, regEAWrite := none
    noTrap := false }

/-- After a step nothing but NOINTR is left of its bookkeeping. -/
def endStep : Host.Outcome State Fault Refusal → Host.Outcome State Fault Refusal
  | .next s => .next (s.setNoTrap false)
  | .fault f => .fault f
  | .refused r => .refused r

/-- `IntAck()` (R683): the next listed vector, else a free value (log 5). -/
def State.intAck (s : State) : Byte × State :=
  match s.intAcks with
  | v :: r => (v, { s with intAcks := r })
  | [] => (Config.ackAnswer s.oracleCount, { s with oracleCount := s.oracleCount + 1 })

/-- An external interrupt can be accepted at this boundary (R681, R682). -/
def State.interruptible (s : State) : Bool := s.intFlags.intr && s.direct psIF && !s.opFlags.noIntr

/-- Acceptance of an external interrupt (R681). -/
def acceptInterrupt (s : State) : Host.Outcome State Fault Refusal :=
  let (n, s') := s.intAck
  endStep (finish (deliver n .external none s.pc) { s' with intFlags := ⟨false, false⟩ })

/-- Retirement: the single-step trap if TF was set at the start and nothing suppresses it (R690). -/
def retire (tf : Bool) (s : State) : Host.Outcome State Fault Refusal :=
  if tf && !s.noTrap then endStep (finish (deliver 1 .exception none s.pc) s) else .next (s.setNoTrap false)

/-- Retirement of an outcome. -/
def retireOutcome (tf : Bool) : Host.Outcome State Fault Refusal → Host.Outcome State Fault Refusal
  | .next s => retire tf s
  | .fault f => .fault f
  | .refused r => .refused r

/-- Run one fetched instruction: the prefixes' NOINTR has no effect beyond their own step (R235). -/
def runFetched (ex : Instr → State → Host.Outcome State Fault Refusal) (tf : Bool) :
    EStateM.Result Stop State Instr → Host.Outcome State Fault Refusal
  | .ok i s => retireOutcome tf (ex i (s.setNoIntr false))
  | .error (.exn x) s => endStep (raiseExn x s)
  | .error (.fault f) _ => .fault f
  | .error (.refused r) _ => .refused r

/-- VM = 1: virtual-8086 mode, which no rule describes (R8, D30). -/
def State.virtual (s : State) : Bool := s.cfg.model.has386 && s.direct psVM

/-- The shadow record is what R38 says: its DPL is that of its access word, and its extension word is 0 on the models without
`HAS_386`. -/
def SegReg.sound (m : Model) (r : SegReg) : Bool := r.dpl == r.acc.extractLsb 14 13 && (m.has386 || r.ext == 0)

/-- The shadow state is not corrupted: CPL is 0 in real mode (R45), and every record is what R38 says (log 17). -/
def State.sound (s : State) : Bool :=
  (s.protectedMode || s.cpl == 0) && [s.es, s.cs, s.ss, s.ds, s.fs, s.gs].all (SegReg.sound s.cfg.model)

/-- One instruction step (R231, R685), for the meanings `ex`. A corrupted shadow state has no step (R10, D52). -/
def stepWith (ex : Instr → State → Host.Outcome State Fault Refusal) (s : State) : Host.Outcome State Fault Refusal :=
  if !s.sound then .fault .corruptState
  else if s.virtual then .refused .virtual8086
  else if s.interruptible then acceptInterrupt s
  else if s.intFlags.halt then .next (s.setNoIntr false)
  else runFetched ex (s.direct psTF) (fetchInstr fetchFuel [] s.begin)

/-- The Bus address of the instruction byte i places after `pc`, when it can be fetched at all. -/
def State.fetchAddr (s : State) (i : Nat) : Option Nat :=
  match (s.view .cs).phys (s.truncPc (s.pc + BitVec.ofNat 32 i)).toNat 1 false s with
  | .ok [[a]] _ => some a
  | _ => none

/-- A byte put behind the Bus from outside, into ROM as well (log 6). -/
def State.placeByte (a : Nat) (v : Byte) (s : State) : State := { s with mem := s.mem.write (busAddr s.cfg.model a) v }

/-- Bytes put where the fetch will read them, the first at `pc`. -/
def State.placeBytes (at_ : Nat → Option Nat) : Nat → List Byte → State → State
  | _, [], s => s
  | i, b :: bs, s =>
    match at_ i with
    | some a => State.placeBytes at_ (i + 1) bs (s.placeByte a b)
    | none => State.placeBytes at_ (i + 1) bs s

/-- The state with a table row's word where the next step fetches it (log 6): the row POP CS turns the machine into an 8086,
which alone has it; a pending interrupt or halt, which would come first, is cleared. -/
def State.placeWord (nbits w : Nat) (s : State) : State :=
  let s1 := { s with cfg := { s.cfg with model := if nbits = 8 ∧ w % 256 = 0x0F then .i8086 else s.cfg.model }
                     intFlags := ⟨false, false⟩ }
  s1.placeBytes s1.fetchAddr 0 (tableBytes nbits w)

end Sys2Proof.Machine
end

