-- ==== Sys2Proof/Safety.lean ====
section
/-! DEFINITION. The terms claims are stated in: what an outcome holds, the invariant of the machine, what an operand holds and
where it lies when paging is off, what an operation leaves alone. -/

namespace Sys2Proof.Machine

/-- The outcome is a next state, and it has a property. -/
def Next (o : Host.Outcome State Fault Refusal) (p : State → Prop) : Prop := ∃ t, o = .next t ∧ p t

/-- The invariant every step keeps: memory in canonical form, no virtual-8086 mode (R8), nothing left of an instruction's trap
bookkeeping, CPL 0 in real mode (R45), every shadow record's DPL that of its access word and its extension word 0 on the models
without `HAS_386` (R38), and in a 16-bit code segment bits 31:16 of the instruction pointer 0 (R41). -/
structure State.Inv (s : State) : Prop where
  memory  : s.mem.wf = true
  virtual : s.flags.ps &&& psVM = 0
  noTrap  : s.noTrap = false
  level   : s.protectedMode = false → s.cpl = 0
  records : ∀ r ∈ [s.es, s.cs, s.ss, s.ds, s.fs, s.gs], r.dpl = r.acc.extractLsb 14 13 ∧ (s.cfg.model.has386 = false → r.ext = 0)
  pc      : s.code32 = false → s.pc.toNat < 65536

/-! ### Operands while linear addresses are physical ones -/

/-- The byte addresses of n bytes at an offset of a segment, with paging off: byte by byte from the 16-bit offset on the 8086
class (R114), consecutive else (R101). -/
def State.spread (s : State) (seg : SReg) (off n : Nat) : List Nat :=
  if s.cfg.model.class8086 then (s.seg seg).wrapAddrs off n else addrs ((s.seg seg).linear off).toNat n

/-- The segment check admits the access (R170). -/
def State.admits (s : State) (seg : SReg) (off n : Nat) (k : Access) : Bool :=
  (s.view seg).allows s.cfg.model s.protectedMode off n k

/-- Plain memory stands behind an address: RAM for a write, anything but a device for a read (R103). -/
def Access.plain (k : Access) (b : BusKind) : Bool :=
  match k with
  | .write => b == .ram
  | .read | .execute => b != .device

/-- Paging is off, the segment check admits the access (R170), and the platform has plain memory there (R103). What ROM, holes and
devices do is stated of the Bus itself. -/
def State.grants (s : State) (seg : SReg) (off n : Nat) (k : Access) : Prop :=
  s.pagingOn = false ∧ s.admits seg off n k = true ∧ ∀ a ∈ s.spread seg off n, k.plain (s.busKind a) = true

/-- The operand can be read. -/
def State.canRead (s : State) (w : Width) : Loc → Prop
  | .byteReg _ | .reg _ => True
  | .mem seg off => s.grants seg off w.bytes .read

/-- The operand can be written. -/
def State.canWrite (s : State) (w : Width) : Loc → Prop
  | .byteReg _ | .reg _ => True
  | .mem seg off => s.grants seg off w.bytes .write

/-- The value of an operand (R290). -/
def State.valueAt (s : State) (w : Width) : Loc → Word
  | .byteReg r => s.reg8 r
  | .reg r => s.reg w r
  | .mem seg off => s.busRead (s.spread seg off w.bytes)

/-- A Bus address is one of a list's. -/
def State.among (s : State) (as : List Nat) (a : Nat) : Prop := busAddr s.cfg.model a ∈ as.map (busAddr s.cfg.model)

/-- The bytes of memory an operand occupies. -/
def State.storedAt (s : State) (w : Width) : Loc → Nat → Prop
  | .byteReg _ | .reg _ => fun _ => False
  | .mem seg off => s.among (s.spread seg off w.bytes)

/-- The general registers after a value is written to an operand (R32, R33). -/
def State.gprWith (s : State) (w : Width) (l : Loc) (v : Word) : Gpr :=
  match l with
  | .byteReg r => (s.setReg8 r v).gpr
  | .reg r => (s.setReg w r v).gpr
  | .mem _ _ => s.gpr

/-- Bytes below the stack pointer: the offset of SS:SP − k (R318). -/
def State.below (s : State) (k : Nat) : Nat := (trunc s.stack.w (s.stack.sp - BitVec.ofNat 32 k)).toNat

/-- The offset of SS:SP + k (R319). -/
def State.above (s : State) (k : Nat) : Nat := (trunc s.stack.w (s.stack.sp + BitVec.ofNat 32 k)).toNat

/-- n pushes of a width are admitted. -/
def State.canPush (s : State) (w : Width) (n : Nat) : Prop :=
  ∀ i, i < n → s.grants .ss (s.below ((i + 1) * w.bytes)) w.bytes .write

/-- n values of a width can be read from the stack top up. -/
def State.canPop (s : State) (w : Width) (n : Nat) : Prop :=
  ∀ i, i < n → s.grants .ss (s.above (i * w.bytes)) w.bytes .read

/-- The value k bytes above the stack top. -/
def State.stackValue (s : State) (w : Width) (k : Nat) : Word := s.busRead (s.spread .ss (s.above k) w.bytes)

/-- The bytes n pushes of a width write. -/
def State.pushedBytes (s : State) (w : Width) (n : Nat) (a : Nat) : Prop :=
  ∃ i, i < n ∧ s.among (s.spread .ss (s.below ((i + 1) * w.bytes)) w.bytes) a

/-! ### What stays -/

/-- Every byte of the Bus reads as before, but those of a set of addresses. -/
def SameMemoryBut (s t : State) (stored : Nat → Prop) : Prop := ∀ a, ¬ stored a → t.busByte a = s.busByte a

/-- Every byte of the Bus reads as before. -/
def SameMemory (s t : State) : Prop := ∀ a, t.busByte a = s.busByte a

/-- The control, debug, table and task registers are as before, no exception is in flight that was not, nothing was handed to a
coprocessor, and the published opcode byte is the same. -/
def SameSystem (s t : State) : Prop :=
  t.cr0 = s.cr0 ∧ t.cr2 = s.cr2 ∧ t.cr3 = s.cr3 ∧ t.dr0 = s.dr0 ∧ t.dr1 = s.dr1 ∧ t.dr2 = s.dr2 ∧ t.dr3 = s.dr3 ∧
  t.dr4 = s.dr4 ∧ t.dr5 = s.dr5 ∧ t.dr6 = s.dr6 ∧ t.dr7 = s.dr7 ∧ t.gdtr = s.gdtr ∧ t.idtr = s.idtr ∧
  t.ldtr = s.ldtr ∧ t.tr = s.tr ∧ t.nFault = s.nFault ∧ t.cfg = s.cfg ∧ t.copLog = s.copLog ∧ t.copAnswers = s.copAnswers ∧
  t.lastOpcode = s.lastOpcode

/-- No device was accessed, if there is none behind the Bus. -/
def SameDevices (s t : State) : Prop := (∀ a, s.busKind a ≠ .device) → t.busLog = s.busLog

/-- The segment registers and CPL are as before. -/
def SameSegments (s t : State) : Prop :=
  t.es = s.es ∧ t.cs = s.cs ∧ t.ss = s.ss ∧ t.ds = s.ds ∧ t.fs = s.fs ∧ t.gs = s.gs ∧ t.cpl = s.cpl

/-- The bits of PS other than the six cached flags are as before. -/
def SameDirect (s t : State) : Prop := t.flags.ps &&& ~~~psCached = s.flags.ps &&& ~~~psCached

/-- No flag changed. -/
def SameFlags (s t : State) : Prop := (∀ f, t.flag f = s.flag f) ∧ SameDirect s t

/-- Everything outside the general registers, the flags, memory and the instruction pointer is as before (the working registers
`regEA`, `regEAWrite`, NOREAD and NOWRITE apart). -/
structure SameWorld (s t : State) : Prop where
  system   : SameSystem s t
  segments : SameSegments s t
  halted   : t.intFlags = s.intFlags
  noIntr   : t.opFlags.noIntr = s.opFlags.noIntr
  noTrap   : t.noTrap = s.noTrap
  ports    : t.portLog = s.portLog
  devices  : t.busLog = s.busLog

/-- A value was written to an operand: it reads back, the other registers and the rest of a register stay, and so does every byte
of memory the operand does not occupy. -/
structure Wrote (w : Width) (dst : Loc) (v : Word) (s t : State) : Prop where
  value  : t.valueAt w dst = v
  gpr    : t.gpr = s.gprWith w dst v
  memory : SameMemoryBut s t (s.storedAt w dst)

/-- Neither a register nor memory changed. -/
def Untouched (s t : State) : Prop := t.gpr = s.gpr ∧ SameMemory s t

/-! ### Flags as the rules state them -/

/-- PF, AF, ZF, SF and OF by the formulas of R47 on D, S, A and L at a width. -/
structure FiveFlags (w : Width) (d x a l : Word) (t : State) : Prop where
  pf : t.flag .pf = evenParity l
  af : t.flag .af = bit (a ^^^ (d ^^^ x)) 4
  zf : t.flag .zf = decide (trunc w l = 0)
  sf : t.flag .sf = bit l (w.bits - 1)
  of : t.flag .of = bit ((d ^^^ a) &&& (x ^^^ a)) (w.bits - 1)

/-- The six flags by the formulas of R47. -/
structure FlagsBy (w : Width) (d x a l : Word) (t : State) : Prop extends FiveFlags w d x a l t where
  cf : t.flag .cf = bit (d ^^^ ((d ^^^ x) &&& (x ^^^ a))) (w.bits - 1)

/-- The flags some rule leaves undefined keep their values at the block's default (R381). -/
def DefaultKeeps (s t : State) (fs : List Flag) : Prop :=
  s.cfg.undef = .blockDefault → ∀ f, f ∈ fs → t.flag f = s.flag f

/-- PF, ZF and SF of a result at a width. -/
structure ResultFlags (w : Width) (l : Word) (t : State) : Prop where
  pf : t.flag .pf = evenParity l
  zf : t.flag .zf = decide (trunc w l = 0)
  sf : t.flag .sf = bit l (w.bits - 1)

end Sys2Proof.Machine
end

