-- ==== Sys2Proof/Certificates/Slice0/Obligations.lean ====
section
/-! DEFINITION. The statements about the machine, from the numbered rules of spec/. A statement about memory operands says what
happens with paging off (linear addresses are physical); what paging adds is stated of the accesses themselves. -/

open Sys2Proof Sys2Proof.Machine

/-! ### Two-operand instructions (41_arithmetic.md R360 to R365, 42_logic_shift_bit.md R401 to R405) -/

namespace Sys2Proof.Machine

/-- The flags of a two-operand operation on d and x with the result a (R47, R50, R405). -/
def AluFlags (op : Alu) (w : Width) (d x a : Word) (s t : State) : Prop :=
  match op with
  | .add | .adc => FlagsBy w d x a a t
  | .sub | .sbb | .cmp => FlagsBy w a x d a t
  | .and | .or | .xor | .test =>
    t.flag .cf = false ∧ t.flag .of = false ∧ ResultFlags w a t ∧
      (s.cfg.undef = .blockDefault → t.flag .af = bit (a ^^^ (d ^^^ x)) 4)

/-- One form runs: with its operands accessible it answers a next state, in which the destination holds the result (or, for CMP
and TEST, no register and no byte of memory changed), the flags are those of the rule, and all else is as before. -/
def AluForm (s : State) (w : Width) (dst : Loc) (src : Prop) (x : Word) (p : Alu × Instr) : Prop :=
  s.canRead w dst → (p.1.writes = true → s.canWrite w dst) → src →
    Next (exec p.2 s) fun t =>
      (if p.1.writes then Wrote w dst (p.1.result w (s.flag .cf) (s.valueAt w dst) x) s t else Untouched s t) ∧
      AluFlags p.1 w (s.valueAt w dst) x (p.1.result w (s.flag .cf) (s.valueAt w dst) x) s t ∧
      SameDirect s t ∧ t.pc = s.pc ∧ SameWorld s t

end Sys2Proof.Machine

/-- Every byte form of ADD, OR, ADC, SBB, AND, SUB, XOR, CMP and TEST completes with the result and the flags of its rule.
Every word and dword form of the same nine instructions completes, at the operand size of the state (R238).
Model's choices it rests on: log 3, 14. -/
def Obligations.AluFormsComplete : Prop :=
  (∀ (s : State) (e : RM8) (g : Reg8) (ib : Byte), s.mem.wf = true →
     (∀ p ∈ [(Alu.add, Instr.addEbGb e g), (.or, .orEbGb e g), (.adc, .adcEbGb e g), (.sbb, .sbbEbGb e g),
         (.and, .andEbGb e g), (.sub, .subEbGb e g), (.xor, .xorEbGb e g), (.cmp, .cmpEbGb e g), (.test, .testEbGb e g)],
       AluForm s .w8 (s.rm8Loc e) True (s.reg8 g) p) ∧
     (∀ p ∈ [(Alu.add, Instr.addGbEb g e), (.or, .orGbEb g e), (.adc, .adcGbEb g e), (.sbb, .sbbGbEb g e),
         (.and, .andGbEb g e), (.sub, .subGbEb g e), (.xor, .xorGbEb g e), (.cmp, .cmpGbEb g e)],
       AluForm s .w8 (.byteReg g) (s.canRead .w8 (s.rm8Loc e)) (s.valueAt .w8 (s.rm8Loc e)) p) ∧
     (∀ p ∈ [(Alu.add, Instr.addALIb ib), (.or, .orALIb ib), (.adc, .adcALIb ib), (.sbb, .sbbALIb ib),
         (.and, .andALIb ib), (.sub, .subALIb ib), (.xor, .xorALIb ib), (.cmp, .cmpALIb ib), (.test, .testALIb ib)],
       AluForm s .w8 (.byteReg .al) True (ib.setWidth 32) p) ∧
     (∀ p ∈ [(Alu.add, Instr.addEbIb e ib), (.or, .orEbIb e ib), (.adc, .adcEbIb e ib), (.sbb, .sbbEbIb e ib),
         (.and, .andEbIb e ib), (.sub, .subEbIb e ib), (.xor, .xorEbIb e ib), (.cmp, .cmpEbIb e ib),
         (.add, .addEbIb82 e ib), (.or, .orEbIb82 e ib), (.adc, .adcEbIb82 e ib), (.sbb, .sbbEbIb82 e ib),
         (.and, .andEbIb82 e ib), (.sub, .subEbIb82 e ib), (.xor, .xorEbIb82 e ib), (.cmp, .cmpEbIb82 e ib),
         (.test, .testEbIb e ib)],
       AluForm s .w8 (s.rm8Loc e) True (ib.setWidth 32) p)) ∧
  (∀ (s : State) (e : RM) (g : Reg) (iv : Word) (ib : Byte), s.mem.wf = true →
     (∀ p ∈ [(Alu.add, Instr.addEvGv e g), (.or, .orEvGv e g), (.adc, .adcEvGv e g), (.sbb, .sbbEvGv e g),
         (.and, .andEvGv e g), (.sub, .subEvGv e g), (.xor, .xorEvGv e g), (.cmp, .cmpEvGv e g), (.test, .testEvGv e g)],
       AluForm s s.opW (s.rmLoc e) True (s.reg s.opW g) p) ∧
     (∀ p ∈ [(Alu.add, Instr.addGvEv g e), (.or, .orGvEv g e), (.adc, .adcGvEv g e), (.sbb, .sbbGvEv g e),
         (.and, .andGvEv g e), (.sub, .subGvEv g e), (.xor, .xorGvEv g e), (.cmp, .cmpGvEv g e)],
       AluForm s s.opW (.reg g) (s.canRead s.opW (s.rmLoc e)) (s.valueAt s.opW (s.rmLoc e)) p) ∧
     (∀ p ∈ [(Alu.add, Instr.addEAXIv iv), (.or, .orEAXIv iv), (.adc, .adcEAXIv iv), (.sbb, .sbbEAXIv iv),
         (.and, .andEAXIv iv), (.sub, .subEAXIv iv), (.xor, .xorEAXIv iv), (.cmp, .cmpEAXIv iv), (.test, .testEAXIv iv)],
       AluForm s s.opW (.reg .ax) True iv p) ∧
     (∀ p ∈ [(Alu.add, Instr.addEvIv e iv), (.or, .orEvIv e iv), (.adc, .adcEvIv e iv), (.sbb, .sbbEvIv e iv),
         (.and, .andEvIv e iv), (.sub, .subEvIv e iv), (.xor, .xorEvIv e iv), (.cmp, .cmpEvIv e iv), (.test, .testEvIv e iv)],
       AluForm s s.opW (s.rmLoc e) True iv p) ∧
     (∀ p ∈ [(Alu.add, Instr.addEvIbs e ib), (.or, .orEvIbs e ib), (.adc, .adcEvIbs e ib), (.sbb, .sbbEvIbs e ib),
         (.and, .andEvIbs e ib), (.sub, .subEvIbs e ib), (.xor, .xorEvIbs e ib), (.cmp, .cmpEvIbs e ib)],
       AluForm s s.opW (s.rmLoc e) True (trunc s.opW (ib.signExtend 32)) p))

/-- What the nine operations compute, as arithmetic on naturals (R361 to R365, R401 to R404). -/
def Obligations.AluResultValues : Prop :=
  ∀ (w : Width) (c : Bool) (d x : Word), trunc w d = d → trunc w x = x →
    (Alu.add.result w c d x).toNat = (d.toNat + x.toNat) % 2 ^ w.bits ∧
    (Alu.adc.result w c d x).toNat = (d.toNat + x.toNat + c.toNat) % 2 ^ w.bits ∧
    (Alu.sub.result w c d x).toNat = (2 ^ w.bits + d.toNat - x.toNat) % 2 ^ w.bits ∧
    (Alu.cmp.result w c d x).toNat = (2 ^ w.bits + d.toNat - x.toNat) % 2 ^ w.bits ∧
    (Alu.sbb.result w c d x).toNat = (2 ^ w.bits + 2 ^ w.bits + d.toNat - x.toNat - c.toNat) % 2 ^ w.bits ∧
    (Alu.and.result w c d x).toNat = d.toNat &&& x.toNat ∧ (Alu.test.result w c d x).toNat = d.toNat &&& x.toNat ∧
    (Alu.or.result w c d x).toNat = d.toNat ||| x.toNat ∧ (Alu.xor.result w c d x).toNat = d.toNat ^^^ x.toNat

namespace Sys2Proof.Machine

/-- The number of 1 bits in the low byte is even (R47). -/
def evenOnes (a : Word) : Bool := decide ((List.range 8).countP (fun i => a.toNat.testBit i) % 2 = 0)

end Sys2Proof.Machine

/-- The flags an addition and a subtraction install, from any state, mean carry, borrow, half-carry, signed overflow, parity, zero and
sign (R47, R50; the closed forms of invariant S-i, 95_test_vectors.md). -/
def Obligations.FlagFormulasMeanArithmetic : Prop :=
  ∀ (s : State) (w : Width) (c : Bool) (d x : Word), trunc w d = d → trunc w x = x →
    (let a := trunc w (d + x + ofBool c)
     let t := s.flagsAdd w d x a
     t.flag .cf = decide (2 ^ w.bits ≤ d.toNat + x.toNat + c.toNat) ∧ t.flag .pf = evenOnes a ∧
     t.flag .af = decide (16 ≤ d.toNat % 16 + x.toNat % 16 + c.toNat) ∧
     t.flag .of = decide (signed w d + signed w x + c.toInt ≠ signed w a) ∧
     t.flag .zf = decide (a = 0) ∧ t.flag .sf = decide (signed w a < 0)) ∧
    (let a := trunc w (d - x - ofBool c)
     let t := s.flagsSub w d x a
     t.flag .cf = decide (d.toNat < x.toNat + c.toNat) ∧ t.flag .pf = evenOnes a ∧
     t.flag .af = decide (d.toNat % 16 < x.toNat % 16 + c.toNat) ∧
     t.flag .of = decide (signed w d - signed w x - c.toInt ≠ signed w a) ∧
     t.flag .zf = decide (a = 0) ∧ t.flag .sf = decide (signed w a < 0))

/-! ### One-operand arithmetic, multiplication, division, decimal adjust (R366 to R379) -/

namespace Sys2Proof.Machine

/-- The flags of INC, DEC, NEG and NOT on d (R366 to R368, R406). -/
def UnaryFlags (op : Unary) (w : Width) (d a : Word) (s t : State) : Prop :=
  match op with
  | .inc => FiveFlags w d 1 a a t ∧ t.flag .cf = s.flag .cf
  | .dec => FiveFlags w a 1 d a t ∧ t.flag .cf = s.flag .cf
  | .neg => FlagsBy w a d 0 a t
  | .not => ∀ f, t.flag f = s.flag f

/-- What INC, DEC, NEG and NOT write. -/
def unaryValue (op : Unary) (w : Width) (d : Word) : Word :=
  match op with
  | .inc => BitVec.ofNat 32 ((d.toNat + 1) % 2 ^ w.bits)
  | .dec => BitVec.ofNat 32 ((d.toNat + 2 ^ w.bits - 1) % 2 ^ w.bits)
  | .neg => BitVec.ofNat 32 ((2 ^ w.bits - d.toNat) % 2 ^ w.bits)
  | .not => BitVec.ofNat 32 (2 ^ w.bits - 1 - d.toNat)

/-- One form of INC, DEC, NEG or NOT completes. -/
def UnaryForm (s : State) (w : Width) (l : Loc) (p : Unary × Instr) : Prop :=
  s.canRead w l → s.canWrite w l →
    Next (exec p.2 s) fun t =>
      Wrote w l (unaryValue p.1 w (s.valueAt w l)) s t ∧
      UnaryFlags p.1 w (s.valueAt w l) (unaryValue p.1 w (s.valueAt w l)) s t ∧
      SameDirect s t ∧ t.pc = s.pc ∧ SameWorld s t

/-- The registers after a double-width result p: AX for bytes, else the accumulator and (E)DX (R369). -/
def pairGpr (s : State) (w : Width) (p : Int) : Gpr :=
  match w with
  | .w8 => (s.setReg .w16 .ax (truncInt .w16 p)).gpr
  | .w16 | .w32 => ((s.setReg w .ax (truncInt w p)).setReg w .dx (truncInt w (p / 2 ^ w.bits))).gpr

/-- One form of MUL or one-operand IMUL completes. -/
def MulForm (s : State) (w : Width) (l : Loc) (p : Bool × Instr) : Prop :=
  s.canRead w l →
    Next (exec p.2 s) fun t =>
      let n : Int := if p.1 then signed w (s.reg w .ax) * signed w (s.valueAt w l)
        else (s.reg w .ax).toNat * (s.valueAt w l).toNat
      let big := if p.1 then decide (n ≠ signed w (truncInt w n)) else decide (2 ^ w.bits ≤ n)
      t.gpr = pairGpr s w n ∧ SameMemory s t ∧ t.flag .cf = big ∧ t.flag .of = big ∧
      DefaultKeeps s t [.pf, .af, .zf, .sf] ∧ SameDirect s t ∧ t.pc = s.pc ∧ SameWorld s t

/-- One form of IMUL with a destination register completes; m is the second factor. -/
def ImulForm (s : State) (g : Reg) (e : RM) (m : Word) (i : Instr) : Prop :=
  s.canRead s.opW (s.rmLoc e) →
    Next (exec i s) fun t =>
      let n := signed s.opW (s.valueAt s.opW (s.rmLoc e)) * signed s.opW m
      let big := decide (n ≠ signed s.opW (truncInt s.opW n))
      t.gpr = (s.setReg s.opW g (truncInt s.opW n)).gpr ∧ SameMemory s t ∧ t.flag .cf = big ∧ t.flag .of = big ∧
      DefaultKeeps s t [.pf, .af, .zf, .sf] ∧ SameDirect s t ∧ t.pc = s.pc ∧ SameWorld s t

/-- The registers after a division: AL and AH for bytes, else the accumulator and (E)DX (R372). -/
def quotientGpr (s : State) (w : Width) (q r : Word) : Gpr :=
  match w with
  | .w8 => ((s.setReg8 .al q).setReg8 .ah r).gpr
  | .w16 | .w32 => ((s.setReg w .ax q).setReg w .dx r).gpr

/-- The dividend: AX, DX:AX or EDX:EAX (R372). -/
def dividendOf (s : State) (w : Width) : Nat :=
  match w with
  | .w8 => (s.reg .w16 .ax).toNat
  | .w16 | .w32 => (s.reg w .dx).toNat * 2 ^ w.bits + (s.reg w .ax).toNat

/-- The dividend as a two's complement number of twice the width (R373). -/
def signedDividend (s : State) (w : Width) : Int :=
  if dividendOf s w < 2 ^ (2 * w.bits - 1) then dividendOf s w else (dividendOf s w : Int) - 2 ^ (2 * w.bits)

/-- Where unsigned division completes: a divisor other than 0 and a quotient that fits (R372). -/
def DivFits (s : State) (w : Width) (l : Loc) : Prop :=
  s.valueAt w l ≠ 0 ∧ dividendOf s w / (s.valueAt w l).toNat < 2 ^ w.bits

/-- Where signed division completes (R373). -/
def IdivFits (s : State) (w : Width) (l : Loc) : Prop :=
  s.valueAt w l ≠ 0 ∧ -(2 ^ (w.bits - 1)) ≤ (signedDividend s w).tdiv (signed w (s.valueAt w l)) ∧
    (signedDividend s w).tdiv (signed w (s.valueAt w l)) < 2 ^ (w.bits - 1)

/-- One form of DIV completes. -/
def DivForm (s : State) (w : Width) (l : Loc) (i : Instr) : Prop :=
  s.canRead w l → DivFits s w l →
    Next (exec i s) fun t =>
      t.gpr = quotientGpr s w (BitVec.ofNat 32 (dividendOf s w / (s.valueAt w l).toNat))
        (BitVec.ofNat 32 (dividendOf s w % (s.valueAt w l).toNat)) ∧
      SameMemory s t ∧ DefaultKeeps s t [.cf, .pf, .af, .zf, .sf, .of] ∧ SameDirect s t ∧ t.pc = s.pc ∧ SameWorld s t

/-- One form of IDIV completes. -/
def IdivForm (s : State) (w : Width) (l : Loc) (i : Instr) : Prop :=
  s.canRead w l → IdivFits s w l →
    Next (exec i s) fun t =>
      t.gpr = quotientGpr s w (truncInt w ((signedDividend s w).tdiv (signed w (s.valueAt w l))))
        (truncInt w ((signedDividend s w).tmod (signed w (s.valueAt w l)))) ∧
      SameMemory s t ∧ DefaultKeeps s t [.cf, .pf, .af, .zf, .sf, .of] ∧ SameDirect s t ∧ t.pc = s.pc ∧ SameWorld s t

/-- An instruction asks for an exception, leaves the registers, the flags and memory as they were and has accessed no port: what
follows is the taking of the exception. -/
def Traps (s : State) (x : Exn) (i : Instr) : Prop :=
  ∃ u, exec i s = raiseExn x u ∧ u.gpr = s.gpr ∧ u.flags = s.flags ∧ u.mem = s.mem ∧ u.pc = s.pc ∧ u.opLIP = s.opLIP ∧
    SameSystem s u ∧ SameSegments s u ∧ u.portLog = s.portLog ∧ u.portAnswers = s.portAnswers

/-- The exception of a refused access (R175). -/
def refusedBy (q : SReg) : Exn := if q = .ss then .ss 0 else .gp 0

/-- The flags after a decimal adjust: CF and AF as given, PF, ZF and SF of AL, OF kept at the block's default. -/
def DecimalFlags (s t : State) (cf af : Bool) : Prop :=
  t.flag .cf = cf ∧ t.flag .af = af ∧ ResultFlags .w8 (t.reg8 .al) t ∧ DefaultKeeps s t [.of]

/-- The low digit of AL needs its correction (R374 to R377). -/
def lowDigit (s : State) : Bool := decide (9 < (s.reg8 .al).toNat % 16) || s.flag .af

/-- AX after the correction of AAA (k = 1) or AAS (k = −1), and the clearing of the upper digit (R376, R377). -/
def asciiGpr (s : State) (k : Int) : Gpr :=
  let u :=
    if !lowDigit s then s
    else if s.cfg.aaaCarryIntoAh then s.setReg .w16 .ax (truncInt .w16 ((s.reg .w16 .ax).toNat + k * 0x106))
    else (s.setReg8 .al (truncInt .w8 ((s.reg8 .al).toNat + k * 6))).setReg8 .ah (truncInt .w8 ((s.reg8 .ah).toNat + k))
  (u.setReg8 .al (u.reg8 .al &&& 0x0F)).gpr

end Sys2Proof.Machine

/-- INC, DEC, NEG and NOT complete in every form; INC and DEC keep CF, NOT keeps every flag.
Model's choices it rests on: log 14. -/
def Obligations.UnaryFormsComplete : Prop :=
  ∀ (s : State) (e8 : RM8) (e : RM) (r : Reg), s.mem.wf = true →
    (∀ p ∈ [(Unary.inc, Instr.incEb e8), (.dec, .decEb e8), (.neg, .negEb e8), (.not, .notEb e8)],
      UnaryForm s .w8 (s.rm8Loc e8) p) ∧
    (∀ p ∈ [(Unary.inc, Instr.incEv e), (.dec, .decEv e), (.neg, .negEv e), (.not, .notEv e)],
      UnaryForm s s.opW (s.rmLoc e) p) ∧
    (∀ p ∈ [(Unary.inc, Instr.incR r), (.dec, .decR r)], UnaryForm s s.opW (.reg r) p)

/-- MUL and one-operand IMUL complete with the exact double-width product; CF and OF say whether it needs the upper half. IMUL
with a destination register completes with the low half of the signed product.
Model's choices it rests on: log 3. -/
def Obligations.MultiplyCompletes : Prop :=
  (∀ (s : State) (e8 : RM8) (e : RM),
     (∀ p ∈ [(false, Instr.mulEb e8), (true, .imulEb e8)], MulForm s .w8 (s.rm8Loc e8) p) ∧
     (∀ p ∈ [(false, Instr.mulEv e), (true, .imulEv e)], MulForm s s.opW (s.rmLoc e) p)) ∧
  (∀ (s : State) (g : Reg) (e : RM) (iv : Word) (ib : Byte),
     ImulForm s g e iv (.imulGvEvIv g e iv) ∧
     ImulForm s g e (trunc s.opW (ib.signExtend 32)) (.imulGvEvIbs g e ib) ∧
     ImulForm s g e (s.reg s.opW g) (.imulGvEv g e))

/-- DIV and IDIV complete with quotient and remainder exactly where the divisor is not 0 and the quotient fits, and elsewhere
raise DIV_ERR with no register changed.
Model's choices it rests on: log 3. -/
def Obligations.DivideCompletesOrTraps : Prop :=
  ∀ (s : State) (e8 : RM8) (e : RM),
    DivForm s .w8 (s.rm8Loc e8) (.divEb e8) ∧ DivForm s s.opW (s.rmLoc e) (.divEv e) ∧
    IdivForm s .w8 (s.rm8Loc e8) (.idivEb e8) ∧ IdivForm s s.opW (s.rmLoc e) (.idivEv e) ∧
    (s.canRead .w8 (s.rm8Loc e8) → ¬ DivFits s .w8 (s.rm8Loc e8) → Traps s .de (.divEb e8)) ∧
    (s.canRead s.opW (s.rmLoc e) → ¬ DivFits s s.opW (s.rmLoc e) → Traps s .de (.divEv e)) ∧
    (s.canRead .w8 (s.rm8Loc e8) → ¬ IdivFits s .w8 (s.rm8Loc e8) → Traps s .de (.idivEb e8)) ∧
    (s.canRead s.opW (s.rmLoc e) → ¬ IdivFits s s.opW (s.rmLoc e) → Traps s .de (.idivEv e))

/-- DAA, DAS, AAA, AAS, AAM and AAD complete as their rules compute AL, AH and the flags; AAM by 0 raises DIV_ERR.
Model's choices it rests on: log 3. -/
def Obligations.DecimalAdjustsComplete : Prop :=
  ∀ (s : State) (ib : Byte),
    let al := (s.reg8 .al).toNat
    Next (exec .daa s) (fun t =>
      let t1 := if lowDigit s then al + 6 else al
      let c := decide (0x9F < t1) || s.flag .cf
      t.gpr = (s.setReg8 .al (BitVec.ofNat 32 (if c then t1 + 0x60 else t1))).gpr ∧ DecimalFlags s t c (lowDigit s) ∧
      SameMemory s t ∧ SameDirect s t ∧ t.pc = s.pc ∧ SameWorld s t) ∧
    Next (exec .das s) (fun t =>
      let t1 := if lowDigit s then (al + 250) % 256 else al
      let big := decide (0x99 < al) || s.flag .cf
      t.gpr = (s.setReg8 .al (BitVec.ofNat 32 (if big then t1 + 160 else t1))).gpr ∧
      DecimalFlags s t (big || (lowDigit s && (s.flag .cf || decide (al < 6)))) (lowDigit s) ∧
      SameMemory s t ∧ SameDirect s t ∧ t.pc = s.pc ∧ SameWorld s t) ∧
    (∀ p ∈ [((1 : Int), Instr.aaa), (-1, .aas)], Next (exec p.2 s) fun t =>
      t.gpr = asciiGpr s p.1 ∧ t.flag .cf = lowDigit s ∧ t.flag .af = lowDigit s ∧
      DefaultKeeps s t [.pf, .zf, .sf, .of] ∧ SameMemory s t ∧ SameDirect s t ∧ t.pc = s.pc ∧ SameWorld s t) ∧
    (ib ≠ 0 → Next (exec (.aamIb ib) s) fun t =>
      t.gpr = ((s.setReg8 .ah (BitVec.ofNat 32 (al / ib.toNat))).setReg8 .al (BitVec.ofNat 32 (al % ib.toNat))).gpr ∧
      ResultFlags .w8 (t.reg8 .al) t ∧ DefaultKeeps s t [.cf, .af, .of] ∧ SameMemory s t ∧ SameDirect s t ∧ t.pc = s.pc ∧
      SameWorld s t) ∧
    Traps s .de (.aamIb 0) ∧
    Next (exec (.aadIb ib) s) (fun t =>
      t.gpr = ((s.setReg8 .al (BitVec.ofNat 32 (al + (s.reg8 .ah).toNat * ib.toNat))).setReg8 .ah 0).gpr ∧
      ResultFlags .w8 (t.reg8 .al) t ∧ DefaultKeeps s t [.cf, .af, .of] ∧ SameMemory s t ∧ SameDirect s t ∧ t.pc = s.pc ∧
      SameWorld s t) ∧
    ∀ c : DecCtx, (∀ p ∈ [((0x27 : Byte), Instr.daa), (0x2F, .das), (0x37, .aaa), (0x3F, .aas)], decode c [p.1] = some (p.2, [])) ∧
      decode c [0xD4, ib] = some (.aamIb ib, []) ∧ decode c [0xD5, ib] = some (.aadIb ib, [])

/-! ### Shifts, rotates, double shifts, bit tests, scans and conditions (42_logic_shift_bit.md) -/

namespace Sys2Proof.Machine

/-- The direct flags, the instruction pointer and the world around the general registers, the cached flags and memory are as
before. -/
def Rest (s t : State) : Prop := SameDirect s t ∧ t.pc = s.pc ∧ SameWorld s t

/-- Flags, instruction pointer and world are as before. -/
def Plain (s t : State) : Prop := SameFlags s t ∧ t.pc = s.pc ∧ SameWorld s t

/-- The world is as before but for the record of device accesses, which is as before if there is no device: for instructions that
read system tables. -/
def SameButDevices (s t : State) : Prop := SameDevices s t ∧ SameWorld s { t with busLog := s.busLog }

/-- The ring of RCL and RCR as a number: CF above the operand (R417). -/
def ringNat (w : Width) (cf : Bool) (d : Word) : Nat := cf.toNat * 2 ^ w.bits + d.toNat

/-- A ring of m bits turned left by n < m. -/
def turnLeft (m n r : Nat) : Nat := (r * 2 ^ n + r / 2 ^ (m - n)) % 2 ^ m

/-- A ring of m bits turned right by n < m. -/
def turnRight (m n r : Nat) : Nat := (r / 2 ^ n + r * 2 ^ (m - n)) % 2 ^ m

/-- What a shift or rotate by c ≠ 0 writes, as arithmetic (R411 to R413, R415 to R418). -/
def shiftValue (op : ShiftOp) (w : Width) (cf : Bool) (d : Word) (c : Nat) : Word :=
  match op with
  | .shl => BitVec.ofNat 32 (d.toNat * 2 ^ c % 2 ^ w.bits)
  | .shr => BitVec.ofNat 32 (d.toNat / 2 ^ c)
  | .sar => truncInt w (signed w d / 2 ^ c)
  | .rol => BitVec.ofNat 32 (turnLeft w.bits (c % w.bits) d.toNat)
  | .ror => BitVec.ofNat 32 (turnRight w.bits (c % w.bits) d.toNat)
  | .rcl => BitVec.ofNat 32 (turnLeft (w.bits + 1) (c % (w.bits + 1)) (ringNat w cf d) % 2 ^ w.bits)
  | .rcr => BitVec.ofNat 32 (turnRight (w.bits + 1) (c % (w.bits + 1)) (ringNat w cf d) % 2 ^ w.bits)

/-- CF after a shift or rotate by c ≠ 0: the last bit moved out. -/
def shiftCarry (op : ShiftOp) (w : Width) (cf : Bool) (d : Word) (c : Nat) : Bool :=
  match op with
  | .shl => (d.toNat * 2 ^ c).testBit w.bits
  | .shr => d.toNat.testBit (c - 1)
  | .sar => decide (signed w d / 2 ^ (c - 1) % 2 = 1)
  | .rol => bit (shiftValue .rol w cf d c) 0
  | .ror => bit (shiftValue .ror w cf d c) (w.bits - 1)
  | .rcl => (turnLeft (w.bits + 1) (c % (w.bits + 1)) (ringNat w cf d)).testBit w.bits
  | .rcr => (turnRight (w.bits + 1) (c % (w.bits + 1)) (ringNat w cf d)).testBit w.bits

/-- OF after a shift or rotate, where it is defined (R411 to R413, R419). -/
def shiftOverflow (op : ShiftOp) (w : Width) (cf : Bool) (d : Word) (c : Nat) : Bool :=
  let top := bit (shiftValue op w cf d c) (w.bits - 1)
  match op with
  | .shl | .rol | .rcl => top ^^ shiftCarry op w cf d c
  | .shr => bit d (w.bits - 1)
  | .sar => false
  | .ror | .rcr => top ^^ bit (shiftValue op w cf d c) (w.bits - 2)

/-- Value and flags of a shift or rotate by c ≠ 0; a rotate keeps PF, AF, ZF and SF (R414, R419). -/
def Shifted (op : ShiftOp) (w : Width) (l : Loc) (d : Word) (c : Nat) (s t : State) : Prop :=
  Wrote w l (shiftValue op w (s.flag .cf) d c) s t ∧ t.flag .cf = shiftCarry op w (s.flag .cf) d c ∧
  (c = 1 ∨ s.cfg.undef = .blockDefault → t.flag .of = shiftOverflow op w (s.flag .cf) d c) ∧
  (if op.isShift then ResultFlags w (shiftValue op w (s.flag .cf) d c) t ∧ DefaultKeeps s t [.af]
    else ∀ f ∈ [Flag.pf, .af, .zf, .sf], t.flag f = s.flag f)

/-- One form of group 2 completes; a count of 0 changes nothing (R410). -/
def ShiftForm (s : State) (w : Width) (l : Loc) (c : Nat) (p : ShiftOp × Instr) : Prop :=
  s.canRead w l → s.canWrite w l →
    Next (exec p.2 s) fun t =>
      (c = 0 → Untouched s t ∧ SameFlags s t) ∧ (c ≠ 0 → Shifted p.1 w l (s.valueAt w l) c s t) ∧ Rest s t

/-- The value and the carry of SHLD (`left`) and SHRD: a window of D ++ G, or of D ++ G ++ D beyond the width (R420, R421). -/
def doubleNat (left : Bool) (n d g c : Nat) : Nat × Bool :=
  if c ≤ n then
    if left then ((d * 2 ^ n + g) * 2 ^ c / 2 ^ n % 2 ^ n, d.testBit (n - c))
    else ((g * 2 ^ n + d) / 2 ^ c % 2 ^ n, d.testBit (c - 1))
  else
    let r := d * 2 ^ (2 * n) + g * 2 ^ n + d
    if left then (r * 2 ^ c / 2 ^ (2 * n) % 2 ^ n, r.testBit (3 * n - c)) else (r / 2 ^ c % 2 ^ n, r.testBit (c - 1))

/-- Value and flags of a double shift by c ≠ 0; beyond the width both are undefined (R420). -/
def DoubleShifted (left : Bool) (w : Width) (l : Loc) (d g : Word) (c : Nat) (s t : State) : Prop :=
  Wrote w l (t.valueAt w l) s t ∧
  (c ≤ w.bits ∨ s.cfg.undef = .blockDefault →
    (t.valueAt w l).toNat = (doubleNat left w.bits d.toNat g.toNat c).1 ∧
    t.flag .cf = (doubleNat left w.bits d.toNat g.toNat c).2 ∧ ResultFlags w (t.valueAt w l) t) ∧
  (c = 1 ∨ s.cfg.undef = .blockDefault → t.flag .of = (bit (t.valueAt w l) (w.bits - 1) ^^ bit d (w.bits - 1))) ∧
  DefaultKeeps s t [.af]

/-- One form of SHLD or SHRD completes. -/
def DoubleShiftForm (s : State) (e : RM) (g : Reg) (c : Nat) (p : Bool × Instr) : Prop :=
  s.canRead s.opW (s.rmLoc e) → s.canWrite s.opW (s.rmLoc e) →
    Next (exec p.2 s) fun t =>
      (c = 0 → Untouched s t ∧ SameFlags s t) ∧
      (c ≠ 0 → DoubleShifted p.1 s.opW (s.rmLoc e) (s.valueAt s.opW (s.rmLoc e)) (s.reg s.opW g) c s t) ∧ Rest s t

/-- What BTS, BTR and BTC make of a unit, by arithmetic on the bit's weight (R423 to R425). -/
def bitValue (op : BitOp) (d : Word) (n : Nat) : Word :=
  let on := d.toNat.testBit n
  let k := BitVec.ofNat 32 (2 ^ n)
  match op with
  | .test => d
  | .set => if on then d else d + k
  | .reset => if on then d - k else d
  | .complement => if on then d - k else d + k

/-- One bit instruction completes on a unit. -/
def BitForm (s : State) (w : Width) (l : Loc) (n : Nat) (p : BitOp × Instr) : Prop :=
  s.canRead w l → (p.1 ≠ .test → s.canWrite w l) →
    Next (exec p.2 s) fun t =>
      (if p.1 = .test then Untouched s t else Wrote w l (bitValue p.1 (s.valueAt w l) n) s t) ∧
      t.flag .cf = (s.valueAt w l).toNat.testBit n ∧ DefaultKeeps s t [.pf, .af, .zf, .sf, .of] ∧ Rest s t

/-- The unit and the bit number a register bit offset selects: signed in memory, modulo the width in a register (R426). -/
def bitPlace (s : State) (e : RM) (k : Word) : Loc × Nat :=
  match e with
  | .reg r => (.reg r, k.toNat % s.opW.bits)
  | .mem m => (.mem (s.resolve m).1
      (((s.resolve m).2 + s.opW.bytes * (signed s.opW k / s.opW.bits)) % 2 ^ s.adW.bits).toNat,
    (signed s.opW k % s.opW.bits).toNat)

/-- i is the bit BSF (`up`) or BSR finds: the lowest or the highest that is set. -/
def Scanned (up : Bool) (v : Word) (i : Nat) : Prop :=
  bit v i = true ∧ ∀ j, j < 32 → bit v j = true → if up then i ≤ j else j ≤ i

/-- BSF or BSR completes: with a source of 0 ZF is 1 and the destination undefined, unchanged at the block's default. -/
def ScanForm (s : State) (g : Reg) (e : RM) (p : Bool × Instr) : Prop :=
  s.canRead s.opW (s.rmLoc e) →
    Next (exec p.2 s) fun t =>
      (let v := s.valueAt s.opW (s.rmLoc e)
       t.flag .zf = decide (v = 0) ∧
       (v ≠ 0 → Scanned p.1 v (t.reg s.opW g).toNat) ∧
       (v = 0 → s.cfg.undef = .blockDefault → t.gpr = s.gpr)) ∧
      t.gpr = (s.setReg s.opW g (t.reg s.opW g)).gpr ∧ SameMemory s t ∧
      DefaultKeeps s t [.cf, .pf, .af, .sf, .of] ∧ Rest s t

end Sys2Proof.Machine

/-- Every byte form of ROL, ROR, RCL, RCR, SHL, SHR and SAR completes, for each of the three counts (R410 to R419). Every word
and dword form of the same seven instructions completes, at the operand size of the state.
Model's choices it rests on: log 3. -/
def Obligations.ShiftFormsComplete : Prop :=
  (∀ (s : State) (e : RM8) (ib : Byte), s.mem.wf = true →
     (∀ p ∈ [(ShiftOp.rol, Instr.rolEbIb e ib), (.ror, .rorEbIb e ib), (.rcl, .rclEbIb e ib), (.rcr, .rcrEbIb e ib),
         (.shl, .shlEbIb e ib), (.shr, .shrEbIb e ib), (.sar, .sarEbIb e ib), (.shl, .shl6 (.ib ib) (.eb e))],
       ShiftForm s .w8 (s.rm8Loc e) (ib.toNat % 32) p) ∧
     (∀ p ∈ [(ShiftOp.rol, Instr.rolEbOne e), (.ror, .rorEbOne e), (.rcl, .rclEbOne e), (.rcr, .rcrEbOne e),
         (.shl, .shlEbOne e), (.shr, .shrEbOne e), (.sar, .sarEbOne e), (.shl, .shl6 .one (.eb e))],
       ShiftForm s .w8 (s.rm8Loc e) 1 p) ∧
     (∀ p ∈ [(ShiftOp.rol, Instr.rolEbCL e), (.ror, .rorEbCL e), (.rcl, .rclEbCL e), (.rcr, .rcrEbCL e),
         (.shl, .shlEbCL e), (.shr, .shrEbCL e), (.sar, .sarEbCL e), (.shl, .shl6 .cl (.eb e))],
       ShiftForm s .w8 (s.rm8Loc e) ((s.reg8 .cl).toNat % 32) p)) ∧
  (∀ (s : State) (e : RM) (ib : Byte), s.mem.wf = true →
     (∀ p ∈ [(ShiftOp.rol, Instr.rolEvIb e ib), (.ror, .rorEvIb e ib), (.rcl, .rclEvIb e ib), (.rcr, .rcrEvIb e ib),
         (.shl, .shlEvIb e ib), (.shr, .shrEvIb e ib), (.sar, .sarEvIb e ib), (.shl, .shl6 (.ib ib) (.ev e))],
       ShiftForm s s.opW (s.rmLoc e) (ib.toNat % 32) p) ∧
     (∀ p ∈ [(ShiftOp.rol, Instr.rolEvOne e), (.ror, .rorEvOne e), (.rcl, .rclEvOne e), (.rcr, .rcrEvOne e),
         (.shl, .shlEvOne e), (.shr, .shrEvOne e), (.sar, .sarEvOne e), (.shl, .shl6 .one (.ev e))],
       ShiftForm s s.opW (s.rmLoc e) 1 p) ∧
     (∀ p ∈ [(ShiftOp.rol, Instr.rolEvCL e), (.ror, .rorEvCL e), (.rcl, .rclEvCL e), (.rcr, .rcrEvCL e),
         (.shl, .shlEvCL e), (.shr, .shrEvCL e), (.sar, .sarEvCL e), (.shl, .shl6 .cl (.ev e))],
       ShiftForm s s.opW (s.rmLoc e) ((s.reg8 .cl).toNat % 32) p))

/-- SHLD and SHRD complete, by an immediate count and by CL (R420, R421).
Model's choices it rests on: log 3, 15. -/
def Obligations.DoubleShiftsComplete : Prop :=
  ∀ (s : State) (e : RM) (g : Reg) (ib : Byte), s.mem.wf = true →
    (∀ p ∈ [(true, Instr.shldEvGvIb e g ib), (false, .shrdEvGvIb e g ib)], DoubleShiftForm s e g (ib.toNat % 32) p) ∧
    (∀ p ∈ [(true, Instr.shldEvGvCL e g), (false, .shrdEvGvCL e g)],
      DoubleShiftForm s e g ((s.reg8 .cl).toNat % 32) p)

/-- BT, BTS, BTR and BTC complete in both forms: CF is the old bit, the unit changes in that bit only (R422 to R426). BSF and
BSR complete: the lowest and the highest set bit (R427, R428).
Model's choices it rests on: log 3. -/
def Obligations.BitTestsAndScansComplete : Prop :=
  (∀ (s : State) (e : RM) (g : Reg) (ib : Byte), s.mem.wf = true →
     (∀ p ∈ [(BitOp.test, Instr.btEvIb e ib), (.set, .btsEvIb e ib), (.reset, .btrEvIb e ib), (.complement, .btcEvIb e ib)],
       BitForm s s.opW (s.rmLoc e) (ib.toNat % s.opW.bits) p) ∧
     (∀ p ∈ [(BitOp.test, Instr.btEvGv e g), (.set, .btsEvGv e g), (.reset, .btrEvGv e g), (.complement, .btcEvGv e g)],
       BitForm s s.opW (bitPlace s e (s.reg s.opW g)).1 (bitPlace s e (s.reg s.opW g)).2 p)) ∧
  (∀ (s : State) (g : Reg) (e : RM), ∀ p ∈ [(true, Instr.bsfGvEv g e), (false, .bsrGvEv g e)], ScanForm s g e p)

/-- SETcc completes: the byte becomes 1 or 0 by the condition, and no flag changes (R429). After the flags of a comparison the
conditions of R430 order the operands, unsigned by B, AE, BE and A, signed by L, GE, LE and G; an odd condition is the
negation of the one before it. -/
def Obligations.SetOnConditionCompletes : Prop :=
  (∀ (s : State) (cc : Cond) (e : RM8), s.mem.wf = true → s.canWrite .w8 (s.rm8Loc e) →
     Next (exec (.setccEb cc e) s) fun t =>
       Wrote .w8 (s.rm8Loc e) (if s.cond cc then 1 else 0) s t ∧ Plain s t) ∧
  (∀ (w : Width) (d x : Word) (t : State), trunc w d = d → trunc w x = x → FlagsBy w (trunc w (d - x)) x d (trunc w (d - x)) t →
     t.cond .b = decide (d.toNat < x.toNat) ∧ t.cond .be = decide (d.toNat ≤ x.toNat) ∧ t.cond .z = decide (d = x) ∧
     t.cond .l = decide (signed w d < signed w x) ∧ t.cond .le = decide (signed w d ≤ signed w x) ∧
     t.cond .s = decide (signed w (trunc w (d - x)) < 0) ∧ t.cond .p = evenParity (d - x) ∧
     (t.cond .o = decide (signed w d - signed w x ≠ signed w (trunc w (d - x)))) ∧
     ∀ p ∈ [(Cond.o, Cond.no), (.b, .ae), (.z, .nz), (.be, .a), (.s, .ns), (.p, .np), (.l, .ge), (.le, .g)],
       t.cond p.2 = !t.cond p.1)

/-! ### Data movement (40_data_movement.md sections 2 and 4) and effective addresses (31_modrm_resolver.md) -/

namespace Sys2Proof.Machine

/-- One form of MOV completes: the destination holds the value, and no flag changes. -/
def MovForm (s : State) (w : Width) (dst : Loc) (src : Prop) (v : Word) (i : Instr) : Prop :=
  s.canWrite w dst → src → Next (exec i s) fun t => Wrote w dst v s t ∧ Plain s t

/-- The registers with two operands exchanged: the operand l gets the register's value, the register what l held (R313). -/
def exchangeGpr (s : State) (w : Width) (l g : Loc) : Gpr :=
  State.gprWith { s with gpr := s.gprWith w l (s.valueAt w g) } w g (s.valueAt w l)

/-- One form of XCHG completes. -/
def XchgForm (s : State) (w : Width) (l g : Loc) (i : Instr) : Prop :=
  s.canRead w l → s.canWrite w l →
    Next (exec i s) fun t =>
      t.gpr = exchangeGpr s w l g ∧ t.valueAt w l = s.valueAt w g ∧ t.valueAt w g = s.valueAt w l ∧
      SameMemoryBut s t (s.storedAt w l) ∧ Plain s t

/-- A 16-bit register goes to E: 16 bits to memory, zero-extended to the operand size to a register (R312, R566, R570). -/
def HalfForm (s : State) (e : RM) (v : Half) (i : Instr) : Prop :=
  s.canWrite .w16 (s.rmLoc e) →
    Next (exec i s) fun t =>
      Wrote (match e with | .reg _ => s.opW | .mem _ => .w16) (s.rmLoc e) (v.setWidth 32) s t ∧ Plain s t

/-- A value loaded into a register from E completes. -/
def LoadForm (s : State) (w : Width) (e : Loc) (g : Reg) (v : Word) (i : Instr) : Prop :=
  s.canRead w e → Next (exec i s) fun t => t.gpr = (s.setReg s.opW g v).gpr ∧ SameMemory s t ∧ Plain s t

/-! Segment loads -/

/-- The four words of a descriptor while linear addresses are physical ones (R149). -/
def State.descAt (s : State) (a : Word) : Desc :=
  let w (k : Word) : Half := (s.busRead (addrs (a + k).toNat 2)).setWidth 16
  ⟨a, w 0, w 2, w 4, if s.cfg.model.has386 then w 6 else 0⟩

/-- The descriptor a selector names. -/
def State.named (s : State) (sel : Half) : Desc := s.descAt (s.descAddr sel)

/-- The selector lies in its table (R149). -/
def State.inTable (s : State) (sel : Half) : Bool :=
  decide (8 * (sel.toNat / 8) + 7 ≤ if sel.getLsbD 2 then s.ldtr.limit.toNat else s.gdtr.limit.toNat)

/-- The code of a fault about a selector, not external (R163). -/
def selCode (sel : Half) : Half := sel &&& 0xFFFC#16

/-- What a load of DS, ES, FS or GS by a non-null selector comes to (R155). -/
def dataVerdict (s : State) (sel : Half) : Except Exn SegReg :=
  let d := s.named sel
  if !s.inTable sel then .error (.gp (selCode sel))
  else if !d.isSegment || (d.isCode && !d.rw) then .error (.gp (selCode sel))
  else if (!d.isCode || !d.conforming) && (decide (d.dpl < s.cpl) || decide (d.dpl < selRPL sel)) then
    .error (.gp (selCode sel))
  else if !d.present then .error (.np (selCode sel))
  else .ok ⟨sel, d.base, d.limit, d.w2 ||| 0x0100, d.w3, d.dpl, some d.addr⟩

/-- What a load of SS at a privilege level comes to, in the two styles of R154. -/
def stackVerdict (s : State) (lvl : BitVec 2) (sel : Half) : Except Exn SegReg :=
  let d := s.named sel
  let source := s.cfg.loadFaults == .source
  if decide (sel.toNat < 4) then .error (.gp 0)
  else if !s.inTable sel then .error (.gp (selCode sel))
  else if !d.isSegment || d.isCode || !d.rw then .error (.gp (selCode sel))
  else if d.dpl != lvl || selRPL sel != lvl then .error (if source then .ss (selCode sel) else .gp (selCode sel))
  else if !d.present then .error (if source then .np (selCode sel) else .ss (selCode sel))
  else .ok ⟨sel, d.base, d.limit, d.w2 ||| 0x0100, d.w3, d.dpl, some d.addr⟩

/-- A segment register made empty, with a selector (R151, R162). -/
def SegReg.emptied (r : SegReg) (sel : Half) : SegReg :=
  { r with sel := sel, base := 0, limit := 0, acc := 0, dpl := 0, addrDesc := none }

/-- What a load of a segment register other than CS comes to: in real mode selector and base change and nothing fails (R141);
in protected mode a null selector empties a data segment register and is refused to SS (R151), any other passes the rule of its
kind. -/
def segVerdict (s : State) (r : SReg) (sel : Half) : Except Exn SegReg :=
  if !s.protectedMode then
    .ok { s.seg r with sel := sel, base := BitVec.ofNat 32 (sel.toNat * 16), addrDesc := none }
  else if r = .ss then stackVerdict s s.cpl sel
  else if decide (sel.toNat < 4) then .ok ((s.seg r).emptied sel)
  else dataVerdict s sel

/-- Memory with values stored one after the other. -/
def written : State → List (List Nat × Word) → State
  | s, [] => s
  | s, p :: r => written (s.busWrite p.1 (leBytes p.1.length p.2)) r

/-- Memory is what these stores, in this order, make of it; no other byte changed. -/
def Stored (ws : List (List Nat × Word)) (s t : State) : Prop :=
  SameMemory (written s ws) t ∧ SameMemoryBut s t (fun a => ∃ p, p ∈ ws ∧ s.among p.1 a)

/-- Memory after a load by a selector: the accessed bit of its descriptor is stored, if it was clear (R160). -/
def Accessed (s : State) (sel : Half) (t : State) : Prop :=
  if s.protectedMode = true ∧ ¬ sel.toNat < 4 ∧ (s.named sel).w2.getLsbD 8 = false then
    Stored [(addrs ((s.named sel).addr + 4).toNat 2, ((s.named sel).w2 ||| 0x0100).setWidth 32)] s t
  else SameMemory s t

/-- Everything but the general registers, the flags, memory, the instruction pointer and one segment register is as before. -/
def SameButSeg (r : SReg) (s t : State) : Prop :=
  (∀ q, q ≠ r → t.seg q = s.seg q) ∧ t.cpl = s.cpl ∧ SameSystem s t ∧ t.intFlags = s.intFlags ∧ t.portLog = s.portLog ∧
  SameDevices s t

/-- An instruction that loads a segment register completes where the load succeeds, with the registers `g`, and raises the
load's exception with nothing changed where it does not (R161). A load that holds interrupts off sets NOINTR (R682). -/
def SegLoadForm (s : State) (r : SReg) (sel : Half) (holds : Bool) (g : Gpr) (i : Instr) : Prop :=
  match segVerdict s r sel with
  | .error x => Traps s x i
  | .ok v => Next (exec i s) fun t =>
      t.seg r = v ∧ t.gpr = g ∧ Accessed s sel t ∧ SameButSeg r s t ∧ SameFlags s t ∧ t.pc = s.pc ∧
      t.opFlags.noIntr = (s.opFlags.noIntr || (holds && r == .ss)) ∧ t.noTrap = (s.noTrap || (holds && r == .ss))

/-- The offset and the selector of a far pointer in memory. -/
def State.farOffset (s : State) (m : MemOp) : Word :=
  s.busRead (s.spread (s.resolve m).1 (s.resolve m).2 s.opW.bytes)

def State.farSelector (s : State) (m : MemOp) : Half :=
  (s.busRead (s.spread (s.resolve m).1 ((s.resolve m).2 + s.opW.bytes) 2)).setWidth 16

/-- A far pointer can be read. -/
def State.canReadFar (s : State) (m : MemOp) : Prop :=
  s.grants (s.resolve m).1 (s.resolve m).2 s.opW.bytes .read ∧
  s.grants (s.resolve m).1 ((s.resolve m).2 + s.opW.bytes) 2 .read

end Sys2Proof.Machine

/-- Every form of MOV between general registers, memory and immediates completes (R311). XCHG completes in every form, and NOP
changes nothing at all (R313, R340). -/
def Obligations.MovAndExchangeComplete : Prop :=
  (∀ (s : State) (e8 : RM8) (g8 : Reg8) (e : RM) (g : Reg) (ib : Byte) (iv off : Word), s.mem.wf = true →
     let w := s.opW
     let o : Loc := .mem (s.opPrefixes.seg.getD .ds) off.toNat
     MovForm s .w8 (s.rm8Loc e8) True (s.reg8 g8) (.movEbGb e8 g8) ∧
     MovForm s w (s.rmLoc e) True (s.reg w g) (.movEvGv e g) ∧
     MovForm s .w8 (.byteReg g8) (s.canRead .w8 (s.rm8Loc e8)) (s.valueAt .w8 (s.rm8Loc e8)) (.movGbEb g8 e8) ∧
     MovForm s w (.reg g) (s.canRead w (s.rmLoc e)) (s.valueAt w (s.rmLoc e)) (.movGvEv g e) ∧
     MovForm s .w8 (.byteReg .al) (s.canRead .w8 o) (s.valueAt .w8 o) (.movALOb off) ∧
     MovForm s w (.reg .ax) (s.canRead w o) (s.valueAt w o) (.movEAXOv off) ∧
     MovForm s .w8 o True (s.reg8 .al) (.movObAL off) ∧
     MovForm s w o True (s.reg w .ax) (.movOvEAX off) ∧
     MovForm s .w8 (.byteReg g8) True (ib.setWidth 32) (.movR8Ib g8 ib) ∧
     MovForm s w (.reg g) True (trunc w iv) (.movRIv g iv) ∧
     MovForm s .w8 (s.rm8Loc e8) True (ib.setWidth 32) (.movEbIb e8 ib) ∧
     MovForm s w (s.rmLoc e) True (trunc w iv) (.movEvIv e iv)) ∧
  (∀ (s : State) (e8 : RM8) (g8 : Reg8) (e : RM) (g : Reg), s.mem.wf = true →
     XchgForm s .w8 (s.rm8Loc e8) (.byteReg g8) (.xchgEbGb e8 g8) ∧
     XchgForm s s.opW (s.rmLoc e) (.reg g) (.xchgEvGv e g) ∧
     XchgForm s s.opW (.reg .ax) (.reg g) (.xchgEAXR g) ∧
     exec .nop s = .next s ∧ ∀ c : DecCtx, decode c [0x90] = some (.nop, []))

/-- The offset of every memory operand, as a sum of registers and displacement modulo the address size (R282 to R285). The
segment of a memory operand: the overriding prefix, else SS for the bases BP, EBP and ESP and DS for the others (R286, R287).
-/
def Obligations.EffectiveAddresses : Prop :=
  (∀ (s : State) (r i : Reg) (sc : BitVec 2) (b d8 : Byte) (d16 : Half) (d : Word),
     let h (r : Reg) : Nat := (s.gpr.get r).toNat % 65536
     let f (r : Reg) : Nat := (s.gpr.get r).toNat
     (∀ p ∈ [(Base16.bxsi, h .bx + h .si), (.bxdi, h .bx + h .di), (.bpsi, h .bp + h .si), (.bpdi, h .bp + h .di),
         (.si, h .si), (.di, h .di), (.bp, h .bp), (.bx, h .bx)],
       (s.offset (.base16 p.1 .none)).toNat = p.2 % 65536 ∧
       ((s.offset (.base16 p.1 (.d8 d8))).toNat : Int) = (p.2 + d8.toInt) % 65536 ∧
       (s.offset (.base16 p.1 (.d16 d16))).toNat = (p.2 + d16.toNat) % 65536) ∧
     (s.offset (.abs16 d16)).toNat = d16.toNat ∧ (s.offset (.abs32 d)).toNat = d.toNat ∧
     (s.offset (.base32 r .none)).toNat = f r ∧
     ((s.offset (.base32 r (.d8 b))).toNat : Int) = (f r + b.toInt) % 2 ^ 32 ∧
     (s.offset (.base32 r (.d32 d))).toNat = (f r + d.toNat) % 2 ^ 32 ∧
     ((s.offset (.sib sc (some i) r (.d8 b))).toNat : Int) = (f r + f i * 2 ^ sc.toNat + b.toInt) % 2 ^ 32 ∧
     (s.offset (.sib sc (some i) r .none)).toNat = (f r + f i * 2 ^ sc.toNat) % 2 ^ 32 ∧
     (s.offset (.sib sc (some i) r (.d32 d))).toNat = (f r + f i * 2 ^ sc.toNat + d.toNat) % 2 ^ 32 ∧
     (s.offset (.sib sc none r .none)).toNat = f r ∧
     ((s.offset (.sib sc none r (.d8 b))).toNat : Int) = (f r + b.toInt) % 2 ^ 32 ∧
     (s.offset (.sib sc none r (.d32 d))).toNat = (f r + d.toNat) % 2 ^ 32 ∧
     (s.offset (.sibNoBase sc (some i) d)).toNat = (f i * 2 ^ sc.toNat + d.toNat) % 2 ^ 32 ∧
     (s.offset (.sibNoBase sc none d)).toNat = d.toNat) ∧
  (∀ (s : State) (m : MemOp),
     (∀ q, s.opPrefixes.seg = some q → (s.resolve m).1 = q) ∧
     (s.opPrefixes.seg = none → (s.resolve m).1 =
       match m with
       | .base16 .bp _ | .base16 .bpsi _ | .base16 .bpdi _ | .base32 .bp _ | .base32 .sp _ | .sib _ _ .bp _ | .sib _ _ .sp _ => .ss
       | _ => .ds))

/-- LEA writes the offset and accesses nothing; with a register operand it raises UD, or is refused where the parameter
`LEA_REG_UD` is false (R314, R253). XLAT, CBW, CWD, MOVZX and MOVSX complete, with the values of their rules (R316, R330 to
R333).
Model's choices it rests on: log 23. -/
def Obligations.LeaAndConversionsComplete : Prop :=
  (∀ (s : State) (g r : Reg) (m : MemOp),
     (Next (exec (.leaGvM g (.mem m)) s) fun t => t.gpr = (s.setReg s.opW g (s.offset m)).gpr ∧ SameMemory s t ∧ Plain s t) ∧
     (s.cfg.leaRegUd = true → Traps s .ud (.leaGvM g (.reg r))) ∧
     (s.cfg.leaRegUd = false → exec (.leaGvM g (.reg r)) s = .refused .leaRegister)) ∧
  (∀ (s : State) (g : Reg) (e8 : RM8) (e : RM),
     let o : Loc := .mem (s.opPrefixes.seg.getD .ds) (((s.gpr.get .bx).toNat + (s.reg8 .al).toNat) % 2 ^ s.adW.bits)
     let half : Width := if s.op32 then .w16 else .w8
     (s.canRead .w8 o → Next (exec .xlat s) fun t =>
       t.gpr = (s.setReg8 .al (s.valueAt .w8 o)).gpr ∧ SameMemory s t ∧ Plain s t) ∧
     Next (exec .cbw s) (fun t =>
       t.gpr = (s.setReg s.opW .ax (truncInt s.opW (signed half (s.reg half .ax)))).gpr ∧ SameMemory s t ∧ Plain s t) ∧
     Next (exec .cwd s) (fun t =>
       t.gpr = (s.setReg s.opW .dx (if signed s.opW (s.reg s.opW .ax) < 0 then 0xFFFFFFFF else 0)).gpr ∧ SameMemory s t ∧
       Plain s t) ∧
     LoadForm s .w8 (s.rm8Loc e8) g (s.valueAt .w8 (s.rm8Loc e8)) (.movzxGvEb g e8) ∧
     LoadForm s .w16 (s.rmLoc e) g (s.valueAt .w16 (s.rmLoc e)) (.movzxGvEw g e) ∧
     LoadForm s .w8 (s.rm8Loc e8) g (truncInt s.opW (signed .w8 (s.valueAt .w8 (s.rm8Loc e8)))) (.movsxGvEb g e8) ∧
     LoadForm s .w16 (s.rmLoc e) g (truncInt s.opW (signed .w16 (s.valueAt .w16 (s.rmLoc e)))) (.movsxGvEw g e) ∧
     ∀ c : DecCtx, decode c [0x98] = some (.cbw, []) ∧ decode c [0x99] = some (.cwd, []))

/-- MOV to a segment register completes or raises what the load raises; MOV from one, SLDT, STR and SMSW store 16 bits (R312,
R566, R568, R570). LDS, LES, LFS, LGS and LSS complete with selector and offset, or raise what the load raises with neither
register changed (R315).
Model's choices it rests on: log 8, 12, 39. -/
def Obligations.SegmentLoadsComplete : Prop :=
  (∀ (s : State) (r : SReg) (e : RM), s.mem.wf = true → s.pagingOn = false →
     (r ≠ .cs → s.canRead .w16 (s.rmLoc e) →
       SegLoadForm s r ((s.valueAt .w16 (s.rmLoc e)).setWidth 16) true s.gpr (.movSwEw r e)) ∧
     HalfForm s e (s.seg r).sel (.movEwSw e r) ∧
     HalfForm s e (s.cr0.setWidth 16) (.smswEw e) ∧
     (s.protectedMode = true → HalfForm s e s.ldtr.sel (.sldtEw e)) ∧
     (s.protectedMode = true → HalfForm s e s.tr.sel (.strEw e)) ∧
     (s.protectedMode = false → Traps s .ud (.sldtEw e) ∧ Traps s .ud (.strEw e))) ∧
  (∀ (s : State) (g : Reg) (m : MemOp), s.mem.wf = true → s.pagingOn = false → s.canReadFar m →
     ∀ p ∈ [(SReg.ds, Instr.ldsGvMp g m), (.es, .lesGvMp g m), (.fs, .lfsGvMp g m), (.gs, .lgsGvMp g m), (.ss, .lssGvMp g m)],
       SegLoadForm s p.1 (s.farSelector m) false (s.setReg s.opW g (s.farOffset m)).gpr p.2)

/-! ### The stack and the ports (40_data_movement.md sections 3 and 5, 45_system.md R552, R553) -/

namespace Sys2Proof.Machine

/-- The general registers with a stack pointer at the stack's width (R317). -/
def spGpr (s : State) (v : Word) : Gpr := (s.setReg s.stack.w .sp v).gpr

/-- Values were pushed, the first first: the stack pointer is below by their size, they stand at the new top, the last pushed
lowest, and no other byte of memory changed (R318). -/
def Pushed (w : Width) (vs : List Word) (s t : State) : Prop :=
  t.gpr = spGpr s (BitVec.ofNat 32 (s.below (vs.length * w.bytes))) ∧
  (∀ i, i < vs.length →
    t.busRead (s.spread .ss (s.below ((i + 1) * w.bytes)) w.bytes) = trunc w (vs.getD i 0)) ∧
  SameMemoryBut s t (s.pushedBytes w vs.length)

/-- One form of PUSH completes. -/
def PushForm (s : State) (src : Prop) (v : Word) (i : Instr) : Prop :=
  s.canPush s.opW 1 → src → Next (exec i s) fun t => Pushed s.opW [v] s t ∧ Plain s t

/-- The registers after a pop of n bytes, the destination not yet written. -/
def popGpr (s : State) (n : Nat) : Gpr := spGpr s (BitVec.ofNat 32 (s.above n))

/-- The bits of PS that POPF and IRET write: the arithmetic flags, TF and DF always; IF in real mode or with CPL ≤ IOPL; IOPL and
NT in protected mode (IOPL at CPL 0) and on the 80386 in real mode (R491, R553). -/
def psWrites (s : State) (k : Nat) : Bool :=
  match k with
  | 0 | 2 | 4 | 6 | 7 | 8 | 10 | 11 => true
  | 9 => !s.protectedMode || decide (s.cpl ≤ s.iopl)
  | 12 | 13 => if s.protectedMode then s.cpl == 0 else s.cfg.model.has386
  | 14 => s.protectedMode || s.cfg.model.has386
  | _ => false

/-- PS after POPF: the bits it may write from the value, the others as before (R53). -/
def PsFrom (s t : State) (writes : Nat → Bool) (v : Word) : Prop :=
  ∀ k, k < 32 → bit t.getPS k = if writes k then bit v k else bit s.getPS k

/-- The values PUSHA pushes, in order (R325). -/
def pushaValues (s : State) : List Word := [s.gpr.ax, s.gpr.cx, s.gpr.dx, s.gpr.bx, s.gpr.sp, s.gpr.bp, s.gpr.si, s.gpr.di]

/-- The registers POPA restores, the highest on the stack first; SP's value is discarded (R326). -/
def popaGpr (s : State) (w : Width) : Gpr :=
  let v (i : Nat) := s.stackValue w (i * w.bytes)
  let put (g : Gpr) (r : Reg) (x : Word) : Gpr := g.set r (merge w (g.get r) x)
  let g := popGpr s (8 * w.bytes)
  put (put (put (put (put (put (put g .ax (v 7)) .cx (v 6)) .dx (v 5)) .bx (v 4)) .bp (v 2)) .si (v 1)) .di (v 0)

/-- The number of pushes of ENTER at a level (R347). -/
def enterPushes (level : Nat) : Nat := if level = 0 then 1 else level + 1

/-- The offset of the k-th frame pointer ENTER copies: k operands below rBP. -/
def frameOffset (s : State) (w : Width) (k : Nat) : Nat :=
  (trunc s.stack.w (s.reg s.stack.w .bp - BitVec.ofNat 32 (k * w.bytes))).toNat

/-- The I/O permission bits allow n ports from p on (R616), while linear addresses are physical ones. -/
def bitmapClear (s : State) (p : Half) (n : Nat) : Prop :=
  let map := (s.busRead (addrs (s.tr.base + 0x66).toNat 2)).toNat
  ∀ i, i < n → map + (p.toNat + i) / 8 ≤ s.tr.limit.toNat ∧
    bit (s.busRead (addrs (s.tr.base + BitVec.ofNat 32 (map + (p.toNat + i) / 8)).toNat 1)) ((p.toNat + i) % 8) = false

/-- The ports may be used: real mode, CPL ≤ IOPL, or a 386 TSS whose bitmap allows them (R107). -/
def ioAllowed (s : State) (p : Half) (n : Nat) : Prop :=
  s.protectedMode = false ∨ s.cpl ≤ s.iopl ∨
    (s.cfg.model.has386 = true ∧ s.tr.kind = .tss386 ∧ s.pagingOn = false ∧ bitmapClear s p n)

/-- Everything outside the general registers, memory and the record of port accesses is as before. -/
def OnlyPorts (s t : State) : Prop :=
  SameFlags s t ∧ t.pc = s.pc ∧ SameSystem s t ∧ SameSegments s t ∧ t.intFlags = s.intFlags ∧
  t.opFlags.noIntr = s.opFlags.noIntr ∧ t.noTrap = s.noTrap ∧ SameDevices s t

/-- A value came from the port space: the access is on record, and it is the first listed answer, if one is listed (R106). -/
def PortRead (p : Half) (w : Width) (v : Word) (s t : State) : Prop :=
  t.portLog = .read p w.bytes v :: s.portLog ∧ ∀ x r, s.portAnswers = x :: r → v = trunc w x ∧ t.portAnswers = r

/-- One form of IN completes where the ports may be used, and raises GP(0) where CPL > IOPL and no 386 TSS is there to ask. -/
def InForm (s : State) (w : Width) (p : Half) (l : Loc) (i : Instr) : Prop :=
  (ioAllowed s p w.bytes → Next (exec i s) fun t =>
    t.gpr = s.gprWith w l (t.valueAt w l) ∧ PortRead p w (t.valueAt w l) s t ∧ SameMemory s t ∧ OnlyPorts s t) ∧
  (s.pagingOn = false → ¬ ioAllowed s p w.bytes → Traps s (.gp 0) i)

/-- One form of OUT completes where the ports may be used. -/
def OutForm (s : State) (w : Width) (p : Half) (v : Word) (i : Instr) : Prop :=
  (ioAllowed s p w.bytes → Next (exec i s) fun t =>
    Untouched s t ∧ t.portLog = .write p w.bytes v :: s.portLog ∧ OnlyPorts s t) ∧
  (s.pagingOn = false → ¬ ioAllowed s p w.bytes → Traps s (.gp 0) i)

end Sys2Proof.Machine

/-- Every form of PUSH and PUSHF completes; PUSH SP pushes the decremented pointer on the 8086 class and the old one from the
80286 on, and an image of PS has VM and RF clear (R320 to R322, R552). -/
def Obligations.PushFormsComplete : Prop :=
  ∀ (s : State) (r : Reg) (m : MemOp) (iv : Word) (ib : Byte), s.mem.wf = true →
    (∀ i ∈ [Instr.pushR r, .pushEv (.reg r)],
      PushForm s True (if r = .sp ∧ s.cfg.model.class8086 then s.reg s.opW .sp - 2 else s.reg s.opW r) i) ∧
    PushForm s (s.canRead s.opW (s.memLoc m)) (s.valueAt s.opW (s.memLoc m)) (.pushEv (.mem m)) ∧
    PushForm s True iv (.pushIv iv) ∧ PushForm s True (ib.signExtend 32) (.pushIbs ib) ∧
    (∀ p ∈ [(SReg.es, Instr.pushES), (.cs, .pushCS), (.ss, .pushSS), (.ds, .pushDS), (.fs, .pushFS), (.gs, .pushGS)],
      PushForm s True ((s.seg p.1).sel.setWidth 32) p.2) ∧
    PushForm s True (s.getPS &&& 0xFFFCFFFF) .pushf

/-- Every form of POP into a register or memory completes; POP SP ends with the popped value, and a memory destination is
addressed with the pointer already incremented (R323). POP of a segment register completes, or raises what the load raises
with the stack pointer unchanged; POP CS exists on the 8086 and 8088 (R324).
Model's choices it rests on: log 24, 35, 39. -/
def Obligations.PopFormsComplete : Prop :=
  (∀ (s : State) (r : Reg) (m : MemOp), s.mem.wf = true → s.canPop s.opW 1 →
     let v := s.stackValue s.opW 0
     let u : State := { s with gpr := popGpr s s.opW.bytes }
     (∀ i ∈ [Instr.popR r, .popEv (.reg r)], Next (exec i s) fun t =>
       t.gpr = (u.setReg s.opW r v).gpr ∧ SameMemory s t ∧ Plain s t) ∧
     (s.canWrite s.opW (u.memLoc m) → Next (exec (.popEv (.mem m)) s) fun t =>
       t.gpr = u.gpr ∧ t.valueAt s.opW (u.memLoc m) = v ∧ SameMemoryBut s t (s.storedAt s.opW (u.memLoc m)) ∧ Plain s t)) ∧
  (∀ (s : State), s.mem.wf = true → s.pagingOn = false → s.canPop s.opW 1 →
     (∀ p ∈ [(SReg.es, Instr.popES), (.ss, .popSS), (.ds, .popDS), (.fs, .popFS), (.gs, .popGS)],
       SegLoadForm s p.1 ((s.stackValue s.opW 0).setWidth 16) true (popGpr s s.opW.bytes) p.2) ∧
     (s.cfg.model.has186 = false → Next (exec .popCS s) fun t =>
       t.cs = { s.cs with sel := (s.stackValue .w16 0).setWidth 16, base := s.stackValue .w16 0 <<< 4, addrDesc := none } ∧
       t.cpl = 0 ∧ t.gpr = popGpr s 2 ∧ SameMemory s t ∧ (∀ q, q ≠ .cs → t.seg q = s.seg q) ∧ SameSystem s t ∧
       SameFlags s t ∧ t.pc = s.pc))

/-- PUSHA pushes eight registers with the old stack pointer among them, POPA restores seven of them and discards SP's value
(R325, R326). ENTER completes at every level: BP is pushed, then level − 1 copied frame pointers and the new frame pointer; the
copying lowers rBP at the stack's width before the frame pointer replaces it at the operand size; LEAVE undoes it (R347,
R348).
Model's choices it rests on: log 11, 32. -/
def Obligations.StackFramesComplete : Prop :=
  (∀ (s : State), s.mem.wf = true →
     (s.canPush s.opW 8 → Next (exec .pusha s) fun t => Pushed s.opW (pushaValues s) s t ∧ Plain s t) ∧
     (s.canPop s.opW 8 → Next (exec .popa s) fun t => t.gpr = popaGpr s s.opW ∧ SameMemory s t ∧ Plain s t)) ∧
  (∀ (s : State) (iw : Half) (ib : Byte), s.mem.wf = true →
     let w := s.opW
     let level := ib.toNat % 32
     let n := enterPushes level
     let frame := BitVec.ofNat 32 (s.below w.bytes)
     (s.canPush w n → (∀ k, 0 < k → k < level → s.grants .ss (frameOffset s w k) w.bytes .read) →
       Next (exec (.enterIwIb iw ib) s) fun t =>
         t.gpr = State.gpr (State.setReg s.stack.w .sp (BitVec.ofNat 32 (s.below (n * w.bytes)) - iw.setWidth 32)
           (State.setReg w .bp frame (s.setReg s.stack.w .bp (BitVec.ofNat 32 (frameOffset s w (level - 1)))))) ∧
         t.busRead (s.spread .ss (s.below w.bytes) w.bytes) = s.reg w .bp ∧
         (0 < level → t.busRead (s.spread .ss (s.below (n * w.bytes)) w.bytes) = trunc w frame) ∧
         (∀ k, 0 < k → k < level →
           (∀ a, s.among (s.spread .ss (frameOffset s w k) w.bytes) a → ¬ s.pushedBytes w n a) →
           t.busRead (s.spread .ss (s.below ((k + 1) * w.bytes)) w.bytes) =
             s.busRead (s.spread .ss (frameOffset s w k) w.bytes)) ∧
         SameMemoryBut s t (s.pushedBytes w n) ∧ Plain s t) ∧
     (s.grants .ss (frameOffset s w 0) w.bytes .read → Next (exec .leave s) fun t =>
       t.gpr = State.gpr (State.setReg w .bp (s.busRead (s.spread .ss (frameOffset s w 0) w.bytes))
         (s.setReg s.stack.w .sp (s.reg s.stack.w .bp + BitVec.ofNat 32 w.bytes))) ∧
       SameMemory s t ∧ Plain s t))

/-- POPF pops PS with the bits the mode and the privilege allow (R553). -/
def Obligations.PopfCompletes : Prop :=
  ∀ (s : State), s.canPop s.opW 1 →
    Next (exec .popf s) fun t =>
      PsFrom s t (psWrites s) (s.stackValue s.opW 0) ∧ t.gpr = popGpr s s.opW.bytes ∧ SameMemory s t ∧ t.pc = s.pc ∧
      SameWorld s t

/-- IN and OUT complete in every form where the privilege check passes, with one access to the port space, and raise GP(0) where
it does not (R106, R107, R345, R346).
Model's choices it rests on: log 4, 21. -/
def Obligations.PortAccessesComplete : Prop :=
  ∀ (s : State) (ib : Byte),
    let dx : Half := (s.gpr.get .dx).setWidth 16
    let p : Half := ib.setWidth 16
    InForm s .w8 p (.byteReg .al) (.inALIb ib) ∧ InForm s s.opW p (.reg .ax) (.inEAXIb ib) ∧
    InForm s .w8 dx (.byteReg .al) .inALDX ∧ InForm s s.opW dx (.reg .ax) .inEAXDX ∧
    OutForm s .w8 p (s.reg8 .al) (.outIbAL ib) ∧ OutForm s s.opW p (s.reg s.opW .ax) (.outIbEAX ib) ∧
    OutForm s .w8 dx (s.reg8 .al) .outDXAL ∧ OutForm s s.opW dx (s.reg s.opW .ax) .outDXEAX

/-! ### String instructions (44_string.md) -/

namespace Sys2Proof.Machine

/-- The seven string operations. -/
inductive StrOp where
  | movs | cmps | scas | lods | stos | ins | outs
  deriving DecidableEq, Repr

/-- The source element at seg:rSI, DS unless overridden (R522). -/
def strSrc (s : State) : Loc := .mem (s.opPrefixes.seg.getD .ds) (s.reg s.adW .si).toNat

/-- The destination element at ES:rDI, never overridden (R522). -/
def strDst (s : State) : Loc := .mem .es (s.reg s.adW .di).toNat

/-- The port of INS and OUTS. -/
def strPort (s : State) : Half := (s.gpr.get .dx).setWidth 16

/-- The element can be performed. -/
def StrOp.accessible (op : StrOp) (w : Width) (s : State) : Prop :=
  match op with
  | .movs => s.canRead w (strSrc s) ∧ s.canWrite w (strDst s)
  | .cmps => s.canRead w (strSrc s) ∧ s.canRead w (strDst s)
  | .scas => s.canRead w (strDst s)
  | .lods => s.canRead w (strSrc s)
  | .stos => s.canWrite w (strDst s)
  | .ins => ioAllowed s (strPort s) w.bytes ∧ s.canWrite w (strDst s)
  | .outs => ioAllowed s (strPort s) w.bytes ∧ s.canRead w (strSrc s)

/-- An index register moved by n bytes, down when DF is set, modulo the address size (R521). -/
def moved (s : State) (r : Reg) (n : Nat) : Word :=
  let v := (s.reg s.adW r).toNat
  BitVec.ofNat 32 ((if s.direct psDF then v + (2 ^ s.adW.bits - n) else v + n) % 2 ^ s.adW.bits)

/-- The registers after one element: the index registers the operation uses, and the accumulator of LODS. -/
def StrOp.gpr (op : StrOp) (w : Width) (s : State) : Gpr :=
  let si (u : State) := u.setReg s.adW .si (moved s .si w.bytes)
  let di (u : State) := u.setReg s.adW .di (moved s .di w.bytes)
  match op with
  | .movs | .cmps => (di (si s)).gpr
  | .scas | .stos | .ins => (di s).gpr
  | .outs => (si s).gpr
  | .lods => (si (s.setReg w .ax (s.valueAt w (strSrc s)))).gpr

/-- The flags of the comparison d − x. -/
def Compared (w : Width) (d x : Word) (s t : State) : Prop :=
  FlagsBy w (trunc w (d - x)) x d (trunc w (d - x)) t ∧ SameDirect s t

/-- What one element does to memory, the flags and the ports (R524 to R531). -/
def StrOp.effect (op : StrOp) (w : Width) (s t : State) : Prop :=
  match op with
  | .movs => t.valueAt w (strDst s) = s.valueAt w (strSrc s) ∧ SameMemoryBut s t (s.storedAt w (strDst s)) ∧
      SameFlags s t ∧ t.portLog = s.portLog
  | .cmps => Compared w (s.valueAt w (strSrc s)) (s.valueAt w (strDst s)) s t ∧ SameMemory s t ∧ t.portLog = s.portLog
  | .scas => Compared w (s.reg w .ax) (s.valueAt w (strDst s)) s t ∧ SameMemory s t ∧ t.portLog = s.portLog
  | .lods => SameFlags s t ∧ SameMemory s t ∧ t.portLog = s.portLog
  | .stos => t.valueAt w (strDst s) = s.reg w .ax ∧ SameMemoryBut s t (s.storedAt w (strDst s)) ∧ SameFlags s t ∧
      t.portLog = s.portLog
  | .ins => PortRead (strPort s) w (t.valueAt w (strDst s)) s t ∧ SameMemoryBut s t (s.storedAt w (strDst s)) ∧ SameFlags s t
  | .outs => t.portLog = .write (strPort s) w.bytes (s.valueAt w (strSrc s)) :: s.portLog ∧ SameMemory s t ∧ SameFlags s t

/-- The operations whose repetition looks at ZF. -/
def StrOp.compares : StrOp → Bool
  | .cmps | .scas => true
  | .movs | .lods | .stos | .ins | .outs => false

/-- A repeat prefix is present. -/
def repeated (s : State) : Bool := s.opPrefixes.repz || s.opPrefixes.repnz

/-- The repetition goes on after this element: the count is not used up, and ZF of t agrees where it is asked (R523). -/
def goesOn (op : StrOp) (s t : State) : Prop :=
  repeated s = true ∧ s.reg s.adW .cx ≠ 1 ∧ (op.compares = true → t.flag .zf = s.opPrefixes.repz)

/-- System, segments and the bookkeeping of interrupts are as before. -/
def SameCore (s t : State) : Prop :=
  SameSystem s t ∧ SameSegments s t ∧ t.intFlags = s.intFlags ∧ t.opFlags.noIntr = s.opFlags.noIntr ∧ t.noTrap = s.noTrap ∧
  SameDevices s t

/-- One step of a string instruction: nothing when a repetition finds its count 0, else one element; a repetition counts down and
returns to its first prefix byte while it goes on. -/
def StringForm (s : State) (p : StrOp × Width × Instr) : Prop :=
  (repeated s = true → s.reg s.adW .cx = 0 → exec p.2.2 s = .next s) ∧
  (¬ (repeated s = true ∧ s.reg s.adW .cx = 0) → p.1.accessible p.2.1 s →
    Next (exec p.2.2 s) fun t =>
      t.gpr = (if repeated s
        then State.gpr (State.setReg s.adW .cx (s.reg s.adW .cx - 1) { s with gpr := p.1.gpr p.2.1 s })
        else p.1.gpr p.2.1 s) ∧
      p.1.effect p.2.1 s t ∧
      (goesOn p.1 s t → t.pc = s.opLIP - s.cs.base) ∧ (¬ goesOn p.1 s t → t.pc = s.pc) ∧ SameCore s t)

end Sys2Proof.Machine

/-- One step of MOVS, STOS and LODS, with and without a repeat prefix (R520 to R524, R527, R528). One step of CMPS and SCAS:
all six flags as CMP sets them, the repetition goes on while ZF agrees with its prefix (R523, R525, R526). One step of INS and
OUTS, each with one port access (R530, R531).
Model's choices it rests on: log 4, 21. -/
def Obligations.StringInstructionsComplete : Prop :=
  (∀ (s : State), s.mem.wf = true →
     ∀ p ∈ [(StrOp.movs, Width.w8, Instr.movsb), (.movs, s.opW, .movsv), (.stos, .w8, .stosb), (.stos, s.opW, .stosv),
       (.lods, .w8, .lodsb), (.lods, s.opW, .lodsv)], StringForm s p) ∧
  (∀ (s : State),
     ∀ p ∈ [(StrOp.cmps, Width.w8, Instr.cmpsb), (.cmps, s.opW, .cmpsv), (.scas, .w8, .scasb), (.scas, s.opW, .scasv)],
       StringForm s p) ∧
  (∀ (s : State), s.mem.wf = true →
     ∀ p ∈ [(StrOp.ins, Width.w8, Instr.insb), (.ins, s.opW, .insv), (.outs, .w8, .outsb), (.outs, s.opW, .outsv)],
       StringForm s p)

/-- INS and OUTS raise their exception before any port access: GP(0) where the port may not be used, what the segment check raises
for a destination of INS that may not be written, and for a source of OUTS that may not be read (R107, R175, R530, R531, D56).
Model's choices it rests on: log 4, 21. -/
def Obligations.StringPortsTrap : Prop :=
  ∀ (s : State), s.pagingOn = false → ¬ (repeated s = true ∧ s.reg s.adW .cx = 0) →
    (∀ p ∈ [(Width.w8, Instr.insb), (s.opW, .insv), (.w8, .outsb), (s.opW, .outsv)],
      ¬ ioAllowed s (strPort s) p.1.bytes → Traps s (.gp 0) p.2) ∧
    (∀ p ∈ [(Width.w8, Instr.insb), (s.opW, .insv)],
      ioAllowed s (strPort s) p.1.bytes → s.admits .es (s.reg s.adW .di).toNat p.1.bytes .write = false →
        Traps s (.gp 0) p.2) ∧
    (∀ p ∈ [(Width.w8, Instr.outsb), (s.opW, .outsv)],
      let q := s.opPrefixes.seg.getD .ds
      ioAllowed s (strPort s) p.1.bytes → s.admits q (s.reg s.adW .si).toNat p.1.bytes .read = false →
        Traps s (refusedBy q) p.2)

/-! ### Near transfers and BOUND (43_control_flow.md sections 2 and 5) -/

namespace Sys2Proof.Machine

/-- An offset as the instruction pointer in the code segment of t holds it: 16 bits unless the segment is a 32-bit one (R41, D8). -/
def pcOf (t : State) (v : Word) : Word :=
  if t.cfg.model.has386 = true ∧ t.cs.ext.getLsbD 6 = true then v else BitVec.ofNat 32 (v.toNat % 65536)

/-- The target of a relative transfer: the return address plus the displacement, modulo the operand size (R450, R452). -/
def nearTarget (s : State) (d : Int) : Word := pcOf s (BitVec.ofInt 32 (((s.pc.toNat : Int) + d) % 2 ^ s.opW.bits))

/-- A relative transfer changes the instruction pointer, or goes on, and nothing else. -/
def JumpForm (s : State) (taken : Bool) (d : Int) (i : Instr) : Prop :=
  exec i s = .next (if taken then s.setPc (nearTarget s d) else s)

/-- LOOP counts down CX or ECX and branches (R456). -/
def LoopForm (s : State) (branch : Bool) (jb : Byte) (i : Instr) : Prop :=
  Next (exec i s) fun t =>
    t.gpr = (s.setReg s.adW .cx (s.reg s.adW .cx - 1)).gpr ∧
    t.pc = (if s.reg s.adW .cx ≠ 1 ∧ branch = true then nearTarget s jb.toInt else s.pc) ∧
    SameMemory s t ∧ SameFlags s t ∧ SameWorld s t

end Sys2Proof.Machine

/-- JMP, Jcc and JCXZ to a relative target complete, and the bytes of JMP and JCXZ (R452, R454, R455). LOOP, LOOPZ and LOOPNZ
complete: the count goes down by one, the branch is taken while it is not 0 and ZF agrees, and their bytes (R456).
Model's choices it rests on: log 10. -/
def Obligations.JumpsAndLoopsComplete : Prop :=
  (∀ (s : State) (cc : Cond) (jb : Byte) (jv : Word),
     JumpForm s true jb.toInt (.jmpJb jb) ∧ JumpForm s true (signed s.opW jv) (.jmpJv jv) ∧
     JumpForm s (s.cond cc) jb.toInt (.jccJb cc jb) ∧ JumpForm s (s.cond cc) (signed s.opW jv) (.jccJv cc jv) ∧
     JumpForm s (decide (s.reg s.adW .cx = 0)) jb.toInt (.jcxzJb jb) ∧
     ∀ (c : DecCtx) (b0 b1 b2 b3 : Byte),
       decode c [0xEB, jb] = some (.jmpJb jb, []) ∧ decode c [0xE3, jb] = some (.jcxzJb jb, []) ∧
       (c.op32 = false → decode c [0xE9, b0, b1] = some (.jmpJv ((b1 ++ b0).setWidth 32), [])) ∧
       (c.op32 = true → decode c [0xE9, b0, b1, b2, b3] = some (.jmpJv (b3 ++ b2 ++ b1 ++ b0), []))) ∧
  (∀ (s : State) (jb : Byte),
     LoopForm s true jb (.loopJb jb) ∧ LoopForm s (s.flag .zf) jb (.loopzJb jb) ∧ LoopForm s (!s.flag .zf) jb (.loopnzJb jb) ∧
     ∀ c : DecCtx, decode c [0xE2, jb] = some (.loopJb jb, []) ∧ decode c [0xE1, jb] = some (.loopzJb jb, []) ∧
       decode c [0xE0, jb] = some (.loopnzJb jb, []))

/-- JMP, CALL and RET near complete: CALL pushes the return address and RET pops it (R453, R457 to R459).
Model's choices it rests on: log 10, 11. -/
def Obligations.NearCallsComplete : Prop :=
  ∀ (s : State) (e : RM) (jv : Word) (iw : Half), s.mem.wf = true →
    (s.canRead s.opW (s.rmLoc e) → Next (exec (.jmpEv e) s) fun t =>
      t.pc = pcOf s (s.valueAt s.opW (s.rmLoc e)) ∧ Untouched s t ∧ SameFlags s t ∧ SameWorld s t) ∧
    (s.canPush s.opW 1 → Next (exec (.callJv jv) s) fun t =>
      t.pc = nearTarget s (signed s.opW jv) ∧ Pushed s.opW [s.pc] s t ∧ SameFlags s t ∧ SameWorld s t) ∧
    (s.canPush s.opW 1 → s.canRead s.opW (s.rmLoc e) → Next (exec (.callEv e) s) fun t =>
      t.pc = pcOf s (s.valueAt s.opW (s.rmLoc e)) ∧ Pushed s.opW [s.pc] s t ∧ SameFlags s t ∧ SameWorld s t) ∧
    (s.canPop s.opW 1 → ∀ p ∈ [((0 : Half), Instr.ret), (iw, .retIw iw)], Next (exec p.2 s) fun t =>
      t.pc = pcOf s (s.stackValue s.opW 0) ∧ t.gpr = popGpr s (s.opW.bytes + p.1.toNat) ∧ SameMemory s t ∧ SameFlags s t ∧
      SameWorld s t)

/-- BOUND completes when the index lies between the two bounds, as signed numbers, and raises BOUND_ERR when it does not
(R500).
Model's choices it rests on: log 12. -/
def Obligations.BoundCompletesOrTraps : Prop :=
  ∀ (s : State) (g : Reg) (m : MemOp),
    let w := s.opW
    let q := (s.resolve m).1
    let off := (s.resolve m).2
    let lo := signed w (s.busRead (s.spread q off w.bytes))
    let hi := signed w (s.busRead (s.spread q (off + w.bytes) w.bytes))
    let i := signed w (s.reg w g)
    s.grants q off w.bytes .read → s.grants q (off + w.bytes) w.bytes .read →
      (lo ≤ i → i ≤ hi → Next (exec (.boundGvMa g m) s) fun t => Untouched s t ∧ Plain s t) ∧
      (i < lo ∨ hi < i → Traps s .br (.boundGvMa g m))

/-! ### Far transfers, interrupts and exceptions in real mode (43_control_flow.md R464, 60_exceptions.md R670) -/

namespace Sys2Proof.Machine

/-- CS after a real-mode load: selector and base, the rest of the record kept, CPL 0; no other segment register changes (R141). -/
def RealCs (sel : Half) (s t : State) : Prop :=
  t.cs = { s.cs with sel := sel, base := BitVec.ofNat 32 (sel.toNat * 16), addrDesc := none } ∧ t.cpl = 0 ∧
  ∀ q, q ≠ .cs → t.seg q = s.seg q

/-- The control, table and task registers and the halt state are as before. -/
def SameOutside (s t : State) : Prop :=
  SameSystem s t ∧ t.intFlags = s.intFlags ∧ t.portLog = s.portLog ∧ SameDevices s t

/-- One form of far JMP or CALL completes in real mode. -/
def FarRealForm (s : State) (src : Prop) (off : Word) (sel : Half) (p : Bool × Instr) : Prop :=
  src → (p.1 = true → s.canPush s.opW 2) →
    Next (exec p.2 s) fun t =>
      t.pc = pcOf s off ∧ RealCs sel s t ∧
      (if p.1 then Pushed s.opW [s.cs.sel.setWidth 32, s.pc] s t else Untouched s t) ∧ SameFlags s t ∧ SameOutside s t

/-- The entry of the real-mode vector table: four bytes an entry, at 0 on the 8086 class (R670). -/
def vectorAt (s : State) (n : Byte) : Word :=
  (if s.cfg.model.class8086 then 0 else s.idtr.base) + BitVec.ofNat 32 (n.toNat * 4)

/-- The entry lies within IDTR's limit; the 8086 class has no limit. -/
def vectorInLimit (s : State) (n : Byte) : Prop := s.cfg.model.class8086 = true ∨ n.toNat * 4 + 3 ≤ s.idtr.limit.toNat

/-- The offset and the segment of a vector. -/
def vectorOffset (s : State) (n : Byte) : Word := s.busRead (addrs (vectorAt s n).toNat 2)
def vectorSegment (s : State) (n : Byte) : Half := (s.busRead (addrs (vectorAt s n + 2).toNat 2)).setWidth 16

/-- PS bits of a mask are clear, every other bit and every cached flag is as before. -/
def PsCleared (mask : Word) (s t : State) : Prop :=
  (∀ f, t.flag f = s.flag f) ∧ t.flags.ps &&& ~~~psCached = s.flags.ps &&& ~~~(psCached ||| mask)

/-- An interrupt was delivered in real mode: PS, CS and the return pointer are on the stack, IF and TF are clear, and the handler
of the vector runs next (R670). -/
def DeliveredReal (n : Byte) (ret : Word) (s t : State) : Prop :=
  Pushed .w16 [s.getPS, s.cs.sel.setWidth 32, ret] s t ∧ PsCleared (psIF ||| psTF) s t ∧
  RealCs (vectorSegment s n) s t ∧ t.pc = vectorOffset s n ∧ SameOutside s t

/-- Real mode with linear addresses physical, a vector within the table and room for the frame. -/
def readyReal (s : State) (n : Byte) : Prop :=
  s.protectedMode = false ∧ s.pagingOn = false ∧ vectorInLimit s n ∧ s.canPush .w16 3

/-- The state in which a fault is delivered: the instruction is abandoned, its vector is in flight and the instruction pointer is
back at its first prefix byte (R660, R661). -/
def faulted (v : Byte) (s : State) : State :=
  { s with opFlags := ⟨false, false, false⟩, opPrefixes := .none, nFault := some v, pc := s.opLIP - s.cs.base, noTrap := true }

/-- The bits of PS that IRET writes: those of POPF, and RF with 32-bit operands (R491). -/
def iretWrites (s : State) (k : Nat) : Bool := psWrites s k || (k == 16 && s.op32)

/-- No fault is in flight afterwards; the other control, table and task registers are as before. -/
def SameButFault (s t : State) : Prop := SameOutside { s with nFault := none } t

end Sys2Proof.Machine

/-- Far JMP and far CALL complete in real mode, from an immediate and from a pointer in memory (R460 to R464). Far RET
completes in real mode: offset and selector are popped, then Iw more bytes (R463, R464).
Model's choices it rests on: log 10, 12. -/
def Obligations.FarTransfersCompleteInRealMode : Prop :=
  (∀ (s : State) (off : Word) (sel : Half) (m : MemOp), s.mem.wf = true → s.protectedMode = false →
     (∀ p ∈ [(false, Instr.jmpFarAp off sel), (true, .callFarAp off sel)], FarRealForm s True off sel p) ∧
     (∀ p ∈ [(false, Instr.jmpFarMp m), (true, .callFarMp m)],
       FarRealForm s (s.canReadFar m) (s.farOffset m) (s.farSelector m) p)) ∧
  (∀ (s : State) (iw : Half), s.protectedMode = false → s.canPop s.opW 2 →
     ∀ p ∈ [((0 : Half), Instr.retf), (iw, .retfIw iw)], Next (exec p.2 s) fun t =>
       t.pc = pcOf s (s.stackValue s.opW 0) ∧ RealCs ((s.stackValue s.opW s.opW.bytes).setWidth 16) s t ∧
       t.gpr = popGpr s (2 * s.opW.bytes + p.1.toNat) ∧ SameMemory s t ∧ SameFlags s t ∧ SameOutside s t)

/-- INT n, INT3 and INTO deliver their vectors in real mode with the return address; INTO without overflow does nothing; a vector
beyond IDTR's limit raises GP (R480 to R482, R670). -/
def Obligations.SoftwareInterruptsCompleteInRealMode : Prop :=
  ∀ (s : State) (ib : Byte), s.mem.wf = true →
    (∀ p ∈ [(ib, Instr.intIb ib), (3, .int3)], readyReal s p.1 → Next (exec p.2 s) (DeliveredReal p.1 s.pc s)) ∧
    (readyReal s 4 → s.flag .of = true → Next (exec .into s) (DeliveredReal 4 s.pc s)) ∧
    (s.flag .of = false → exec .into s = .next s) ∧
    (s.protectedMode = false → ¬ vectorInLimit s ib → Traps s (.gp 0) (.intIb ib))

/-- IRET completes in real mode: the instruction pointer, CS and PS are popped, and no fault is in flight any more
(R490, R491, R664); of the CS slot two bytes are read.
Model's choices it rests on: log 10, 11, 30. -/
def Obligations.InterruptReturnCompletesInRealMode : Prop :=
  ∀ (s : State), s.protectedMode = false → s.grants .ss (s.above 0) s.opW.bytes .read →
    s.grants .ss (s.above s.opW.bytes) 2 .read → s.grants .ss (s.above (2 * s.opW.bytes)) s.opW.bytes .read →
    Next (exec .iret s) fun t =>
      t.pc = pcOf s (s.stackValue s.opW 0) ∧ RealCs ((s.stackValue .w16 s.opW.bytes).setWidth 16) s t ∧
      PsFrom s t (iretWrites s) (s.stackValue s.opW (2 * s.opW.bytes)) ∧
      t.gpr = popGpr s (3 * s.opW.bytes) ∧ SameMemory s t ∧ SameButFault s t

/-- Taking a fault in real mode: with none in flight (or on the 8086 class) the vector is delivered with the address of the
instruction's first prefix byte, no error code is pushed, and the vector is in flight (R660, R661, R665, R666).
Model's choices it rests on: log 50. -/
def Obligations.FaultEntryInRealMode : Prop :=
  ∀ (s : State) (x : Exn), s.mem.wf = true → readyReal s x.vector → (s.nFault = none ∨ s.cfg.model.class8086 = true) →
    Next (raiseExn x s) (DeliveredReal x.vector (s.opLIP - s.cs.base) (faulted x.vector s))

/-- A near CALL followed by a near RET returns to the address after the CALL with the stack pointer as it was (R505). Leaving
a far CALL by a far RET restores CS's selector and base, the instruction pointer and the stack pointer in real mode (R505).
Model's choices it rests on: log 11. -/
def Obligations.CallsReturn : Prop :=
  (∀ (s t : State) (jv : Word), s.mem.wf = true → s.canPush s.opW 1 → s.pc = trunc s.opW s.pc → s.pc = pcOf s s.pc →
     exec (.callJv jv) s = .next t → t.canPop t.opW 1 →
       Next (exec .ret t) fun u => u.pc = s.pc ∧ u.gpr = s.gpr ∧ SameMemory t u) ∧
  (∀ (s t : State) (off : Word) (sel : Half), s.mem.wf = true → s.protectedMode = false → s.pc = trunc s.opW s.pc → s.pc = pcOf s s.pc →
     s.cs.base = BitVec.ofNat 32 (s.cs.sel.toNat * 16) → s.cs.addrDesc = none → s.cpl = 0 → s.canPush s.opW 2 →
     exec (.callFarAp off sel) s = .next t → t.canPop t.opW 2 →
       Next (exec .retf t) fun u => u.pc = s.pc ∧ u.cs = s.cs ∧ u.cpl = s.cpl ∧ u.gpr = s.gpr ∧ SameMemory t u)

/-! ### Far transfers, gates and returns in protected mode (21_segmentation.md section 3, 43_control_flow.md, 60_exceptions.md),
while linear addresses are physical ones -/

namespace Sys2Proof.Machine

/-- The stores of pushing values on a state's stack, the first first (R318). -/
def pushStores (s : State) (w : Width) : Nat → List Word → List (List Nat × Word)
  | _, [] => []
  | i, v :: r => (s.spread .ss (s.below ((i + 1) * w.bytes)) w.bytes, v) :: pushStores s w (i + 1) r

/-- The store of a descriptor's accessed bit, made if the bit is clear (R160). -/
def markStores (d : Desc) : List (List Nat × Word) :=
  if d.w2.getLsbD 8 then [] else [(addrs (d.addr + 4).toNat 2, (d.w2 ||| 0x0100).setWidth 32)]

/-- Protected mode with linear addresses physical. -/
def readyProt (s : State) : Prop := s.protectedMode = true ∧ s.pagingOn = false

/-- The tests that every code selector meets first, with the EXT bit of their codes. -/
def codeTest (s : State) (ext sel : Half) (rest : Desc → Except Exn (BitVec 2)) : Except Exn (BitVec 2) :=
  if decide (sel.toNat < 4) then .error (.gp 0)
  else if !s.inTable sel then .error (.gp (selCode sel ||| ext))
  else if !((s.named sel).isSegment && (s.named sel).isCode) then .error (.gp (selCode sel ||| ext))
  else rest (s.named sel)

/-- The CS rule of a direct far JMP or CALL: the new CPL (R152). -/
def codeDirect (s : State) (sel : Half) : Except Exn (BitVec 2) :=
  codeTest s 0 sel fun d =>
    if !d.present then .error (.np (selCode sel))
    else if d.conforming then if d.dpl ≤ s.cpl then .ok s.cpl else .error (.gp (selCode sel))
    else if d.dpl = s.cpl ∧ selRPL sel = s.cpl then .ok s.cpl else .error (.gp (selCode sel))

/-- The CS rule of a gate's target (R153). -/
def codeGate (s : State) (ext sel : Half) (isCall : Bool) : Except Exn (BitVec 2) :=
  codeTest s ext sel fun d =>
    if s.cpl < d.dpl then .error (.gp (selCode sel ||| ext))
    else if !d.present then .error (.np (selCode sel ||| ext))
    else if d.conforming || d.dpl == s.cpl then .ok s.cpl
    else if isCall then .ok d.dpl else .error (.gp (selCode sel ||| ext))

/-- The CS rule of far RET and IRET (R153). -/
def codeReturn (s : State) (sel : Half) : Except Exn (BitVec 2) :=
  codeTest s 0 sel fun d =>
    if selRPL sel < s.cpl then .error (.gp (selCode sel))
    else if d.conforming && decide (selRPL sel < d.dpl) then .error (.gp (selCode sel))
    else if !d.conforming && d.dpl != selRPL sel then .error (.gp (selCode sel))
    else if !d.present then .error (.np (selCode sel))
    else .ok (selRPL sel)

/-- The record a segment register holds after a successful load (R159). -/
def recordOf (d : Desc) (sel : Half) : SegReg := ⟨sel, d.base, d.limit, d.w2 ||| 0x0100, d.w3, d.dpl, some d.addr⟩

/-- CS holds a descriptor, with the new CPL in the selector's RPL bits (R152). -/
def NewCs (d : Desc) (sel : Half) (cpl : BitVec 2) (t : State) : Prop :=
  t.cs = recordOf d (selCode sel ||| cpl.setWidth 16) ∧ t.cpl = cpl

/-- DS, ES, FS and GS are as before. -/
def SameData (s t : State) : Prop := t.ds = s.ds ∧ t.es = s.es ∧ t.fs = s.fs ∧ t.gs = s.gs

/-- The stack the current TSS names for a level: where its fields are, and that they lie within TR's limit (R615). -/
def tssFieldOf (s : State) (lvl : BitVec 2) : Nat × Nat × Nat :=
  match s.tr.kind with
  | .tss286 => (2 + 4 * lvl.toNat, 4 + 4 * lvl.toNat, 2)
  | .tss386 => (4 + 8 * lvl.toNat, 8 + 8 * lvl.toNat, 4)

def tssHasStack (s : State) (lvl : BitVec 2) : Prop := (tssFieldOf s lvl).2.1 + 1 ≤ s.tr.limit.toNat

def tssSp (s : State) (lvl : BitVec 2) : Word :=
  s.busRead (addrs (s.tr.base + BitVec.ofNat 32 (tssFieldOf s lvl).1).toNat (tssFieldOf s lvl).2.2)

def tssSs (s : State) (lvl : BitVec 2) : Half :=
  (s.busRead (addrs (s.tr.base + BitVec.ofNat 32 (tssFieldOf s lvl).2.1).toNat 2)).setWidth 16

/-- A selector names a present writable data segment of a level (R154). -/
def stackFits (s : State) (lvl : BitVec 2) (sel : Half) : Prop :=
  4 ≤ sel.toNat ∧ s.inTable sel = true ∧ (s.named sel).isSegment = true ∧ (s.named sel).isCode = false ∧
  (s.named sel).rw = true ∧ (s.named sel).dpl = lvl ∧ selRPL sel = lvl ∧ (s.named sel).present = true

/-- The state after the switch to the stack of an inner level, before anything is pushed there; a 16-bit pointer from a TSS286 keeps
the upper half of ESP (D23). -/
def innerStack (s : State) (lvl : BitVec 2) : State :=
  let r := recordOf (s.named (tssSs s lvl)) (tssSs s lvl)
  let u : State := { s with ss := r, cpl := lvl }
  { u with gpr := (u.setReg (match s.tr.kind with | .tss286 => .w16 | .tss386 => u.stack.w) .sp (tssSp s lvl)).gpr }

/-- A stack switch to a level can be made. -/
def canSwitch (s : State) (lvl : BitVec 2) : Prop := tssHasStack s lvl ∧ stackFits s lvl (tssSs s lvl)

/-- Where unit i of a call gate's parameters stands, the first at the old stack top; the offset is not truncated (R12, R472). -/
def paramAt (s : State) (w : Width) (i : Nat) : Nat := s.stack.sp.toNat + i * w.bytes

/-- The units of a call gate's parameters. -/
def paramValues (s : State) (w : Width) (n : Nat) : List Word :=
  (List.range n).map fun i => s.busRead (s.spread .ss (paramAt s w i) w.bytes)

/-- What a transfer to a new code segment leaves: CS and CPL, the target, the frame on the stack of `u`, the marks of the
descriptors; DS to GS, the flags and all outside stay. -/
def Transferred (d : Desc) (sel : Half) (cpl : BitVec 2) (off : Word) (w : Width) (frame : List Word) (marks : List Desc)
    (u s t : State) : Prop :=
  NewCs d sel cpl t ∧ t.pc = pcOf t off ∧ t.ss = u.ss ∧ t.gpr = spGpr u (BitVec.ofNat 32 (u.below (frame.length * w.bytes))) ∧
  Stored (pushStores u w 0 frame ++ marks.flatMap markStores) s t ∧ SameData s t ∧ SameOutside s t

/-- The stack takes the frame. -/
def takes (u : State) (w : Width) (frame : List Word) : Prop := u.canPush w frame.length

/-- The target of a gate, 16 or 32 bits by its flavour (R148). -/
def gateTarget (g : Desc) (w : Width) : Word :=
  if w = .w32 then g.w3.setWidth 32 <<< 16 ||| g.w0.setWidth 32 else g.w0.setWidth 32

/-- What a far JMP or CALL in protected mode does to a selector that names a code segment, or none (R152, R462, R470). -/
def FarCodeForm (s : State) (src : Prop) (off : Word) (sel : Half) (p : Bool × Instr) : Prop :=
  src → (¬ (4 ≤ sel.toNat ∧ s.inTable sel = true ∧ (s.named sel).isSegment = false)) →
    match codeDirect s sel with
    | .error x => Traps s x p.2
    | .ok c =>
      let frame := if p.1 then [s.cs.sel.setWidth 32, s.pc] else []
      takes s s.opW frame → Next (exec p.2 s) fun t =>
        Transferred (s.named sel) sel c off s.opW frame [s.named sel] s s t ∧ SameFlags s t

/-- The frame pushed by a far CALL through a gate: to an inner level also the old stack pointer and the parameters (R471, R472). -/
def callFrame (s : State) (w : Width) (inner : Bool) (count : Nat) : List Word :=
  (if inner then [s.ss.sel.setWidth 32, s.stack.sp] ++ (paramValues s w count).reverse else []) ++
    [s.cs.sel.setWidth 32, s.pc]

/-- The DPL of the gate admits the caller and the gate is present (R181). -/
def gateVerdict (s : State) (sel : Half) (g : Desc) : Option Exn :=
  if g.dpl < s.cpl ∨ g.dpl < selRPL sel then some (.gp (selCode sel))
  else if g.present = false then some (.np (selCode sel))
  else none

/-- The stack switch fails: TR's limit is too small for the fields of the level, or the selector there names no stack for it; every
failure is a TS (R472). -/
def SwitchTraps (s : State) (c : BitVec 2) (ext : Half) (i : Instr) : Prop :=
  (¬ tssHasStack s c → Traps s (.ts (selCode s.tr.sel ||| ext)) i) ∧
  (tssHasStack s c → ¬ stackFits s c (tssSs s c) → Traps s (.ts (selCode (tssSs s c) ||| ext)) i)

/-- What a far JMP or CALL does to a selector that names a call gate of a width (R471, R472). -/
def CallGateForm (s : State) (src : Prop) (sel : Half) (w : Width) (p : Bool × Instr) : Prop :=
  src → 4 ≤ sel.toNat → s.inTable sel = true → (s.named sel).isSegment = false →
  ((w = .w16 ∧ (s.named sel).type = 4) ∨ (w = .w32 ∧ (s.named sel).type = 12 ∧ s.cfg.model.has386 = true)) →
    let g := s.named sel
    match gateVerdict s sel g with
    | some x => Traps s x p.2
    | none =>
      match codeGate s 0 g.w1 p.1 with
      | .error x => Traps s x p.2
      | .ok c =>
        let d := s.named g.w1
        let count := g.w2.toNat % 32
        (c = s.cpl → takes s w (if p.1 then callFrame s w false 0 else []) → Next (exec p.2 s) fun t =>
          Transferred d g.w1 c (gateTarget g w) w (if p.1 then callFrame s w false 0 else []) [d] s s t ∧ SameFlags s t) ∧
        (c < s.cpl → canSwitch s c → (∀ i, i < count → s.grants .ss (paramAt s w i) w.bytes .read) →
          takes (innerStack s c) w (callFrame s w true count) → Next (exec p.2 s) fun t =>
            Transferred d g.w1 c (gateTarget g w) w (callFrame s w true count) [s.named (tssSs s c), d] (innerStack s c) s t ∧
            SameFlags s t) ∧
        (c < s.cpl → canSwitch s c → (∃ i, i < count ∧ s.admits .ss (paramAt s w i) w.bytes .read = false) → Traps s (.ss 0) p.2) ∧
        (c < s.cpl → SwitchTraps s c 0 p.2)

/-- The outcome without what is left of the step's trap bookkeeping. -/
def settled : Host.Outcome State Fault Refusal → Host.Outcome State Fault Refusal
  | .next t => .next { t with noTrap := false }
  | .fault f => .fault f
  | .refused r => .refused r

/-- The outcome is that of a task switch from a state, `regEA` and the record of device reads apart (R620). -/
def SwitchesTask (s : State) (sel : Half) (k : SwitchKind) (ext : Half) (after : M Unit)
    (o : Host.Outcome State Fault Refusal) : Prop :=
  ∃ u, u = { s with regEA := u.regEA, busLog := u.busLog } ∧ SameDevices s u ∧
    o = finish (do taskSwitch sel k s.pc ext; after) u

/-- What a far JMP or CALL does to a selector that names a system descriptor other than a call gate: a task gate passes the gate's
check and switches to the TSS it names, an available TSS is switched to if its DPL admits the caller, a busy TSS and every other
type raise GP (R470). -/
def FarSystemForm (s : State) (src : Prop) (sel : Half) (p : Bool × Instr) : Prop :=
  src → 4 ≤ sel.toNat → s.inTable sel = true → (s.named sel).isSegment = false →
    let d := s.named sel
    let kind : SwitchKind := if p.1 then .call else .jmp
    let available : Prop := d.type = 1 ∨ (d.type = 9 ∧ s.cfg.model.has386 = true)
    let callGate : Prop := d.type = 4 ∨ (d.type = 12 ∧ s.cfg.model.has386 = true)
    (d.type = 5 → match gateVerdict s sel d with
      | some x => Traps s x p.2
      | none => SwitchesTask s d.w1 kind 0 (pure ()) (exec p.2 s)) ∧
    (available → d.dpl < s.cpl ∨ d.dpl < selRPL sel → Traps s (.gp (selCode sel)) p.2) ∧
    (available → s.cpl ≤ d.dpl → selRPL sel ≤ d.dpl → SwitchesTask s sel kind 0 (pure ()) (exec p.2 s)) ∧
    (¬ available → ¬ callGate → d.type ≠ 5 → Traps s (.gp (selCode sel)) p.2)

/-- A data segment register after a return to an outer level (R162). -/
def keptOuter (cpl : BitVec 2) (r : SegReg) : SegReg :=
  if r.acc ≠ 0 ∧ ¬ (r.acc.getLsbD 11 = true ∧ r.acc.getLsbD 10 = true) ∧ r.dpl < cpl then r.emptied 0 else r

/-- The stack pointer a return to an outer level loads, at the width of the new stack; a 16-bit value keeps ESP's upper half. -/
def outerGpr (s : State) (r : SegReg) (w : Width) (v : Word) : Gpr :=
  (s.setReg (if w = .w32 ∧ r.ext.getLsbD 6 = true then .w32 else .w16) .sp v).gpr

/-- What a return leaves at an outer level: CS, SS and their marks, the data segments it may keep (R474, R492). -/
def ReturnedOuter (d : Desc) (sel : Half) (cpl : BitVec 2) (off : Word) (w : Width) (sp : Word) (ss : SegReg) (dss : Desc)
    (s t : State) : Prop :=
  NewCs d sel cpl t ∧ t.pc = pcOf t off ∧ t.ss = ss ∧ t.gpr = outerGpr s ss w sp ∧
  t.ds = keptOuter cpl s.ds ∧ t.es = keptOuter cpl s.es ∧
  t.fs = (if s.cfg.model.has386 then keptOuter cpl s.fs else s.fs) ∧
  t.gs = (if s.cfg.model.has386 then keptOuter cpl s.gs else s.gs) ∧
  Stored ([dss, d].flatMap markStores) s t

/-- A far RET or IRET that pops n values and drops `extra` bytes: same level or outer level (R473, R474, R492). -/
def ReturnForm (s : State) (n extra : Nat) (same outer : State → Prop) (i : Instr) : Prop :=
  let w := s.opW
  let sel : Half := (s.busRead (s.spread .ss (s.above w.bytes) 2)).setWidth 16
  let ssAt := n * w.bytes + extra
  let newSs : Half := (s.busRead (s.spread .ss (s.above (ssAt + w.bytes)) 2)).setWidth 16
  s.canPop w n → match codeReturn s sel with
    | .error x => Traps s x i
    | .ok c =>
      (c = s.cpl → Next (exec i s) fun t =>
        NewCs (s.named sel) sel c t ∧ t.pc = pcOf t (s.stackValue w 0) ∧ t.ss = s.ss ∧ t.gpr = popGpr s ssAt ∧
        Stored (markStores (s.named sel)) s t ∧ SameData s t ∧ same t) ∧
      (s.cpl < c → s.grants .ss (s.above ssAt) w.bytes .read → s.grants .ss (s.above (ssAt + w.bytes)) 2 .read →
        match stackVerdict s c newSs with
        | .error x => Traps s x i
        | .ok r => Next (exec i s) fun t =>
          ReturnedOuter (s.named sel) sel c (s.stackValue w 0) w (s.stackValue w ssAt + BitVec.ofNat 32 extra) r
            (s.named newSs) s t ∧ outer t)

/-- The gate of a vector in the IDT (R671). -/
def idtEntry (s : State) (n : Byte) : Desc := s.descAt (s.idtr.base + BitVec.ofNat 32 (n.toNat * 8))

/-- A gate that the IDT may hold: a task gate, an interrupt gate or a trap gate, those of the 386 on the 80386 (R671). -/
def idtKind (s : State) (g : Desc) : Prop :=
  g.isSegment = false ∧ (g.type ∈ [5, 6, 7] ∨ (g.type ∈ [14, 15] ∧ s.cfg.model.has386 = true))

/-- An interrupt gate (`true`) or trap gate of a width (R146, R671). -/
def isGate (s : State) (g : Desc) (w : Width) (intr : Bool) : Prop :=
  g.isSegment = false ∧ g.type = (if intr then 6 else 7) + (if w = .w32 then 8 else 0) ∧
  (w = .w16 ∨ (w = .w32 ∧ s.cfg.model.has386 = true))

/-- The frame of an interrupt: to an inner level the old SS and stack pointer first; PS, CS, the return pointer, the error
code (R673, R674, R677). -/
def intFrame (s : State) (inner : Bool) (ret : Word) (e : Option Half) : List Word :=
  (if inner then [s.ss.sel.setWidth 32, s.stack.sp] else []) ++ [s.getPS, s.cs.sel.setWidth 32, ret] ++
    (e.map fun x => x.setWidth 32).toList

/-- The PS bits a gate clears: TF and NT, RF on the 80386, and IF for an interrupt gate (R675). -/
def gateClears (s : State) (intr : Bool) : Word :=
  psTF ||| psNT ||| (if s.cfg.model.has386 then psRF else 0) ||| (if intr then psIF else 0)

/-- Delivery through an interrupt or trap gate to the same or an inner level. -/
def DeliveredGate (s : State) (n : Byte) (ext : Half) (ret : Word) (e : Option Half) (o : Host.Outcome State Fault Refusal) : Prop :=
  let g := idtEntry s n
  ∀ (w : Width) (intr : Bool) (c : BitVec 2), isGate s g w intr → codeGate s ext g.w1 true = .ok c →
    let d := s.named g.w1
    (c = s.cpl → takes s w (intFrame s false ret e) → Next o fun t =>
      Transferred d g.w1 c (gateTarget g w) w (intFrame s false ret e) [d] s s t ∧ PsCleared (gateClears s intr) s t) ∧
    (c < s.cpl → canSwitch s c → takes (innerStack s c) w (intFrame s true ret e) → Next o fun t =>
      Transferred d g.w1 c (gateTarget g w) w (intFrame s true ret e) [s.named (tssSs s c), d] (innerStack s c) s t ∧
      PsCleared (gateClears s intr) s t)

/-- The entry of a vector lies within IDTR's limit and is present. -/
def entryReady (s : State) (n : Byte) : Prop := n.toNat * 8 + 7 ≤ s.idtr.limit.toNat ∧ (idtEntry s n).present = true

/-- A fault delivered in protected mode from the state `f` the taking of it has prepared: through its gate, whatever the gate's DPL,
with the return pointer and the error code; through a task gate, the tasks are switched and the code is pushed on the new task's
stack (R671 to R677). -/
def DeliveredFault (f : State) (n : Byte) (e : Option Half) (o : Host.Outcome State Fault Refusal) : Prop :=
  let g := idtEntry f n
  entryReady f n →
    DeliveredGate f n 1 f.pc e o ∧
    (g.isSegment = false → g.type = 5 → ∃ u, u = { f with busLog := u.busLog } ∧ SameDevices f u ∧
      ∀ t, taskSwitch g.w1 .int f.pc 1 u = .ok () t →
        (e = none → o = .next t) ∧
        (∀ x, e = some x → t.canPush t.tr.kind.width 1 →
          Next o fun v => Pushed t.tr.kind.width [x.setWidth 32] t v ∧ Plain t v))

/-- The outcome of a triple fault: the registers are reset, memory, parameters and environment stay (R663, R721). -/
def tripleOf (s : State) : Host.Outcome State Fault Refusal :=
  .next { State.resetFor s.cfg with
    mem := s.mem, portAnswers := s.portAnswers, intAcks := s.intAcks, oracleCount := s.oracleCount, portLog := s.portLog,
    busLog := s.busLog, copAnswers := s.copAnswers, copLog := s.copLog, lastOpcode := s.lastOpcode, noTrap := true }

/-- A vector delivered between two instructions, that of an external interrupt or of the single-step trap, in protected mode: through
its gate, whatever the gate's DPL, with the address of the next instruction, or by a task switch (R671 to R676). -/
def DeliveredBetween (u : State) (n : Byte) (o : Host.Outcome State Fault Refusal) : Prop :=
  let g := idtEntry u n
  entryReady u n →
    DeliveredGate u n 1 u.pc none o ∧
    (g.isSegment = false → g.type = 5 → ∃ p, SwitchesTask u g.w1 .int 1 (pure ()) p ∧ o = settled p)

end Sys2Proof.Machine

/-- Far JMP and CALL in protected mode to a code segment: the CS rule decides, CALL pushes only after it (R152, R462, R468). To a
task gate or a TSS they switch tasks; a null selector, one beyond its table and every other descriptor raise GP (R470).
Model's choices it rests on: log 10, 12. -/
def Obligations.FarTransfersInProtectedMode : Prop :=
  ∀ (s : State) (off : Word) (sel : Half) (m : MemOp), s.mem.wf = true → readyProt s →
    (∀ p ∈ [(false, Instr.jmpFarAp off sel), (true, .callFarAp off sel)],
      FarCodeForm s True off sel p ∧ FarSystemForm s True sel p) ∧
    (∀ p ∈ [(false, Instr.jmpFarMp m), (true, .callFarMp m)],
      FarCodeForm s (s.canReadFar m) (s.farOffset m) (s.farSelector m) p ∧
      FarSystemForm s (s.canReadFar m) (s.farSelector m) p)

/-- Far JMP and CALL through a call gate, from an immediate and from a pointer in memory: the gate's check, the target's check,
and for a CALL to an inner level the stack switch with the parameters, its TS, or SS(0) where a parameter lies beyond the old stack
(R181, R471, R472).
Model's choices it rests on: log 10, 11, 12, 36. -/
def Obligations.CallGates : Prop :=
  ∀ (s : State) (off : Word) (sel : Half) (m : MemOp) (w : Width), s.mem.wf = true → readyProt s →
    (∀ p ∈ [(false, Instr.jmpFarAp off sel), (true, .callFarAp off sel)], CallGateForm s True sel w p) ∧
    (∀ p ∈ [(false, Instr.jmpFarMp m), (true, .callFarMp m)], CallGateForm s (s.canReadFar m) (s.farSelector m) w p)

/-- Far RET in protected mode, to the same level and to an outer one (R473, R474).
Model's choices it rests on: log 10, 11, 36, 39. -/
def Obligations.FarReturnsInProtectedMode : Prop :=
  ∀ (s : State) (iw : Half), s.mem.wf = true → readyProt s →
    ∀ p ∈ [((0 : Half), Instr.retf), (iw, .retfIw iw)],
      ReturnForm s 2 p.1.toNat (fun t => SameFlags s t ∧ SameOutside s t) (fun t => SameFlags s t ∧ SameOutside s t) p.2

/-- IRET in protected mode. Without NT: PS by the mask of the old CPL, no fault in flight afterwards; a request for virtual-8086
mode is refused (R490 to R492). With NT: a task switch to the task the back-link names, and then no fault is in flight (R490).
Model's choices it rests on: log 10, 11, 30, 31, 36, 39. -/
def Obligations.InterruptReturnsInProtectedMode : Prop :=
  ∀ (s : State), s.mem.wf = true → readyProt s →
    let fl := s.stackValue s.opW (2 * s.opW.bytes)
    (s.direct psNT = false → s.canPop s.opW 3 →
      (¬ (s.op32 = true ∧ bit fl 17 = true ∧ s.cpl = 0) →
        ReturnForm s 3 0 (fun t => PsFrom s t (iretWrites s) fl ∧ SameButFault s t)
          (fun t => PsFrom s t (iretWrites s) fl ∧ SameButFault s t) .iret) ∧
      (s.op32 = true → bit fl 17 = true → s.cpl = 0 → exec .iret s = .refused .virtual8086)) ∧
    (s.direct psNT = true →
      SwitchesTask s ((s.busRead (addrs s.tr.base.toNat 2)).setWidth 16) .iret 0 (modify (State.setNFault none)) (exec .iret s))

/-- INT n, INT3 and INTO with overflow in protected mode: through a present gate whose DPL admits the program, to the same or an
inner level, or through a task gate by a task switch; a vector beyond IDTR's limit, a gate of another type or of a DPL below CPL
raises GP, a gate that is not present NP; the failures of the target's check and of the stack switch are raised as they are (R480
to R482, R671 to R676).
Model's choices it rests on: log 10, 20, 36. -/
def Obligations.SoftwareInterruptsInProtectedMode : Prop :=
  ∀ (s : State) (ib : Byte), s.mem.wf = true → readyProt s →
    ∀ p ∈ [(ib, Instr.intIb ib), (3, .int3), (4, .into)], (p.2 = .into → s.flag .of = true) →
      let n := p.1
      let g := idtEntry s n
      let code : Half := BitVec.ofNat 16 (n.toNat * 8 + 2)
      let gate : Prop := idtKind s g
      (s.idtr.limit.toNat < n.toNat * 8 + 7 → Traps s (.gp code) p.2) ∧
      (n.toNat * 8 + 7 ≤ s.idtr.limit.toNat →
        (¬ gate → Traps s (.gp code) p.2) ∧
        (gate → g.dpl < s.cpl → Traps s (.gp code) p.2) ∧
        (gate → s.cpl ≤ g.dpl → g.present = false → Traps s (.np code) p.2) ∧
        (gate → s.cpl ≤ g.dpl → g.present = true →
          (g.type = 5 → SwitchesTask s g.w1 .int 0 (modify (State.setNoTrap true)) (exec p.2 s)) ∧
          (∀ x, g.type ≠ 5 → codeGate s 0 g.w1 true = .error x → Traps s x p.2) ∧
          (∀ c, g.type ≠ 5 → codeGate s 0 g.w1 true = .ok c → c < s.cpl → SwitchTraps s c 0 p.2) ∧
          DeliveredGate s n 0 s.pc none (exec p.2 s)))

/-- Taking a fault in protected mode: with none in flight it is delivered through its gate with the address of the instruction's
first prefix byte and its error code, whatever the gate's DPL; through a task gate, the tasks are switched and the code is pushed
on the new task's stack (R653, R660, R661, R671 to R677).
Model's choices it rests on: log 10, 20, 36. -/
def Obligations.FaultEntryInProtectedMode : Prop :=
  ∀ (s : State) (x : Exn), s.mem.wf = true → readyProt s → s.nFault = none →
    DeliveredFault (faulted x.vector s) x.vector x.code (raiseExn x s)

/-- A second fault is a double fault, vector 8 with the error code 0: a fault while one is in flight, and one whose own delivery
fails. It is delivered through the vector table in real mode, through its gate or by a task switch in protected mode. A fault in
flight with vector 8 makes it a triple fault, and so does a double fault that cannot be delivered: the registers are reset and memory
is untouched (R660, R662, R663, R671 to R677).
Model's choices it rests on: log 10, 20, 36. -/
def Obligations.DoubleAndTripleFaults : Prop :=
  ∀ (s : State) (x : Exn) (v : Byte), s.mem.wf = true → s.cfg.model.class8086 = false →
    let f := faulted 8 s
    let g := idtEntry s 8
    (s.nFault = some v → v ≠ 8 →
      (readyReal s 8 → Next (raiseExn x s) (DeliveredReal 8 f.pc f)) ∧
      (readyProt s → DeliveredFault f 8 (some 0) (raiseExn x s))) ∧
    (s.nFault = none →
      (readyReal s 8 → ¬ vectorInLimit s x.vector → Next (raiseExn x s) (DeliveredReal 8 f.pc f)) ∧
      (readyProt s → s.idtr.limit.toNat < x.vector.toNat * 8 + 7 → DeliveredFault f 8 (some 0) (raiseExn x s))) ∧
    (s.nFault = some v →
      v = 8 ∨ (s.protectedMode = false ∧ ¬ vectorInLimit s 8) ∨ (s.protectedMode = true ∧ s.idtr.limit.toNat < 71) →
        raiseExn x s = tripleOf s) ∧
    (s.nFault = some v → v ≠ 8 → readyProt s → 71 ≤ s.idtr.limit.toNat →
      ¬ (idtKind s g ∧ g.present = true) ∨ (g.type ≠ 5 ∧ ∃ y, codeGate s 1 g.w1 true = .error y) →
        ∃ u, u = { s with busLog := u.busLog } ∧ SameDevices s u ∧ raiseExn x s = tripleOf u)

/-! ### Tasks (47_task_and_mode.md) -/

namespace Sys2Proof.Machine

/-- The fields a task switch saves, with their offsets (R613, R614, R622): registers, selectors, the instruction pointer, PS, LDTR,
and on the 80386 format FS, GS and CR3. -/
def savedFields (s : State) (ret ps : Word) : List (Nat × Word) :=
  let sel (r : SegReg) : Word := r.sel.setWidth 32
  match s.tr.kind with
  | .tss286 => [(0x0E, ret), (0x10, ps), (0x12, s.gpr.ax), (0x14, s.gpr.cx), (0x16, s.gpr.dx), (0x18, s.gpr.bx), (0x1A, s.gpr.sp),
      (0x1C, s.gpr.bp), (0x1E, s.gpr.si), (0x20, s.gpr.di), (0x22, sel s.es), (0x24, sel s.cs), (0x26, sel s.ss), (0x28, sel s.ds),
      (0x2A, s.ldtr.sel.setWidth 32)]
  | .tss386 => [(0x1C, s.cr3), (0x20, ret), (0x24, ps), (0x28, s.gpr.ax), (0x2C, s.gpr.cx), (0x30, s.gpr.dx), (0x34, s.gpr.bx),
      (0x38, s.gpr.sp), (0x3C, s.gpr.bp), (0x40, s.gpr.si), (0x44, s.gpr.di), (0x48, sel s.es), (0x4C, sel s.cs), (0x50, sel s.ss),
      (0x54, sel s.ds), (0x58, sel s.fs), (0x5C, sel s.gs), (0x60, s.ldtr.sel.setWidth 32)]

/-- The bytes of a field of the current TSS. -/
def fieldAt (s : State) (off n : Nat) : List Nat := addrs (s.tr.base + BitVec.ofNat 32 off).toNat n

/-- A field of the current TSS. -/
def fieldOf (s : State) (off n : Nat) : Word := s.busRead (fieldAt s off n)

/-- The general register of the new task whose old value is `old`, from its field of a TSS286: the upper half, which that format lacks,
is 0 on the 80386 (R611) and untouched before it (R34, log 48). -/
def gprOf286 (s : State) (old : Word) (off : Nat) : Word :=
  if s.cfg.model.has386 then fieldOf s off 2
  else BitVec.ofNat 32 (old.toNat / 65536 * 65536 + (fieldOf s off 2).toNat)

/-- The general registers of the new task; `s` holds those of the old one (R34, R611). -/
def taskGpr (s : State) : Gpr :=
  match s.tr.kind with
  | .tss286 => ⟨gprOf286 s s.gpr.ax 0x12, gprOf286 s s.gpr.cx 0x14, gprOf286 s s.gpr.dx 0x16, gprOf286 s s.gpr.bx 0x18,
      gprOf286 s s.gpr.sp 0x1A, gprOf286 s s.gpr.bp 0x1C, gprOf286 s s.gpr.si 0x1E, gprOf286 s s.gpr.di 0x20⟩
  | .tss386 => ⟨fieldOf s 0x28 4, fieldOf s 0x2C 4, fieldOf s 0x30 4, fieldOf s 0x34 4, fieldOf s 0x38 4, fieldOf s 0x3C 4,
      fieldOf s 0x40 4, fieldOf s 0x44 4⟩

/-- A field that stands at different places in the two formats. -/
def byKind (s : State) (o286 o386 : Nat) (n386 : Nat) : Word :=
  match s.tr.kind with
  | .tss286 => fieldOf s o286 2
  | .tss386 => fieldOf s o386 n386

/-- The stores of the save step. -/
def saveStores (s : State) (k : SwitchKind) (ret : Word) : List (List Nat × Word) :=
  (savedFields s ret (if k = .iret then s.getPS &&& ~~~psNT else s.getPS)).map fun p =>
    (fieldAt s p.1 s.tr.kind.width.bytes, trunc s.tr.kind.width p.2)

/-- The bytes of the running task's access word in the GDT. -/
def oldBusyAt (s : State) : List Nat := addrs (s.gdtr.base + (s.tr.sel &&& 0xFFF8).setWidth 32 + 4).toNat 2

/-- The stores of the busy bits in the two styles of R631: the old descriptor's cleared, the new one's set. -/
def busyStores (s : State) (sel : Half) (k : SwitchKind) (ret : Word) : List (List Nat × Word) :=
  (if s.cfg.taskBusy = .source ∨ k = .jmp ∨ k = .iret then
    [(oldBusyAt s, (written s (saveStores s k ret)).busRead (oldBusyAt s) &&& 0xFFFFFDFF#32)] else []) ++
  (if s.cfg.taskBusy = .source ∨ k ≠ .iret then
    [(addrs ((s.named sel).addr + 4).toNat 2, ((s.named sel).w2 ||| 0x0200).setWidth 32)] else [])

/-- The format of a TSS by its descriptor's type (R611). -/
def tssKindOf (d : Desc) : TssKind := if d.type = 1 ∨ d.type = 3 then .tss286 else .tss386

/-- The state in which a task switch reads the new task's image: the old task saved, the busy bits changed, TR at the new TSS. -/
def switched (s : State) (sel : Half) (k : SwitchKind) (ret : Word) : State :=
  { written s (saveStores s k ret ++ busyStores s sel k ret) with
    tr := ⟨sel, (s.named sel).base, (s.named sel).limit, tssKindOf (s.named sel)⟩ }

/-- The smallest limit of a TSS (R612). -/
def leastTss (k : TssKind) : Nat := match k with | .tss286 => 0x2B | .tss386 => 0x67

/-- Why a task switch is refused before anything is written (R621, R631). -/
def taskVerdict (s : State) (sel ext : Half) (k : SwitchKind) : Option Exn :=
  let d := s.named sel
  let bad : Exn := if k = .iret then .ts (selCode sel ||| ext) else .gp (selCode sel ||| ext)
  let wanted : List Nat := if s.cfg.taskBusy = .intel ∧ k = .iret then [3, 11] else [1, 9]
  if s.tr.limit.toNat < leastTss s.tr.kind then some (.ts (selCode s.tr.sel ||| ext))
  else if sel.toNat < 4 ∨ sel.getLsbD 2 = true ∨ s.inTable sel = false ∨ d.isSegment = true ∨ d.type ∉ wanted ∨
      (9 ≤ d.type ∧ s.cfg.model.has386 = false) then some bad
  else if d.present = false then some (.np (selCode sel ||| ext))
  else if d.limit.toNat < leastTss (tssKindOf d) then some (.ts (selCode sel ||| ext))
  else none

/-- The image of the new task, in the state that reads it: its PS, and a selector field; the 286 format has neither FS nor GS. -/
def taskPs (v : State) : Word := byKind v 0x10 0x24 4
def taskSel (v : State) (o286 o386 : Nat) : Half := (byKind v o286 o386 2).setWidth 16
def taskSel386 (v : State) (off : Nat) : Half :=
  match v.tr.kind with | .tss286 => 0 | .tss386 => (fieldOf v off 2).setWidth 16

/-- The LDT of the new task can be loaded (R156). -/
def taskLdtFits (v : State) : Prop :=
  let l := taskSel v 0x2A 0x60
  l.toNat < 4 ∨ (l.getLsbD 2 = false ∧ v.inTable l = true ∧ (v.named l).isSegment = false ∧ (v.named l).type = 2 ∧
    (v.named l).present = true)

/-- The state in which a task switch loads the segment registers: LDTR and CPL are the new task's, and a nested task has its
back-link. -/
def entered (s v : State) (k : SwitchKind) : State :=
  let l := taskSel v 0x2A 0x60
  { written v (if k.nests then [(fieldAt v 0 2, s.tr.sel.setWidth 32)] else []) with
    ldtr := if l.toNat < 4 then ⟨l, 0, 0⟩ else ⟨l, (v.named l).base, (v.named l).limit⟩
    cpl := selRPL (taskSel v 0x24 0x4C) }

/-- The selectors of the new task's image with the registers they go to, in the order of the loads (R625, D34). -/
def taskSels (v : State) : List (SReg × Half) :=
  [(.cs, taskSel v 0x24 0x4C), (.ss, taskSel v 0x26 0x50), (.ds, taskSel v 0x28 0x54), (.es, taskSel v 0x22 0x48)] ++
    if v.cfg.model.has386 then [(.fs, taskSel386 v 0x58), (.gs, taskSel386 v 0x5C)] else []

/-- Why a selector of the new task is refused: a TS, but for a segment that is not present, of SS by the parameter (R154, R627). -/
def taskSegVerdict (w : State) (ext : Half) (r : SReg) (sel : Half) : Option Exn :=
  let d := w.named sel
  let bad : Option Exn := some (.ts (selCode sel ||| ext))
  let known : Bool := decide (4 ≤ sel.toNat) && w.inTable sel && d.isSegment
  match r with
  | .cs =>
    if !(known && d.isCode) then bad
    else if !d.present then some (.np (selCode sel ||| ext))
    else if (if d.conforming then selRPL sel < d.dpl else d.dpl ≠ selRPL sel) then bad
    else none
  | .ss =>
    if !(known && !d.isCode && d.rw && d.dpl == w.cpl && selRPL sel == w.cpl) then bad
    else if !d.present then match w.cfg.taskStack with
      | .stackFault => some (.ss (selCode sel ||| ext))
      | .taskFault => bad
    else none
  | .ds | .es | .fs | .gs =>
    if sel.toNat < 4 then none
    else if !(known && (!d.isCode || d.rw) &&
        ((d.isCode && d.conforming) || (decide (w.cpl ≤ d.dpl) && decide (selRPL sel ≤ d.dpl)))) then bad
    else if !d.present then some (.np (selCode sel ||| ext))
    else none

/-- The record a register of the new task gets; a null data selector empties it (R151, R159). -/
def taskRecord (s w : State) (r : SReg) (sel : Half) : SegReg :=
  if sel.toNat < 4 then (s.seg r).emptied sel else recordOf (w.named sel) sel

/-- The state whose memory has the accessed bit of a loaded selector's descriptor (R160). -/
def marked (w : State) (sel : Half) : State := written w (if sel.toNat < 4 then [] else markStores (w.named sel))

/-- What a row of segment loads comes to: the records of those that succeed, the exception of the first that does not, and the memory
then. -/
structure TaskLoads where
  recs  : List SegReg
  fails : Option Exn
  left  : State

/-- The segment loads of a task switch, one after the other, each with the marks of the earlier ones in memory (R625, R627). -/
def taskLoads (s : State) (ext : Half) : List (SReg × Half) → State → TaskLoads
  | [], w => ⟨[], none, w⟩
  | p :: r, w =>
    match taskSegVerdict w ext p.1 p.2 with
    | some x => ⟨[], some x, w⟩
    | none =>
      let l := taskLoads s ext r (marked w p.2)
      { l with recs := taskRecord s w p.1 p.2 :: l.recs }

/-- A task switch that came to its segment loads ends as they do. -/
def TaskLoads.ends (l : TaskLoads) (o : EStateM.Result Stop State Unit) (u : State) : Prop :=
  match l.fails with
  | none => o = .ok () u
  | some x => o = .error (.exn x) u

/-- What a fault of the LDT finds: the new task's registers, entry point, CPL, TR and CR0.TS, every segment register emptied with its new
selector, LDTR and CR3 as they were (R625, R630). -/
def InNewTask (s v u : State) : Prop :=
  u.gpr = taskGpr v ∧ u.pc = byKind v 0x0E 0x20 4 ∧ u.opLIP = u.cs.base + u.pc ∧ u.cpl = selRPL u.cs.sel ∧
  (∀ p ∈ taskSels v, u.seg p.1 = (s.seg p.1).emptied p.2) ∧ SameMemory v u ∧
  SameSystem { s with cr0 := s.cr0 ||| 8, tr := v.tr } u

/-- The machine in the new task after the loads `l`: general registers, PS (with NT for a nested task), entry point and CPL of its
image; the loaded segment registers hold their descriptors, the one that failed and those not yet loaded are empty with their new
selectors; CR3, LDTR, TR and CR0.TS; memory with the save, the busy bits, the back-link and the accessed bits, and all else as
before (R611, R622 to R630). -/
def InTask (s v w : State) (k : SwitchKind) (l : TaskLoads) (u : State) : Prop :=
  let entry := byKind v 0x0E 0x20 4
  let sels := taskSels v
  u.gpr = taskGpr v ∧ u.cpl = w.cpl ∧ u.pc = (if l.recs.isEmpty then entry else pcOf u entry) ∧ u.opLIP = u.cs.base + u.pc ∧
  (∀ n, n < 32 → bit (psCached ||| s.cfg.model.psDirect) n = true →
    bit u.getPS n = (if n = 14 then k.nests || bit (taskPs v) 14 else bit (taskPs v) n)) ∧
  (∀ i, i < sels.length →
    let p := sels.getD i (.cs, 0)
    u.seg p.1 = l.recs.getD i ((s.seg p.1).emptied p.2)) ∧
  (s.cfg.model.has386 = false → u.fs = s.fs ∧ u.gs = s.gs) ∧ SameMemory l.left u ∧
  SameSystem { s with
    cr0 := s.cr0 ||| 8, cr3 := (match v.tr.kind with | .tss286 => s.cr3 | .tss386 => fieldOf v 0x1C 4), ldtr := w.ldtr, tr := v.tr } u ∧
  u.intFlags = s.intFlags ∧ u.portLog = s.portLog ∧ SameDevices s u

end Sys2Proof.Machine

/-- Saving a task writes every field of its TSS and nothing else (R613, R614, R622). -/
def Obligations.TaskSaveWritesEveryField : Prop :=
  ∀ (s : State) (k : SwitchKind) (ret : Word), s.mem.wf = true → s.pagingOn = false → s.cfg.model.has286 = true →
    ∃ t, saveTask k ret s = .ok () t ∧
      (∀ p ∈ savedFields s ret (if k = .iret then s.getPS &&& ~~~psNT else s.getPS),
        (∀ a ∈ fieldAt s p.1 s.tr.kind.width.bytes, s.busKind a = .ram) →
        t.busRead (fieldAt s p.1 s.tr.kind.width.bytes) = trunc s.tr.kind.width p.2) ∧
      SameMemoryBut s t (fun a => ∃ p ∈ savedFields s ret 0, s.among (fieldAt s p.1 s.tr.kind.width.bytes) a) ∧
      SameDevices s t ∧ t = { s with mem := t.mem, busLog := t.busLog }

/-- The task switch, in every case. A refused one changes nothing (R621, R631). Else the old task is saved, the busy bits change and
TR names the new TSS, in the format of its descriptor; a refused LDT is a fault in the new task, an image that asks for virtual-8086
mode is refused, and else the six (on the 80286 four) segment registers are loaded one after the other: where all succeed the switch
completes, and the first that does not is a fault in the new task, with the later registers empty (R34, R611, R622 to R631).
Model's choices it rests on: log 10, 18, 19, 28, 31, 39, 48. -/
def Obligations.TaskSwitchEntersNewTask : Prop :=
  ∀ (s : State) (sel ext : Half) (k : SwitchKind) (ret : Word), s.mem.wf = true → s.pagingOn = false → s.cfg.model.has286 = true →
    let o := taskSwitch sel k ret ext s
    let v := switched s sel k ret
    let w := entered s v k
    let l := taskLoads s ext (taskSels v) w
    (∀ x, taskVerdict s sel ext k = some x → ∃ u, o = .error (.exn x) u ∧ SameDevices s u ∧
      u = { s with opFlags := u.opFlags, busLog := u.busLog }) ∧
    (taskVerdict s sel ext k = none →
      (¬ taskLdtFits v → ∃ u, o = .error (.exn (.ts (selCode (taskSel v 0x2A 0x60) ||| ext))) u ∧ InNewTask s v u) ∧
      (taskLdtFits v → bit (taskPs v) 17 = true → ∃ u, o = .error (.refused .virtual8086) u) ∧
      (taskLdtFits v → bit (taskPs v) 17 = false → ∃ u, l.ends o u ∧ InTask s v w k l u))

/-! ### Flags, system registers, protection queries (45_system.md) -/

namespace Sys2Proof.Machine

/-- The machine may run a privileged instruction: real mode or CPL 0 (R550). -/
def mayRule (s : State) : Prop := s.protectedMode = false ∨ s.cpl = 0

/-- CLI and STI may run: real mode or CPL ≤ IOPL (R107). -/
def maySetIf (s : State) : Prop := s.protectedMode = false ∨ s.cpl ≤ s.iopl

/-- Everything but one table or control register is as before: equal to the old state with the new state's value in it. -/
def ControlForm (s : State) (src : Prop) (f : State → State) (i : Instr) : Prop :=
  src → mayRule s → Next (exec i s) fun t =>
    Untouched s t ∧ SameFlags s t ∧ t.pc = s.pc ∧ SameWorld (f s) t

/-- The general register loaded from a control or debug register; the flags are undefined, unchanged at the block's default. -/
def FromControl (s : State) (r : Reg) (v : Word) (i : Instr) : Prop :=
  Next (exec i s) fun t =>
    t.gpr = s.gpr.set r v ∧ SameMemory s t ∧ DefaultKeeps s t [.cf, .pf, .af, .zf, .sf, .of] ∧ Rest s t

/-- A control or debug register loaded; the flags are undefined, unchanged at the block's default. -/
def ToControl (s : State) (f : State → State) (i : Instr) : Prop :=
  Next (exec i s) fun t =>
    Untouched s t ∧ DefaultKeeps s t [.cf, .pf, .af, .zf, .sf, .of] ∧ SameDirect s t ∧ t.pc = s.pc ∧ SameWorld (f s) t

/-- The debug register of a number. -/
def debugReg (s : State) (n : BitVec 3) : Word :=
  match n with
  | 0 => s.dr0 | 1 => s.dr1 | 2 => s.dr2 | 3 => s.dr3 | 4 => s.dr4 | 5 => s.dr5 | 6 => s.dr6 | 7 => s.dr7

/-- A state with one debug register replaced. -/
def withDebugReg (s : State) (n : BitVec 3) (v : Word) : State :=
  match n with
  | 0 => { s with dr0 := v } | 1 => { s with dr1 := v } | 2 => { s with dr2 := v } | 3 => { s with dr3 := v }
  | 4 => { s with dr4 := v } | 5 => { s with dr5 := v } | 6 => { s with dr6 := v } | 7 => { s with dr7 := v }

/-- The six bytes of a table register image: limit, base bits 23:0, and the byte that the models treat differently (R562). -/
def tableImage (s : State) (t : TableReg) : List Byte :=
  [t.limit.setWidth 8, (t.limit >>> 8).setWidth 8, t.base.setWidth 8, (t.base >>> 8).setWidth 8, (t.base >>> 16).setWidth 8,
    if s.cfg.model.has386 = false then 0xFF
    else if s.op32 then (t.base >>> 24).setWidth 8
    else s.cfg.sgdtByte5.getD ((t.base >>> 24).setWidth 8)]

/-- What LGDT and LIDT load: the limit, and a base of 32 bits with 32-bit operands, else of 24 (R560). -/
def tableValue (s : State) (m : MemOp) : TableReg :=
  let b := s.busRead (s.spread (s.resolve m).1 ((s.resolve m).2 + 2) 4)
  ⟨if s.op32 then b else b &&& 0x00FFFFFF#32, (s.busRead (s.spread (s.resolve m).1 (s.resolve m).2 2)).setWidth 16⟩

/-- The six bytes at a memory operand can be read or written. -/
def canTable (s : State) (m : MemOp) (k : Access) : Prop :=
  s.grants (s.resolve m).1 (s.resolve m).2 2 k ∧ s.grants (s.resolve m).1 ((s.resolve m).2 + 2) 4 k

/-- Where the six bytes are. -/
def tableBytesAt (s : State) (m : MemOp) : List Nat :=
  s.spread (s.resolve m).1 (s.resolve m).2 2 ++ s.spread (s.resolve m).1 ((s.resolve m).2 + 2) 4

/-- SGDT or SIDT completes. -/
def StoreTableForm (s : State) (m : MemOp) (t : TableReg) (i : Instr) : Prop :=
  canTable s m .write → Next (exec i s) fun u =>
    (tableBytesAt s m).map u.busByte = tableImage s t ∧ SameMemoryBut s u (s.among (tableBytesAt s m)) ∧ u.gpr = s.gpr ∧ Plain s u

/-- A selector operand of LAR, LSL, VERR and VERW names a descriptor within its table's limit (R158). -/
def found (s : State) (sel : Half) : Prop := 4 ≤ sel.toNat ∧ s.inTable sel = true

/-- The privilege test of the queries, with the parameter for conforming code (R579). -/
def queryAdmits (s : State) (sel : Half) (d : Desc) : Prop :=
  let plain : Prop := s.cpl ≤ d.dpl ∧ selRPL sel ≤ d.dpl
  if d.isSegment = true ∧ d.isCode = true ∧ d.conforming = true then
    match s.cfg.larConforming with
    | .noDplTest => True
    | .dplTest => plain
    | .unknown => Config.conformingOk s.cpl (selRPL sel) d.dpl = true
  else plain

/-- A query completes: ZF says whether the descriptor is acceptable, the register is loaded only if it is, and no other flag
changes (R579). -/
def QueryForm (s : State) (e : RM) (ok : Half → Prop) (g : Half → Gpr) (i : Instr) : Prop :=
  let sel : Half := (s.valueAt .w16 (s.rmLoc e)).setWidth 16
  s.protectedMode = true → s.pagingOn = false → s.canRead .w16 (s.rmLoc e) → Next (exec i s) fun t =>
    (ok sel → t.flag .zf = true ∧ t.gpr = g sel) ∧ (¬ ok sel → t.flag .zf = false ∧ t.gpr = s.gpr) ∧
    (∀ f, f ≠ .zf → t.flag f = s.flag f) ∧ SameMemory s t ∧ SameDirect s t ∧ t.pc = s.pc ∧ SameButDevices s t

/-- The system descriptors LAR accepts (R580) and those LSL accepts (R581). -/
def larTypes (s : State) : List Nat := if s.cfg.model.has386 then [1, 2, 3, 4, 5, 9, 11, 12] else [1, 2, 3, 4, 5]
def lslTypes (s : State) : List Nat := if s.cfg.model.has386 then [1, 2, 3, 9, 11] else [1, 2, 3]

end Sys2Proof.Machine

/-- CLC, STC, CMC, CLD and STD change their flag and nothing else, whatever is cached (R558, R559). CLI and STI change IF
where CPL ≤ IOPL or in real mode, and raise GP(0) elsewhere; STI holds interrupts off for one instruction (R556, R557). LAHF
copies SF, ZF, AF, PF and CF into AH with bit 1 set, SAHF copies them back; OF and the direct flags stay (R554, R555). -/
def Obligations.FlagInstructionsComplete : Prop :=
  (∀ (s : State),
     (∀ p ∈ [(false, Instr.clc), (true, .stc), (!s.flag .cf, .cmc)], Next (exec p.2 s) fun t =>
       t.flag .cf = p.1 ∧ t.flags.cached.has .cf = false ∧ bit t.flags.ps 0 = p.1 ∧ (∀ f, f ≠ .cf → t.flag f = s.flag f) ∧
       Untouched s t ∧ Rest s t) ∧
     (∀ p ∈ [(false, Instr.cld), (true, .std)], Next (exec p.2 s) fun t =>
       t.direct psDF = p.1 ∧ (∀ f, t.flag f = s.flag f) ∧
       t.flags.ps &&& ~~~(psCached ||| psDF) = s.flags.ps &&& ~~~(psCached ||| psDF) ∧ Untouched s t ∧ t.pc = s.pc ∧
       SameWorld s t) ∧
     ∀ (c : DecCtx), ∀ p ∈ [((0xF8 : Byte), Instr.clc), (0xF9, .stc), (0xF5, .cmc), (0xFC, .cld), (0xFD, .std), (0xFA, .cli),
       (0xFB, .sti), (0x9F, .lahf), (0x9E, .sahf)], decode c [p.1] = some (p.2, [])) ∧
  (∀ (s : State),
     (∀ p ∈ [(false, Instr.cli), (true, .sti)],
       (maySetIf s → Next (exec p.2 s) fun t =>
         t.direct psIF = p.1 ∧ t.opFlags.noIntr = (s.opFlags.noIntr || p.1) ∧ (p.1 = true → t.interruptible = false) ∧ (∀ f, t.flag f = s.flag f) ∧
         t.flags.ps &&& ~~~(psCached ||| psIF) = s.flags.ps &&& ~~~(psCached ||| psIF) ∧ Untouched s t ∧ t.pc = s.pc ∧
         SameSystem s t ∧ SameSegments s t ∧ t.intFlags = s.intFlags ∧ t.noTrap = s.noTrap ∧ t.portLog = s.portLog) ∧
       (¬ maySetIf s → Traps s (.gp 0) p.2))) ∧
  (∀ (s : State),
     Next (exec .lahf s) (fun t =>
       t.gpr = (s.setReg8 .ah (BitVec.ofNat 32 ((s.flag .sf).toNat * 128 + (s.flag .zf).toNat * 64 + (s.flag .af).toNat * 16 +
         (s.flag .pf).toNat * 4 + 2 + (s.flag .cf).toNat))).gpr ∧ SameMemory s t ∧ Plain s t) ∧
     Next (exec .sahf s) (fun t =>
       t.flag .sf = bit (s.reg8 .ah) 7 ∧ t.flag .zf = bit (s.reg8 .ah) 6 ∧ t.flag .af = bit (s.reg8 .ah) 4 ∧
       t.flag .pf = bit (s.reg8 .ah) 2 ∧ t.flag .cf = bit (s.reg8 .ah) 0 ∧ t.flag .of = s.flag .of ∧ Untouched s t ∧ Rest s t))

/-- LGDT and LIDT load their register and no other, SGDT and SIDT store six bytes with the sixth by model (R560 to R563).
Model's choices it rests on: log 12, 16. -/
def Obligations.TableRegisterInstructions : Prop :=
  ∀ (s : State) (m : MemOp), s.mem.wf = true →
    ControlForm s (canTable s m .read) (fun s => { s with gdtr := tableValue s m }) (.lgdtMs m) ∧
    ControlForm s (canTable s m .read) (fun s => { s with idtr := tableValue s m }) (.lidtMs m) ∧
    StoreTableForm s m s.gdtr (.sgdtMs m) ∧ StoreTableForm s m s.idtr (.sidtMs m)

/-- SMSW's counterpart LMSW writes MP, EM and TS, can set PE and cannot clear it; CLTS clears TS, or raises GP(0) where CPL is
not 0 (R571, R572). The moves to and from CR0, CR2 and CR3 complete in a mode that may make them: CR0 keeps its reserved bits,
paging without protection is refused with GP(0), the other numbers raise UD (R56, R573, R574). The moves to and from the eight
debug registers complete: they are plain storage (R575).
Model's choices it rests on: log 3, 29. -/
def Obligations.ControlAndDebugMoves : Prop :=
  (∀ (s : State) (e : RM),
     ControlForm s (s.canRead .w16 (s.rmLoc e))
       (fun s => { s with cr0 := (s.cr0 &&& 0xFFFFFFF1#32) ||| (s.valueAt .w16 (s.rmLoc e) &&& 0x0F#32) }) (.lmswEw e) ∧
     ControlForm s True (fun s => { s with cr0 := s.cr0 &&& 0xFFFFFFF7#32 }) .clts ∧
     (¬ mayRule s → Traps s (.gp 0) .clts) ∧
     ∀ c : DecCtx, c.model.has286 = true → decode c [0x0F, 0x06] = some (.clts, [])) ∧
  (∀ (s : State) (r : Reg) (n : BitVec 3), mayRule s →
     let v := s.gpr.get r
     FromControl s r s.cr0 (.movRdCd r 0) ∧ FromControl s r s.cr2 (.movRdCd r 2) ∧ FromControl s r s.cr3 (.movRdCd r 3) ∧
     (¬ (bit v 31 = true ∧ bit v 0 = false) →
       ToControl s (fun s => { s with cr0 := (s.cr0 &&& 0x7FFFFFE0#32) ||| (v &&& 0x8000001F#32) }) (.movCdRd 0 r)) ∧
     (bit v 31 = true → bit v 0 = false → Traps s (.gp 0) (.movCdRd 0 r)) ∧
     ToControl s (fun s => { s with cr2 := v }) (.movCdRd 2 r) ∧ ToControl s (fun s => { s with cr3 := v }) (.movCdRd 3 r) ∧
     (n ∉ [0, 2, 3] → Traps s .ud (.movRdCd r n) ∧ Traps s .ud (.movCdRd n r))) ∧
  (∀ (s : State) (r : Reg) (n : BitVec 3), mayRule s →
     FromControl s r (debugReg s n) (.movRdDd r n) ∧ ToControl s (fun s => withDebugReg s n (s.gpr.get r)) (.movDdRd n r))

/-- LLDT loads LDTR from a present LDT descriptor of the GDT, or empties it; LTR loads TR from an available TSS and marks it busy in
memory (R156, R157, R565, R567). -/
def Obligations.SystemSelectorLoads : Prop :=
  ∀ (s : State) (e : RM), s.mem.wf = true → readyProt s → s.cpl = 0 → s.canRead .w16 (s.rmLoc e) →
    let sel : Half := (s.valueAt .w16 (s.rmLoc e)).setWidth 16
    let d := s.named sel
    let global : Prop := 4 ≤ sel.toNat ∧ sel.getLsbD 2 = false ∧ s.inTable sel = true ∧ d.isSegment = false
    let available : Prop := d.type = 1 ∨ (d.type = 9 ∧ s.cfg.model.has386 = true)
    ControlForm s (sel.toNat < 4) (fun s => { s with ldtr := ⟨sel, 0, 0⟩ }) (.lldtEw e) ∧
    (global → d.type = 2 → d.present = true → Next (exec (.lldtEw e) s) fun t =>
      Untouched s t ∧ SameFlags s t ∧ t.pc = s.pc ∧ SameButDevices { s with ldtr := ⟨sel, d.base, d.limit⟩ } t) ∧
    (4 ≤ sel.toNat → ¬ (global ∧ d.type = 2 ∧ d.present = true) → s.cfg.loadFaults = .source →
      Traps s (.ts (selCode sel)) (.lldtEw e)) ∧
    (4 ≤ sel.toNat → ¬ (global ∧ d.type = 2) → s.cfg.loadFaults = .intel → Traps s (.gp (selCode sel)) (.lldtEw e)) ∧
    (global → d.type = 2 → d.present = false → s.cfg.loadFaults = .intel → Traps s (.np (selCode sel)) (.lldtEw e)) ∧
    (global → available → d.present = true → Next (exec (.ltrEw e) s) fun t =>
      Stored [(addrs (d.addr + 4).toNat 2, (d.w2 ||| 0x0200).setWidth 32)] s t ∧ t.gpr = s.gpr ∧ SameFlags s t ∧ t.pc = s.pc ∧
      SameButDevices { s with tr := ⟨sel, d.base, d.limit, tssKindOf d⟩ } t) ∧
    (¬ (global ∧ available) → Traps s (.gp (selCode sel)) (.ltrEw e)) ∧
    (global → available → d.present = false → Traps s (.np (selCode sel)) (.ltrEw e))

/-- LAR, LSL, VERR and VERW answer in ZF and never fault on a selector (R579 to R583). ARPL raises the destination's RPL to
the source's and sets ZF, or clears ZF and changes nothing (R584).
Model's choices it rests on: log 14, 46. -/
def Obligations.ProtectionQueriesComplete : Prop :=
  (∀ (s : State) (g : Reg) (e : RM),
     let limitOf (d : Desc) : Word :=
       let l := (d.w3.toNat % 16) * 65536 + d.w0.toNat
       BitVec.ofNat 32 (if d.w3.getLsbD 7 then l * 4096 + 4095 else l)
     let rightsOf (d : Desc) : Word :=
       if s.op32 then BitVec.ofNat 32 (d.w3.toNat * 65536 + d.w2.toNat) &&& 0x00F0FF00#32 else d.w2.setWidth 32 &&& 0xFF00#32
     QueryForm s e (fun x => found s x ∧ ((s.named x).isSegment = true ∨ (s.named x).type ∈ larTypes s) ∧ queryAdmits s x (s.named x))
       (fun x => (s.setReg s.opW g (rightsOf (s.named x))).gpr) (.larGvEw g e) ∧
     QueryForm s e (fun x => found s x ∧ ((s.named x).isSegment = true ∨ (s.named x).type ∈ lslTypes s) ∧ queryAdmits s x (s.named x))
       (fun x => (s.setReg s.opW g (limitOf (s.named x))).gpr) (.lslGvEw g e) ∧
     QueryForm s e (fun x => found s x ∧ (s.named x).isSegment = true ∧ ((s.named x).isCode = false ∨ (s.named x).rw = true) ∧
       queryAdmits s x (s.named x)) (fun _ => s.gpr) (.verrEw e) ∧
     QueryForm s e (fun x => found s x ∧ (s.named x).isSegment = true ∧ (s.named x).isCode = false ∧ (s.named x).rw = true ∧
       s.cpl ≤ (s.named x).dpl ∧ selRPL x ≤ (s.named x).dpl) (fun _ => s.gpr) (.verwEw e)) ∧
  (∀ (s : State) (e : RM) (g : Reg), s.mem.wf = true → s.protectedMode = true →
     let d := s.valueAt .w16 (s.rmLoc e)
     let x := s.reg .w16 g
     s.canRead .w16 (s.rmLoc e) → s.canWrite .w16 (s.rmLoc e) → Next (exec (.arplEwGw e g) s) fun t =>
       (if d.toNat % 4 < x.toNat % 4
         then Wrote .w16 (s.rmLoc e) (BitVec.ofNat 32 (d.toNat - d.toNat % 4 + x.toNat % 4)) s t ∧ t.flag .zf = true
         else Untouched s t ∧ t.flag .zf = false) ∧
       (∀ f, f ≠ .zf → t.flag f = s.flag f) ∧ Rest s t)

namespace Sys2Proof.Machine

/-- The operand of an escape: the rm field, or the linear address of the memory operand. -/
def escOperand (s : State) (e : RM) : CopOperand :=
  match e with
  | .reg r => .reg r.num
  | .mem m => .mem ((s.seg (s.resolve m).1).base + BitVec.ofNat 32 (s.resolve m).2)

/-- The addresses of n bytes of its memory operand, when it has one, and the bytes there. -/
def escBytes (s : State) (e : RM) (n : Nat) : List Nat :=
  match e with
  | .reg _ => []
  | .mem m => s.spread (s.resolve m).1 (s.resolve m).2 n
def escData (s : State) (e : RM) (n : Nat) : List Byte := (escBytes s e n).map s.busByte

/-- What an attached coprocessor does with an escape: by the next listed answer, else a free value of the opcode and the operand,
the reply one of the bytes read too. -/
def escRequest (s : State) (n reg : BitVec 3) (e : RM) : CopRequest :=
  (s.copAnswers.head?.map (·.request)).getD (Config.copRequest s.oracleCount n reg (escOperand s e))
def escReply (s : State) (n reg : BitVec 3) (e : RM) : CopReply :=
  (s.copAnswers.head?.map (·.reply)).getD
    (Config.copReply s.oracleCount n reg (escOperand s e) (escData s e (escRequest s n reg e).reads))

/-- The accesses a coprocessor makes to the operand are admitted. -/
def escAdmits (s : State) (e : RM) (reads stores : Nat) : Prop :=
  match e with
  | .reg _ => True
  | .mem m => (reads ≠ 0 → s.grants (s.resolve m).1 (s.resolve m).2 reads .read) ∧
      (stores ≠ 0 → s.grants (s.resolve m).1 (s.resolve m).2 stores .write)

/-- What an escape leaves that an attached coprocessor answered: the bytes it stored, its word in AX, the record of the escape with
its operand and the bytes read, the answer used up; nothing else changed. -/
def Escaped (s : State) (n reg : BitVec 3) (e : RM) (reads : Nat) (a : CopReply) (t : State) : Prop :=
  t.gpr = (match a.ax with | none => s.gpr | some v => (s.setReg .w16 .ax (v.setWidth 32)).gpr) ∧
  SameMemory (s.busWrite (escBytes s e a.stores.length) a.stores) t ∧
  t.copLog = ⟨n, reg, escOperand s e, escData s e reads⟩ :: s.copLog ∧ t.copAnswers = s.copAnswers.tail ∧
  SameFlags s t ∧ t.pc = s.pc ∧ t.opLIP = s.opLIP ∧ SameWorld s { t with copLog := s.copLog, copAnswers := s.copAnswers }

end Sys2Proof.Machine

/-- HLT sets the halt state; WAIT does nothing unless MP and TS are set, and then raises NM; so does ESC when EM or TS is set,
and else it does nothing where no coprocessor is attached (R590 to R592). An attached one is handed the opcode and the operand, the rm
field of a register form included, and what it answers happens; an error it signals raises MF from the 80286 on, before anything else of its answer happens (R651, R652, R668).
Model's choices it rests on: log 25. -/
def Obligations.HaltWaitEscape : Prop :=
  ∀ (s : State) (n reg : BitVec 3) (e : RM),
    (mayRule s → exec .hlt s = .next { s with intFlags := { s.intFlags with halt := true } }) ∧
    (¬ (s.cfg.model.has286 = true ∧ bit s.cr0 1 = true ∧ bit s.cr0 3 = true) → exec .wait s = .next s) ∧
    (s.cfg.model.has286 = true → bit s.cr0 1 = true → bit s.cr0 3 = true → Traps s .nm .wait) ∧
    (¬ (s.cfg.model.has286 = true ∧ (bit s.cr0 2 = true ∨ bit s.cr0 3 = true)) →
      (s.cfg.coprocessor = .none → Next (exec (.esc n reg e) s) fun t => Untouched s t ∧ Plain s t) ∧
      (s.cfg.coprocessor = .attached →
        let q := escRequest s n reg e
        let a := escReply s n reg e
        (¬ (q.error = true ∧ s.cfg.model.has286 = true) → escAdmits s e q.reads a.stores.length →
          Next (exec (.esc n reg e) s) (Escaped s n reg e q.reads a)) ∧
        (q.error = true → s.cfg.model.has286 = true → ∃ u, exec (.esc n reg e) s = raiseExn .mf u ∧
          Escaped s n reg e 0 ⟨[], none⟩ u))) ∧
    (s.cfg.model.has286 = true → (bit s.cr0 2 = true ∨ bit s.cr0 3 = true) → Traps s .nm (.esc n reg e))

/-- At CPL other than 0 in protected mode every privileged instruction raises GP(0) and does nothing (R550); outside protected mode
those of R564 raise UD. -/
def Obligations.PrivilegedInstructionsTrap : Prop :=
  ∀ (s : State) (m : MemOp) (e : RM) (r g : Reg) (n : BitVec 3),
    (s.protectedMode = true → s.cpl ≠ 0 →
      ∀ i ∈ [Instr.lgdtMs m, .lidtMs m, .lldtEw e, .ltrEw e, .lmswEw e, .clts, .hlt, .movRdCd r n, .movCdRd n r, .movRdDd r n,
        .movDdRd n r], Traps s (.gp 0) i) ∧
    (s.protectedMode = false →
      ∀ i ∈ [Instr.lldtEw e, .sldtEw e, .ltrEw e, .strEw e, .verrEw e, .verwEw e, .larGvEw g e, .lslGvEw g e, .arplEwGw e g],
        Traps s .ud i)

/-- The undefined encodings raise UD from the 80186 on, and are refused by name on the 8086 and 8088 (R251, R252). Each prefix
instruction records itself and holds interrupts off; the last segment override and the last repeat prefix win (R233, R235).
Model's choices it rests on: log 24, 33, 44. -/
def Obligations.PrefixesAndUndefinedEncodings : Prop :=
  (∀ (s : State), ∀ i ∈ [Instr.undefD6, .undefF1, .undefF6r1, .undefFFr7, .undefOther],
     (s.cfg.model.has186 = true → Traps s .ud i) ∧
     (s.cfg.model.has186 = false → exec i s = .refused .undefinedEncoding8086)) ∧
  (∀ (s : State),
     let o := s.opPrefixes
     ∀ p ∈ [(Instr.prefixES, { o with seg := some .es }), (.prefixCS, { o with seg := some .cs }),
         (.prefixSS, { o with seg := some .ss }), (.prefixDS, { o with seg := some .ds }), (.prefixFS, { o with seg := some .fs }),
         (.prefixGS, { o with seg := some .gs }), (.prefixOpSize, { o with dataSize := true }),
         (.prefixAdSize, { o with addrSize := true }), (.prefixLock, { o with lock := true }),
         (.prefixRepNZ, { o with repnz := true, repz := false }), (.prefixRepZ, { o with repz := true, repnz := false })],
       exec p.1 s = .next { s with opPrefixes := p.2, opFlags := { s.opFlags with noIntr := true } })

/-! ### The machine as a whole: decoding, the step, invariants, reset, views, memory, checks, paging, interrupts -/

namespace Sys2Proof.Machine

/-- The byte of a prefix (R233). -/
def prefixCode : Prefix → Byte
  | .es => 0x26 | .cs => 0x2E | .ss => 0x36 | .ds => 0x3E | .fs => 0x64 | .gs => 0x65 | .opSize => 0x66 | .adSize => 0x67
  | .lock => 0xF0 | .repNZ => 0xF2 | .repZ => 0xF3

/-- The prefixes the model has: FS, GS and the two size prefixes belong to the 80386 (R234). -/
def hasPrefix (m : Model) : Prefix → Bool
  | .fs | .gs | .opSize | .adSize => m.has386
  | .es | .cs | .ss | .ds | .lock | .repNZ | .repZ => true

/-- Bytes stand at CS:pc and can be fetched, with paging off. -/
def codeAt (s : State) (bs : List Byte) : Prop :=
  ∀ k, k < bs.length →
    s.grants .cs (s.truncPc (s.pc + BitVec.ofNat 32 k)).toNat 1 .execute ∧
    s.busRead (s.spread .cs (s.truncPc (s.pc + BitVec.ofNat 32 k)).toNat 1) = (bs.getD k 0).setWidth 32

/-- The state in which an instruction with the prefixes `ps` and then the bytes `bs` executes: opLIP at the first prefix byte, the
prefixes recorded, its opcode byte published (R9, log 51), nothing left of the instruction before, pc after its last byte (R231,
R235). -/
def fetched (s : State) (ps : List Prefix) (bs : List Byte) : State :=
  { s with
    opLIP := s.cs.base + s.pc, opPrefixes := ps.foldl Prefixes.note .none, opFlags := ⟨false, false, false⟩
    regEA := none, regEAWrite := none, noTrap := false, lastOpcode := bs.headD s.lastOpcode
    pc := s.truncPc (s.pc + BitVec.ofNat 32 (ps.length + bs.length)) }

/-- The shadow state is what the rules allow: CPL 0 in real mode (R45), every record's DPL that of its access word, and its
extension word 0 on the models without `HAS_386` (R38). -/
def uncorrupted (s : State) : Prop :=
  (s.protectedMode = false → s.cpl = 0) ∧
  ∀ r ∈ [s.es, s.cs, s.ss, s.ds, s.fs, s.gs], r.dpl = r.acc.extractLsb 14 13 ∧ (s.cfg.model.has386 = false → r.ext = 0)

/-- The next step fetches: an uncorrupted state, no virtual-8086 mode, no acceptable interrupt, no halt. -/
def fetches (s : State) : Prop := uncorrupted s ∧ s.virtual = false ∧ s.interruptible = false ∧ s.intFlags.halt = false

/-- The bytes at pc are prefixes `ps` and an instruction i, well-formed in the context the prefixes give. -/
def atPc (s : State) (ps : List Prefix) (bs : List Byte) (i : Instr) : Prop :=
  (∀ p ∈ ps, hasPrefix s.cfg.model p = true) ∧ i.prefix? = none ∧
  WellFormed (fetched s ps bs).ctx i = true ∧ decode (fetched s ps bs).ctx bs = some (i, []) ∧
  ps.length + bs.length ≤ 2 ^ 32 ∧ codeAt s (ps.map prefixCode ++ bs)

/-- An access of n bytes passes the checks of R170 to R174: none on the 8086 class; in protected mode a valid record with the
right; the limit, in protected mode the other way round for expand-down data. -/
def accessFits (s : State) (q : SReg) (off n : Nat) (k : Access) : Prop :=
  let r := s.seg q
  let code := r.acc.getLsbD 11
  s.cfg.model.class8086 = true ∨
    ((s.protectedMode = true →
        (q ≠ .ss → q ≠ .cs → r.acc ≠ 0) ∧
        (k = .write → code = false ∧ r.acc.getLsbD 9 = true) ∧ (k = .read → code = true → r.acc.getLsbD 9 = true)) ∧
      if s.protectedMode = true ∧ code = false ∧ r.acc.getLsbD 10 = true
        then r.limit.toNat < off ∧ off + n - 1 ≤ (if r.ext.getLsbD 6 = true then 0xFFFFFFFF else 0xFFFF)
        else off + n - 1 ≤ r.limit.toNat)

/-- Directory and table entry of a linear address (R203). -/
def pdeAt (s : State) (la : Word) : List Nat := addrs ((s.cr3 &&& 0xFFFFF000#32) + (la >>> 22) * 4#32).toNat 4
def pdeOf (s : State) (la : Word) : Word := s.busRead (pdeAt s la)
def pteAt (s : State) (la : Word) : List Nat :=
  addrs ((pdeOf s la &&& 0xFFFFF000#32) + ((la >>> 12) &&& 0x3FF#32) * 4#32).toNat 4
def pteOf (s : State) (la : Word) : Word := s.busRead (pteAt s la)

/-- Both entries are present. -/
abbrev mapped (s : State) (la : Word) : Prop := bit (pdeOf s la) 0 = true ∧ bit (pteOf s la) 0 = true

/-- Both levels permit the access; a supervisor may do anything (R203, R206). -/
abbrev permitted (s : State) (la : Word) (wr : Bool) : Prop :=
  s.cpl = 3 → bit (pdeOf s la) 2 = true ∧ bit (pteOf s la) 2 = true ∧
    (wr = true → bit (pdeOf s la) 1 = true ∧ bit (pteOf s la) 1 = true)

/-- The physical address of a mapped byte. -/
def physical (s : State) (la : Word) : Nat := ((pteOf s la &&& 0xFFFFF000#32) + (la &&& 0xFFF#32)).toNat

/-- The stores of the walk: ACCESSED in the directory entry, ACCESSED and for a write DIRTY in the table entry, where they change
anything (R203). -/
def walkStores (s : State) (la : Word) (wr : Bool) : List (List Nat × Word) :=
  let new := pteOf s la ||| 0x20#32 ||| (if wr then 0x40#32 else 0)
  (if bit (pdeOf s la) 5 then [] else [(pdeAt s la, pdeOf s la ||| 0x20#32)]) ++
  (if new = pteOf s la then [] else [(pteAt s la, new)])

/-- The code of a page fault (R204). -/
def pageCode (s : State) (la : Word) (wr : Bool) : Half :=
  BitVec.ofNat 16 ((if bit (pdeOf s la) 0 && bit (pteOf s la) 0 then 1 else 0) + (if wr then 2 else 0) + (if s.cpl = 3 then 4 else 0))

/-- The walks for n bytes from a linear address on, one after the other, as an access that crosses a page makes them (R104): the
state after them with the physical addresses, or the state and the address at which one fails. -/
def walks (wr : Bool) : Nat → Word → State → Except (State × Word) (State × List Nat)
  | 0, _, s => .ok (s, [])
  | n + 1, la, s =>
    if mapped s la ∧ permitted s la wr then
      (walks wr n (la + 1) (written s (walkStores s la wr))).map fun p => (p.1, physical s la :: p.2)
    else .error (s, la)

/-- Flags, instruction pointer and world are as before, the record of device accesses too if there is no device. -/
def PlainButDevices (s t : State) : Prop := SameFlags s t ∧ t.pc = s.pc ∧ SameButDevices s t

/-- An access of n bytes that crosses a page, from its walks: it completes as `done` says of the state after them and the physical
addresses, or raises the page fault of the walk that failed, with the earlier walks' marks stored and nothing else changed. -/
def CrossesPage (s : State) (la : Word) (n : Nat) (wr : Bool) (done : State → List Nat → State → Prop) (i : Instr) : Prop :=
  match walks wr n la s with
  | .ok (u, as) => Next (exec i s) fun t => done u as t ∧ PlainButDevices s t
  | .error (u, a) => ∃ x, exec i s = raiseExn (.pg (pageCode u a wr)) x ∧ x.cr2 = a ∧ x.gpr = s.gpr ∧ x.flags = s.flags ∧
      SameMemory u x ∧ x.pc = s.pc ∧ x.opLIP = s.opLIP

/-- An instruction asks for a page fault at a linear address, and changes nothing but CR2. -/
def PageFaults (s : State) (la : Word) (wr : Bool) (i : Instr) : Prop :=
  ∃ u, exec i s = raiseExn (.pg (pageCode s la wr)) u ∧ u.cr2 = la ∧ u.gpr = s.gpr ∧ u.flags = s.flags ∧ u.mem = s.mem ∧
    u.pc = s.pc ∧ u.opLIP = s.opLIP

end Sys2Proof.Machine

/-- The instructions that some words written out from the encodings stand for. -/
def Obligations.WordsDecode : Prop :=
  let c16 : DecCtx := ⟨.i80386, false, false⟩
  let c32 : DecCtx := ⟨.i80386, true, true⟩
  decode c16 [0xB0, 0x50] = some (.movR8Ib .al 0x50, []) ∧
  decode c16 [0x8E, 0xD8] = some (.movSwEw .ds (.reg .ax), []) ∧
  decode c16 [0xC4, 0x1E, 0x00, 0x01] = some (.lesGvMp .bx (.abs16 0x0100), []) ∧
  decode c16 [0xD0, 0xE0] = some (.shlEbOne (.reg .al), []) ∧
  decode c16 [0x0F, 0xA4, 0xD8, 0x04] = some (.shldEvGvIb (.reg .ax) .bx 4, []) ∧
  decode c16 [0x8D, 0x47, 0xFE] = some (.leaGvM .ax (.mem (.base16 .bx (.d8 0xFE))), []) ∧
  decode c32 [0x8B, 0x44, 0x8B, 0x08] = some (.movGvEv .ax (.mem (.sib 2 (some .cx) .bx (.d8 8))), []) ∧
  decode c16 [0xEA, 0x00, 0x7C, 0x00, 0x00] = some (.jmpFarAp 0x7C00 0, []) ∧
  decode c16 [0xCD, 0x21] = some (.intIb 0x21, []) ∧
  decode c16 [0x0F, 0x01, 0xF0] = some (.lmswEw (.reg .ax), []) ∧
  decode ⟨.i8086, false, false⟩ [0x0F] = some (.popCS, [])

/-- Decoding the encoding of a well-formed instruction gives it back, with whatever bytes follow left over: no bit of an operand
is dropped, and no encoding is a prefix of another. -/
def Obligations.EncodeThenDecode : Prop :=
  ∀ (c : DecCtx) (i : Instr) (rest : List Byte), WellFormed c i = true → decode c (encode c i ++ rest) = some (i, rest)

/-- When the bytes at the instruction pointer are prefixes and a well-formed instruction, the step is that instruction's meaning in
the state the fetch leaves, followed by the single-step trap if TF was set and nothing suppresses it: vector 1 with the address of
the next instruction, through the vector table in real mode, through its gate or by a task switch in protected mode (R231, R235,
R671, R690). A corrupted shadow state has no step (R10).
Model's choices it rests on: log 8, 10, 17, 33, 36, 51. -/
def Obligations.StepRunsDecodedInstruction : Prop :=
  (∀ (s : State) (ps : List Prefix) (bs : List Byte) (i : Instr), fetches s → atPc s ps bs i →
    (s.direct psTF = false → step s = settled (exec i (fetched s ps bs))) ∧
    (s.direct psTF = true → ∀ t, exec i (fetched s ps bs) = .next t →
      (t.noTrap = true → step s = .next { t with noTrap := false }) ∧
      (t.noTrap = false → readyReal t 1 → Next (step s) (DeliveredReal 1 t.pc t)) ∧
      (t.noTrap = false → readyProt t → DeliveredBetween t 1 (step s)))) ∧
  (∀ (s : State), ¬ uncorrupted s → step s = .fault .corruptState)

/-- The invariant holds after reset, for every choice of parameters and whatever memory the platform holds in canonical form.
Model's choices it rests on: log 1, 2. -/
def Obligations.InvariantAtReset : Prop :=
  State.reset.Inv ∧ ∀ (p : Params) (m : Memory), m.wf = true → (State.resetOn p m).Inv

/-- Every step keeps the invariant: memory in canonical form, no virtual-8086 mode, CPL 0 in real mode, every record's DPL that of
its access word and its extension word 0 before the 80386, a 16-bit instruction pointer in a 16-bit code segment, no trap
bookkeeping left.
Model's choices it rests on: log 8, 10, 31. -/
def Obligations.StepKeepsInvariant : Prop :=
  ∀ (s t : State), s.Inv → step s = .next t → t.Inv

/-- No step changes the variant or another parameter (R720). -/
def Obligations.StepKeepsParameters : Prop :=
  ∀ (s t : State), step s = .next t → t.cfg = s.cfg

/-- The registers after reset (R85 to R89); the values beyond CS, the instruction pointer and PS are
the spec's decisions D6, D11 and D12. Memory is what the platform holds (R724). -/
def Obligations.ResetValues : Prop :=
  ∀ (p : Params) (m : Memory),
    let t := State.resetOn p m
    t.gpr = ⟨0, 0, p.resetEdx, 0, 0, 0, 0, 0⟩ ∧
    (p.model.has286 = true → t.cs.sel = 0xF000 ∧ t.pc = 0xFFF0) ∧ (p.model.has286 = false → t.cs.sel = 0xFFFF ∧ t.pc = 0) ∧
    t.cs.base = p.resetCsBase ∧ t.cs.limit = 0xFFFF ∧ t.cs.acc = 0x9B00 ∧ t.cs.ext = 0 ∧ t.cs.addrDesc = none ∧ t.cpl = 0 ∧
    (∀ r ∈ [t.ds, t.es, t.ss, t.fs, t.gs], r = ⟨0, 0, 0xFFFF, 0x9300, 0, 0, none⟩) ∧
    t.getPS = (if p.model.has286 then 0x0002 else 0xF002) ∧
    t.cr0 = (match p.model with | .i80286 => 0xFFF0 | .i80386 => 0x7FFFFFE0 | _ => 0) ∧ t.cr2 = 0 ∧ t.cr3 = 0 ∧
    (∀ n, debugReg t n = 0) ∧ t.gdtr = ⟨0, 0xFFFF⟩ ∧ t.idtr = ⟨0, 0x03FF⟩ ∧ t.ldtr = ⟨0, 0, 0⟩ ∧ t.tr = ⟨0, 0, 0, .tss286⟩ ∧
    t.nFault = none ∧ t.intFlags = ⟨false, false⟩ ∧ t.opLIP = t.cs.base + t.pc ∧ t.regEA = none ∧ t.mem = m

/-- The views of a general register: the word is its low half, the byte registers are bytes of the first four, and a write replaces
exactly the bits of its view; the numbers of the registers; the dword view belongs to 32-bit operands, which the 80386 alone has
(R31 to R33). -/
def Obligations.RegisterViews : Prop :=
  ∀ (s : State) (v : Word) (r q : Reg),
    (List.range 8).map (fun k => Reg.ofNum (BitVec.ofNat 3 k)) = [.ax, .cx, .dx, .bx, .sp, .bp, .si, .di] ∧
    (List.range 8).map (fun k => Reg8.ofNum (BitVec.ofNat 3 k)) = [.al, .cl, .dl, .bl, .ah, .ch, .dh, .bh] ∧
    (s.opW = .w32 → s.cfg.model = .i80386 ∧ s.op32 = true) ∧
    (s.reg .w16 r).toNat = (s.gpr.get r).toNat % 65536 ∧ s.reg .w32 r = s.gpr.get r ∧
    ((s.setReg .w16 r v).gpr.get r).toNat = (s.gpr.get r).toNat / 65536 * 65536 + v.toNat % 65536 ∧
    (s.setReg .w32 r v).gpr.get r = v ∧ (q ≠ r → ∀ w, (s.setReg w r v).gpr.get q = s.gpr.get q) ∧
    ∀ p ∈ [(Reg8.al, Reg8.ah, Reg.ax), (.cl, .ch, .cx), (.dl, .dh, .dx), (.bl, .bh, .bx)],
      (s.reg8 p.1).toNat = (s.gpr.get p.2.2).toNat % 256 ∧ (s.reg8 p.2.1).toNat = (s.gpr.get p.2.2).toNat / 256 % 256 ∧
      ((s.setReg8 p.1 v).gpr.get p.2.2).toNat = (s.gpr.get p.2.2).toNat / 256 * 256 + v.toNat % 256 ∧
      ((s.setReg8 p.2.1 v).gpr.get p.2.2).toNat =
        (s.gpr.get p.2.2).toNat / 65536 * 65536 + v.toNat % 256 * 256 + (s.gpr.get p.2.2).toNat % 256 ∧
      (q ≠ p.2.2 → (s.setReg8 p.1 v).gpr.get q = s.gpr.get q ∧ (s.setReg8 p.2.1 v).gpr.get q = s.gpr.get q)

/-- PS as software reads it: the six flags' current values, however they are cached, the direct bits of the model, its forced
bits, and nothing else (R49, R52, R53). -/
def Obligations.PsReadsMaterialisedFlags : Prop :=
  ∀ (s : State) (n : Nat), n < 32 →
    bit s.getPS n =
      match n with
      | 0 => s.flag .cf | 2 => s.flag .pf | 4 => s.flag .af | 6 => s.flag .zf | 7 => s.flag .sf | 11 => s.flag .of
      | _ => (bit s.flags.ps n && bit s.cfg.model.psDirect n) || bit s.cfg.model.psSet n

/-- Memory behind the Bus is little-endian and has no width: after a store of n bytes each byte of RAM reads as the byte of the
value it got, every other byte as before, and the canonical form is kept (R102, R110, R111). ROM and holes lose what is written,
a hole reads as the platform says; a device sees every operation that reaches it, with its width. With paging off an access of one,
two or four bytes is one such operation; four bytes on the models before the 80386 are two words (R103, R104, R113).
Model's choices it rests on: log 1, 26, 42. -/
def Obligations.StoresAreLittleEndian : Prop :=
  ∀ (s : State) (a n : Nat) (v : Word), s.mem.wf = true → n ≤ 4 →
    let t := s.busStore [addrs a n] (leBytes n v)
    let ram (b : Nat) : Prop := s.busKind b = .ram
    let byte (i : Nat) : Byte := BitVec.ofNat 8 (v.toNat / 256 ^ i % 256)
    let seen (e : BusEvent) : List BusEvent :=
      if (List.range n).any fun i => decide (s.busKind (a + i) = .device) then e :: s.busLog else s.busLog
    let at_ : Nat := a % 2 ^ s.cfg.model.paBits
    let ops : BusOps := if n = 4 ∧ s.cfg.model.has386 = false then [addrs a 2, addrs (a + 2) 2] else [addrs a n]
    t.mem.wf = true ∧
    (∀ i, i < n → ram (a + i) → t.busByte (a + i) = byte i) ∧
    (∀ b, ¬ ram b ∨ (∀ i, i < n → b % 2 ^ s.cfg.model.paBits ≠ (a + i) % 2 ^ s.cfg.model.paBits) → t.busByte b = s.busByte b) ∧
    (∀ b k, s.busKind b = .hole k → s.busByte b = k) ∧
    (n = 4 → (∀ i, i < 4 → ram (a + i)) →
      (t.busRead (addrs a 2)).toNat = v.toNat % 65536 ∧ (t.busRead (addrs (a + 2) 2)).toNat = v.toNat / 65536) ∧
    t = { s with mem := t.mem, busLog := seen (.write at_ ((List.range n).map byte)) } ∧
    busFetch [addrs a n] s = .ok ((List.range n).map fun i => s.busByte (a + i))
      { s with busLog := seen (.read at_ ((List.range n).map fun i => s.busByte (a + i))) } ∧
    (s.pagingOn = false → a < 2 ^ 32 → n ∈ [1, 2, 4] → ∀ user,
      memRead (BitVec.ofNat 32 a) n user s = .ok (s.busRead (addrs a n)) (s.logBus (s.readEvents ops)) ∧
      memWrite (BitVec.ofNat 32 a) n v user s = .ok () (s.busStore ops (leBytes n v)))

/-- What a fetch refused by CS's limit does: GP(0), attributed to the instruction that begins at pc (R176). A load or store
that the segment check refuses raises SS(0) for the stack segment and GP(0) for the others, and nothing is changed (R142, R170
to R175, R310). -/
def Obligations.RefusedAccessesFault : Prop :=
  (∀ (s : State), fetches s → ¬ accessFits s .cs s.pc.toNat 1 .execute →
     ∃ u, step s = settled (raiseExn (.gp 0) u) ∧ u.opLIP = s.cs.base + s.pc ∧ u.gpr = s.gpr ∧ u.flags = s.flags ∧ u.mem = s.mem) ∧
  (∀ (s : State) (m : MemOp) (g : Reg) (g8 : Reg8),
     let q := (s.resolve m).1
     let off := (s.resolve m).2
     (¬ accessFits s q off s.opW.bytes .read → Traps s (refusedBy q) (.movGvEv g (.mem m))) ∧
     (¬ accessFits s q off s.opW.bytes .write → Traps s (refusedBy q) (.movEvGv (.mem m) g)) ∧
     (¬ accessFits s q off 1 .read → Traps s (refusedBy q) (.movGbEb g8 (.mem m))) ∧
     (¬ accessFits s q off 1 .write → Traps s (refusedBy q) (.movEbGb (.mem m) g8)))

/-- Loads and stores of every width through the page tables. Within a page: one walk, the bytes at the physical address the two
entries give, with ACCESSED and DIRTY set on the way; where an entry is absent or does not permit the access, a page fault with CR2
at the linear address and nothing else changed (R200 to R207). Across a page: every byte has its walk, all of them before a byte
is written (R104).
Model's choices it rests on: log 43. -/
def Obligations.PagedAccesses : Prop :=
  ∀ (s : State) (m : MemOp) (g8 : Reg8) (g : Reg), s.mem.wf = true → s.pagingOn = true →
    let q := (s.resolve m).1
    let off := (s.resolve m).2
    let la := (s.seg q).base + BitVec.ofNat 32 off
    let crosses (n : Nat) : Prop := 4096 < la.toNat % 4096 + n
    (∀ p ∈ [(Width.w8, Loc.byteReg g8, Instr.movGbEb g8 (.mem m), Instr.movEbGb (.mem m) g8),
        (s.opW, .reg g, .movGvEv g (.mem m), .movEvGv (.mem m) g)],
      let w := p.1
      let n := p.1.bytes
      (¬ crosses n → accessFits s q off n .read →
        (mapped s la → permitted s la false → Next (exec p.2.2.1 s) fun t =>
          Stored (walkStores s la false) s t ∧
          t.gpr = s.gprWith w p.2.1 ((written s (walkStores s la false)).busRead (addrs (physical s la) n)) ∧
          PlainButDevices s t) ∧
        (¬ (mapped s la ∧ permitted s la false) → PageFaults s la false p.2.2.1)) ∧
      (¬ crosses n → accessFits s q off n .write →
        (mapped s la → permitted s la true → Next (exec p.2.2.2 s) fun t =>
          Stored (walkStores s la true ++ [(addrs (physical s la) n, s.valueAt w p.2.1)]) s t ∧ t.gpr = s.gpr ∧
          PlainButDevices s t) ∧
        (¬ (mapped s la ∧ permitted s la true) → PageFaults s la true p.2.2.2)) ∧
      (crosses n → accessFits s q off n .read →
        CrossesPage s la n false (fun u as t => SameMemory u t ∧ t.gpr = s.gprWith w p.2.1 (u.busRead as)) p.2.2.1) ∧
      (crosses n → accessFits s q off n .write →
        CrossesPage s la n true (fun u as t => SameMemory (u.busWrite as (leBytes n (s.valueAt w p.2.1))) t ∧ t.gpr = s.gpr)
          p.2.2.2))

/-- An external interrupt is accepted between instructions with IF set and nothing holding it off: the request and the halt are
cleared and the acknowledged vector is delivered with the address of the next instruction, in real mode through the vector table,
in protected mode through its gate, whatever the gate's DPL, or by a task switch; in the halted state nothing else happens (R590,
R671, R676, R680 to R683).
Model's choices it rests on: log 5, 9, 10, 17, 36. -/
def Obligations.InterruptsAndHalt : Prop :=
  ∀ (s : State) (n : Byte) (r : List Byte), s.mem.wf = true → uncorrupted s → s.virtual = false →
    let accepted : Prop := s.intFlags.intr = true ∧ s.direct psIF = true ∧ s.opFlags.noIntr = false ∧ s.intAcks = n :: r
    let u : State := { s with intFlags := ⟨false, false⟩, intAcks := r }
    (accepted → readyReal s n → Next (step s) (DeliveredReal n s.pc u)) ∧
    (accepted → readyProt s → DeliveredBetween u n (step s)) ∧
    (s.intFlags.halt = true → (s.intFlags.intr = false ∨ s.direct psIF = false ∨ s.opFlags.noIntr = true) →
      step s = .next { s with opFlags := { s.opFlags with noIntr := false } })
end

