-- ==== Sys2Proof/Laws/State.lean ====
section
/-! SUPPORT. What each update of the state leaves alone: one equation for each field and each update, so that no proof unfolds
a record update. The updates that read the state first (flags, memory) have their values in Laws/Flags.lean and
Laws/Memory.lean. -/

namespace Sys2Proof.Machine

variable (s : State)


/-! ### `setReg` -/

@[simp] theorem State.setReg_cfg (w : Width) (r : Reg) (v : Word) : (s.setReg w r v).cfg = s.cfg := rfl
@[simp] theorem State.setReg_gpr (w : Width) (r : Reg) (v : Word) : (s.setReg w r v).gpr = s.gpr.set r (merge w (s.gpr.get r) v) := rfl
@[simp] theorem State.setReg_pc (w : Width) (r : Reg) (v : Word) : (s.setReg w r v).pc = s.pc := rfl
@[simp] theorem State.setReg_opLIP (w : Width) (r : Reg) (v : Word) : (s.setReg w r v).opLIP = s.opLIP := rfl
@[simp] theorem State.setReg_es (w : Width) (r : Reg) (v : Word) : (s.setReg w r v).es = s.es := rfl
@[simp] theorem State.setReg_cs (w : Width) (r : Reg) (v : Word) : (s.setReg w r v).cs = s.cs := rfl
@[simp] theorem State.setReg_ss (w : Width) (r : Reg) (v : Word) : (s.setReg w r v).ss = s.ss := rfl
@[simp] theorem State.setReg_ds (w : Width) (r : Reg) (v : Word) : (s.setReg w r v).ds = s.ds := rfl
@[simp] theorem State.setReg_fs (w : Width) (r : Reg) (v : Word) : (s.setReg w r v).fs = s.fs := rfl
@[simp] theorem State.setReg_gs (w : Width) (r : Reg) (v : Word) : (s.setReg w r v).gs = s.gs := rfl
@[simp] theorem State.setReg_cpl (w : Width) (r : Reg) (v : Word) : (s.setReg w r v).cpl = s.cpl := rfl
@[simp] theorem State.setReg_flags (w : Width) (r : Reg) (v : Word) : (s.setReg w r v).flags = s.flags := rfl
@[simp] theorem State.setReg_cr0 (w : Width) (r : Reg) (v : Word) : (s.setReg w r v).cr0 = s.cr0 := rfl
@[simp] theorem State.setReg_cr2 (w : Width) (r : Reg) (v : Word) : (s.setReg w r v).cr2 = s.cr2 := rfl
@[simp] theorem State.setReg_cr3 (w : Width) (r : Reg) (v : Word) : (s.setReg w r v).cr3 = s.cr3 := rfl
@[simp] theorem State.setReg_dr0 (w : Width) (r : Reg) (v : Word) : (s.setReg w r v).dr0 = s.dr0 := rfl
@[simp] theorem State.setReg_dr1 (w : Width) (r : Reg) (v : Word) : (s.setReg w r v).dr1 = s.dr1 := rfl
@[simp] theorem State.setReg_dr2 (w : Width) (r : Reg) (v : Word) : (s.setReg w r v).dr2 = s.dr2 := rfl
@[simp] theorem State.setReg_dr3 (w : Width) (r : Reg) (v : Word) : (s.setReg w r v).dr3 = s.dr3 := rfl
@[simp] theorem State.setReg_dr4 (w : Width) (r : Reg) (v : Word) : (s.setReg w r v).dr4 = s.dr4 := rfl
@[simp] theorem State.setReg_dr5 (w : Width) (r : Reg) (v : Word) : (s.setReg w r v).dr5 = s.dr5 := rfl
@[simp] theorem State.setReg_dr6 (w : Width) (r : Reg) (v : Word) : (s.setReg w r v).dr6 = s.dr6 := rfl
@[simp] theorem State.setReg_dr7 (w : Width) (r : Reg) (v : Word) : (s.setReg w r v).dr7 = s.dr7 := rfl
@[simp] theorem State.setReg_gdtr (w : Width) (r : Reg) (v : Word) : (s.setReg w r v).gdtr = s.gdtr := rfl
@[simp] theorem State.setReg_idtr (w : Width) (r : Reg) (v : Word) : (s.setReg w r v).idtr = s.idtr := rfl
@[simp] theorem State.setReg_ldtr (w : Width) (r : Reg) (v : Word) : (s.setReg w r v).ldtr = s.ldtr := rfl
@[simp] theorem State.setReg_tr (w : Width) (r : Reg) (v : Word) : (s.setReg w r v).tr = s.tr := rfl
@[simp] theorem State.setReg_opFlags (w : Width) (r : Reg) (v : Word) : (s.setReg w r v).opFlags = s.opFlags := rfl
@[simp] theorem State.setReg_opPrefixes (w : Width) (r : Reg) (v : Word) : (s.setReg w r v).opPrefixes = s.opPrefixes := rfl
@[simp] theorem State.setReg_regEA (w : Width) (r : Reg) (v : Word) : (s.setReg w r v).regEA = s.regEA := rfl
@[simp] theorem State.setReg_regEAWrite (w : Width) (r : Reg) (v : Word) : (s.setReg w r v).regEAWrite = s.regEAWrite := rfl
@[simp] theorem State.setReg_nFault (w : Width) (r : Reg) (v : Word) : (s.setReg w r v).nFault = s.nFault := rfl
@[simp] theorem State.setReg_intFlags (w : Width) (r : Reg) (v : Word) : (s.setReg w r v).intFlags = s.intFlags := rfl
@[simp] theorem State.setReg_lastOpcode (w : Width) (r : Reg) (v : Word) : (s.setReg w r v).lastOpcode = s.lastOpcode := rfl
@[simp] theorem State.setReg_mem (w : Width) (r : Reg) (v : Word) : (s.setReg w r v).mem = s.mem := rfl
@[simp] theorem State.setReg_noTrap (w : Width) (r : Reg) (v : Word) : (s.setReg w r v).noTrap = s.noTrap := rfl
@[simp] theorem State.setReg_portAnswers (w : Width) (r : Reg) (v : Word) : (s.setReg w r v).portAnswers = s.portAnswers := rfl
@[simp] theorem State.setReg_intAcks (w : Width) (r : Reg) (v : Word) : (s.setReg w r v).intAcks = s.intAcks := rfl
@[simp] theorem State.setReg_oracleCount (w : Width) (r : Reg) (v : Word) : (s.setReg w r v).oracleCount = s.oracleCount := rfl
@[simp] theorem State.setReg_portLog (w : Width) (r : Reg) (v : Word) : (s.setReg w r v).portLog = s.portLog := rfl
@[simp] theorem State.setReg_busLog (w : Width) (r : Reg) (v : Word) : (s.setReg w r v).busLog = s.busLog := rfl
@[simp] theorem State.setReg_copAnswers (w : Width) (r : Reg) (v : Word) : (s.setReg w r v).copAnswers = s.copAnswers := rfl
@[simp] theorem State.setReg_copLog (w : Width) (r : Reg) (v : Word) : (s.setReg w r v).copLog = s.copLog := rfl

/-! ### `setReg8` -/

@[simp] theorem State.setReg8_cfg (r : Reg8) (v : Word) : (s.setReg8 r v).cfg = s.cfg := rfl
@[simp] theorem State.setReg8_gpr (r : Reg8) (v : Word) : (s.setReg8 r v).gpr = s.gpr.set (home8 r) (mergeByte (high8 r) (s.gpr.get (home8 r)) v) := rfl
@[simp] theorem State.setReg8_pc (r : Reg8) (v : Word) : (s.setReg8 r v).pc = s.pc := rfl
@[simp] theorem State.setReg8_opLIP (r : Reg8) (v : Word) : (s.setReg8 r v).opLIP = s.opLIP := rfl
@[simp] theorem State.setReg8_es (r : Reg8) (v : Word) : (s.setReg8 r v).es = s.es := rfl
@[simp] theorem State.setReg8_cs (r : Reg8) (v : Word) : (s.setReg8 r v).cs = s.cs := rfl
@[simp] theorem State.setReg8_ss (r : Reg8) (v : Word) : (s.setReg8 r v).ss = s.ss := rfl
@[simp] theorem State.setReg8_ds (r : Reg8) (v : Word) : (s.setReg8 r v).ds = s.ds := rfl
@[simp] theorem State.setReg8_fs (r : Reg8) (v : Word) : (s.setReg8 r v).fs = s.fs := rfl
@[simp] theorem State.setReg8_gs (r : Reg8) (v : Word) : (s.setReg8 r v).gs = s.gs := rfl
@[simp] theorem State.setReg8_cpl (r : Reg8) (v : Word) : (s.setReg8 r v).cpl = s.cpl := rfl
@[simp] theorem State.setReg8_flags (r : Reg8) (v : Word) : (s.setReg8 r v).flags = s.flags := rfl
@[simp] theorem State.setReg8_cr0 (r : Reg8) (v : Word) : (s.setReg8 r v).cr0 = s.cr0 := rfl
@[simp] theorem State.setReg8_cr2 (r : Reg8) (v : Word) : (s.setReg8 r v).cr2 = s.cr2 := rfl
@[simp] theorem State.setReg8_cr3 (r : Reg8) (v : Word) : (s.setReg8 r v).cr3 = s.cr3 := rfl
@[simp] theorem State.setReg8_dr0 (r : Reg8) (v : Word) : (s.setReg8 r v).dr0 = s.dr0 := rfl
@[simp] theorem State.setReg8_dr1 (r : Reg8) (v : Word) : (s.setReg8 r v).dr1 = s.dr1 := rfl
@[simp] theorem State.setReg8_dr2 (r : Reg8) (v : Word) : (s.setReg8 r v).dr2 = s.dr2 := rfl
@[simp] theorem State.setReg8_dr3 (r : Reg8) (v : Word) : (s.setReg8 r v).dr3 = s.dr3 := rfl
@[simp] theorem State.setReg8_dr4 (r : Reg8) (v : Word) : (s.setReg8 r v).dr4 = s.dr4 := rfl
@[simp] theorem State.setReg8_dr5 (r : Reg8) (v : Word) : (s.setReg8 r v).dr5 = s.dr5 := rfl
@[simp] theorem State.setReg8_dr6 (r : Reg8) (v : Word) : (s.setReg8 r v).dr6 = s.dr6 := rfl
@[simp] theorem State.setReg8_dr7 (r : Reg8) (v : Word) : (s.setReg8 r v).dr7 = s.dr7 := rfl
@[simp] theorem State.setReg8_gdtr (r : Reg8) (v : Word) : (s.setReg8 r v).gdtr = s.gdtr := rfl
@[simp] theorem State.setReg8_idtr (r : Reg8) (v : Word) : (s.setReg8 r v).idtr = s.idtr := rfl
@[simp] theorem State.setReg8_ldtr (r : Reg8) (v : Word) : (s.setReg8 r v).ldtr = s.ldtr := rfl
@[simp] theorem State.setReg8_tr (r : Reg8) (v : Word) : (s.setReg8 r v).tr = s.tr := rfl
@[simp] theorem State.setReg8_opFlags (r : Reg8) (v : Word) : (s.setReg8 r v).opFlags = s.opFlags := rfl
@[simp] theorem State.setReg8_opPrefixes (r : Reg8) (v : Word) : (s.setReg8 r v).opPrefixes = s.opPrefixes := rfl
@[simp] theorem State.setReg8_regEA (r : Reg8) (v : Word) : (s.setReg8 r v).regEA = s.regEA := rfl
@[simp] theorem State.setReg8_regEAWrite (r : Reg8) (v : Word) : (s.setReg8 r v).regEAWrite = s.regEAWrite := rfl
@[simp] theorem State.setReg8_nFault (r : Reg8) (v : Word) : (s.setReg8 r v).nFault = s.nFault := rfl
@[simp] theorem State.setReg8_intFlags (r : Reg8) (v : Word) : (s.setReg8 r v).intFlags = s.intFlags := rfl
@[simp] theorem State.setReg8_lastOpcode (r : Reg8) (v : Word) : (s.setReg8 r v).lastOpcode = s.lastOpcode := rfl
@[simp] theorem State.setReg8_mem (r : Reg8) (v : Word) : (s.setReg8 r v).mem = s.mem := rfl
@[simp] theorem State.setReg8_noTrap (r : Reg8) (v : Word) : (s.setReg8 r v).noTrap = s.noTrap := rfl
@[simp] theorem State.setReg8_portAnswers (r : Reg8) (v : Word) : (s.setReg8 r v).portAnswers = s.portAnswers := rfl
@[simp] theorem State.setReg8_intAcks (r : Reg8) (v : Word) : (s.setReg8 r v).intAcks = s.intAcks := rfl
@[simp] theorem State.setReg8_oracleCount (r : Reg8) (v : Word) : (s.setReg8 r v).oracleCount = s.oracleCount := rfl
@[simp] theorem State.setReg8_portLog (r : Reg8) (v : Word) : (s.setReg8 r v).portLog = s.portLog := rfl
@[simp] theorem State.setReg8_busLog (r : Reg8) (v : Word) : (s.setReg8 r v).busLog = s.busLog := rfl
@[simp] theorem State.setReg8_copAnswers (r : Reg8) (v : Word) : (s.setReg8 r v).copAnswers = s.copAnswers := rfl
@[simp] theorem State.setReg8_copLog (r : Reg8) (v : Word) : (s.setReg8 r v).copLog = s.copLog := rfl

/-! ### `setPc` -/

@[simp] theorem State.setPc_cfg (v : Word) : (s.setPc v).cfg = s.cfg := rfl
@[simp] theorem State.setPc_gpr (v : Word) : (s.setPc v).gpr = s.gpr := rfl
@[simp] theorem State.setPc_pc (v : Word) : (s.setPc v).pc = v := rfl
@[simp] theorem State.setPc_opLIP (v : Word) : (s.setPc v).opLIP = s.opLIP := rfl
@[simp] theorem State.setPc_es (v : Word) : (s.setPc v).es = s.es := rfl
@[simp] theorem State.setPc_cs (v : Word) : (s.setPc v).cs = s.cs := rfl
@[simp] theorem State.setPc_ss (v : Word) : (s.setPc v).ss = s.ss := rfl
@[simp] theorem State.setPc_ds (v : Word) : (s.setPc v).ds = s.ds := rfl
@[simp] theorem State.setPc_fs (v : Word) : (s.setPc v).fs = s.fs := rfl
@[simp] theorem State.setPc_gs (v : Word) : (s.setPc v).gs = s.gs := rfl
@[simp] theorem State.setPc_cpl (v : Word) : (s.setPc v).cpl = s.cpl := rfl
@[simp] theorem State.setPc_flags (v : Word) : (s.setPc v).flags = s.flags := rfl
@[simp] theorem State.setPc_cr0 (v : Word) : (s.setPc v).cr0 = s.cr0 := rfl
@[simp] theorem State.setPc_cr2 (v : Word) : (s.setPc v).cr2 = s.cr2 := rfl
@[simp] theorem State.setPc_cr3 (v : Word) : (s.setPc v).cr3 = s.cr3 := rfl
@[simp] theorem State.setPc_dr0 (v : Word) : (s.setPc v).dr0 = s.dr0 := rfl
@[simp] theorem State.setPc_dr1 (v : Word) : (s.setPc v).dr1 = s.dr1 := rfl
@[simp] theorem State.setPc_dr2 (v : Word) : (s.setPc v).dr2 = s.dr2 := rfl
@[simp] theorem State.setPc_dr3 (v : Word) : (s.setPc v).dr3 = s.dr3 := rfl
@[simp] theorem State.setPc_dr4 (v : Word) : (s.setPc v).dr4 = s.dr4 := rfl
@[simp] theorem State.setPc_dr5 (v : Word) : (s.setPc v).dr5 = s.dr5 := rfl
@[simp] theorem State.setPc_dr6 (v : Word) : (s.setPc v).dr6 = s.dr6 := rfl
@[simp] theorem State.setPc_dr7 (v : Word) : (s.setPc v).dr7 = s.dr7 := rfl
@[simp] theorem State.setPc_gdtr (v : Word) : (s.setPc v).gdtr = s.gdtr := rfl
@[simp] theorem State.setPc_idtr (v : Word) : (s.setPc v).idtr = s.idtr := rfl
@[simp] theorem State.setPc_ldtr (v : Word) : (s.setPc v).ldtr = s.ldtr := rfl
@[simp] theorem State.setPc_tr (v : Word) : (s.setPc v).tr = s.tr := rfl
@[simp] theorem State.setPc_opFlags (v : Word) : (s.setPc v).opFlags = s.opFlags := rfl
@[simp] theorem State.setPc_opPrefixes (v : Word) : (s.setPc v).opPrefixes = s.opPrefixes := rfl
@[simp] theorem State.setPc_regEA (v : Word) : (s.setPc v).regEA = s.regEA := rfl
@[simp] theorem State.setPc_regEAWrite (v : Word) : (s.setPc v).regEAWrite = s.regEAWrite := rfl
@[simp] theorem State.setPc_nFault (v : Word) : (s.setPc v).nFault = s.nFault := rfl
@[simp] theorem State.setPc_intFlags (v : Word) : (s.setPc v).intFlags = s.intFlags := rfl
@[simp] theorem State.setPc_lastOpcode (v : Word) : (s.setPc v).lastOpcode = s.lastOpcode := rfl
@[simp] theorem State.setPc_mem (v : Word) : (s.setPc v).mem = s.mem := rfl
@[simp] theorem State.setPc_noTrap (v : Word) : (s.setPc v).noTrap = s.noTrap := rfl
@[simp] theorem State.setPc_portAnswers (v : Word) : (s.setPc v).portAnswers = s.portAnswers := rfl
@[simp] theorem State.setPc_intAcks (v : Word) : (s.setPc v).intAcks = s.intAcks := rfl
@[simp] theorem State.setPc_oracleCount (v : Word) : (s.setPc v).oracleCount = s.oracleCount := rfl
@[simp] theorem State.setPc_portLog (v : Word) : (s.setPc v).portLog = s.portLog := rfl
@[simp] theorem State.setPc_busLog (v : Word) : (s.setPc v).busLog = s.busLog := rfl
@[simp] theorem State.setPc_copAnswers (v : Word) : (s.setPc v).copAnswers = s.copAnswers := rfl
@[simp] theorem State.setPc_copLog (v : Word) : (s.setPc v).copLog = s.copLog := rfl

/-! ### `setOpLIP` -/

@[simp] theorem State.setOpLIP_cfg (v : Word) : (s.setOpLIP v).cfg = s.cfg := rfl
@[simp] theorem State.setOpLIP_gpr (v : Word) : (s.setOpLIP v).gpr = s.gpr := rfl
@[simp] theorem State.setOpLIP_pc (v : Word) : (s.setOpLIP v).pc = s.pc := rfl
@[simp] theorem State.setOpLIP_opLIP (v : Word) : (s.setOpLIP v).opLIP = v := rfl
@[simp] theorem State.setOpLIP_es (v : Word) : (s.setOpLIP v).es = s.es := rfl
@[simp] theorem State.setOpLIP_cs (v : Word) : (s.setOpLIP v).cs = s.cs := rfl
@[simp] theorem State.setOpLIP_ss (v : Word) : (s.setOpLIP v).ss = s.ss := rfl
@[simp] theorem State.setOpLIP_ds (v : Word) : (s.setOpLIP v).ds = s.ds := rfl
@[simp] theorem State.setOpLIP_fs (v : Word) : (s.setOpLIP v).fs = s.fs := rfl
@[simp] theorem State.setOpLIP_gs (v : Word) : (s.setOpLIP v).gs = s.gs := rfl
@[simp] theorem State.setOpLIP_cpl (v : Word) : (s.setOpLIP v).cpl = s.cpl := rfl
@[simp] theorem State.setOpLIP_flags (v : Word) : (s.setOpLIP v).flags = s.flags := rfl
@[simp] theorem State.setOpLIP_cr0 (v : Word) : (s.setOpLIP v).cr0 = s.cr0 := rfl
@[simp] theorem State.setOpLIP_cr2 (v : Word) : (s.setOpLIP v).cr2 = s.cr2 := rfl
@[simp] theorem State.setOpLIP_cr3 (v : Word) : (s.setOpLIP v).cr3 = s.cr3 := rfl
@[simp] theorem State.setOpLIP_dr0 (v : Word) : (s.setOpLIP v).dr0 = s.dr0 := rfl
@[simp] theorem State.setOpLIP_dr1 (v : Word) : (s.setOpLIP v).dr1 = s.dr1 := rfl
@[simp] theorem State.setOpLIP_dr2 (v : Word) : (s.setOpLIP v).dr2 = s.dr2 := rfl
@[simp] theorem State.setOpLIP_dr3 (v : Word) : (s.setOpLIP v).dr3 = s.dr3 := rfl
@[simp] theorem State.setOpLIP_dr4 (v : Word) : (s.setOpLIP v).dr4 = s.dr4 := rfl
@[simp] theorem State.setOpLIP_dr5 (v : Word) : (s.setOpLIP v).dr5 = s.dr5 := rfl
@[simp] theorem State.setOpLIP_dr6 (v : Word) : (s.setOpLIP v).dr6 = s.dr6 := rfl
@[simp] theorem State.setOpLIP_dr7 (v : Word) : (s.setOpLIP v).dr7 = s.dr7 := rfl
@[simp] theorem State.setOpLIP_gdtr (v : Word) : (s.setOpLIP v).gdtr = s.gdtr := rfl
@[simp] theorem State.setOpLIP_idtr (v : Word) : (s.setOpLIP v).idtr = s.idtr := rfl
@[simp] theorem State.setOpLIP_ldtr (v : Word) : (s.setOpLIP v).ldtr = s.ldtr := rfl
@[simp] theorem State.setOpLIP_tr (v : Word) : (s.setOpLIP v).tr = s.tr := rfl
@[simp] theorem State.setOpLIP_opFlags (v : Word) : (s.setOpLIP v).opFlags = s.opFlags := rfl
@[simp] theorem State.setOpLIP_opPrefixes (v : Word) : (s.setOpLIP v).opPrefixes = s.opPrefixes := rfl
@[simp] theorem State.setOpLIP_regEA (v : Word) : (s.setOpLIP v).regEA = s.regEA := rfl
@[simp] theorem State.setOpLIP_regEAWrite (v : Word) : (s.setOpLIP v).regEAWrite = s.regEAWrite := rfl
@[simp] theorem State.setOpLIP_nFault (v : Word) : (s.setOpLIP v).nFault = s.nFault := rfl
@[simp] theorem State.setOpLIP_intFlags (v : Word) : (s.setOpLIP v).intFlags = s.intFlags := rfl
@[simp] theorem State.setOpLIP_lastOpcode (v : Word) : (s.setOpLIP v).lastOpcode = s.lastOpcode := rfl
@[simp] theorem State.setOpLIP_mem (v : Word) : (s.setOpLIP v).mem = s.mem := rfl
@[simp] theorem State.setOpLIP_noTrap (v : Word) : (s.setOpLIP v).noTrap = s.noTrap := rfl
@[simp] theorem State.setOpLIP_portAnswers (v : Word) : (s.setOpLIP v).portAnswers = s.portAnswers := rfl
@[simp] theorem State.setOpLIP_intAcks (v : Word) : (s.setOpLIP v).intAcks = s.intAcks := rfl
@[simp] theorem State.setOpLIP_oracleCount (v : Word) : (s.setOpLIP v).oracleCount = s.oracleCount := rfl
@[simp] theorem State.setOpLIP_portLog (v : Word) : (s.setOpLIP v).portLog = s.portLog := rfl
@[simp] theorem State.setOpLIP_busLog (v : Word) : (s.setOpLIP v).busLog = s.busLog := rfl
@[simp] theorem State.setOpLIP_copAnswers (v : Word) : (s.setOpLIP v).copAnswers = s.copAnswers := rfl
@[simp] theorem State.setOpLIP_copLog (v : Word) : (s.setOpLIP v).copLog = s.copLog := rfl

/-! ### `setCr0` -/

@[simp] theorem State.setCr0_cfg (v : Word) : (s.setCr0 v).cfg = s.cfg := rfl
@[simp] theorem State.setCr0_gpr (v : Word) : (s.setCr0 v).gpr = s.gpr := rfl
@[simp] theorem State.setCr0_pc (v : Word) : (s.setCr0 v).pc = s.pc := rfl
@[simp] theorem State.setCr0_opLIP (v : Word) : (s.setCr0 v).opLIP = s.opLIP := rfl
@[simp] theorem State.setCr0_es (v : Word) : (s.setCr0 v).es = s.es := rfl
@[simp] theorem State.setCr0_cs (v : Word) : (s.setCr0 v).cs = s.cs := rfl
@[simp] theorem State.setCr0_ss (v : Word) : (s.setCr0 v).ss = s.ss := rfl
@[simp] theorem State.setCr0_ds (v : Word) : (s.setCr0 v).ds = s.ds := rfl
@[simp] theorem State.setCr0_fs (v : Word) : (s.setCr0 v).fs = s.fs := rfl
@[simp] theorem State.setCr0_gs (v : Word) : (s.setCr0 v).gs = s.gs := rfl
@[simp] theorem State.setCr0_cpl (v : Word) : (s.setCr0 v).cpl = s.cpl := rfl
@[simp] theorem State.setCr0_flags (v : Word) : (s.setCr0 v).flags = s.flags := rfl
@[simp] theorem State.setCr0_cr0 (v : Word) : (s.setCr0 v).cr0 = v := rfl
@[simp] theorem State.setCr0_cr2 (v : Word) : (s.setCr0 v).cr2 = s.cr2 := rfl
@[simp] theorem State.setCr0_cr3 (v : Word) : (s.setCr0 v).cr3 = s.cr3 := rfl
@[simp] theorem State.setCr0_dr0 (v : Word) : (s.setCr0 v).dr0 = s.dr0 := rfl
@[simp] theorem State.setCr0_dr1 (v : Word) : (s.setCr0 v).dr1 = s.dr1 := rfl
@[simp] theorem State.setCr0_dr2 (v : Word) : (s.setCr0 v).dr2 = s.dr2 := rfl
@[simp] theorem State.setCr0_dr3 (v : Word) : (s.setCr0 v).dr3 = s.dr3 := rfl
@[simp] theorem State.setCr0_dr4 (v : Word) : (s.setCr0 v).dr4 = s.dr4 := rfl
@[simp] theorem State.setCr0_dr5 (v : Word) : (s.setCr0 v).dr5 = s.dr5 := rfl
@[simp] theorem State.setCr0_dr6 (v : Word) : (s.setCr0 v).dr6 = s.dr6 := rfl
@[simp] theorem State.setCr0_dr7 (v : Word) : (s.setCr0 v).dr7 = s.dr7 := rfl
@[simp] theorem State.setCr0_gdtr (v : Word) : (s.setCr0 v).gdtr = s.gdtr := rfl
@[simp] theorem State.setCr0_idtr (v : Word) : (s.setCr0 v).idtr = s.idtr := rfl
@[simp] theorem State.setCr0_ldtr (v : Word) : (s.setCr0 v).ldtr = s.ldtr := rfl
@[simp] theorem State.setCr0_tr (v : Word) : (s.setCr0 v).tr = s.tr := rfl
@[simp] theorem State.setCr0_opFlags (v : Word) : (s.setCr0 v).opFlags = s.opFlags := rfl
@[simp] theorem State.setCr0_opPrefixes (v : Word) : (s.setCr0 v).opPrefixes = s.opPrefixes := rfl
@[simp] theorem State.setCr0_regEA (v : Word) : (s.setCr0 v).regEA = s.regEA := rfl
@[simp] theorem State.setCr0_regEAWrite (v : Word) : (s.setCr0 v).regEAWrite = s.regEAWrite := rfl
@[simp] theorem State.setCr0_nFault (v : Word) : (s.setCr0 v).nFault = s.nFault := rfl
@[simp] theorem State.setCr0_intFlags (v : Word) : (s.setCr0 v).intFlags = s.intFlags := rfl
@[simp] theorem State.setCr0_lastOpcode (v : Word) : (s.setCr0 v).lastOpcode = s.lastOpcode := rfl
@[simp] theorem State.setCr0_mem (v : Word) : (s.setCr0 v).mem = s.mem := rfl
@[simp] theorem State.setCr0_noTrap (v : Word) : (s.setCr0 v).noTrap = s.noTrap := rfl
@[simp] theorem State.setCr0_portAnswers (v : Word) : (s.setCr0 v).portAnswers = s.portAnswers := rfl
@[simp] theorem State.setCr0_intAcks (v : Word) : (s.setCr0 v).intAcks = s.intAcks := rfl
@[simp] theorem State.setCr0_oracleCount (v : Word) : (s.setCr0 v).oracleCount = s.oracleCount := rfl
@[simp] theorem State.setCr0_portLog (v : Word) : (s.setCr0 v).portLog = s.portLog := rfl
@[simp] theorem State.setCr0_busLog (v : Word) : (s.setCr0 v).busLog = s.busLog := rfl
@[simp] theorem State.setCr0_copAnswers (v : Word) : (s.setCr0 v).copAnswers = s.copAnswers := rfl
@[simp] theorem State.setCr0_copLog (v : Word) : (s.setCr0 v).copLog = s.copLog := rfl

/-! ### `setCr2` -/

@[simp] theorem State.setCr2_cfg (v : Word) : (s.setCr2 v).cfg = s.cfg := rfl
@[simp] theorem State.setCr2_gpr (v : Word) : (s.setCr2 v).gpr = s.gpr := rfl
@[simp] theorem State.setCr2_pc (v : Word) : (s.setCr2 v).pc = s.pc := rfl
@[simp] theorem State.setCr2_opLIP (v : Word) : (s.setCr2 v).opLIP = s.opLIP := rfl
@[simp] theorem State.setCr2_es (v : Word) : (s.setCr2 v).es = s.es := rfl
@[simp] theorem State.setCr2_cs (v : Word) : (s.setCr2 v).cs = s.cs := rfl
@[simp] theorem State.setCr2_ss (v : Word) : (s.setCr2 v).ss = s.ss := rfl
@[simp] theorem State.setCr2_ds (v : Word) : (s.setCr2 v).ds = s.ds := rfl
@[simp] theorem State.setCr2_fs (v : Word) : (s.setCr2 v).fs = s.fs := rfl
@[simp] theorem State.setCr2_gs (v : Word) : (s.setCr2 v).gs = s.gs := rfl
@[simp] theorem State.setCr2_cpl (v : Word) : (s.setCr2 v).cpl = s.cpl := rfl
@[simp] theorem State.setCr2_flags (v : Word) : (s.setCr2 v).flags = s.flags := rfl
@[simp] theorem State.setCr2_cr0 (v : Word) : (s.setCr2 v).cr0 = s.cr0 := rfl
@[simp] theorem State.setCr2_cr2 (v : Word) : (s.setCr2 v).cr2 = v := rfl
@[simp] theorem State.setCr2_cr3 (v : Word) : (s.setCr2 v).cr3 = s.cr3 := rfl
@[simp] theorem State.setCr2_dr0 (v : Word) : (s.setCr2 v).dr0 = s.dr0 := rfl
@[simp] theorem State.setCr2_dr1 (v : Word) : (s.setCr2 v).dr1 = s.dr1 := rfl
@[simp] theorem State.setCr2_dr2 (v : Word) : (s.setCr2 v).dr2 = s.dr2 := rfl
@[simp] theorem State.setCr2_dr3 (v : Word) : (s.setCr2 v).dr3 = s.dr3 := rfl
@[simp] theorem State.setCr2_dr4 (v : Word) : (s.setCr2 v).dr4 = s.dr4 := rfl
@[simp] theorem State.setCr2_dr5 (v : Word) : (s.setCr2 v).dr5 = s.dr5 := rfl
@[simp] theorem State.setCr2_dr6 (v : Word) : (s.setCr2 v).dr6 = s.dr6 := rfl
@[simp] theorem State.setCr2_dr7 (v : Word) : (s.setCr2 v).dr7 = s.dr7 := rfl
@[simp] theorem State.setCr2_gdtr (v : Word) : (s.setCr2 v).gdtr = s.gdtr := rfl
@[simp] theorem State.setCr2_idtr (v : Word) : (s.setCr2 v).idtr = s.idtr := rfl
@[simp] theorem State.setCr2_ldtr (v : Word) : (s.setCr2 v).ldtr = s.ldtr := rfl
@[simp] theorem State.setCr2_tr (v : Word) : (s.setCr2 v).tr = s.tr := rfl
@[simp] theorem State.setCr2_opFlags (v : Word) : (s.setCr2 v).opFlags = s.opFlags := rfl
@[simp] theorem State.setCr2_opPrefixes (v : Word) : (s.setCr2 v).opPrefixes = s.opPrefixes := rfl
@[simp] theorem State.setCr2_regEA (v : Word) : (s.setCr2 v).regEA = s.regEA := rfl
@[simp] theorem State.setCr2_regEAWrite (v : Word) : (s.setCr2 v).regEAWrite = s.regEAWrite := rfl
@[simp] theorem State.setCr2_nFault (v : Word) : (s.setCr2 v).nFault = s.nFault := rfl
@[simp] theorem State.setCr2_intFlags (v : Word) : (s.setCr2 v).intFlags = s.intFlags := rfl
@[simp] theorem State.setCr2_lastOpcode (v : Word) : (s.setCr2 v).lastOpcode = s.lastOpcode := rfl
@[simp] theorem State.setCr2_mem (v : Word) : (s.setCr2 v).mem = s.mem := rfl
@[simp] theorem State.setCr2_noTrap (v : Word) : (s.setCr2 v).noTrap = s.noTrap := rfl
@[simp] theorem State.setCr2_portAnswers (v : Word) : (s.setCr2 v).portAnswers = s.portAnswers := rfl
@[simp] theorem State.setCr2_intAcks (v : Word) : (s.setCr2 v).intAcks = s.intAcks := rfl
@[simp] theorem State.setCr2_oracleCount (v : Word) : (s.setCr2 v).oracleCount = s.oracleCount := rfl
@[simp] theorem State.setCr2_portLog (v : Word) : (s.setCr2 v).portLog = s.portLog := rfl
@[simp] theorem State.setCr2_busLog (v : Word) : (s.setCr2 v).busLog = s.busLog := rfl
@[simp] theorem State.setCr2_copAnswers (v : Word) : (s.setCr2 v).copAnswers = s.copAnswers := rfl
@[simp] theorem State.setCr2_copLog (v : Word) : (s.setCr2 v).copLog = s.copLog := rfl

/-! ### `setCr3` -/

@[simp] theorem State.setCr3_cfg (v : Word) : (s.setCr3 v).cfg = s.cfg := rfl
@[simp] theorem State.setCr3_gpr (v : Word) : (s.setCr3 v).gpr = s.gpr := rfl
@[simp] theorem State.setCr3_pc (v : Word) : (s.setCr3 v).pc = s.pc := rfl
@[simp] theorem State.setCr3_opLIP (v : Word) : (s.setCr3 v).opLIP = s.opLIP := rfl
@[simp] theorem State.setCr3_es (v : Word) : (s.setCr3 v).es = s.es := rfl
@[simp] theorem State.setCr3_cs (v : Word) : (s.setCr3 v).cs = s.cs := rfl
@[simp] theorem State.setCr3_ss (v : Word) : (s.setCr3 v).ss = s.ss := rfl
@[simp] theorem State.setCr3_ds (v : Word) : (s.setCr3 v).ds = s.ds := rfl
@[simp] theorem State.setCr3_fs (v : Word) : (s.setCr3 v).fs = s.fs := rfl
@[simp] theorem State.setCr3_gs (v : Word) : (s.setCr3 v).gs = s.gs := rfl
@[simp] theorem State.setCr3_cpl (v : Word) : (s.setCr3 v).cpl = s.cpl := rfl
@[simp] theorem State.setCr3_flags (v : Word) : (s.setCr3 v).flags = s.flags := rfl
@[simp] theorem State.setCr3_cr0 (v : Word) : (s.setCr3 v).cr0 = s.cr0 := rfl
@[simp] theorem State.setCr3_cr2 (v : Word) : (s.setCr3 v).cr2 = s.cr2 := rfl
@[simp] theorem State.setCr3_cr3 (v : Word) : (s.setCr3 v).cr3 = v := rfl
@[simp] theorem State.setCr3_dr0 (v : Word) : (s.setCr3 v).dr0 = s.dr0 := rfl
@[simp] theorem State.setCr3_dr1 (v : Word) : (s.setCr3 v).dr1 = s.dr1 := rfl
@[simp] theorem State.setCr3_dr2 (v : Word) : (s.setCr3 v).dr2 = s.dr2 := rfl
@[simp] theorem State.setCr3_dr3 (v : Word) : (s.setCr3 v).dr3 = s.dr3 := rfl
@[simp] theorem State.setCr3_dr4 (v : Word) : (s.setCr3 v).dr4 = s.dr4 := rfl
@[simp] theorem State.setCr3_dr5 (v : Word) : (s.setCr3 v).dr5 = s.dr5 := rfl
@[simp] theorem State.setCr3_dr6 (v : Word) : (s.setCr3 v).dr6 = s.dr6 := rfl
@[simp] theorem State.setCr3_dr7 (v : Word) : (s.setCr3 v).dr7 = s.dr7 := rfl
@[simp] theorem State.setCr3_gdtr (v : Word) : (s.setCr3 v).gdtr = s.gdtr := rfl
@[simp] theorem State.setCr3_idtr (v : Word) : (s.setCr3 v).idtr = s.idtr := rfl
@[simp] theorem State.setCr3_ldtr (v : Word) : (s.setCr3 v).ldtr = s.ldtr := rfl
@[simp] theorem State.setCr3_tr (v : Word) : (s.setCr3 v).tr = s.tr := rfl
@[simp] theorem State.setCr3_opFlags (v : Word) : (s.setCr3 v).opFlags = s.opFlags := rfl
@[simp] theorem State.setCr3_opPrefixes (v : Word) : (s.setCr3 v).opPrefixes = s.opPrefixes := rfl
@[simp] theorem State.setCr3_regEA (v : Word) : (s.setCr3 v).regEA = s.regEA := rfl
@[simp] theorem State.setCr3_regEAWrite (v : Word) : (s.setCr3 v).regEAWrite = s.regEAWrite := rfl
@[simp] theorem State.setCr3_nFault (v : Word) : (s.setCr3 v).nFault = s.nFault := rfl
@[simp] theorem State.setCr3_intFlags (v : Word) : (s.setCr3 v).intFlags = s.intFlags := rfl
@[simp] theorem State.setCr3_lastOpcode (v : Word) : (s.setCr3 v).lastOpcode = s.lastOpcode := rfl
@[simp] theorem State.setCr3_mem (v : Word) : (s.setCr3 v).mem = s.mem := rfl
@[simp] theorem State.setCr3_noTrap (v : Word) : (s.setCr3 v).noTrap = s.noTrap := rfl
@[simp] theorem State.setCr3_portAnswers (v : Word) : (s.setCr3 v).portAnswers = s.portAnswers := rfl
@[simp] theorem State.setCr3_intAcks (v : Word) : (s.setCr3 v).intAcks = s.intAcks := rfl
@[simp] theorem State.setCr3_oracleCount (v : Word) : (s.setCr3 v).oracleCount = s.oracleCount := rfl
@[simp] theorem State.setCr3_portLog (v : Word) : (s.setCr3 v).portLog = s.portLog := rfl
@[simp] theorem State.setCr3_busLog (v : Word) : (s.setCr3 v).busLog = s.busLog := rfl
@[simp] theorem State.setCr3_copAnswers (v : Word) : (s.setCr3 v).copAnswers = s.copAnswers := rfl
@[simp] theorem State.setCr3_copLog (v : Word) : (s.setCr3 v).copLog = s.copLog := rfl

/-! ### `setGdtr` -/

@[simp] theorem State.setGdtr_cfg (v : TableReg) : (s.setGdtr v).cfg = s.cfg := rfl
@[simp] theorem State.setGdtr_gpr (v : TableReg) : (s.setGdtr v).gpr = s.gpr := rfl
@[simp] theorem State.setGdtr_pc (v : TableReg) : (s.setGdtr v).pc = s.pc := rfl
@[simp] theorem State.setGdtr_opLIP (v : TableReg) : (s.setGdtr v).opLIP = s.opLIP := rfl
@[simp] theorem State.setGdtr_es (v : TableReg) : (s.setGdtr v).es = s.es := rfl
@[simp] theorem State.setGdtr_cs (v : TableReg) : (s.setGdtr v).cs = s.cs := rfl
@[simp] theorem State.setGdtr_ss (v : TableReg) : (s.setGdtr v).ss = s.ss := rfl
@[simp] theorem State.setGdtr_ds (v : TableReg) : (s.setGdtr v).ds = s.ds := rfl
@[simp] theorem State.setGdtr_fs (v : TableReg) : (s.setGdtr v).fs = s.fs := rfl
@[simp] theorem State.setGdtr_gs (v : TableReg) : (s.setGdtr v).gs = s.gs := rfl
@[simp] theorem State.setGdtr_cpl (v : TableReg) : (s.setGdtr v).cpl = s.cpl := rfl
@[simp] theorem State.setGdtr_flags (v : TableReg) : (s.setGdtr v).flags = s.flags := rfl
@[simp] theorem State.setGdtr_cr0 (v : TableReg) : (s.setGdtr v).cr0 = s.cr0 := rfl
@[simp] theorem State.setGdtr_cr2 (v : TableReg) : (s.setGdtr v).cr2 = s.cr2 := rfl
@[simp] theorem State.setGdtr_cr3 (v : TableReg) : (s.setGdtr v).cr3 = s.cr3 := rfl
@[simp] theorem State.setGdtr_dr0 (v : TableReg) : (s.setGdtr v).dr0 = s.dr0 := rfl
@[simp] theorem State.setGdtr_dr1 (v : TableReg) : (s.setGdtr v).dr1 = s.dr1 := rfl
@[simp] theorem State.setGdtr_dr2 (v : TableReg) : (s.setGdtr v).dr2 = s.dr2 := rfl
@[simp] theorem State.setGdtr_dr3 (v : TableReg) : (s.setGdtr v).dr3 = s.dr3 := rfl
@[simp] theorem State.setGdtr_dr4 (v : TableReg) : (s.setGdtr v).dr4 = s.dr4 := rfl
@[simp] theorem State.setGdtr_dr5 (v : TableReg) : (s.setGdtr v).dr5 = s.dr5 := rfl
@[simp] theorem State.setGdtr_dr6 (v : TableReg) : (s.setGdtr v).dr6 = s.dr6 := rfl
@[simp] theorem State.setGdtr_dr7 (v : TableReg) : (s.setGdtr v).dr7 = s.dr7 := rfl
@[simp] theorem State.setGdtr_gdtr (v : TableReg) : (s.setGdtr v).gdtr = v := rfl
@[simp] theorem State.setGdtr_idtr (v : TableReg) : (s.setGdtr v).idtr = s.idtr := rfl
@[simp] theorem State.setGdtr_ldtr (v : TableReg) : (s.setGdtr v).ldtr = s.ldtr := rfl
@[simp] theorem State.setGdtr_tr (v : TableReg) : (s.setGdtr v).tr = s.tr := rfl
@[simp] theorem State.setGdtr_opFlags (v : TableReg) : (s.setGdtr v).opFlags = s.opFlags := rfl
@[simp] theorem State.setGdtr_opPrefixes (v : TableReg) : (s.setGdtr v).opPrefixes = s.opPrefixes := rfl
@[simp] theorem State.setGdtr_regEA (v : TableReg) : (s.setGdtr v).regEA = s.regEA := rfl
@[simp] theorem State.setGdtr_regEAWrite (v : TableReg) : (s.setGdtr v).regEAWrite = s.regEAWrite := rfl
@[simp] theorem State.setGdtr_nFault (v : TableReg) : (s.setGdtr v).nFault = s.nFault := rfl
@[simp] theorem State.setGdtr_intFlags (v : TableReg) : (s.setGdtr v).intFlags = s.intFlags := rfl
@[simp] theorem State.setGdtr_lastOpcode (v : TableReg) : (s.setGdtr v).lastOpcode = s.lastOpcode := rfl
@[simp] theorem State.setGdtr_mem (v : TableReg) : (s.setGdtr v).mem = s.mem := rfl
@[simp] theorem State.setGdtr_noTrap (v : TableReg) : (s.setGdtr v).noTrap = s.noTrap := rfl
@[simp] theorem State.setGdtr_portAnswers (v : TableReg) : (s.setGdtr v).portAnswers = s.portAnswers := rfl
@[simp] theorem State.setGdtr_intAcks (v : TableReg) : (s.setGdtr v).intAcks = s.intAcks := rfl
@[simp] theorem State.setGdtr_oracleCount (v : TableReg) : (s.setGdtr v).oracleCount = s.oracleCount := rfl
@[simp] theorem State.setGdtr_portLog (v : TableReg) : (s.setGdtr v).portLog = s.portLog := rfl
@[simp] theorem State.setGdtr_busLog (v : TableReg) : (s.setGdtr v).busLog = s.busLog := rfl
@[simp] theorem State.setGdtr_copAnswers (v : TableReg) : (s.setGdtr v).copAnswers = s.copAnswers := rfl
@[simp] theorem State.setGdtr_copLog (v : TableReg) : (s.setGdtr v).copLog = s.copLog := rfl

/-! ### `setIdtr` -/

@[simp] theorem State.setIdtr_cfg (v : TableReg) : (s.setIdtr v).cfg = s.cfg := rfl
@[simp] theorem State.setIdtr_gpr (v : TableReg) : (s.setIdtr v).gpr = s.gpr := rfl
@[simp] theorem State.setIdtr_pc (v : TableReg) : (s.setIdtr v).pc = s.pc := rfl
@[simp] theorem State.setIdtr_opLIP (v : TableReg) : (s.setIdtr v).opLIP = s.opLIP := rfl
@[simp] theorem State.setIdtr_es (v : TableReg) : (s.setIdtr v).es = s.es := rfl
@[simp] theorem State.setIdtr_cs (v : TableReg) : (s.setIdtr v).cs = s.cs := rfl
@[simp] theorem State.setIdtr_ss (v : TableReg) : (s.setIdtr v).ss = s.ss := rfl
@[simp] theorem State.setIdtr_ds (v : TableReg) : (s.setIdtr v).ds = s.ds := rfl
@[simp] theorem State.setIdtr_fs (v : TableReg) : (s.setIdtr v).fs = s.fs := rfl
@[simp] theorem State.setIdtr_gs (v : TableReg) : (s.setIdtr v).gs = s.gs := rfl
@[simp] theorem State.setIdtr_cpl (v : TableReg) : (s.setIdtr v).cpl = s.cpl := rfl
@[simp] theorem State.setIdtr_flags (v : TableReg) : (s.setIdtr v).flags = s.flags := rfl
@[simp] theorem State.setIdtr_cr0 (v : TableReg) : (s.setIdtr v).cr0 = s.cr0 := rfl
@[simp] theorem State.setIdtr_cr2 (v : TableReg) : (s.setIdtr v).cr2 = s.cr2 := rfl
@[simp] theorem State.setIdtr_cr3 (v : TableReg) : (s.setIdtr v).cr3 = s.cr3 := rfl
@[simp] theorem State.setIdtr_dr0 (v : TableReg) : (s.setIdtr v).dr0 = s.dr0 := rfl
@[simp] theorem State.setIdtr_dr1 (v : TableReg) : (s.setIdtr v).dr1 = s.dr1 := rfl
@[simp] theorem State.setIdtr_dr2 (v : TableReg) : (s.setIdtr v).dr2 = s.dr2 := rfl
@[simp] theorem State.setIdtr_dr3 (v : TableReg) : (s.setIdtr v).dr3 = s.dr3 := rfl
@[simp] theorem State.setIdtr_dr4 (v : TableReg) : (s.setIdtr v).dr4 = s.dr4 := rfl
@[simp] theorem State.setIdtr_dr5 (v : TableReg) : (s.setIdtr v).dr5 = s.dr5 := rfl
@[simp] theorem State.setIdtr_dr6 (v : TableReg) : (s.setIdtr v).dr6 = s.dr6 := rfl
@[simp] theorem State.setIdtr_dr7 (v : TableReg) : (s.setIdtr v).dr7 = s.dr7 := rfl
@[simp] theorem State.setIdtr_gdtr (v : TableReg) : (s.setIdtr v).gdtr = s.gdtr := rfl
@[simp] theorem State.setIdtr_idtr (v : TableReg) : (s.setIdtr v).idtr = v := rfl
@[simp] theorem State.setIdtr_ldtr (v : TableReg) : (s.setIdtr v).ldtr = s.ldtr := rfl
@[simp] theorem State.setIdtr_tr (v : TableReg) : (s.setIdtr v).tr = s.tr := rfl
@[simp] theorem State.setIdtr_opFlags (v : TableReg) : (s.setIdtr v).opFlags = s.opFlags := rfl
@[simp] theorem State.setIdtr_opPrefixes (v : TableReg) : (s.setIdtr v).opPrefixes = s.opPrefixes := rfl
@[simp] theorem State.setIdtr_regEA (v : TableReg) : (s.setIdtr v).regEA = s.regEA := rfl
@[simp] theorem State.setIdtr_regEAWrite (v : TableReg) : (s.setIdtr v).regEAWrite = s.regEAWrite := rfl
@[simp] theorem State.setIdtr_nFault (v : TableReg) : (s.setIdtr v).nFault = s.nFault := rfl
@[simp] theorem State.setIdtr_intFlags (v : TableReg) : (s.setIdtr v).intFlags = s.intFlags := rfl
@[simp] theorem State.setIdtr_lastOpcode (v : TableReg) : (s.setIdtr v).lastOpcode = s.lastOpcode := rfl
@[simp] theorem State.setIdtr_mem (v : TableReg) : (s.setIdtr v).mem = s.mem := rfl
@[simp] theorem State.setIdtr_noTrap (v : TableReg) : (s.setIdtr v).noTrap = s.noTrap := rfl
@[simp] theorem State.setIdtr_portAnswers (v : TableReg) : (s.setIdtr v).portAnswers = s.portAnswers := rfl
@[simp] theorem State.setIdtr_intAcks (v : TableReg) : (s.setIdtr v).intAcks = s.intAcks := rfl
@[simp] theorem State.setIdtr_oracleCount (v : TableReg) : (s.setIdtr v).oracleCount = s.oracleCount := rfl
@[simp] theorem State.setIdtr_portLog (v : TableReg) : (s.setIdtr v).portLog = s.portLog := rfl
@[simp] theorem State.setIdtr_busLog (v : TableReg) : (s.setIdtr v).busLog = s.busLog := rfl
@[simp] theorem State.setIdtr_copAnswers (v : TableReg) : (s.setIdtr v).copAnswers = s.copAnswers := rfl
@[simp] theorem State.setIdtr_copLog (v : TableReg) : (s.setIdtr v).copLog = s.copLog := rfl

/-! ### `setHalt` -/

@[simp] theorem State.setHalt_cfg (v : Bool) : (s.setHalt v).cfg = s.cfg := rfl
@[simp] theorem State.setHalt_gpr (v : Bool) : (s.setHalt v).gpr = s.gpr := rfl
@[simp] theorem State.setHalt_pc (v : Bool) : (s.setHalt v).pc = s.pc := rfl
@[simp] theorem State.setHalt_opLIP (v : Bool) : (s.setHalt v).opLIP = s.opLIP := rfl
@[simp] theorem State.setHalt_es (v : Bool) : (s.setHalt v).es = s.es := rfl
@[simp] theorem State.setHalt_cs (v : Bool) : (s.setHalt v).cs = s.cs := rfl
@[simp] theorem State.setHalt_ss (v : Bool) : (s.setHalt v).ss = s.ss := rfl
@[simp] theorem State.setHalt_ds (v : Bool) : (s.setHalt v).ds = s.ds := rfl
@[simp] theorem State.setHalt_fs (v : Bool) : (s.setHalt v).fs = s.fs := rfl
@[simp] theorem State.setHalt_gs (v : Bool) : (s.setHalt v).gs = s.gs := rfl
@[simp] theorem State.setHalt_cpl (v : Bool) : (s.setHalt v).cpl = s.cpl := rfl
@[simp] theorem State.setHalt_flags (v : Bool) : (s.setHalt v).flags = s.flags := rfl
@[simp] theorem State.setHalt_cr0 (v : Bool) : (s.setHalt v).cr0 = s.cr0 := rfl
@[simp] theorem State.setHalt_cr2 (v : Bool) : (s.setHalt v).cr2 = s.cr2 := rfl
@[simp] theorem State.setHalt_cr3 (v : Bool) : (s.setHalt v).cr3 = s.cr3 := rfl
@[simp] theorem State.setHalt_dr0 (v : Bool) : (s.setHalt v).dr0 = s.dr0 := rfl
@[simp] theorem State.setHalt_dr1 (v : Bool) : (s.setHalt v).dr1 = s.dr1 := rfl
@[simp] theorem State.setHalt_dr2 (v : Bool) : (s.setHalt v).dr2 = s.dr2 := rfl
@[simp] theorem State.setHalt_dr3 (v : Bool) : (s.setHalt v).dr3 = s.dr3 := rfl
@[simp] theorem State.setHalt_dr4 (v : Bool) : (s.setHalt v).dr4 = s.dr4 := rfl
@[simp] theorem State.setHalt_dr5 (v : Bool) : (s.setHalt v).dr5 = s.dr5 := rfl
@[simp] theorem State.setHalt_dr6 (v : Bool) : (s.setHalt v).dr6 = s.dr6 := rfl
@[simp] theorem State.setHalt_dr7 (v : Bool) : (s.setHalt v).dr7 = s.dr7 := rfl
@[simp] theorem State.setHalt_gdtr (v : Bool) : (s.setHalt v).gdtr = s.gdtr := rfl
@[simp] theorem State.setHalt_idtr (v : Bool) : (s.setHalt v).idtr = s.idtr := rfl
@[simp] theorem State.setHalt_ldtr (v : Bool) : (s.setHalt v).ldtr = s.ldtr := rfl
@[simp] theorem State.setHalt_tr (v : Bool) : (s.setHalt v).tr = s.tr := rfl
@[simp] theorem State.setHalt_opFlags (v : Bool) : (s.setHalt v).opFlags = s.opFlags := rfl
@[simp] theorem State.setHalt_opPrefixes (v : Bool) : (s.setHalt v).opPrefixes = s.opPrefixes := rfl
@[simp] theorem State.setHalt_regEA (v : Bool) : (s.setHalt v).regEA = s.regEA := rfl
@[simp] theorem State.setHalt_regEAWrite (v : Bool) : (s.setHalt v).regEAWrite = s.regEAWrite := rfl
@[simp] theorem State.setHalt_nFault (v : Bool) : (s.setHalt v).nFault = s.nFault := rfl
@[simp] theorem State.setHalt_intFlags (v : Bool) : (s.setHalt v).intFlags = { s.intFlags with halt := v } := rfl
@[simp] theorem State.setHalt_lastOpcode (v : Bool) : (s.setHalt v).lastOpcode = s.lastOpcode := rfl
@[simp] theorem State.setHalt_mem (v : Bool) : (s.setHalt v).mem = s.mem := rfl
@[simp] theorem State.setHalt_noTrap (v : Bool) : (s.setHalt v).noTrap = s.noTrap := rfl
@[simp] theorem State.setHalt_portAnswers (v : Bool) : (s.setHalt v).portAnswers = s.portAnswers := rfl
@[simp] theorem State.setHalt_intAcks (v : Bool) : (s.setHalt v).intAcks = s.intAcks := rfl
@[simp] theorem State.setHalt_oracleCount (v : Bool) : (s.setHalt v).oracleCount = s.oracleCount := rfl
@[simp] theorem State.setHalt_portLog (v : Bool) : (s.setHalt v).portLog = s.portLog := rfl
@[simp] theorem State.setHalt_busLog (v : Bool) : (s.setHalt v).busLog = s.busLog := rfl
@[simp] theorem State.setHalt_copAnswers (v : Bool) : (s.setHalt v).copAnswers = s.copAnswers := rfl
@[simp] theorem State.setHalt_copLog (v : Bool) : (s.setHalt v).copLog = s.copLog := rfl

/-! ### `setNoWrite` -/

@[simp] theorem State.setNoWrite_cfg (v : Bool) : (s.setNoWrite v).cfg = s.cfg := rfl
@[simp] theorem State.setNoWrite_gpr (v : Bool) : (s.setNoWrite v).gpr = s.gpr := rfl
@[simp] theorem State.setNoWrite_pc (v : Bool) : (s.setNoWrite v).pc = s.pc := rfl
@[simp] theorem State.setNoWrite_opLIP (v : Bool) : (s.setNoWrite v).opLIP = s.opLIP := rfl
@[simp] theorem State.setNoWrite_es (v : Bool) : (s.setNoWrite v).es = s.es := rfl
@[simp] theorem State.setNoWrite_cs (v : Bool) : (s.setNoWrite v).cs = s.cs := rfl
@[simp] theorem State.setNoWrite_ss (v : Bool) : (s.setNoWrite v).ss = s.ss := rfl
@[simp] theorem State.setNoWrite_ds (v : Bool) : (s.setNoWrite v).ds = s.ds := rfl
@[simp] theorem State.setNoWrite_fs (v : Bool) : (s.setNoWrite v).fs = s.fs := rfl
@[simp] theorem State.setNoWrite_gs (v : Bool) : (s.setNoWrite v).gs = s.gs := rfl
@[simp] theorem State.setNoWrite_cpl (v : Bool) : (s.setNoWrite v).cpl = s.cpl := rfl
@[simp] theorem State.setNoWrite_flags (v : Bool) : (s.setNoWrite v).flags = s.flags := rfl
@[simp] theorem State.setNoWrite_cr0 (v : Bool) : (s.setNoWrite v).cr0 = s.cr0 := rfl
@[simp] theorem State.setNoWrite_cr2 (v : Bool) : (s.setNoWrite v).cr2 = s.cr2 := rfl
@[simp] theorem State.setNoWrite_cr3 (v : Bool) : (s.setNoWrite v).cr3 = s.cr3 := rfl
@[simp] theorem State.setNoWrite_dr0 (v : Bool) : (s.setNoWrite v).dr0 = s.dr0 := rfl
@[simp] theorem State.setNoWrite_dr1 (v : Bool) : (s.setNoWrite v).dr1 = s.dr1 := rfl
@[simp] theorem State.setNoWrite_dr2 (v : Bool) : (s.setNoWrite v).dr2 = s.dr2 := rfl
@[simp] theorem State.setNoWrite_dr3 (v : Bool) : (s.setNoWrite v).dr3 = s.dr3 := rfl
@[simp] theorem State.setNoWrite_dr4 (v : Bool) : (s.setNoWrite v).dr4 = s.dr4 := rfl
@[simp] theorem State.setNoWrite_dr5 (v : Bool) : (s.setNoWrite v).dr5 = s.dr5 := rfl
@[simp] theorem State.setNoWrite_dr6 (v : Bool) : (s.setNoWrite v).dr6 = s.dr6 := rfl
@[simp] theorem State.setNoWrite_dr7 (v : Bool) : (s.setNoWrite v).dr7 = s.dr7 := rfl
@[simp] theorem State.setNoWrite_gdtr (v : Bool) : (s.setNoWrite v).gdtr = s.gdtr := rfl
@[simp] theorem State.setNoWrite_idtr (v : Bool) : (s.setNoWrite v).idtr = s.idtr := rfl
@[simp] theorem State.setNoWrite_ldtr (v : Bool) : (s.setNoWrite v).ldtr = s.ldtr := rfl
@[simp] theorem State.setNoWrite_tr (v : Bool) : (s.setNoWrite v).tr = s.tr := rfl
@[simp] theorem State.setNoWrite_opFlags (v : Bool) : (s.setNoWrite v).opFlags = { s.opFlags with noWrite := v } := rfl
@[simp] theorem State.setNoWrite_opPrefixes (v : Bool) : (s.setNoWrite v).opPrefixes = s.opPrefixes := rfl
@[simp] theorem State.setNoWrite_regEA (v : Bool) : (s.setNoWrite v).regEA = s.regEA := rfl
@[simp] theorem State.setNoWrite_regEAWrite (v : Bool) : (s.setNoWrite v).regEAWrite = s.regEAWrite := rfl
@[simp] theorem State.setNoWrite_nFault (v : Bool) : (s.setNoWrite v).nFault = s.nFault := rfl
@[simp] theorem State.setNoWrite_intFlags (v : Bool) : (s.setNoWrite v).intFlags = s.intFlags := rfl
@[simp] theorem State.setNoWrite_lastOpcode (v : Bool) : (s.setNoWrite v).lastOpcode = s.lastOpcode := rfl
@[simp] theorem State.setNoWrite_mem (v : Bool) : (s.setNoWrite v).mem = s.mem := rfl
@[simp] theorem State.setNoWrite_noTrap (v : Bool) : (s.setNoWrite v).noTrap = s.noTrap := rfl
@[simp] theorem State.setNoWrite_portAnswers (v : Bool) : (s.setNoWrite v).portAnswers = s.portAnswers := rfl
@[simp] theorem State.setNoWrite_intAcks (v : Bool) : (s.setNoWrite v).intAcks = s.intAcks := rfl
@[simp] theorem State.setNoWrite_oracleCount (v : Bool) : (s.setNoWrite v).oracleCount = s.oracleCount := rfl
@[simp] theorem State.setNoWrite_portLog (v : Bool) : (s.setNoWrite v).portLog = s.portLog := rfl
@[simp] theorem State.setNoWrite_busLog (v : Bool) : (s.setNoWrite v).busLog = s.busLog := rfl
@[simp] theorem State.setNoWrite_copAnswers (v : Bool) : (s.setNoWrite v).copAnswers = s.copAnswers := rfl
@[simp] theorem State.setNoWrite_copLog (v : Bool) : (s.setNoWrite v).copLog = s.copLog := rfl

/-! ### `setNoReadWrite` -/

@[simp] theorem State.setNoReadWrite_cfg  : (s.setNoReadWrite).cfg = s.cfg := rfl
@[simp] theorem State.setNoReadWrite_gpr  : (s.setNoReadWrite).gpr = s.gpr := rfl
@[simp] theorem State.setNoReadWrite_pc  : (s.setNoReadWrite).pc = s.pc := rfl
@[simp] theorem State.setNoReadWrite_opLIP  : (s.setNoReadWrite).opLIP = s.opLIP := rfl
@[simp] theorem State.setNoReadWrite_es  : (s.setNoReadWrite).es = s.es := rfl
@[simp] theorem State.setNoReadWrite_cs  : (s.setNoReadWrite).cs = s.cs := rfl
@[simp] theorem State.setNoReadWrite_ss  : (s.setNoReadWrite).ss = s.ss := rfl
@[simp] theorem State.setNoReadWrite_ds  : (s.setNoReadWrite).ds = s.ds := rfl
@[simp] theorem State.setNoReadWrite_fs  : (s.setNoReadWrite).fs = s.fs := rfl
@[simp] theorem State.setNoReadWrite_gs  : (s.setNoReadWrite).gs = s.gs := rfl
@[simp] theorem State.setNoReadWrite_cpl  : (s.setNoReadWrite).cpl = s.cpl := rfl
@[simp] theorem State.setNoReadWrite_flags  : (s.setNoReadWrite).flags = s.flags := rfl
@[simp] theorem State.setNoReadWrite_cr0  : (s.setNoReadWrite).cr0 = s.cr0 := rfl
@[simp] theorem State.setNoReadWrite_cr2  : (s.setNoReadWrite).cr2 = s.cr2 := rfl
@[simp] theorem State.setNoReadWrite_cr3  : (s.setNoReadWrite).cr3 = s.cr3 := rfl
@[simp] theorem State.setNoReadWrite_dr0  : (s.setNoReadWrite).dr0 = s.dr0 := rfl
@[simp] theorem State.setNoReadWrite_dr1  : (s.setNoReadWrite).dr1 = s.dr1 := rfl
@[simp] theorem State.setNoReadWrite_dr2  : (s.setNoReadWrite).dr2 = s.dr2 := rfl
@[simp] theorem State.setNoReadWrite_dr3  : (s.setNoReadWrite).dr3 = s.dr3 := rfl
@[simp] theorem State.setNoReadWrite_dr4  : (s.setNoReadWrite).dr4 = s.dr4 := rfl
@[simp] theorem State.setNoReadWrite_dr5  : (s.setNoReadWrite).dr5 = s.dr5 := rfl
@[simp] theorem State.setNoReadWrite_dr6  : (s.setNoReadWrite).dr6 = s.dr6 := rfl
@[simp] theorem State.setNoReadWrite_dr7  : (s.setNoReadWrite).dr7 = s.dr7 := rfl
@[simp] theorem State.setNoReadWrite_gdtr  : (s.setNoReadWrite).gdtr = s.gdtr := rfl
@[simp] theorem State.setNoReadWrite_idtr  : (s.setNoReadWrite).idtr = s.idtr := rfl
@[simp] theorem State.setNoReadWrite_ldtr  : (s.setNoReadWrite).ldtr = s.ldtr := rfl
@[simp] theorem State.setNoReadWrite_tr  : (s.setNoReadWrite).tr = s.tr := rfl
@[simp] theorem State.setNoReadWrite_opFlags  : (s.setNoReadWrite).opFlags = { s.opFlags with noRead := true, noWrite := true } := rfl
@[simp] theorem State.setNoReadWrite_opPrefixes  : (s.setNoReadWrite).opPrefixes = s.opPrefixes := rfl
@[simp] theorem State.setNoReadWrite_regEA  : (s.setNoReadWrite).regEA = s.regEA := rfl
@[simp] theorem State.setNoReadWrite_regEAWrite  : (s.setNoReadWrite).regEAWrite = s.regEAWrite := rfl
@[simp] theorem State.setNoReadWrite_nFault  : (s.setNoReadWrite).nFault = s.nFault := rfl
@[simp] theorem State.setNoReadWrite_intFlags  : (s.setNoReadWrite).intFlags = s.intFlags := rfl
@[simp] theorem State.setNoReadWrite_lastOpcode  : (s.setNoReadWrite).lastOpcode = s.lastOpcode := rfl
@[simp] theorem State.setNoReadWrite_mem  : (s.setNoReadWrite).mem = s.mem := rfl
@[simp] theorem State.setNoReadWrite_noTrap  : (s.setNoReadWrite).noTrap = s.noTrap := rfl
@[simp] theorem State.setNoReadWrite_portAnswers  : (s.setNoReadWrite).portAnswers = s.portAnswers := rfl
@[simp] theorem State.setNoReadWrite_intAcks  : (s.setNoReadWrite).intAcks = s.intAcks := rfl
@[simp] theorem State.setNoReadWrite_oracleCount  : (s.setNoReadWrite).oracleCount = s.oracleCount := rfl
@[simp] theorem State.setNoReadWrite_portLog  : (s.setNoReadWrite).portLog = s.portLog := rfl
@[simp] theorem State.setNoReadWrite_busLog  : (s.setNoReadWrite).busLog = s.busLog := rfl
@[simp] theorem State.setNoReadWrite_copAnswers  : (s.setNoReadWrite).copAnswers = s.copAnswers := rfl
@[simp] theorem State.setNoReadWrite_copLog  : (s.setNoReadWrite).copLog = s.copLog := rfl

/-! ### `setLdtr` -/

@[simp] theorem State.setLdtr_cfg (v : LdtReg) : (s.setLdtr v).cfg = s.cfg := rfl
@[simp] theorem State.setLdtr_gpr (v : LdtReg) : (s.setLdtr v).gpr = s.gpr := rfl
@[simp] theorem State.setLdtr_pc (v : LdtReg) : (s.setLdtr v).pc = s.pc := rfl
@[simp] theorem State.setLdtr_opLIP (v : LdtReg) : (s.setLdtr v).opLIP = s.opLIP := rfl
@[simp] theorem State.setLdtr_es (v : LdtReg) : (s.setLdtr v).es = s.es := rfl
@[simp] theorem State.setLdtr_cs (v : LdtReg) : (s.setLdtr v).cs = s.cs := rfl
@[simp] theorem State.setLdtr_ss (v : LdtReg) : (s.setLdtr v).ss = s.ss := rfl
@[simp] theorem State.setLdtr_ds (v : LdtReg) : (s.setLdtr v).ds = s.ds := rfl
@[simp] theorem State.setLdtr_fs (v : LdtReg) : (s.setLdtr v).fs = s.fs := rfl
@[simp] theorem State.setLdtr_gs (v : LdtReg) : (s.setLdtr v).gs = s.gs := rfl
@[simp] theorem State.setLdtr_cpl (v : LdtReg) : (s.setLdtr v).cpl = s.cpl := rfl
@[simp] theorem State.setLdtr_flags (v : LdtReg) : (s.setLdtr v).flags = s.flags := rfl
@[simp] theorem State.setLdtr_cr0 (v : LdtReg) : (s.setLdtr v).cr0 = s.cr0 := rfl
@[simp] theorem State.setLdtr_cr2 (v : LdtReg) : (s.setLdtr v).cr2 = s.cr2 := rfl
@[simp] theorem State.setLdtr_cr3 (v : LdtReg) : (s.setLdtr v).cr3 = s.cr3 := rfl
@[simp] theorem State.setLdtr_dr0 (v : LdtReg) : (s.setLdtr v).dr0 = s.dr0 := rfl
@[simp] theorem State.setLdtr_dr1 (v : LdtReg) : (s.setLdtr v).dr1 = s.dr1 := rfl
@[simp] theorem State.setLdtr_dr2 (v : LdtReg) : (s.setLdtr v).dr2 = s.dr2 := rfl
@[simp] theorem State.setLdtr_dr3 (v : LdtReg) : (s.setLdtr v).dr3 = s.dr3 := rfl
@[simp] theorem State.setLdtr_dr4 (v : LdtReg) : (s.setLdtr v).dr4 = s.dr4 := rfl
@[simp] theorem State.setLdtr_dr5 (v : LdtReg) : (s.setLdtr v).dr5 = s.dr5 := rfl
@[simp] theorem State.setLdtr_dr6 (v : LdtReg) : (s.setLdtr v).dr6 = s.dr6 := rfl
@[simp] theorem State.setLdtr_dr7 (v : LdtReg) : (s.setLdtr v).dr7 = s.dr7 := rfl
@[simp] theorem State.setLdtr_gdtr (v : LdtReg) : (s.setLdtr v).gdtr = s.gdtr := rfl
@[simp] theorem State.setLdtr_idtr (v : LdtReg) : (s.setLdtr v).idtr = s.idtr := rfl
@[simp] theorem State.setLdtr_ldtr (v : LdtReg) : (s.setLdtr v).ldtr = v := rfl
@[simp] theorem State.setLdtr_tr (v : LdtReg) : (s.setLdtr v).tr = s.tr := rfl
@[simp] theorem State.setLdtr_opFlags (v : LdtReg) : (s.setLdtr v).opFlags = s.opFlags := rfl
@[simp] theorem State.setLdtr_opPrefixes (v : LdtReg) : (s.setLdtr v).opPrefixes = s.opPrefixes := rfl
@[simp] theorem State.setLdtr_regEA (v : LdtReg) : (s.setLdtr v).regEA = s.regEA := rfl
@[simp] theorem State.setLdtr_regEAWrite (v : LdtReg) : (s.setLdtr v).regEAWrite = s.regEAWrite := rfl
@[simp] theorem State.setLdtr_nFault (v : LdtReg) : (s.setLdtr v).nFault = s.nFault := rfl
@[simp] theorem State.setLdtr_intFlags (v : LdtReg) : (s.setLdtr v).intFlags = s.intFlags := rfl
@[simp] theorem State.setLdtr_lastOpcode (v : LdtReg) : (s.setLdtr v).lastOpcode = s.lastOpcode := rfl
@[simp] theorem State.setLdtr_mem (v : LdtReg) : (s.setLdtr v).mem = s.mem := rfl
@[simp] theorem State.setLdtr_noTrap (v : LdtReg) : (s.setLdtr v).noTrap = s.noTrap := rfl
@[simp] theorem State.setLdtr_portAnswers (v : LdtReg) : (s.setLdtr v).portAnswers = s.portAnswers := rfl
@[simp] theorem State.setLdtr_intAcks (v : LdtReg) : (s.setLdtr v).intAcks = s.intAcks := rfl
@[simp] theorem State.setLdtr_oracleCount (v : LdtReg) : (s.setLdtr v).oracleCount = s.oracleCount := rfl
@[simp] theorem State.setLdtr_portLog (v : LdtReg) : (s.setLdtr v).portLog = s.portLog := rfl
@[simp] theorem State.setLdtr_busLog (v : LdtReg) : (s.setLdtr v).busLog = s.busLog := rfl
@[simp] theorem State.setLdtr_copAnswers (v : LdtReg) : (s.setLdtr v).copAnswers = s.copAnswers := rfl
@[simp] theorem State.setLdtr_copLog (v : LdtReg) : (s.setLdtr v).copLog = s.copLog := rfl

/-! ### `setTr` -/

@[simp] theorem State.setTr_cfg (v : TaskReg) : (s.setTr v).cfg = s.cfg := rfl
@[simp] theorem State.setTr_gpr (v : TaskReg) : (s.setTr v).gpr = s.gpr := rfl
@[simp] theorem State.setTr_pc (v : TaskReg) : (s.setTr v).pc = s.pc := rfl
@[simp] theorem State.setTr_opLIP (v : TaskReg) : (s.setTr v).opLIP = s.opLIP := rfl
@[simp] theorem State.setTr_es (v : TaskReg) : (s.setTr v).es = s.es := rfl
@[simp] theorem State.setTr_cs (v : TaskReg) : (s.setTr v).cs = s.cs := rfl
@[simp] theorem State.setTr_ss (v : TaskReg) : (s.setTr v).ss = s.ss := rfl
@[simp] theorem State.setTr_ds (v : TaskReg) : (s.setTr v).ds = s.ds := rfl
@[simp] theorem State.setTr_fs (v : TaskReg) : (s.setTr v).fs = s.fs := rfl
@[simp] theorem State.setTr_gs (v : TaskReg) : (s.setTr v).gs = s.gs := rfl
@[simp] theorem State.setTr_cpl (v : TaskReg) : (s.setTr v).cpl = s.cpl := rfl
@[simp] theorem State.setTr_flags (v : TaskReg) : (s.setTr v).flags = s.flags := rfl
@[simp] theorem State.setTr_cr0 (v : TaskReg) : (s.setTr v).cr0 = s.cr0 := rfl
@[simp] theorem State.setTr_cr2 (v : TaskReg) : (s.setTr v).cr2 = s.cr2 := rfl
@[simp] theorem State.setTr_cr3 (v : TaskReg) : (s.setTr v).cr3 = s.cr3 := rfl
@[simp] theorem State.setTr_dr0 (v : TaskReg) : (s.setTr v).dr0 = s.dr0 := rfl
@[simp] theorem State.setTr_dr1 (v : TaskReg) : (s.setTr v).dr1 = s.dr1 := rfl
@[simp] theorem State.setTr_dr2 (v : TaskReg) : (s.setTr v).dr2 = s.dr2 := rfl
@[simp] theorem State.setTr_dr3 (v : TaskReg) : (s.setTr v).dr3 = s.dr3 := rfl
@[simp] theorem State.setTr_dr4 (v : TaskReg) : (s.setTr v).dr4 = s.dr4 := rfl
@[simp] theorem State.setTr_dr5 (v : TaskReg) : (s.setTr v).dr5 = s.dr5 := rfl
@[simp] theorem State.setTr_dr6 (v : TaskReg) : (s.setTr v).dr6 = s.dr6 := rfl
@[simp] theorem State.setTr_dr7 (v : TaskReg) : (s.setTr v).dr7 = s.dr7 := rfl
@[simp] theorem State.setTr_gdtr (v : TaskReg) : (s.setTr v).gdtr = s.gdtr := rfl
@[simp] theorem State.setTr_idtr (v : TaskReg) : (s.setTr v).idtr = s.idtr := rfl
@[simp] theorem State.setTr_ldtr (v : TaskReg) : (s.setTr v).ldtr = s.ldtr := rfl
@[simp] theorem State.setTr_tr (v : TaskReg) : (s.setTr v).tr = v := rfl
@[simp] theorem State.setTr_opFlags (v : TaskReg) : (s.setTr v).opFlags = s.opFlags := rfl
@[simp] theorem State.setTr_opPrefixes (v : TaskReg) : (s.setTr v).opPrefixes = s.opPrefixes := rfl
@[simp] theorem State.setTr_regEA (v : TaskReg) : (s.setTr v).regEA = s.regEA := rfl
@[simp] theorem State.setTr_regEAWrite (v : TaskReg) : (s.setTr v).regEAWrite = s.regEAWrite := rfl
@[simp] theorem State.setTr_nFault (v : TaskReg) : (s.setTr v).nFault = s.nFault := rfl
@[simp] theorem State.setTr_intFlags (v : TaskReg) : (s.setTr v).intFlags = s.intFlags := rfl
@[simp] theorem State.setTr_lastOpcode (v : TaskReg) : (s.setTr v).lastOpcode = s.lastOpcode := rfl
@[simp] theorem State.setTr_mem (v : TaskReg) : (s.setTr v).mem = s.mem := rfl
@[simp] theorem State.setTr_noTrap (v : TaskReg) : (s.setTr v).noTrap = s.noTrap := rfl
@[simp] theorem State.setTr_portAnswers (v : TaskReg) : (s.setTr v).portAnswers = s.portAnswers := rfl
@[simp] theorem State.setTr_intAcks (v : TaskReg) : (s.setTr v).intAcks = s.intAcks := rfl
@[simp] theorem State.setTr_oracleCount (v : TaskReg) : (s.setTr v).oracleCount = s.oracleCount := rfl
@[simp] theorem State.setTr_portLog (v : TaskReg) : (s.setTr v).portLog = s.portLog := rfl
@[simp] theorem State.setTr_busLog (v : TaskReg) : (s.setTr v).busLog = s.busLog := rfl
@[simp] theorem State.setTr_copAnswers (v : TaskReg) : (s.setTr v).copAnswers = s.copAnswers := rfl
@[simp] theorem State.setTr_copLog (v : TaskReg) : (s.setTr v).copLog = s.copLog := rfl

/-! ### `setNFault` -/

@[simp] theorem State.setNFault_cfg (v : Option Byte) : (s.setNFault v).cfg = s.cfg := rfl
@[simp] theorem State.setNFault_gpr (v : Option Byte) : (s.setNFault v).gpr = s.gpr := rfl
@[simp] theorem State.setNFault_pc (v : Option Byte) : (s.setNFault v).pc = s.pc := rfl
@[simp] theorem State.setNFault_opLIP (v : Option Byte) : (s.setNFault v).opLIP = s.opLIP := rfl
@[simp] theorem State.setNFault_es (v : Option Byte) : (s.setNFault v).es = s.es := rfl
@[simp] theorem State.setNFault_cs (v : Option Byte) : (s.setNFault v).cs = s.cs := rfl
@[simp] theorem State.setNFault_ss (v : Option Byte) : (s.setNFault v).ss = s.ss := rfl
@[simp] theorem State.setNFault_ds (v : Option Byte) : (s.setNFault v).ds = s.ds := rfl
@[simp] theorem State.setNFault_fs (v : Option Byte) : (s.setNFault v).fs = s.fs := rfl
@[simp] theorem State.setNFault_gs (v : Option Byte) : (s.setNFault v).gs = s.gs := rfl
@[simp] theorem State.setNFault_cpl (v : Option Byte) : (s.setNFault v).cpl = s.cpl := rfl
@[simp] theorem State.setNFault_flags (v : Option Byte) : (s.setNFault v).flags = s.flags := rfl
@[simp] theorem State.setNFault_cr0 (v : Option Byte) : (s.setNFault v).cr0 = s.cr0 := rfl
@[simp] theorem State.setNFault_cr2 (v : Option Byte) : (s.setNFault v).cr2 = s.cr2 := rfl
@[simp] theorem State.setNFault_cr3 (v : Option Byte) : (s.setNFault v).cr3 = s.cr3 := rfl
@[simp] theorem State.setNFault_dr0 (v : Option Byte) : (s.setNFault v).dr0 = s.dr0 := rfl
@[simp] theorem State.setNFault_dr1 (v : Option Byte) : (s.setNFault v).dr1 = s.dr1 := rfl
@[simp] theorem State.setNFault_dr2 (v : Option Byte) : (s.setNFault v).dr2 = s.dr2 := rfl
@[simp] theorem State.setNFault_dr3 (v : Option Byte) : (s.setNFault v).dr3 = s.dr3 := rfl
@[simp] theorem State.setNFault_dr4 (v : Option Byte) : (s.setNFault v).dr4 = s.dr4 := rfl
@[simp] theorem State.setNFault_dr5 (v : Option Byte) : (s.setNFault v).dr5 = s.dr5 := rfl
@[simp] theorem State.setNFault_dr6 (v : Option Byte) : (s.setNFault v).dr6 = s.dr6 := rfl
@[simp] theorem State.setNFault_dr7 (v : Option Byte) : (s.setNFault v).dr7 = s.dr7 := rfl
@[simp] theorem State.setNFault_gdtr (v : Option Byte) : (s.setNFault v).gdtr = s.gdtr := rfl
@[simp] theorem State.setNFault_idtr (v : Option Byte) : (s.setNFault v).idtr = s.idtr := rfl
@[simp] theorem State.setNFault_ldtr (v : Option Byte) : (s.setNFault v).ldtr = s.ldtr := rfl
@[simp] theorem State.setNFault_tr (v : Option Byte) : (s.setNFault v).tr = s.tr := rfl
@[simp] theorem State.setNFault_opFlags (v : Option Byte) : (s.setNFault v).opFlags = s.opFlags := rfl
@[simp] theorem State.setNFault_opPrefixes (v : Option Byte) : (s.setNFault v).opPrefixes = s.opPrefixes := rfl
@[simp] theorem State.setNFault_regEA (v : Option Byte) : (s.setNFault v).regEA = s.regEA := rfl
@[simp] theorem State.setNFault_regEAWrite (v : Option Byte) : (s.setNFault v).regEAWrite = s.regEAWrite := rfl
@[simp] theorem State.setNFault_nFault (v : Option Byte) : (s.setNFault v).nFault = v := rfl
@[simp] theorem State.setNFault_intFlags (v : Option Byte) : (s.setNFault v).intFlags = s.intFlags := rfl
@[simp] theorem State.setNFault_lastOpcode (v : Option Byte) : (s.setNFault v).lastOpcode = s.lastOpcode := rfl
@[simp] theorem State.setNFault_mem (v : Option Byte) : (s.setNFault v).mem = s.mem := rfl
@[simp] theorem State.setNFault_noTrap (v : Option Byte) : (s.setNFault v).noTrap = s.noTrap := rfl
@[simp] theorem State.setNFault_portAnswers (v : Option Byte) : (s.setNFault v).portAnswers = s.portAnswers := rfl
@[simp] theorem State.setNFault_intAcks (v : Option Byte) : (s.setNFault v).intAcks = s.intAcks := rfl
@[simp] theorem State.setNFault_oracleCount (v : Option Byte) : (s.setNFault v).oracleCount = s.oracleCount := rfl
@[simp] theorem State.setNFault_portLog (v : Option Byte) : (s.setNFault v).portLog = s.portLog := rfl
@[simp] theorem State.setNFault_busLog (v : Option Byte) : (s.setNFault v).busLog = s.busLog := rfl
@[simp] theorem State.setNFault_copAnswers (v : Option Byte) : (s.setNFault v).copAnswers = s.copAnswers := rfl
@[simp] theorem State.setNFault_copLog (v : Option Byte) : (s.setNFault v).copLog = s.copLog := rfl

/-! ### `setNoTrap` -/

@[simp] theorem State.setNoTrap_cfg (v : Bool) : (s.setNoTrap v).cfg = s.cfg := rfl
@[simp] theorem State.setNoTrap_gpr (v : Bool) : (s.setNoTrap v).gpr = s.gpr := rfl
@[simp] theorem State.setNoTrap_pc (v : Bool) : (s.setNoTrap v).pc = s.pc := rfl
@[simp] theorem State.setNoTrap_opLIP (v : Bool) : (s.setNoTrap v).opLIP = s.opLIP := rfl
@[simp] theorem State.setNoTrap_es (v : Bool) : (s.setNoTrap v).es = s.es := rfl
@[simp] theorem State.setNoTrap_cs (v : Bool) : (s.setNoTrap v).cs = s.cs := rfl
@[simp] theorem State.setNoTrap_ss (v : Bool) : (s.setNoTrap v).ss = s.ss := rfl
@[simp] theorem State.setNoTrap_ds (v : Bool) : (s.setNoTrap v).ds = s.ds := rfl
@[simp] theorem State.setNoTrap_fs (v : Bool) : (s.setNoTrap v).fs = s.fs := rfl
@[simp] theorem State.setNoTrap_gs (v : Bool) : (s.setNoTrap v).gs = s.gs := rfl
@[simp] theorem State.setNoTrap_cpl (v : Bool) : (s.setNoTrap v).cpl = s.cpl := rfl
@[simp] theorem State.setNoTrap_flags (v : Bool) : (s.setNoTrap v).flags = s.flags := rfl
@[simp] theorem State.setNoTrap_cr0 (v : Bool) : (s.setNoTrap v).cr0 = s.cr0 := rfl
@[simp] theorem State.setNoTrap_cr2 (v : Bool) : (s.setNoTrap v).cr2 = s.cr2 := rfl
@[simp] theorem State.setNoTrap_cr3 (v : Bool) : (s.setNoTrap v).cr3 = s.cr3 := rfl
@[simp] theorem State.setNoTrap_dr0 (v : Bool) : (s.setNoTrap v).dr0 = s.dr0 := rfl
@[simp] theorem State.setNoTrap_dr1 (v : Bool) : (s.setNoTrap v).dr1 = s.dr1 := rfl
@[simp] theorem State.setNoTrap_dr2 (v : Bool) : (s.setNoTrap v).dr2 = s.dr2 := rfl
@[simp] theorem State.setNoTrap_dr3 (v : Bool) : (s.setNoTrap v).dr3 = s.dr3 := rfl
@[simp] theorem State.setNoTrap_dr4 (v : Bool) : (s.setNoTrap v).dr4 = s.dr4 := rfl
@[simp] theorem State.setNoTrap_dr5 (v : Bool) : (s.setNoTrap v).dr5 = s.dr5 := rfl
@[simp] theorem State.setNoTrap_dr6 (v : Bool) : (s.setNoTrap v).dr6 = s.dr6 := rfl
@[simp] theorem State.setNoTrap_dr7 (v : Bool) : (s.setNoTrap v).dr7 = s.dr7 := rfl
@[simp] theorem State.setNoTrap_gdtr (v : Bool) : (s.setNoTrap v).gdtr = s.gdtr := rfl
@[simp] theorem State.setNoTrap_idtr (v : Bool) : (s.setNoTrap v).idtr = s.idtr := rfl
@[simp] theorem State.setNoTrap_ldtr (v : Bool) : (s.setNoTrap v).ldtr = s.ldtr := rfl
@[simp] theorem State.setNoTrap_tr (v : Bool) : (s.setNoTrap v).tr = s.tr := rfl
@[simp] theorem State.setNoTrap_opFlags (v : Bool) : (s.setNoTrap v).opFlags = s.opFlags := rfl
@[simp] theorem State.setNoTrap_opPrefixes (v : Bool) : (s.setNoTrap v).opPrefixes = s.opPrefixes := rfl
@[simp] theorem State.setNoTrap_regEA (v : Bool) : (s.setNoTrap v).regEA = s.regEA := rfl
@[simp] theorem State.setNoTrap_regEAWrite (v : Bool) : (s.setNoTrap v).regEAWrite = s.regEAWrite := rfl
@[simp] theorem State.setNoTrap_nFault (v : Bool) : (s.setNoTrap v).nFault = s.nFault := rfl
@[simp] theorem State.setNoTrap_intFlags (v : Bool) : (s.setNoTrap v).intFlags = s.intFlags := rfl
@[simp] theorem State.setNoTrap_lastOpcode (v : Bool) : (s.setNoTrap v).lastOpcode = s.lastOpcode := rfl
@[simp] theorem State.setNoTrap_mem (v : Bool) : (s.setNoTrap v).mem = s.mem := rfl
@[simp] theorem State.setNoTrap_noTrap (v : Bool) : (s.setNoTrap v).noTrap = v := rfl
@[simp] theorem State.setNoTrap_portAnswers (v : Bool) : (s.setNoTrap v).portAnswers = s.portAnswers := rfl
@[simp] theorem State.setNoTrap_intAcks (v : Bool) : (s.setNoTrap v).intAcks = s.intAcks := rfl
@[simp] theorem State.setNoTrap_oracleCount (v : Bool) : (s.setNoTrap v).oracleCount = s.oracleCount := rfl
@[simp] theorem State.setNoTrap_portLog (v : Bool) : (s.setNoTrap v).portLog = s.portLog := rfl
@[simp] theorem State.setNoTrap_busLog (v : Bool) : (s.setNoTrap v).busLog = s.busLog := rfl
@[simp] theorem State.setNoTrap_copAnswers (v : Bool) : (s.setNoTrap v).copAnswers = s.copAnswers := rfl
@[simp] theorem State.setNoTrap_copLog (v : Bool) : (s.setNoTrap v).copLog = s.copLog := rfl

/-! ### `setLastOpcode` -/

@[simp] theorem State.setLastOpcode_cfg (v : Byte) : (s.setLastOpcode v).cfg = s.cfg := rfl
@[simp] theorem State.setLastOpcode_gpr (v : Byte) : (s.setLastOpcode v).gpr = s.gpr := rfl
@[simp] theorem State.setLastOpcode_pc (v : Byte) : (s.setLastOpcode v).pc = s.pc := rfl
@[simp] theorem State.setLastOpcode_opLIP (v : Byte) : (s.setLastOpcode v).opLIP = s.opLIP := rfl
@[simp] theorem State.setLastOpcode_es (v : Byte) : (s.setLastOpcode v).es = s.es := rfl
@[simp] theorem State.setLastOpcode_cs (v : Byte) : (s.setLastOpcode v).cs = s.cs := rfl
@[simp] theorem State.setLastOpcode_ss (v : Byte) : (s.setLastOpcode v).ss = s.ss := rfl
@[simp] theorem State.setLastOpcode_ds (v : Byte) : (s.setLastOpcode v).ds = s.ds := rfl
@[simp] theorem State.setLastOpcode_fs (v : Byte) : (s.setLastOpcode v).fs = s.fs := rfl
@[simp] theorem State.setLastOpcode_gs (v : Byte) : (s.setLastOpcode v).gs = s.gs := rfl
@[simp] theorem State.setLastOpcode_cpl (v : Byte) : (s.setLastOpcode v).cpl = s.cpl := rfl
@[simp] theorem State.setLastOpcode_flags (v : Byte) : (s.setLastOpcode v).flags = s.flags := rfl
@[simp] theorem State.setLastOpcode_cr0 (v : Byte) : (s.setLastOpcode v).cr0 = s.cr0 := rfl
@[simp] theorem State.setLastOpcode_cr2 (v : Byte) : (s.setLastOpcode v).cr2 = s.cr2 := rfl
@[simp] theorem State.setLastOpcode_cr3 (v : Byte) : (s.setLastOpcode v).cr3 = s.cr3 := rfl
@[simp] theorem State.setLastOpcode_dr0 (v : Byte) : (s.setLastOpcode v).dr0 = s.dr0 := rfl
@[simp] theorem State.setLastOpcode_dr1 (v : Byte) : (s.setLastOpcode v).dr1 = s.dr1 := rfl
@[simp] theorem State.setLastOpcode_dr2 (v : Byte) : (s.setLastOpcode v).dr2 = s.dr2 := rfl
@[simp] theorem State.setLastOpcode_dr3 (v : Byte) : (s.setLastOpcode v).dr3 = s.dr3 := rfl
@[simp] theorem State.setLastOpcode_dr4 (v : Byte) : (s.setLastOpcode v).dr4 = s.dr4 := rfl
@[simp] theorem State.setLastOpcode_dr5 (v : Byte) : (s.setLastOpcode v).dr5 = s.dr5 := rfl
@[simp] theorem State.setLastOpcode_dr6 (v : Byte) : (s.setLastOpcode v).dr6 = s.dr6 := rfl
@[simp] theorem State.setLastOpcode_dr7 (v : Byte) : (s.setLastOpcode v).dr7 = s.dr7 := rfl
@[simp] theorem State.setLastOpcode_gdtr (v : Byte) : (s.setLastOpcode v).gdtr = s.gdtr := rfl
@[simp] theorem State.setLastOpcode_idtr (v : Byte) : (s.setLastOpcode v).idtr = s.idtr := rfl
@[simp] theorem State.setLastOpcode_ldtr (v : Byte) : (s.setLastOpcode v).ldtr = s.ldtr := rfl
@[simp] theorem State.setLastOpcode_tr (v : Byte) : (s.setLastOpcode v).tr = s.tr := rfl
@[simp] theorem State.setLastOpcode_opFlags (v : Byte) : (s.setLastOpcode v).opFlags = s.opFlags := rfl
@[simp] theorem State.setLastOpcode_opPrefixes (v : Byte) : (s.setLastOpcode v).opPrefixes = s.opPrefixes := rfl
@[simp] theorem State.setLastOpcode_regEA (v : Byte) : (s.setLastOpcode v).regEA = s.regEA := rfl
@[simp] theorem State.setLastOpcode_regEAWrite (v : Byte) : (s.setLastOpcode v).regEAWrite = s.regEAWrite := rfl
@[simp] theorem State.setLastOpcode_nFault (v : Byte) : (s.setLastOpcode v).nFault = s.nFault := rfl
@[simp] theorem State.setLastOpcode_intFlags (v : Byte) : (s.setLastOpcode v).intFlags = s.intFlags := rfl
@[simp] theorem State.setLastOpcode_lastOpcode (v : Byte) : (s.setLastOpcode v).lastOpcode = v := rfl
@[simp] theorem State.setLastOpcode_mem (v : Byte) : (s.setLastOpcode v).mem = s.mem := rfl
@[simp] theorem State.setLastOpcode_noTrap (v : Byte) : (s.setLastOpcode v).noTrap = s.noTrap := rfl
@[simp] theorem State.setLastOpcode_portAnswers (v : Byte) : (s.setLastOpcode v).portAnswers = s.portAnswers := rfl
@[simp] theorem State.setLastOpcode_intAcks (v : Byte) : (s.setLastOpcode v).intAcks = s.intAcks := rfl
@[simp] theorem State.setLastOpcode_oracleCount (v : Byte) : (s.setLastOpcode v).oracleCount = s.oracleCount := rfl
@[simp] theorem State.setLastOpcode_portLog (v : Byte) : (s.setLastOpcode v).portLog = s.portLog := rfl
@[simp] theorem State.setLastOpcode_busLog (v : Byte) : (s.setLastOpcode v).busLog = s.busLog := rfl
@[simp] theorem State.setLastOpcode_copAnswers (v : Byte) : (s.setLastOpcode v).copAnswers = s.copAnswers := rfl
@[simp] theorem State.setLastOpcode_copLog (v : Byte) : (s.setLastOpcode v).copLog = s.copLog := rfl

/-! ### `setNoIntr` -/

@[simp] theorem State.setNoIntr_cfg (v : Bool) : (s.setNoIntr v).cfg = s.cfg := rfl
@[simp] theorem State.setNoIntr_gpr (v : Bool) : (s.setNoIntr v).gpr = s.gpr := rfl
@[simp] theorem State.setNoIntr_pc (v : Bool) : (s.setNoIntr v).pc = s.pc := rfl
@[simp] theorem State.setNoIntr_opLIP (v : Bool) : (s.setNoIntr v).opLIP = s.opLIP := rfl
@[simp] theorem State.setNoIntr_es (v : Bool) : (s.setNoIntr v).es = s.es := rfl
@[simp] theorem State.setNoIntr_cs (v : Bool) : (s.setNoIntr v).cs = s.cs := rfl
@[simp] theorem State.setNoIntr_ss (v : Bool) : (s.setNoIntr v).ss = s.ss := rfl
@[simp] theorem State.setNoIntr_ds (v : Bool) : (s.setNoIntr v).ds = s.ds := rfl
@[simp] theorem State.setNoIntr_fs (v : Bool) : (s.setNoIntr v).fs = s.fs := rfl
@[simp] theorem State.setNoIntr_gs (v : Bool) : (s.setNoIntr v).gs = s.gs := rfl
@[simp] theorem State.setNoIntr_cpl (v : Bool) : (s.setNoIntr v).cpl = s.cpl := rfl
@[simp] theorem State.setNoIntr_flags (v : Bool) : (s.setNoIntr v).flags = s.flags := rfl
@[simp] theorem State.setNoIntr_cr0 (v : Bool) : (s.setNoIntr v).cr0 = s.cr0 := rfl
@[simp] theorem State.setNoIntr_cr2 (v : Bool) : (s.setNoIntr v).cr2 = s.cr2 := rfl
@[simp] theorem State.setNoIntr_cr3 (v : Bool) : (s.setNoIntr v).cr3 = s.cr3 := rfl
@[simp] theorem State.setNoIntr_dr0 (v : Bool) : (s.setNoIntr v).dr0 = s.dr0 := rfl
@[simp] theorem State.setNoIntr_dr1 (v : Bool) : (s.setNoIntr v).dr1 = s.dr1 := rfl
@[simp] theorem State.setNoIntr_dr2 (v : Bool) : (s.setNoIntr v).dr2 = s.dr2 := rfl
@[simp] theorem State.setNoIntr_dr3 (v : Bool) : (s.setNoIntr v).dr3 = s.dr3 := rfl
@[simp] theorem State.setNoIntr_dr4 (v : Bool) : (s.setNoIntr v).dr4 = s.dr4 := rfl
@[simp] theorem State.setNoIntr_dr5 (v : Bool) : (s.setNoIntr v).dr5 = s.dr5 := rfl
@[simp] theorem State.setNoIntr_dr6 (v : Bool) : (s.setNoIntr v).dr6 = s.dr6 := rfl
@[simp] theorem State.setNoIntr_dr7 (v : Bool) : (s.setNoIntr v).dr7 = s.dr7 := rfl
@[simp] theorem State.setNoIntr_gdtr (v : Bool) : (s.setNoIntr v).gdtr = s.gdtr := rfl
@[simp] theorem State.setNoIntr_idtr (v : Bool) : (s.setNoIntr v).idtr = s.idtr := rfl
@[simp] theorem State.setNoIntr_ldtr (v : Bool) : (s.setNoIntr v).ldtr = s.ldtr := rfl
@[simp] theorem State.setNoIntr_tr (v : Bool) : (s.setNoIntr v).tr = s.tr := rfl
@[simp] theorem State.setNoIntr_opFlags (v : Bool) : (s.setNoIntr v).opFlags = { s.opFlags with noIntr := v } := rfl
@[simp] theorem State.setNoIntr_opPrefixes (v : Bool) : (s.setNoIntr v).opPrefixes = s.opPrefixes := rfl
@[simp] theorem State.setNoIntr_regEA (v : Bool) : (s.setNoIntr v).regEA = s.regEA := rfl
@[simp] theorem State.setNoIntr_regEAWrite (v : Bool) : (s.setNoIntr v).regEAWrite = s.regEAWrite := rfl
@[simp] theorem State.setNoIntr_nFault (v : Bool) : (s.setNoIntr v).nFault = s.nFault := rfl
@[simp] theorem State.setNoIntr_intFlags (v : Bool) : (s.setNoIntr v).intFlags = s.intFlags := rfl
@[simp] theorem State.setNoIntr_lastOpcode (v : Bool) : (s.setNoIntr v).lastOpcode = s.lastOpcode := rfl
@[simp] theorem State.setNoIntr_mem (v : Bool) : (s.setNoIntr v).mem = s.mem := rfl
@[simp] theorem State.setNoIntr_noTrap (v : Bool) : (s.setNoIntr v).noTrap = s.noTrap := rfl
@[simp] theorem State.setNoIntr_portAnswers (v : Bool) : (s.setNoIntr v).portAnswers = s.portAnswers := rfl
@[simp] theorem State.setNoIntr_intAcks (v : Bool) : (s.setNoIntr v).intAcks = s.intAcks := rfl
@[simp] theorem State.setNoIntr_oracleCount (v : Bool) : (s.setNoIntr v).oracleCount = s.oracleCount := rfl
@[simp] theorem State.setNoIntr_portLog (v : Bool) : (s.setNoIntr v).portLog = s.portLog := rfl
@[simp] theorem State.setNoIntr_busLog (v : Bool) : (s.setNoIntr v).busLog = s.busLog := rfl
@[simp] theorem State.setNoIntr_copAnswers (v : Bool) : (s.setNoIntr v).copAnswers = s.copAnswers := rfl
@[simp] theorem State.setNoIntr_copLog (v : Bool) : (s.setNoIntr v).copLog = s.copLog := rfl

/-! ### `jumpTo` -/

@[simp] theorem State.jumpTo_cfg (v : Word) : (s.jumpTo v).cfg = s.cfg := rfl
@[simp] theorem State.jumpTo_gpr (v : Word) : (s.jumpTo v).gpr = s.gpr := rfl
@[simp] theorem State.jumpTo_pc (v : Word) : (s.jumpTo v).pc = s.truncPc v := rfl
@[simp] theorem State.jumpTo_opLIP (v : Word) : (s.jumpTo v).opLIP = s.opLIP := rfl
@[simp] theorem State.jumpTo_es (v : Word) : (s.jumpTo v).es = s.es := rfl
@[simp] theorem State.jumpTo_cs (v : Word) : (s.jumpTo v).cs = s.cs := rfl
@[simp] theorem State.jumpTo_ss (v : Word) : (s.jumpTo v).ss = s.ss := rfl
@[simp] theorem State.jumpTo_ds (v : Word) : (s.jumpTo v).ds = s.ds := rfl
@[simp] theorem State.jumpTo_fs (v : Word) : (s.jumpTo v).fs = s.fs := rfl
@[simp] theorem State.jumpTo_gs (v : Word) : (s.jumpTo v).gs = s.gs := rfl
@[simp] theorem State.jumpTo_cpl (v : Word) : (s.jumpTo v).cpl = s.cpl := rfl
@[simp] theorem State.jumpTo_flags (v : Word) : (s.jumpTo v).flags = s.flags := rfl
@[simp] theorem State.jumpTo_cr0 (v : Word) : (s.jumpTo v).cr0 = s.cr0 := rfl
@[simp] theorem State.jumpTo_cr2 (v : Word) : (s.jumpTo v).cr2 = s.cr2 := rfl
@[simp] theorem State.jumpTo_cr3 (v : Word) : (s.jumpTo v).cr3 = s.cr3 := rfl
@[simp] theorem State.jumpTo_dr0 (v : Word) : (s.jumpTo v).dr0 = s.dr0 := rfl
@[simp] theorem State.jumpTo_dr1 (v : Word) : (s.jumpTo v).dr1 = s.dr1 := rfl
@[simp] theorem State.jumpTo_dr2 (v : Word) : (s.jumpTo v).dr2 = s.dr2 := rfl
@[simp] theorem State.jumpTo_dr3 (v : Word) : (s.jumpTo v).dr3 = s.dr3 := rfl
@[simp] theorem State.jumpTo_dr4 (v : Word) : (s.jumpTo v).dr4 = s.dr4 := rfl
@[simp] theorem State.jumpTo_dr5 (v : Word) : (s.jumpTo v).dr5 = s.dr5 := rfl
@[simp] theorem State.jumpTo_dr6 (v : Word) : (s.jumpTo v).dr6 = s.dr6 := rfl
@[simp] theorem State.jumpTo_dr7 (v : Word) : (s.jumpTo v).dr7 = s.dr7 := rfl
@[simp] theorem State.jumpTo_gdtr (v : Word) : (s.jumpTo v).gdtr = s.gdtr := rfl
@[simp] theorem State.jumpTo_idtr (v : Word) : (s.jumpTo v).idtr = s.idtr := rfl
@[simp] theorem State.jumpTo_ldtr (v : Word) : (s.jumpTo v).ldtr = s.ldtr := rfl
@[simp] theorem State.jumpTo_tr (v : Word) : (s.jumpTo v).tr = s.tr := rfl
@[simp] theorem State.jumpTo_opFlags (v : Word) : (s.jumpTo v).opFlags = s.opFlags := rfl
@[simp] theorem State.jumpTo_opPrefixes (v : Word) : (s.jumpTo v).opPrefixes = s.opPrefixes := rfl
@[simp] theorem State.jumpTo_regEA (v : Word) : (s.jumpTo v).regEA = s.regEA := rfl
@[simp] theorem State.jumpTo_regEAWrite (v : Word) : (s.jumpTo v).regEAWrite = s.regEAWrite := rfl
@[simp] theorem State.jumpTo_nFault (v : Word) : (s.jumpTo v).nFault = s.nFault := rfl
@[simp] theorem State.jumpTo_intFlags (v : Word) : (s.jumpTo v).intFlags = s.intFlags := rfl
@[simp] theorem State.jumpTo_lastOpcode (v : Word) : (s.jumpTo v).lastOpcode = s.lastOpcode := rfl
@[simp] theorem State.jumpTo_mem (v : Word) : (s.jumpTo v).mem = s.mem := rfl
@[simp] theorem State.jumpTo_noTrap (v : Word) : (s.jumpTo v).noTrap = s.noTrap := rfl
@[simp] theorem State.jumpTo_portAnswers (v : Word) : (s.jumpTo v).portAnswers = s.portAnswers := rfl
@[simp] theorem State.jumpTo_intAcks (v : Word) : (s.jumpTo v).intAcks = s.intAcks := rfl
@[simp] theorem State.jumpTo_oracleCount (v : Word) : (s.jumpTo v).oracleCount = s.oracleCount := rfl
@[simp] theorem State.jumpTo_portLog (v : Word) : (s.jumpTo v).portLog = s.portLog := rfl
@[simp] theorem State.jumpTo_busLog (v : Word) : (s.jumpTo v).busLog = s.busLog := rfl
@[simp] theorem State.jumpTo_copAnswers (v : Word) : (s.jumpTo v).copAnswers = s.copAnswers := rfl
@[simp] theorem State.jumpTo_copLog (v : Word) : (s.jumpTo v).copLog = s.copLog := rfl

/-! ### `captureEA` -/

@[simp] theorem State.captureEA_cfg (l : Loc) : (s.captureEA l).cfg = s.cfg := rfl
@[simp] theorem State.captureEA_gpr (l : Loc) : (s.captureEA l).gpr = s.gpr := rfl
@[simp] theorem State.captureEA_pc (l : Loc) : (s.captureEA l).pc = s.pc := rfl
@[simp] theorem State.captureEA_opLIP (l : Loc) : (s.captureEA l).opLIP = s.opLIP := rfl
@[simp] theorem State.captureEA_es (l : Loc) : (s.captureEA l).es = s.es := rfl
@[simp] theorem State.captureEA_cs (l : Loc) : (s.captureEA l).cs = s.cs := rfl
@[simp] theorem State.captureEA_ss (l : Loc) : (s.captureEA l).ss = s.ss := rfl
@[simp] theorem State.captureEA_ds (l : Loc) : (s.captureEA l).ds = s.ds := rfl
@[simp] theorem State.captureEA_fs (l : Loc) : (s.captureEA l).fs = s.fs := rfl
@[simp] theorem State.captureEA_gs (l : Loc) : (s.captureEA l).gs = s.gs := rfl
@[simp] theorem State.captureEA_cpl (l : Loc) : (s.captureEA l).cpl = s.cpl := rfl
@[simp] theorem State.captureEA_flags (l : Loc) : (s.captureEA l).flags = s.flags := rfl
@[simp] theorem State.captureEA_cr0 (l : Loc) : (s.captureEA l).cr0 = s.cr0 := rfl
@[simp] theorem State.captureEA_cr2 (l : Loc) : (s.captureEA l).cr2 = s.cr2 := rfl
@[simp] theorem State.captureEA_cr3 (l : Loc) : (s.captureEA l).cr3 = s.cr3 := rfl
@[simp] theorem State.captureEA_dr0 (l : Loc) : (s.captureEA l).dr0 = s.dr0 := rfl
@[simp] theorem State.captureEA_dr1 (l : Loc) : (s.captureEA l).dr1 = s.dr1 := rfl
@[simp] theorem State.captureEA_dr2 (l : Loc) : (s.captureEA l).dr2 = s.dr2 := rfl
@[simp] theorem State.captureEA_dr3 (l : Loc) : (s.captureEA l).dr3 = s.dr3 := rfl
@[simp] theorem State.captureEA_dr4 (l : Loc) : (s.captureEA l).dr4 = s.dr4 := rfl
@[simp] theorem State.captureEA_dr5 (l : Loc) : (s.captureEA l).dr5 = s.dr5 := rfl
@[simp] theorem State.captureEA_dr6 (l : Loc) : (s.captureEA l).dr6 = s.dr6 := rfl
@[simp] theorem State.captureEA_dr7 (l : Loc) : (s.captureEA l).dr7 = s.dr7 := rfl
@[simp] theorem State.captureEA_gdtr (l : Loc) : (s.captureEA l).gdtr = s.gdtr := rfl
@[simp] theorem State.captureEA_idtr (l : Loc) : (s.captureEA l).idtr = s.idtr := rfl
@[simp] theorem State.captureEA_ldtr (l : Loc) : (s.captureEA l).ldtr = s.ldtr := rfl
@[simp] theorem State.captureEA_tr (l : Loc) : (s.captureEA l).tr = s.tr := rfl
@[simp] theorem State.captureEA_opFlags (l : Loc) : (s.captureEA l).opFlags = s.opFlags := rfl
@[simp] theorem State.captureEA_opPrefixes (l : Loc) : (s.captureEA l).opPrefixes = s.opPrefixes := rfl
@[simp] theorem State.captureEA_regEA (l : Loc) : (s.captureEA l).regEA = s.eaOf l := rfl
@[simp] theorem State.captureEA_regEAWrite (l : Loc) : (s.captureEA l).regEAWrite = s.regEAWrite := rfl
@[simp] theorem State.captureEA_nFault (l : Loc) : (s.captureEA l).nFault = s.nFault := rfl
@[simp] theorem State.captureEA_intFlags (l : Loc) : (s.captureEA l).intFlags = s.intFlags := rfl
@[simp] theorem State.captureEA_lastOpcode (l : Loc) : (s.captureEA l).lastOpcode = s.lastOpcode := rfl
@[simp] theorem State.captureEA_mem (l : Loc) : (s.captureEA l).mem = s.mem := rfl
@[simp] theorem State.captureEA_noTrap (l : Loc) : (s.captureEA l).noTrap = s.noTrap := rfl
@[simp] theorem State.captureEA_portAnswers (l : Loc) : (s.captureEA l).portAnswers = s.portAnswers := rfl
@[simp] theorem State.captureEA_intAcks (l : Loc) : (s.captureEA l).intAcks = s.intAcks := rfl
@[simp] theorem State.captureEA_oracleCount (l : Loc) : (s.captureEA l).oracleCount = s.oracleCount := rfl
@[simp] theorem State.captureEA_portLog (l : Loc) : (s.captureEA l).portLog = s.portLog := rfl
@[simp] theorem State.captureEA_busLog (l : Loc) : (s.captureEA l).busLog = s.busLog := rfl
@[simp] theorem State.captureEA_copAnswers (l : Loc) : (s.captureEA l).copAnswers = s.copAnswers := rfl
@[simp] theorem State.captureEA_copLog (l : Loc) : (s.captureEA l).copLog = s.copLog := rfl

/-! ### `captureWrite` -/

@[simp] theorem State.captureWrite_cfg (l : Loc) : (s.captureWrite l).cfg = s.cfg := rfl
@[simp] theorem State.captureWrite_gpr (l : Loc) : (s.captureWrite l).gpr = s.gpr := rfl
@[simp] theorem State.captureWrite_pc (l : Loc) : (s.captureWrite l).pc = s.pc := rfl
@[simp] theorem State.captureWrite_opLIP (l : Loc) : (s.captureWrite l).opLIP = s.opLIP := rfl
@[simp] theorem State.captureWrite_es (l : Loc) : (s.captureWrite l).es = s.es := rfl
@[simp] theorem State.captureWrite_cs (l : Loc) : (s.captureWrite l).cs = s.cs := rfl
@[simp] theorem State.captureWrite_ss (l : Loc) : (s.captureWrite l).ss = s.ss := rfl
@[simp] theorem State.captureWrite_ds (l : Loc) : (s.captureWrite l).ds = s.ds := rfl
@[simp] theorem State.captureWrite_fs (l : Loc) : (s.captureWrite l).fs = s.fs := rfl
@[simp] theorem State.captureWrite_gs (l : Loc) : (s.captureWrite l).gs = s.gs := rfl
@[simp] theorem State.captureWrite_cpl (l : Loc) : (s.captureWrite l).cpl = s.cpl := rfl
@[simp] theorem State.captureWrite_flags (l : Loc) : (s.captureWrite l).flags = s.flags := rfl
@[simp] theorem State.captureWrite_cr0 (l : Loc) : (s.captureWrite l).cr0 = s.cr0 := rfl
@[simp] theorem State.captureWrite_cr2 (l : Loc) : (s.captureWrite l).cr2 = s.cr2 := rfl
@[simp] theorem State.captureWrite_cr3 (l : Loc) : (s.captureWrite l).cr3 = s.cr3 := rfl
@[simp] theorem State.captureWrite_dr0 (l : Loc) : (s.captureWrite l).dr0 = s.dr0 := rfl
@[simp] theorem State.captureWrite_dr1 (l : Loc) : (s.captureWrite l).dr1 = s.dr1 := rfl
@[simp] theorem State.captureWrite_dr2 (l : Loc) : (s.captureWrite l).dr2 = s.dr2 := rfl
@[simp] theorem State.captureWrite_dr3 (l : Loc) : (s.captureWrite l).dr3 = s.dr3 := rfl
@[simp] theorem State.captureWrite_dr4 (l : Loc) : (s.captureWrite l).dr4 = s.dr4 := rfl
@[simp] theorem State.captureWrite_dr5 (l : Loc) : (s.captureWrite l).dr5 = s.dr5 := rfl
@[simp] theorem State.captureWrite_dr6 (l : Loc) : (s.captureWrite l).dr6 = s.dr6 := rfl
@[simp] theorem State.captureWrite_dr7 (l : Loc) : (s.captureWrite l).dr7 = s.dr7 := rfl
@[simp] theorem State.captureWrite_gdtr (l : Loc) : (s.captureWrite l).gdtr = s.gdtr := rfl
@[simp] theorem State.captureWrite_idtr (l : Loc) : (s.captureWrite l).idtr = s.idtr := rfl
@[simp] theorem State.captureWrite_ldtr (l : Loc) : (s.captureWrite l).ldtr = s.ldtr := rfl
@[simp] theorem State.captureWrite_tr (l : Loc) : (s.captureWrite l).tr = s.tr := rfl
@[simp] theorem State.captureWrite_opFlags (l : Loc) : (s.captureWrite l).opFlags = s.opFlags := rfl
@[simp] theorem State.captureWrite_opPrefixes (l : Loc) : (s.captureWrite l).opPrefixes = s.opPrefixes := rfl
@[simp] theorem State.captureWrite_regEA (l : Loc) : (s.captureWrite l).regEA = s.regEA := rfl
@[simp] theorem State.captureWrite_regEAWrite (l : Loc) : (s.captureWrite l).regEAWrite = s.eaOf l := rfl
@[simp] theorem State.captureWrite_nFault (l : Loc) : (s.captureWrite l).nFault = s.nFault := rfl
@[simp] theorem State.captureWrite_intFlags (l : Loc) : (s.captureWrite l).intFlags = s.intFlags := rfl
@[simp] theorem State.captureWrite_lastOpcode (l : Loc) : (s.captureWrite l).lastOpcode = s.lastOpcode := rfl
@[simp] theorem State.captureWrite_mem (l : Loc) : (s.captureWrite l).mem = s.mem := rfl
@[simp] theorem State.captureWrite_noTrap (l : Loc) : (s.captureWrite l).noTrap = s.noTrap := rfl
@[simp] theorem State.captureWrite_portAnswers (l : Loc) : (s.captureWrite l).portAnswers = s.portAnswers := rfl
@[simp] theorem State.captureWrite_intAcks (l : Loc) : (s.captureWrite l).intAcks = s.intAcks := rfl
@[simp] theorem State.captureWrite_oracleCount (l : Loc) : (s.captureWrite l).oracleCount = s.oracleCount := rfl
@[simp] theorem State.captureWrite_portLog (l : Loc) : (s.captureWrite l).portLog = s.portLog := rfl
@[simp] theorem State.captureWrite_busLog (l : Loc) : (s.captureWrite l).busLog = s.busLog := rfl
@[simp] theorem State.captureWrite_copAnswers (l : Loc) : (s.captureWrite l).copAnswers = s.copAnswers := rfl
@[simp] theorem State.captureWrite_copLog (l : Loc) : (s.captureWrite l).copLog = s.copLog := rfl

/-! ### `setBusByte` -/

@[simp] theorem State.setBusByte_cfg (a : Nat) (v : Byte) : (s.setBusByte a v).cfg = s.cfg := by
  unfold State.setBusByte; split <;> rfl
@[simp] theorem State.setBusByte_gpr (a : Nat) (v : Byte) : (s.setBusByte a v).gpr = s.gpr := by
  unfold State.setBusByte; split <;> rfl
@[simp] theorem State.setBusByte_pc (a : Nat) (v : Byte) : (s.setBusByte a v).pc = s.pc := by
  unfold State.setBusByte; split <;> rfl
@[simp] theorem State.setBusByte_opLIP (a : Nat) (v : Byte) : (s.setBusByte a v).opLIP = s.opLIP := by
  unfold State.setBusByte; split <;> rfl
@[simp] theorem State.setBusByte_es (a : Nat) (v : Byte) : (s.setBusByte a v).es = s.es := by
  unfold State.setBusByte; split <;> rfl
@[simp] theorem State.setBusByte_cs (a : Nat) (v : Byte) : (s.setBusByte a v).cs = s.cs := by
  unfold State.setBusByte; split <;> rfl
@[simp] theorem State.setBusByte_ss (a : Nat) (v : Byte) : (s.setBusByte a v).ss = s.ss := by
  unfold State.setBusByte; split <;> rfl
@[simp] theorem State.setBusByte_ds (a : Nat) (v : Byte) : (s.setBusByte a v).ds = s.ds := by
  unfold State.setBusByte; split <;> rfl
@[simp] theorem State.setBusByte_fs (a : Nat) (v : Byte) : (s.setBusByte a v).fs = s.fs := by
  unfold State.setBusByte; split <;> rfl
@[simp] theorem State.setBusByte_gs (a : Nat) (v : Byte) : (s.setBusByte a v).gs = s.gs := by
  unfold State.setBusByte; split <;> rfl
@[simp] theorem State.setBusByte_cpl (a : Nat) (v : Byte) : (s.setBusByte a v).cpl = s.cpl := by
  unfold State.setBusByte; split <;> rfl
@[simp] theorem State.setBusByte_flags (a : Nat) (v : Byte) : (s.setBusByte a v).flags = s.flags := by
  unfold State.setBusByte; split <;> rfl
@[simp] theorem State.setBusByte_cr0 (a : Nat) (v : Byte) : (s.setBusByte a v).cr0 = s.cr0 := by
  unfold State.setBusByte; split <;> rfl
@[simp] theorem State.setBusByte_cr2 (a : Nat) (v : Byte) : (s.setBusByte a v).cr2 = s.cr2 := by
  unfold State.setBusByte; split <;> rfl
@[simp] theorem State.setBusByte_cr3 (a : Nat) (v : Byte) : (s.setBusByte a v).cr3 = s.cr3 := by
  unfold State.setBusByte; split <;> rfl
@[simp] theorem State.setBusByte_dr0 (a : Nat) (v : Byte) : (s.setBusByte a v).dr0 = s.dr0 := by
  unfold State.setBusByte; split <;> rfl
@[simp] theorem State.setBusByte_dr1 (a : Nat) (v : Byte) : (s.setBusByte a v).dr1 = s.dr1 := by
  unfold State.setBusByte; split <;> rfl
@[simp] theorem State.setBusByte_dr2 (a : Nat) (v : Byte) : (s.setBusByte a v).dr2 = s.dr2 := by
  unfold State.setBusByte; split <;> rfl
@[simp] theorem State.setBusByte_dr3 (a : Nat) (v : Byte) : (s.setBusByte a v).dr3 = s.dr3 := by
  unfold State.setBusByte; split <;> rfl
@[simp] theorem State.setBusByte_dr4 (a : Nat) (v : Byte) : (s.setBusByte a v).dr4 = s.dr4 := by
  unfold State.setBusByte; split <;> rfl
@[simp] theorem State.setBusByte_dr5 (a : Nat) (v : Byte) : (s.setBusByte a v).dr5 = s.dr5 := by
  unfold State.setBusByte; split <;> rfl
@[simp] theorem State.setBusByte_dr6 (a : Nat) (v : Byte) : (s.setBusByte a v).dr6 = s.dr6 := by
  unfold State.setBusByte; split <;> rfl
@[simp] theorem State.setBusByte_dr7 (a : Nat) (v : Byte) : (s.setBusByte a v).dr7 = s.dr7 := by
  unfold State.setBusByte; split <;> rfl
@[simp] theorem State.setBusByte_gdtr (a : Nat) (v : Byte) : (s.setBusByte a v).gdtr = s.gdtr := by
  unfold State.setBusByte; split <;> rfl
@[simp] theorem State.setBusByte_idtr (a : Nat) (v : Byte) : (s.setBusByte a v).idtr = s.idtr := by
  unfold State.setBusByte; split <;> rfl
@[simp] theorem State.setBusByte_ldtr (a : Nat) (v : Byte) : (s.setBusByte a v).ldtr = s.ldtr := by
  unfold State.setBusByte; split <;> rfl
@[simp] theorem State.setBusByte_tr (a : Nat) (v : Byte) : (s.setBusByte a v).tr = s.tr := by
  unfold State.setBusByte; split <;> rfl
@[simp] theorem State.setBusByte_opFlags (a : Nat) (v : Byte) : (s.setBusByte a v).opFlags = s.opFlags := by
  unfold State.setBusByte; split <;> rfl
@[simp] theorem State.setBusByte_opPrefixes (a : Nat) (v : Byte) : (s.setBusByte a v).opPrefixes = s.opPrefixes := by
  unfold State.setBusByte; split <;> rfl
@[simp] theorem State.setBusByte_regEA (a : Nat) (v : Byte) : (s.setBusByte a v).regEA = s.regEA := by
  unfold State.setBusByte; split <;> rfl
@[simp] theorem State.setBusByte_regEAWrite (a : Nat) (v : Byte) : (s.setBusByte a v).regEAWrite = s.regEAWrite := by
  unfold State.setBusByte; split <;> rfl
@[simp] theorem State.setBusByte_nFault (a : Nat) (v : Byte) : (s.setBusByte a v).nFault = s.nFault := by
  unfold State.setBusByte; split <;> rfl
@[simp] theorem State.setBusByte_intFlags (a : Nat) (v : Byte) : (s.setBusByte a v).intFlags = s.intFlags := by
  unfold State.setBusByte; split <;> rfl
@[simp] theorem State.setBusByte_lastOpcode (a : Nat) (v : Byte) : (s.setBusByte a v).lastOpcode = s.lastOpcode := by
  unfold State.setBusByte; split <;> rfl
@[simp] theorem State.setBusByte_noTrap (a : Nat) (v : Byte) : (s.setBusByte a v).noTrap = s.noTrap := by
  unfold State.setBusByte; split <;> rfl
@[simp] theorem State.setBusByte_portAnswers (a : Nat) (v : Byte) : (s.setBusByte a v).portAnswers = s.portAnswers := by
  unfold State.setBusByte; split <;> rfl
@[simp] theorem State.setBusByte_intAcks (a : Nat) (v : Byte) : (s.setBusByte a v).intAcks = s.intAcks := by
  unfold State.setBusByte; split <;> rfl
@[simp] theorem State.setBusByte_oracleCount (a : Nat) (v : Byte) : (s.setBusByte a v).oracleCount = s.oracleCount := by
  unfold State.setBusByte; split <;> rfl
@[simp] theorem State.setBusByte_portLog (a : Nat) (v : Byte) : (s.setBusByte a v).portLog = s.portLog := by
  unfold State.setBusByte; split <;> rfl
@[simp] theorem State.setBusByte_busLog (a : Nat) (v : Byte) : (s.setBusByte a v).busLog = s.busLog := by
  unfold State.setBusByte; split <;> rfl
@[simp] theorem State.setBusByte_copAnswers (a : Nat) (v : Byte) : (s.setBusByte a v).copAnswers = s.copAnswers := by
  unfold State.setBusByte; split <;> rfl
@[simp] theorem State.setBusByte_copLog (a : Nat) (v : Byte) : (s.setBusByte a v).copLog = s.copLog := by
  unfold State.setBusByte; split <;> rfl

/-! ### `busWrite` -/

@[simp] theorem State.busWrite_cfg (as : List Nat) (bs : List Byte) (s : State) : (s.busWrite as bs).cfg = s.cfg := by
  induction as generalizing bs s with
  | nil => rfl
  | cons a as ih => cases bs with
    | nil => rfl
    | cons b bs => exact (ih bs (s.setBusByte a b)).trans (by simp)
@[simp] theorem State.busWrite_gpr (as : List Nat) (bs : List Byte) (s : State) : (s.busWrite as bs).gpr = s.gpr := by
  induction as generalizing bs s with
  | nil => rfl
  | cons a as ih => cases bs with
    | nil => rfl
    | cons b bs => exact (ih bs (s.setBusByte a b)).trans (by simp)
@[simp] theorem State.busWrite_pc (as : List Nat) (bs : List Byte) (s : State) : (s.busWrite as bs).pc = s.pc := by
  induction as generalizing bs s with
  | nil => rfl
  | cons a as ih => cases bs with
    | nil => rfl
    | cons b bs => exact (ih bs (s.setBusByte a b)).trans (by simp)
@[simp] theorem State.busWrite_opLIP (as : List Nat) (bs : List Byte) (s : State) : (s.busWrite as bs).opLIP = s.opLIP := by
  induction as generalizing bs s with
  | nil => rfl
  | cons a as ih => cases bs with
    | nil => rfl
    | cons b bs => exact (ih bs (s.setBusByte a b)).trans (by simp)
@[simp] theorem State.busWrite_es (as : List Nat) (bs : List Byte) (s : State) : (s.busWrite as bs).es = s.es := by
  induction as generalizing bs s with
  | nil => rfl
  | cons a as ih => cases bs with
    | nil => rfl
    | cons b bs => exact (ih bs (s.setBusByte a b)).trans (by simp)
@[simp] theorem State.busWrite_cs (as : List Nat) (bs : List Byte) (s : State) : (s.busWrite as bs).cs = s.cs := by
  induction as generalizing bs s with
  | nil => rfl
  | cons a as ih => cases bs with
    | nil => rfl
    | cons b bs => exact (ih bs (s.setBusByte a b)).trans (by simp)
@[simp] theorem State.busWrite_ss (as : List Nat) (bs : List Byte) (s : State) : (s.busWrite as bs).ss = s.ss := by
  induction as generalizing bs s with
  | nil => rfl
  | cons a as ih => cases bs with
    | nil => rfl
    | cons b bs => exact (ih bs (s.setBusByte a b)).trans (by simp)
@[simp] theorem State.busWrite_ds (as : List Nat) (bs : List Byte) (s : State) : (s.busWrite as bs).ds = s.ds := by
  induction as generalizing bs s with
  | nil => rfl
  | cons a as ih => cases bs with
    | nil => rfl
    | cons b bs => exact (ih bs (s.setBusByte a b)).trans (by simp)
@[simp] theorem State.busWrite_fs (as : List Nat) (bs : List Byte) (s : State) : (s.busWrite as bs).fs = s.fs := by
  induction as generalizing bs s with
  | nil => rfl
  | cons a as ih => cases bs with
    | nil => rfl
    | cons b bs => exact (ih bs (s.setBusByte a b)).trans (by simp)
@[simp] theorem State.busWrite_gs (as : List Nat) (bs : List Byte) (s : State) : (s.busWrite as bs).gs = s.gs := by
  induction as generalizing bs s with
  | nil => rfl
  | cons a as ih => cases bs with
    | nil => rfl
    | cons b bs => exact (ih bs (s.setBusByte a b)).trans (by simp)
@[simp] theorem State.busWrite_cpl (as : List Nat) (bs : List Byte) (s : State) : (s.busWrite as bs).cpl = s.cpl := by
  induction as generalizing bs s with
  | nil => rfl
  | cons a as ih => cases bs with
    | nil => rfl
    | cons b bs => exact (ih bs (s.setBusByte a b)).trans (by simp)
@[simp] theorem State.busWrite_flags (as : List Nat) (bs : List Byte) (s : State) : (s.busWrite as bs).flags = s.flags := by
  induction as generalizing bs s with
  | nil => rfl
  | cons a as ih => cases bs with
    | nil => rfl
    | cons b bs => exact (ih bs (s.setBusByte a b)).trans (by simp)
@[simp] theorem State.busWrite_cr0 (as : List Nat) (bs : List Byte) (s : State) : (s.busWrite as bs).cr0 = s.cr0 := by
  induction as generalizing bs s with
  | nil => rfl
  | cons a as ih => cases bs with
    | nil => rfl
    | cons b bs => exact (ih bs (s.setBusByte a b)).trans (by simp)
@[simp] theorem State.busWrite_cr2 (as : List Nat) (bs : List Byte) (s : State) : (s.busWrite as bs).cr2 = s.cr2 := by
  induction as generalizing bs s with
  | nil => rfl
  | cons a as ih => cases bs with
    | nil => rfl
    | cons b bs => exact (ih bs (s.setBusByte a b)).trans (by simp)
@[simp] theorem State.busWrite_cr3 (as : List Nat) (bs : List Byte) (s : State) : (s.busWrite as bs).cr3 = s.cr3 := by
  induction as generalizing bs s with
  | nil => rfl
  | cons a as ih => cases bs with
    | nil => rfl
    | cons b bs => exact (ih bs (s.setBusByte a b)).trans (by simp)
@[simp] theorem State.busWrite_dr0 (as : List Nat) (bs : List Byte) (s : State) : (s.busWrite as bs).dr0 = s.dr0 := by
  induction as generalizing bs s with
  | nil => rfl
  | cons a as ih => cases bs with
    | nil => rfl
    | cons b bs => exact (ih bs (s.setBusByte a b)).trans (by simp)
@[simp] theorem State.busWrite_dr1 (as : List Nat) (bs : List Byte) (s : State) : (s.busWrite as bs).dr1 = s.dr1 := by
  induction as generalizing bs s with
  | nil => rfl
  | cons a as ih => cases bs with
    | nil => rfl
    | cons b bs => exact (ih bs (s.setBusByte a b)).trans (by simp)
@[simp] theorem State.busWrite_dr2 (as : List Nat) (bs : List Byte) (s : State) : (s.busWrite as bs).dr2 = s.dr2 := by
  induction as generalizing bs s with
  | nil => rfl
  | cons a as ih => cases bs with
    | nil => rfl
    | cons b bs => exact (ih bs (s.setBusByte a b)).trans (by simp)
@[simp] theorem State.busWrite_dr3 (as : List Nat) (bs : List Byte) (s : State) : (s.busWrite as bs).dr3 = s.dr3 := by
  induction as generalizing bs s with
  | nil => rfl
  | cons a as ih => cases bs with
    | nil => rfl
    | cons b bs => exact (ih bs (s.setBusByte a b)).trans (by simp)
@[simp] theorem State.busWrite_dr4 (as : List Nat) (bs : List Byte) (s : State) : (s.busWrite as bs).dr4 = s.dr4 := by
  induction as generalizing bs s with
  | nil => rfl
  | cons a as ih => cases bs with
    | nil => rfl
    | cons b bs => exact (ih bs (s.setBusByte a b)).trans (by simp)
@[simp] theorem State.busWrite_dr5 (as : List Nat) (bs : List Byte) (s : State) : (s.busWrite as bs).dr5 = s.dr5 := by
  induction as generalizing bs s with
  | nil => rfl
  | cons a as ih => cases bs with
    | nil => rfl
    | cons b bs => exact (ih bs (s.setBusByte a b)).trans (by simp)
@[simp] theorem State.busWrite_dr6 (as : List Nat) (bs : List Byte) (s : State) : (s.busWrite as bs).dr6 = s.dr6 := by
  induction as generalizing bs s with
  | nil => rfl
  | cons a as ih => cases bs with
    | nil => rfl
    | cons b bs => exact (ih bs (s.setBusByte a b)).trans (by simp)
@[simp] theorem State.busWrite_dr7 (as : List Nat) (bs : List Byte) (s : State) : (s.busWrite as bs).dr7 = s.dr7 := by
  induction as generalizing bs s with
  | nil => rfl
  | cons a as ih => cases bs with
    | nil => rfl
    | cons b bs => exact (ih bs (s.setBusByte a b)).trans (by simp)
@[simp] theorem State.busWrite_gdtr (as : List Nat) (bs : List Byte) (s : State) : (s.busWrite as bs).gdtr = s.gdtr := by
  induction as generalizing bs s with
  | nil => rfl
  | cons a as ih => cases bs with
    | nil => rfl
    | cons b bs => exact (ih bs (s.setBusByte a b)).trans (by simp)
@[simp] theorem State.busWrite_idtr (as : List Nat) (bs : List Byte) (s : State) : (s.busWrite as bs).idtr = s.idtr := by
  induction as generalizing bs s with
  | nil => rfl
  | cons a as ih => cases bs with
    | nil => rfl
    | cons b bs => exact (ih bs (s.setBusByte a b)).trans (by simp)
@[simp] theorem State.busWrite_ldtr (as : List Nat) (bs : List Byte) (s : State) : (s.busWrite as bs).ldtr = s.ldtr := by
  induction as generalizing bs s with
  | nil => rfl
  | cons a as ih => cases bs with
    | nil => rfl
    | cons b bs => exact (ih bs (s.setBusByte a b)).trans (by simp)
@[simp] theorem State.busWrite_tr (as : List Nat) (bs : List Byte) (s : State) : (s.busWrite as bs).tr = s.tr := by
  induction as generalizing bs s with
  | nil => rfl
  | cons a as ih => cases bs with
    | nil => rfl
    | cons b bs => exact (ih bs (s.setBusByte a b)).trans (by simp)
@[simp] theorem State.busWrite_opFlags (as : List Nat) (bs : List Byte) (s : State) : (s.busWrite as bs).opFlags = s.opFlags := by
  induction as generalizing bs s with
  | nil => rfl
  | cons a as ih => cases bs with
    | nil => rfl
    | cons b bs => exact (ih bs (s.setBusByte a b)).trans (by simp)
@[simp] theorem State.busWrite_opPrefixes (as : List Nat) (bs : List Byte) (s : State) : (s.busWrite as bs).opPrefixes = s.opPrefixes := by
  induction as generalizing bs s with
  | nil => rfl
  | cons a as ih => cases bs with
    | nil => rfl
    | cons b bs => exact (ih bs (s.setBusByte a b)).trans (by simp)
@[simp] theorem State.busWrite_regEA (as : List Nat) (bs : List Byte) (s : State) : (s.busWrite as bs).regEA = s.regEA := by
  induction as generalizing bs s with
  | nil => rfl
  | cons a as ih => cases bs with
    | nil => rfl
    | cons b bs => exact (ih bs (s.setBusByte a b)).trans (by simp)
@[simp] theorem State.busWrite_regEAWrite (as : List Nat) (bs : List Byte) (s : State) : (s.busWrite as bs).regEAWrite = s.regEAWrite := by
  induction as generalizing bs s with
  | nil => rfl
  | cons a as ih => cases bs with
    | nil => rfl
    | cons b bs => exact (ih bs (s.setBusByte a b)).trans (by simp)
@[simp] theorem State.busWrite_nFault (as : List Nat) (bs : List Byte) (s : State) : (s.busWrite as bs).nFault = s.nFault := by
  induction as generalizing bs s with
  | nil => rfl
  | cons a as ih => cases bs with
    | nil => rfl
    | cons b bs => exact (ih bs (s.setBusByte a b)).trans (by simp)
@[simp] theorem State.busWrite_intFlags (as : List Nat) (bs : List Byte) (s : State) : (s.busWrite as bs).intFlags = s.intFlags := by
  induction as generalizing bs s with
  | nil => rfl
  | cons a as ih => cases bs with
    | nil => rfl
    | cons b bs => exact (ih bs (s.setBusByte a b)).trans (by simp)
@[simp] theorem State.busWrite_lastOpcode (as : List Nat) (bs : List Byte) (s : State) : (s.busWrite as bs).lastOpcode = s.lastOpcode := by
  induction as generalizing bs s with
  | nil => rfl
  | cons a as ih => cases bs with
    | nil => rfl
    | cons b bs => exact (ih bs (s.setBusByte a b)).trans (by simp)
@[simp] theorem State.busWrite_noTrap (as : List Nat) (bs : List Byte) (s : State) : (s.busWrite as bs).noTrap = s.noTrap := by
  induction as generalizing bs s with
  | nil => rfl
  | cons a as ih => cases bs with
    | nil => rfl
    | cons b bs => exact (ih bs (s.setBusByte a b)).trans (by simp)
@[simp] theorem State.busWrite_portAnswers (as : List Nat) (bs : List Byte) (s : State) : (s.busWrite as bs).portAnswers = s.portAnswers := by
  induction as generalizing bs s with
  | nil => rfl
  | cons a as ih => cases bs with
    | nil => rfl
    | cons b bs => exact (ih bs (s.setBusByte a b)).trans (by simp)
@[simp] theorem State.busWrite_intAcks (as : List Nat) (bs : List Byte) (s : State) : (s.busWrite as bs).intAcks = s.intAcks := by
  induction as generalizing bs s with
  | nil => rfl
  | cons a as ih => cases bs with
    | nil => rfl
    | cons b bs => exact (ih bs (s.setBusByte a b)).trans (by simp)
@[simp] theorem State.busWrite_oracleCount (as : List Nat) (bs : List Byte) (s : State) : (s.busWrite as bs).oracleCount = s.oracleCount := by
  induction as generalizing bs s with
  | nil => rfl
  | cons a as ih => cases bs with
    | nil => rfl
    | cons b bs => exact (ih bs (s.setBusByte a b)).trans (by simp)
@[simp] theorem State.busWrite_portLog (as : List Nat) (bs : List Byte) (s : State) : (s.busWrite as bs).portLog = s.portLog := by
  induction as generalizing bs s with
  | nil => rfl
  | cons a as ih => cases bs with
    | nil => rfl
    | cons b bs => exact (ih bs (s.setBusByte a b)).trans (by simp)
@[simp] theorem State.busWrite_busLog (as : List Nat) (bs : List Byte) (s : State) : (s.busWrite as bs).busLog = s.busLog := by
  induction as generalizing bs s with
  | nil => rfl
  | cons a as ih => cases bs with
    | nil => rfl
    | cons b bs => exact (ih bs (s.setBusByte a b)).trans (by simp)
@[simp] theorem State.busWrite_copAnswers (as : List Nat) (bs : List Byte) (s : State) : (s.busWrite as bs).copAnswers = s.copAnswers := by
  induction as generalizing bs s with
  | nil => rfl
  | cons a as ih => cases bs with
    | nil => rfl
    | cons b bs => exact (ih bs (s.setBusByte a b)).trans (by simp)
@[simp] theorem State.busWrite_copLog (as : List Nat) (bs : List Byte) (s : State) : (s.busWrite as bs).copLog = s.copLog := by
  induction as generalizing bs s with
  | nil => rfl
  | cons a as ih => cases bs with
    | nil => rfl
    | cons b bs => exact (ih bs (s.setBusByte a b)).trans (by simp)

/-! ### `logBus` -/

@[simp] theorem State.logBus_cfg (es : List BusEvent) : (s.logBus es).cfg = s.cfg := rfl
@[simp] theorem State.logBus_gpr (es : List BusEvent) : (s.logBus es).gpr = s.gpr := rfl
@[simp] theorem State.logBus_pc (es : List BusEvent) : (s.logBus es).pc = s.pc := rfl
@[simp] theorem State.logBus_opLIP (es : List BusEvent) : (s.logBus es).opLIP = s.opLIP := rfl
@[simp] theorem State.logBus_es (es : List BusEvent) : (s.logBus es).es = s.es := rfl
@[simp] theorem State.logBus_cs (es : List BusEvent) : (s.logBus es).cs = s.cs := rfl
@[simp] theorem State.logBus_ss (es : List BusEvent) : (s.logBus es).ss = s.ss := rfl
@[simp] theorem State.logBus_ds (es : List BusEvent) : (s.logBus es).ds = s.ds := rfl
@[simp] theorem State.logBus_fs (es : List BusEvent) : (s.logBus es).fs = s.fs := rfl
@[simp] theorem State.logBus_gs (es : List BusEvent) : (s.logBus es).gs = s.gs := rfl
@[simp] theorem State.logBus_cpl (es : List BusEvent) : (s.logBus es).cpl = s.cpl := rfl
@[simp] theorem State.logBus_flags (es : List BusEvent) : (s.logBus es).flags = s.flags := rfl
@[simp] theorem State.logBus_cr0 (es : List BusEvent) : (s.logBus es).cr0 = s.cr0 := rfl
@[simp] theorem State.logBus_cr2 (es : List BusEvent) : (s.logBus es).cr2 = s.cr2 := rfl
@[simp] theorem State.logBus_cr3 (es : List BusEvent) : (s.logBus es).cr3 = s.cr3 := rfl
@[simp] theorem State.logBus_dr0 (es : List BusEvent) : (s.logBus es).dr0 = s.dr0 := rfl
@[simp] theorem State.logBus_dr1 (es : List BusEvent) : (s.logBus es).dr1 = s.dr1 := rfl
@[simp] theorem State.logBus_dr2 (es : List BusEvent) : (s.logBus es).dr2 = s.dr2 := rfl
@[simp] theorem State.logBus_dr3 (es : List BusEvent) : (s.logBus es).dr3 = s.dr3 := rfl
@[simp] theorem State.logBus_dr4 (es : List BusEvent) : (s.logBus es).dr4 = s.dr4 := rfl
@[simp] theorem State.logBus_dr5 (es : List BusEvent) : (s.logBus es).dr5 = s.dr5 := rfl
@[simp] theorem State.logBus_dr6 (es : List BusEvent) : (s.logBus es).dr6 = s.dr6 := rfl
@[simp] theorem State.logBus_dr7 (es : List BusEvent) : (s.logBus es).dr7 = s.dr7 := rfl
@[simp] theorem State.logBus_gdtr (es : List BusEvent) : (s.logBus es).gdtr = s.gdtr := rfl
@[simp] theorem State.logBus_idtr (es : List BusEvent) : (s.logBus es).idtr = s.idtr := rfl
@[simp] theorem State.logBus_ldtr (es : List BusEvent) : (s.logBus es).ldtr = s.ldtr := rfl
@[simp] theorem State.logBus_tr (es : List BusEvent) : (s.logBus es).tr = s.tr := rfl
@[simp] theorem State.logBus_opFlags (es : List BusEvent) : (s.logBus es).opFlags = s.opFlags := rfl
@[simp] theorem State.logBus_opPrefixes (es : List BusEvent) : (s.logBus es).opPrefixes = s.opPrefixes := rfl
@[simp] theorem State.logBus_regEA (es : List BusEvent) : (s.logBus es).regEA = s.regEA := rfl
@[simp] theorem State.logBus_regEAWrite (es : List BusEvent) : (s.logBus es).regEAWrite = s.regEAWrite := rfl
@[simp] theorem State.logBus_nFault (es : List BusEvent) : (s.logBus es).nFault = s.nFault := rfl
@[simp] theorem State.logBus_intFlags (es : List BusEvent) : (s.logBus es).intFlags = s.intFlags := rfl
@[simp] theorem State.logBus_lastOpcode (es : List BusEvent) : (s.logBus es).lastOpcode = s.lastOpcode := rfl
@[simp] theorem State.logBus_mem (es : List BusEvent) : (s.logBus es).mem = s.mem := rfl
@[simp] theorem State.logBus_noTrap (es : List BusEvent) : (s.logBus es).noTrap = s.noTrap := rfl
@[simp] theorem State.logBus_portAnswers (es : List BusEvent) : (s.logBus es).portAnswers = s.portAnswers := rfl
@[simp] theorem State.logBus_intAcks (es : List BusEvent) : (s.logBus es).intAcks = s.intAcks := rfl
@[simp] theorem State.logBus_oracleCount (es : List BusEvent) : (s.logBus es).oracleCount = s.oracleCount := rfl
@[simp] theorem State.logBus_portLog (es : List BusEvent) : (s.logBus es).portLog = s.portLog := rfl
@[simp] theorem State.logBus_busLog (es : List BusEvent) : (s.logBus es).busLog = es.reverse ++ s.busLog := rfl
@[simp] theorem State.logBus_copAnswers (es : List BusEvent) : (s.logBus es).copAnswers = s.copAnswers := rfl
@[simp] theorem State.logBus_copLog (es : List BusEvent) : (s.logBus es).copLog = s.copLog := rfl

/-! ### `busStore` -/

@[simp] theorem State.busStore_cfg (ops : BusOps) (bs : List Byte) : (s.busStore ops bs).cfg = s.cfg := by simp [State.busStore]
@[simp] theorem State.busStore_gpr (ops : BusOps) (bs : List Byte) : (s.busStore ops bs).gpr = s.gpr := by simp [State.busStore]
@[simp] theorem State.busStore_pc (ops : BusOps) (bs : List Byte) : (s.busStore ops bs).pc = s.pc := by simp [State.busStore]
@[simp] theorem State.busStore_opLIP (ops : BusOps) (bs : List Byte) : (s.busStore ops bs).opLIP = s.opLIP := by simp [State.busStore]
@[simp] theorem State.busStore_es (ops : BusOps) (bs : List Byte) : (s.busStore ops bs).es = s.es := by simp [State.busStore]
@[simp] theorem State.busStore_cs (ops : BusOps) (bs : List Byte) : (s.busStore ops bs).cs = s.cs := by simp [State.busStore]
@[simp] theorem State.busStore_ss (ops : BusOps) (bs : List Byte) : (s.busStore ops bs).ss = s.ss := by simp [State.busStore]
@[simp] theorem State.busStore_ds (ops : BusOps) (bs : List Byte) : (s.busStore ops bs).ds = s.ds := by simp [State.busStore]
@[simp] theorem State.busStore_fs (ops : BusOps) (bs : List Byte) : (s.busStore ops bs).fs = s.fs := by simp [State.busStore]
@[simp] theorem State.busStore_gs (ops : BusOps) (bs : List Byte) : (s.busStore ops bs).gs = s.gs := by simp [State.busStore]
@[simp] theorem State.busStore_cpl (ops : BusOps) (bs : List Byte) : (s.busStore ops bs).cpl = s.cpl := by simp [State.busStore]
@[simp] theorem State.busStore_flags (ops : BusOps) (bs : List Byte) : (s.busStore ops bs).flags = s.flags := by simp [State.busStore]
@[simp] theorem State.busStore_cr0 (ops : BusOps) (bs : List Byte) : (s.busStore ops bs).cr0 = s.cr0 := by simp [State.busStore]
@[simp] theorem State.busStore_cr2 (ops : BusOps) (bs : List Byte) : (s.busStore ops bs).cr2 = s.cr2 := by simp [State.busStore]
@[simp] theorem State.busStore_cr3 (ops : BusOps) (bs : List Byte) : (s.busStore ops bs).cr3 = s.cr3 := by simp [State.busStore]
@[simp] theorem State.busStore_dr0 (ops : BusOps) (bs : List Byte) : (s.busStore ops bs).dr0 = s.dr0 := by simp [State.busStore]
@[simp] theorem State.busStore_dr1 (ops : BusOps) (bs : List Byte) : (s.busStore ops bs).dr1 = s.dr1 := by simp [State.busStore]
@[simp] theorem State.busStore_dr2 (ops : BusOps) (bs : List Byte) : (s.busStore ops bs).dr2 = s.dr2 := by simp [State.busStore]
@[simp] theorem State.busStore_dr3 (ops : BusOps) (bs : List Byte) : (s.busStore ops bs).dr3 = s.dr3 := by simp [State.busStore]
@[simp] theorem State.busStore_dr4 (ops : BusOps) (bs : List Byte) : (s.busStore ops bs).dr4 = s.dr4 := by simp [State.busStore]
@[simp] theorem State.busStore_dr5 (ops : BusOps) (bs : List Byte) : (s.busStore ops bs).dr5 = s.dr5 := by simp [State.busStore]
@[simp] theorem State.busStore_dr6 (ops : BusOps) (bs : List Byte) : (s.busStore ops bs).dr6 = s.dr6 := by simp [State.busStore]
@[simp] theorem State.busStore_dr7 (ops : BusOps) (bs : List Byte) : (s.busStore ops bs).dr7 = s.dr7 := by simp [State.busStore]
@[simp] theorem State.busStore_gdtr (ops : BusOps) (bs : List Byte) : (s.busStore ops bs).gdtr = s.gdtr := by simp [State.busStore]
@[simp] theorem State.busStore_idtr (ops : BusOps) (bs : List Byte) : (s.busStore ops bs).idtr = s.idtr := by simp [State.busStore]
@[simp] theorem State.busStore_ldtr (ops : BusOps) (bs : List Byte) : (s.busStore ops bs).ldtr = s.ldtr := by simp [State.busStore]
@[simp] theorem State.busStore_tr (ops : BusOps) (bs : List Byte) : (s.busStore ops bs).tr = s.tr := by simp [State.busStore]
@[simp] theorem State.busStore_opFlags (ops : BusOps) (bs : List Byte) : (s.busStore ops bs).opFlags = s.opFlags := by simp [State.busStore]
@[simp] theorem State.busStore_opPrefixes (ops : BusOps) (bs : List Byte) : (s.busStore ops bs).opPrefixes = s.opPrefixes := by simp [State.busStore]
@[simp] theorem State.busStore_regEA (ops : BusOps) (bs : List Byte) : (s.busStore ops bs).regEA = s.regEA := by simp [State.busStore]
@[simp] theorem State.busStore_regEAWrite (ops : BusOps) (bs : List Byte) : (s.busStore ops bs).regEAWrite = s.regEAWrite := by simp [State.busStore]
@[simp] theorem State.busStore_nFault (ops : BusOps) (bs : List Byte) : (s.busStore ops bs).nFault = s.nFault := by simp [State.busStore]
@[simp] theorem State.busStore_intFlags (ops : BusOps) (bs : List Byte) : (s.busStore ops bs).intFlags = s.intFlags := by simp [State.busStore]
@[simp] theorem State.busStore_lastOpcode (ops : BusOps) (bs : List Byte) : (s.busStore ops bs).lastOpcode = s.lastOpcode := by simp [State.busStore]
@[simp] theorem State.busStore_mem (ops : BusOps) (bs : List Byte) : (s.busStore ops bs).mem = (s.busWrite ops.flatten bs).mem := by simp [State.busStore]
@[simp] theorem State.busStore_noTrap (ops : BusOps) (bs : List Byte) : (s.busStore ops bs).noTrap = s.noTrap := by simp [State.busStore]
@[simp] theorem State.busStore_portAnswers (ops : BusOps) (bs : List Byte) : (s.busStore ops bs).portAnswers = s.portAnswers := by simp [State.busStore]
@[simp] theorem State.busStore_intAcks (ops : BusOps) (bs : List Byte) : (s.busStore ops bs).intAcks = s.intAcks := by simp [State.busStore]
@[simp] theorem State.busStore_oracleCount (ops : BusOps) (bs : List Byte) : (s.busStore ops bs).oracleCount = s.oracleCount := by simp [State.busStore]
@[simp] theorem State.busStore_portLog (ops : BusOps) (bs : List Byte) : (s.busStore ops bs).portLog = s.portLog := by simp [State.busStore]
@[simp] theorem State.busStore_busLog (ops : BusOps) (bs : List Byte) : (s.busStore ops bs).busLog = (s.writeEvents ops bs).reverse ++ s.busLog := by simp [State.busStore]
@[simp] theorem State.busStore_copAnswers (ops : BusOps) (bs : List Byte) : (s.busStore ops bs).copAnswers = s.copAnswers := by simp [State.busStore]
@[simp] theorem State.busStore_copLog (ops : BusOps) (bs : List Byte) : (s.busStore ops bs).copLog = s.copLog := by simp [State.busStore]

/-! ### `setSeg` -/

@[simp] theorem State.setSeg_cfg (r : SReg) (v : SegReg) : (s.setSeg r v).cfg = s.cfg := by cases r <;> rfl
@[simp] theorem State.setSeg_gpr (r : SReg) (v : SegReg) : (s.setSeg r v).gpr = s.gpr := by cases r <;> rfl
@[simp] theorem State.setSeg_pc (r : SReg) (v : SegReg) : (s.setSeg r v).pc = s.pc := by cases r <;> rfl
@[simp] theorem State.setSeg_opLIP (r : SReg) (v : SegReg) : (s.setSeg r v).opLIP = s.opLIP := by cases r <;> rfl
@[simp] theorem State.setSeg_cpl (r : SReg) (v : SegReg) : (s.setSeg r v).cpl = s.cpl := by cases r <;> rfl
@[simp] theorem State.setSeg_flags (r : SReg) (v : SegReg) : (s.setSeg r v).flags = s.flags := by cases r <;> rfl
@[simp] theorem State.setSeg_cr0 (r : SReg) (v : SegReg) : (s.setSeg r v).cr0 = s.cr0 := by cases r <;> rfl
@[simp] theorem State.setSeg_cr2 (r : SReg) (v : SegReg) : (s.setSeg r v).cr2 = s.cr2 := by cases r <;> rfl
@[simp] theorem State.setSeg_cr3 (r : SReg) (v : SegReg) : (s.setSeg r v).cr3 = s.cr3 := by cases r <;> rfl
@[simp] theorem State.setSeg_dr0 (r : SReg) (v : SegReg) : (s.setSeg r v).dr0 = s.dr0 := by cases r <;> rfl
@[simp] theorem State.setSeg_dr1 (r : SReg) (v : SegReg) : (s.setSeg r v).dr1 = s.dr1 := by cases r <;> rfl
@[simp] theorem State.setSeg_dr2 (r : SReg) (v : SegReg) : (s.setSeg r v).dr2 = s.dr2 := by cases r <;> rfl
@[simp] theorem State.setSeg_dr3 (r : SReg) (v : SegReg) : (s.setSeg r v).dr3 = s.dr3 := by cases r <;> rfl
@[simp] theorem State.setSeg_dr4 (r : SReg) (v : SegReg) : (s.setSeg r v).dr4 = s.dr4 := by cases r <;> rfl
@[simp] theorem State.setSeg_dr5 (r : SReg) (v : SegReg) : (s.setSeg r v).dr5 = s.dr5 := by cases r <;> rfl
@[simp] theorem State.setSeg_dr6 (r : SReg) (v : SegReg) : (s.setSeg r v).dr6 = s.dr6 := by cases r <;> rfl
@[simp] theorem State.setSeg_dr7 (r : SReg) (v : SegReg) : (s.setSeg r v).dr7 = s.dr7 := by cases r <;> rfl
@[simp] theorem State.setSeg_gdtr (r : SReg) (v : SegReg) : (s.setSeg r v).gdtr = s.gdtr := by cases r <;> rfl
@[simp] theorem State.setSeg_idtr (r : SReg) (v : SegReg) : (s.setSeg r v).idtr = s.idtr := by cases r <;> rfl
@[simp] theorem State.setSeg_ldtr (r : SReg) (v : SegReg) : (s.setSeg r v).ldtr = s.ldtr := by cases r <;> rfl
@[simp] theorem State.setSeg_tr (r : SReg) (v : SegReg) : (s.setSeg r v).tr = s.tr := by cases r <;> rfl
@[simp] theorem State.setSeg_opFlags (r : SReg) (v : SegReg) : (s.setSeg r v).opFlags = s.opFlags := by cases r <;> rfl
@[simp] theorem State.setSeg_opPrefixes (r : SReg) (v : SegReg) : (s.setSeg r v).opPrefixes = s.opPrefixes := by cases r <;> rfl
@[simp] theorem State.setSeg_regEA (r : SReg) (v : SegReg) : (s.setSeg r v).regEA = s.regEA := by cases r <;> rfl
@[simp] theorem State.setSeg_regEAWrite (r : SReg) (v : SegReg) : (s.setSeg r v).regEAWrite = s.regEAWrite := by cases r <;> rfl
@[simp] theorem State.setSeg_nFault (r : SReg) (v : SegReg) : (s.setSeg r v).nFault = s.nFault := by cases r <;> rfl
@[simp] theorem State.setSeg_intFlags (r : SReg) (v : SegReg) : (s.setSeg r v).intFlags = s.intFlags := by cases r <;> rfl
@[simp] theorem State.setSeg_lastOpcode (r : SReg) (v : SegReg) : (s.setSeg r v).lastOpcode = s.lastOpcode := by cases r <;> rfl
@[simp] theorem State.setSeg_mem (r : SReg) (v : SegReg) : (s.setSeg r v).mem = s.mem := by cases r <;> rfl
@[simp] theorem State.setSeg_noTrap (r : SReg) (v : SegReg) : (s.setSeg r v).noTrap = s.noTrap := by cases r <;> rfl
@[simp] theorem State.setSeg_portAnswers (r : SReg) (v : SegReg) : (s.setSeg r v).portAnswers = s.portAnswers := by cases r <;> rfl
@[simp] theorem State.setSeg_intAcks (r : SReg) (v : SegReg) : (s.setSeg r v).intAcks = s.intAcks := by cases r <;> rfl
@[simp] theorem State.setSeg_oracleCount (r : SReg) (v : SegReg) : (s.setSeg r v).oracleCount = s.oracleCount := by cases r <;> rfl
@[simp] theorem State.setSeg_portLog (r : SReg) (v : SegReg) : (s.setSeg r v).portLog = s.portLog := by cases r <;> rfl
@[simp] theorem State.setSeg_busLog (r : SReg) (v : SegReg) : (s.setSeg r v).busLog = s.busLog := by cases r <;> rfl
@[simp] theorem State.setSeg_copAnswers (r : SReg) (v : SegReg) : (s.setSeg r v).copAnswers = s.copAnswers := by cases r <;> rfl
@[simp] theorem State.setSeg_copLog (r : SReg) (v : SegReg) : (s.setSeg r v).copLog = s.copLog := by cases r <;> rfl

/-! ### `setFlag` -/

@[simp] theorem State.setFlag_cfg (f : Flag) (v : Bool) : (s.setFlag f v).cfg = s.cfg := rfl
@[simp] theorem State.setFlag_gpr (f : Flag) (v : Bool) : (s.setFlag f v).gpr = s.gpr := rfl
@[simp] theorem State.setFlag_pc (f : Flag) (v : Bool) : (s.setFlag f v).pc = s.pc := rfl
@[simp] theorem State.setFlag_opLIP (f : Flag) (v : Bool) : (s.setFlag f v).opLIP = s.opLIP := rfl
@[simp] theorem State.setFlag_es (f : Flag) (v : Bool) : (s.setFlag f v).es = s.es := rfl
@[simp] theorem State.setFlag_cs (f : Flag) (v : Bool) : (s.setFlag f v).cs = s.cs := rfl
@[simp] theorem State.setFlag_ss (f : Flag) (v : Bool) : (s.setFlag f v).ss = s.ss := rfl
@[simp] theorem State.setFlag_ds (f : Flag) (v : Bool) : (s.setFlag f v).ds = s.ds := rfl
@[simp] theorem State.setFlag_fs (f : Flag) (v : Bool) : (s.setFlag f v).fs = s.fs := rfl
@[simp] theorem State.setFlag_gs (f : Flag) (v : Bool) : (s.setFlag f v).gs = s.gs := rfl
@[simp] theorem State.setFlag_cpl (f : Flag) (v : Bool) : (s.setFlag f v).cpl = s.cpl := rfl
@[simp] theorem State.setFlag_flags (f : Flag) (v : Bool) : (s.setFlag f v).flags = s.flags.setFlag f v := rfl
@[simp] theorem State.setFlag_cr0 (f : Flag) (v : Bool) : (s.setFlag f v).cr0 = s.cr0 := rfl
@[simp] theorem State.setFlag_cr2 (f : Flag) (v : Bool) : (s.setFlag f v).cr2 = s.cr2 := rfl
@[simp] theorem State.setFlag_cr3 (f : Flag) (v : Bool) : (s.setFlag f v).cr3 = s.cr3 := rfl
@[simp] theorem State.setFlag_dr0 (f : Flag) (v : Bool) : (s.setFlag f v).dr0 = s.dr0 := rfl
@[simp] theorem State.setFlag_dr1 (f : Flag) (v : Bool) : (s.setFlag f v).dr1 = s.dr1 := rfl
@[simp] theorem State.setFlag_dr2 (f : Flag) (v : Bool) : (s.setFlag f v).dr2 = s.dr2 := rfl
@[simp] theorem State.setFlag_dr3 (f : Flag) (v : Bool) : (s.setFlag f v).dr3 = s.dr3 := rfl
@[simp] theorem State.setFlag_dr4 (f : Flag) (v : Bool) : (s.setFlag f v).dr4 = s.dr4 := rfl
@[simp] theorem State.setFlag_dr5 (f : Flag) (v : Bool) : (s.setFlag f v).dr5 = s.dr5 := rfl
@[simp] theorem State.setFlag_dr6 (f : Flag) (v : Bool) : (s.setFlag f v).dr6 = s.dr6 := rfl
@[simp] theorem State.setFlag_dr7 (f : Flag) (v : Bool) : (s.setFlag f v).dr7 = s.dr7 := rfl
@[simp] theorem State.setFlag_gdtr (f : Flag) (v : Bool) : (s.setFlag f v).gdtr = s.gdtr := rfl
@[simp] theorem State.setFlag_idtr (f : Flag) (v : Bool) : (s.setFlag f v).idtr = s.idtr := rfl
@[simp] theorem State.setFlag_ldtr (f : Flag) (v : Bool) : (s.setFlag f v).ldtr = s.ldtr := rfl
@[simp] theorem State.setFlag_tr (f : Flag) (v : Bool) : (s.setFlag f v).tr = s.tr := rfl
@[simp] theorem State.setFlag_opFlags (f : Flag) (v : Bool) : (s.setFlag f v).opFlags = s.opFlags := rfl
@[simp] theorem State.setFlag_opPrefixes (f : Flag) (v : Bool) : (s.setFlag f v).opPrefixes = s.opPrefixes := rfl
@[simp] theorem State.setFlag_regEA (f : Flag) (v : Bool) : (s.setFlag f v).regEA = s.regEA := rfl
@[simp] theorem State.setFlag_regEAWrite (f : Flag) (v : Bool) : (s.setFlag f v).regEAWrite = s.regEAWrite := rfl
@[simp] theorem State.setFlag_nFault (f : Flag) (v : Bool) : (s.setFlag f v).nFault = s.nFault := rfl
@[simp] theorem State.setFlag_intFlags (f : Flag) (v : Bool) : (s.setFlag f v).intFlags = s.intFlags := rfl
@[simp] theorem State.setFlag_lastOpcode (f : Flag) (v : Bool) : (s.setFlag f v).lastOpcode = s.lastOpcode := rfl
@[simp] theorem State.setFlag_mem (f : Flag) (v : Bool) : (s.setFlag f v).mem = s.mem := rfl
@[simp] theorem State.setFlag_noTrap (f : Flag) (v : Bool) : (s.setFlag f v).noTrap = s.noTrap := rfl
@[simp] theorem State.setFlag_portAnswers (f : Flag) (v : Bool) : (s.setFlag f v).portAnswers = s.portAnswers := rfl
@[simp] theorem State.setFlag_intAcks (f : Flag) (v : Bool) : (s.setFlag f v).intAcks = s.intAcks := rfl
@[simp] theorem State.setFlag_oracleCount (f : Flag) (v : Bool) : (s.setFlag f v).oracleCount = s.oracleCount := rfl
@[simp] theorem State.setFlag_portLog (f : Flag) (v : Bool) : (s.setFlag f v).portLog = s.portLog := rfl
@[simp] theorem State.setFlag_busLog (f : Flag) (v : Bool) : (s.setFlag f v).busLog = s.busLog := rfl
@[simp] theorem State.setFlag_copAnswers (f : Flag) (v : Bool) : (s.setFlag f v).copAnswers = s.copAnswers := rfl
@[simp] theorem State.setFlag_copLog (f : Flag) (v : Bool) : (s.setFlag f v).copLog = s.copLog := rfl

/-! ### `setPS` -/

@[simp] theorem State.setPS_cfg (v m : Word) : (s.setPS v m).cfg = s.cfg := rfl
@[simp] theorem State.setPS_gpr (v m : Word) : (s.setPS v m).gpr = s.gpr := rfl
@[simp] theorem State.setPS_pc (v m : Word) : (s.setPS v m).pc = s.pc := rfl
@[simp] theorem State.setPS_opLIP (v m : Word) : (s.setPS v m).opLIP = s.opLIP := rfl
@[simp] theorem State.setPS_es (v m : Word) : (s.setPS v m).es = s.es := rfl
@[simp] theorem State.setPS_cs (v m : Word) : (s.setPS v m).cs = s.cs := rfl
@[simp] theorem State.setPS_ss (v m : Word) : (s.setPS v m).ss = s.ss := rfl
@[simp] theorem State.setPS_ds (v m : Word) : (s.setPS v m).ds = s.ds := rfl
@[simp] theorem State.setPS_fs (v m : Word) : (s.setPS v m).fs = s.fs := rfl
@[simp] theorem State.setPS_gs (v m : Word) : (s.setPS v m).gs = s.gs := rfl
@[simp] theorem State.setPS_cpl (v m : Word) : (s.setPS v m).cpl = s.cpl := rfl
@[simp] theorem State.setPS_flags (v m : Word) : (s.setPS v m).flags = s.flags.setPS v m := rfl
@[simp] theorem State.setPS_cr0 (v m : Word) : (s.setPS v m).cr0 = s.cr0 := rfl
@[simp] theorem State.setPS_cr2 (v m : Word) : (s.setPS v m).cr2 = s.cr2 := rfl
@[simp] theorem State.setPS_cr3 (v m : Word) : (s.setPS v m).cr3 = s.cr3 := rfl
@[simp] theorem State.setPS_dr0 (v m : Word) : (s.setPS v m).dr0 = s.dr0 := rfl
@[simp] theorem State.setPS_dr1 (v m : Word) : (s.setPS v m).dr1 = s.dr1 := rfl
@[simp] theorem State.setPS_dr2 (v m : Word) : (s.setPS v m).dr2 = s.dr2 := rfl
@[simp] theorem State.setPS_dr3 (v m : Word) : (s.setPS v m).dr3 = s.dr3 := rfl
@[simp] theorem State.setPS_dr4 (v m : Word) : (s.setPS v m).dr4 = s.dr4 := rfl
@[simp] theorem State.setPS_dr5 (v m : Word) : (s.setPS v m).dr5 = s.dr5 := rfl
@[simp] theorem State.setPS_dr6 (v m : Word) : (s.setPS v m).dr6 = s.dr6 := rfl
@[simp] theorem State.setPS_dr7 (v m : Word) : (s.setPS v m).dr7 = s.dr7 := rfl
@[simp] theorem State.setPS_gdtr (v m : Word) : (s.setPS v m).gdtr = s.gdtr := rfl
@[simp] theorem State.setPS_idtr (v m : Word) : (s.setPS v m).idtr = s.idtr := rfl
@[simp] theorem State.setPS_ldtr (v m : Word) : (s.setPS v m).ldtr = s.ldtr := rfl
@[simp] theorem State.setPS_tr (v m : Word) : (s.setPS v m).tr = s.tr := rfl
@[simp] theorem State.setPS_opFlags (v m : Word) : (s.setPS v m).opFlags = s.opFlags := rfl
@[simp] theorem State.setPS_opPrefixes (v m : Word) : (s.setPS v m).opPrefixes = s.opPrefixes := rfl
@[simp] theorem State.setPS_regEA (v m : Word) : (s.setPS v m).regEA = s.regEA := rfl
@[simp] theorem State.setPS_regEAWrite (v m : Word) : (s.setPS v m).regEAWrite = s.regEAWrite := rfl
@[simp] theorem State.setPS_nFault (v m : Word) : (s.setPS v m).nFault = s.nFault := rfl
@[simp] theorem State.setPS_intFlags (v m : Word) : (s.setPS v m).intFlags = s.intFlags := rfl
@[simp] theorem State.setPS_lastOpcode (v m : Word) : (s.setPS v m).lastOpcode = s.lastOpcode := rfl
@[simp] theorem State.setPS_mem (v m : Word) : (s.setPS v m).mem = s.mem := rfl
@[simp] theorem State.setPS_noTrap (v m : Word) : (s.setPS v m).noTrap = s.noTrap := rfl
@[simp] theorem State.setPS_portAnswers (v m : Word) : (s.setPS v m).portAnswers = s.portAnswers := rfl
@[simp] theorem State.setPS_intAcks (v m : Word) : (s.setPS v m).intAcks = s.intAcks := rfl
@[simp] theorem State.setPS_oracleCount (v m : Word) : (s.setPS v m).oracleCount = s.oracleCount := rfl
@[simp] theorem State.setPS_portLog (v m : Word) : (s.setPS v m).portLog = s.portLog := rfl
@[simp] theorem State.setPS_busLog (v m : Word) : (s.setPS v m).busLog = s.busLog := rfl
@[simp] theorem State.setPS_copAnswers (v m : Word) : (s.setPS v m).copAnswers = s.copAnswers := rfl
@[simp] theorem State.setPS_copLog (v m : Word) : (s.setPS v m).copLog = s.copLog := rfl

/-! ### `setDirect` -/

@[simp] theorem State.setDirect_cfg (m : Word) (v : Bool) : (s.setDirect m v).cfg = s.cfg := rfl
@[simp] theorem State.setDirect_gpr (m : Word) (v : Bool) : (s.setDirect m v).gpr = s.gpr := rfl
@[simp] theorem State.setDirect_pc (m : Word) (v : Bool) : (s.setDirect m v).pc = s.pc := rfl
@[simp] theorem State.setDirect_opLIP (m : Word) (v : Bool) : (s.setDirect m v).opLIP = s.opLIP := rfl
@[simp] theorem State.setDirect_es (m : Word) (v : Bool) : (s.setDirect m v).es = s.es := rfl
@[simp] theorem State.setDirect_cs (m : Word) (v : Bool) : (s.setDirect m v).cs = s.cs := rfl
@[simp] theorem State.setDirect_ss (m : Word) (v : Bool) : (s.setDirect m v).ss = s.ss := rfl
@[simp] theorem State.setDirect_ds (m : Word) (v : Bool) : (s.setDirect m v).ds = s.ds := rfl
@[simp] theorem State.setDirect_fs (m : Word) (v : Bool) : (s.setDirect m v).fs = s.fs := rfl
@[simp] theorem State.setDirect_gs (m : Word) (v : Bool) : (s.setDirect m v).gs = s.gs := rfl
@[simp] theorem State.setDirect_cpl (m : Word) (v : Bool) : (s.setDirect m v).cpl = s.cpl := rfl
@[simp] theorem State.setDirect_flags (m : Word) (v : Bool) : (s.setDirect m v).flags = { s.flags with ps := putMask s.flags.ps m v } := rfl
@[simp] theorem State.setDirect_cr0 (m : Word) (v : Bool) : (s.setDirect m v).cr0 = s.cr0 := rfl
@[simp] theorem State.setDirect_cr2 (m : Word) (v : Bool) : (s.setDirect m v).cr2 = s.cr2 := rfl
@[simp] theorem State.setDirect_cr3 (m : Word) (v : Bool) : (s.setDirect m v).cr3 = s.cr3 := rfl
@[simp] theorem State.setDirect_dr0 (m : Word) (v : Bool) : (s.setDirect m v).dr0 = s.dr0 := rfl
@[simp] theorem State.setDirect_dr1 (m : Word) (v : Bool) : (s.setDirect m v).dr1 = s.dr1 := rfl
@[simp] theorem State.setDirect_dr2 (m : Word) (v : Bool) : (s.setDirect m v).dr2 = s.dr2 := rfl
@[simp] theorem State.setDirect_dr3 (m : Word) (v : Bool) : (s.setDirect m v).dr3 = s.dr3 := rfl
@[simp] theorem State.setDirect_dr4 (m : Word) (v : Bool) : (s.setDirect m v).dr4 = s.dr4 := rfl
@[simp] theorem State.setDirect_dr5 (m : Word) (v : Bool) : (s.setDirect m v).dr5 = s.dr5 := rfl
@[simp] theorem State.setDirect_dr6 (m : Word) (v : Bool) : (s.setDirect m v).dr6 = s.dr6 := rfl
@[simp] theorem State.setDirect_dr7 (m : Word) (v : Bool) : (s.setDirect m v).dr7 = s.dr7 := rfl
@[simp] theorem State.setDirect_gdtr (m : Word) (v : Bool) : (s.setDirect m v).gdtr = s.gdtr := rfl
@[simp] theorem State.setDirect_idtr (m : Word) (v : Bool) : (s.setDirect m v).idtr = s.idtr := rfl
@[simp] theorem State.setDirect_ldtr (m : Word) (v : Bool) : (s.setDirect m v).ldtr = s.ldtr := rfl
@[simp] theorem State.setDirect_tr (m : Word) (v : Bool) : (s.setDirect m v).tr = s.tr := rfl
@[simp] theorem State.setDirect_opFlags (m : Word) (v : Bool) : (s.setDirect m v).opFlags = s.opFlags := rfl
@[simp] theorem State.setDirect_opPrefixes (m : Word) (v : Bool) : (s.setDirect m v).opPrefixes = s.opPrefixes := rfl
@[simp] theorem State.setDirect_regEA (m : Word) (v : Bool) : (s.setDirect m v).regEA = s.regEA := rfl
@[simp] theorem State.setDirect_regEAWrite (m : Word) (v : Bool) : (s.setDirect m v).regEAWrite = s.regEAWrite := rfl
@[simp] theorem State.setDirect_nFault (m : Word) (v : Bool) : (s.setDirect m v).nFault = s.nFault := rfl
@[simp] theorem State.setDirect_intFlags (m : Word) (v : Bool) : (s.setDirect m v).intFlags = s.intFlags := rfl
@[simp] theorem State.setDirect_lastOpcode (m : Word) (v : Bool) : (s.setDirect m v).lastOpcode = s.lastOpcode := rfl
@[simp] theorem State.setDirect_mem (m : Word) (v : Bool) : (s.setDirect m v).mem = s.mem := rfl
@[simp] theorem State.setDirect_noTrap (m : Word) (v : Bool) : (s.setDirect m v).noTrap = s.noTrap := rfl
@[simp] theorem State.setDirect_portAnswers (m : Word) (v : Bool) : (s.setDirect m v).portAnswers = s.portAnswers := rfl
@[simp] theorem State.setDirect_intAcks (m : Word) (v : Bool) : (s.setDirect m v).intAcks = s.intAcks := rfl
@[simp] theorem State.setDirect_oracleCount (m : Word) (v : Bool) : (s.setDirect m v).oracleCount = s.oracleCount := rfl
@[simp] theorem State.setDirect_portLog (m : Word) (v : Bool) : (s.setDirect m v).portLog = s.portLog := rfl
@[simp] theorem State.setDirect_busLog (m : Word) (v : Bool) : (s.setDirect m v).busLog = s.busLog := rfl
@[simp] theorem State.setDirect_copAnswers (m : Word) (v : Bool) : (s.setDirect m v).copAnswers = s.copAnswers := rfl
@[simp] theorem State.setDirect_copLog (m : Word) (v : Bool) : (s.setDirect m v).copLog = s.copLog := rfl

/-! ### `flagsAdd` -/

@[simp] theorem State.flagsAdd_cfg (w : Width) (d c a : Word) : (s.flagsAdd w d c a).cfg = s.cfg := rfl
@[simp] theorem State.flagsAdd_gpr (w : Width) (d c a : Word) : (s.flagsAdd w d c a).gpr = s.gpr := rfl
@[simp] theorem State.flagsAdd_pc (w : Width) (d c a : Word) : (s.flagsAdd w d c a).pc = s.pc := rfl
@[simp] theorem State.flagsAdd_opLIP (w : Width) (d c a : Word) : (s.flagsAdd w d c a).opLIP = s.opLIP := rfl
@[simp] theorem State.flagsAdd_es (w : Width) (d c a : Word) : (s.flagsAdd w d c a).es = s.es := rfl
@[simp] theorem State.flagsAdd_cs (w : Width) (d c a : Word) : (s.flagsAdd w d c a).cs = s.cs := rfl
@[simp] theorem State.flagsAdd_ss (w : Width) (d c a : Word) : (s.flagsAdd w d c a).ss = s.ss := rfl
@[simp] theorem State.flagsAdd_ds (w : Width) (d c a : Word) : (s.flagsAdd w d c a).ds = s.ds := rfl
@[simp] theorem State.flagsAdd_fs (w : Width) (d c a : Word) : (s.flagsAdd w d c a).fs = s.fs := rfl
@[simp] theorem State.flagsAdd_gs (w : Width) (d c a : Word) : (s.flagsAdd w d c a).gs = s.gs := rfl
@[simp] theorem State.flagsAdd_cpl (w : Width) (d c a : Word) : (s.flagsAdd w d c a).cpl = s.cpl := rfl
@[simp] theorem State.flagsAdd_flags (w : Width) (d c a : Word) : (s.flagsAdd w d c a).flags = s.flags.install .all w d c a a := rfl
@[simp] theorem State.flagsAdd_cr0 (w : Width) (d c a : Word) : (s.flagsAdd w d c a).cr0 = s.cr0 := rfl
@[simp] theorem State.flagsAdd_cr2 (w : Width) (d c a : Word) : (s.flagsAdd w d c a).cr2 = s.cr2 := rfl
@[simp] theorem State.flagsAdd_cr3 (w : Width) (d c a : Word) : (s.flagsAdd w d c a).cr3 = s.cr3 := rfl
@[simp] theorem State.flagsAdd_dr0 (w : Width) (d c a : Word) : (s.flagsAdd w d c a).dr0 = s.dr0 := rfl
@[simp] theorem State.flagsAdd_dr1 (w : Width) (d c a : Word) : (s.flagsAdd w d c a).dr1 = s.dr1 := rfl
@[simp] theorem State.flagsAdd_dr2 (w : Width) (d c a : Word) : (s.flagsAdd w d c a).dr2 = s.dr2 := rfl
@[simp] theorem State.flagsAdd_dr3 (w : Width) (d c a : Word) : (s.flagsAdd w d c a).dr3 = s.dr3 := rfl
@[simp] theorem State.flagsAdd_dr4 (w : Width) (d c a : Word) : (s.flagsAdd w d c a).dr4 = s.dr4 := rfl
@[simp] theorem State.flagsAdd_dr5 (w : Width) (d c a : Word) : (s.flagsAdd w d c a).dr5 = s.dr5 := rfl
@[simp] theorem State.flagsAdd_dr6 (w : Width) (d c a : Word) : (s.flagsAdd w d c a).dr6 = s.dr6 := rfl
@[simp] theorem State.flagsAdd_dr7 (w : Width) (d c a : Word) : (s.flagsAdd w d c a).dr7 = s.dr7 := rfl
@[simp] theorem State.flagsAdd_gdtr (w : Width) (d c a : Word) : (s.flagsAdd w d c a).gdtr = s.gdtr := rfl
@[simp] theorem State.flagsAdd_idtr (w : Width) (d c a : Word) : (s.flagsAdd w d c a).idtr = s.idtr := rfl
@[simp] theorem State.flagsAdd_ldtr (w : Width) (d c a : Word) : (s.flagsAdd w d c a).ldtr = s.ldtr := rfl
@[simp] theorem State.flagsAdd_tr (w : Width) (d c a : Word) : (s.flagsAdd w d c a).tr = s.tr := rfl
@[simp] theorem State.flagsAdd_opFlags (w : Width) (d c a : Word) : (s.flagsAdd w d c a).opFlags = s.opFlags := rfl
@[simp] theorem State.flagsAdd_opPrefixes (w : Width) (d c a : Word) : (s.flagsAdd w d c a).opPrefixes = s.opPrefixes := rfl
@[simp] theorem State.flagsAdd_regEA (w : Width) (d c a : Word) : (s.flagsAdd w d c a).regEA = s.regEA := rfl
@[simp] theorem State.flagsAdd_regEAWrite (w : Width) (d c a : Word) : (s.flagsAdd w d c a).regEAWrite = s.regEAWrite := rfl
@[simp] theorem State.flagsAdd_nFault (w : Width) (d c a : Word) : (s.flagsAdd w d c a).nFault = s.nFault := rfl
@[simp] theorem State.flagsAdd_intFlags (w : Width) (d c a : Word) : (s.flagsAdd w d c a).intFlags = s.intFlags := rfl
@[simp] theorem State.flagsAdd_lastOpcode (w : Width) (d c a : Word) : (s.flagsAdd w d c a).lastOpcode = s.lastOpcode := rfl
@[simp] theorem State.flagsAdd_mem (w : Width) (d c a : Word) : (s.flagsAdd w d c a).mem = s.mem := rfl
@[simp] theorem State.flagsAdd_noTrap (w : Width) (d c a : Word) : (s.flagsAdd w d c a).noTrap = s.noTrap := rfl
@[simp] theorem State.flagsAdd_portAnswers (w : Width) (d c a : Word) : (s.flagsAdd w d c a).portAnswers = s.portAnswers := rfl
@[simp] theorem State.flagsAdd_intAcks (w : Width) (d c a : Word) : (s.flagsAdd w d c a).intAcks = s.intAcks := rfl
@[simp] theorem State.flagsAdd_oracleCount (w : Width) (d c a : Word) : (s.flagsAdd w d c a).oracleCount = s.oracleCount := rfl
@[simp] theorem State.flagsAdd_portLog (w : Width) (d c a : Word) : (s.flagsAdd w d c a).portLog = s.portLog := rfl
@[simp] theorem State.flagsAdd_busLog (w : Width) (d c a : Word) : (s.flagsAdd w d c a).busLog = s.busLog := rfl
@[simp] theorem State.flagsAdd_copAnswers (w : Width) (d c a : Word) : (s.flagsAdd w d c a).copAnswers = s.copAnswers := rfl
@[simp] theorem State.flagsAdd_copLog (w : Width) (d c a : Word) : (s.flagsAdd w d c a).copLog = s.copLog := rfl

/-! ### `flagsSub` -/

@[simp] theorem State.flagsSub_cfg (w : Width) (d c a : Word) : (s.flagsSub w d c a).cfg = s.cfg := rfl
@[simp] theorem State.flagsSub_gpr (w : Width) (d c a : Word) : (s.flagsSub w d c a).gpr = s.gpr := rfl
@[simp] theorem State.flagsSub_pc (w : Width) (d c a : Word) : (s.flagsSub w d c a).pc = s.pc := rfl
@[simp] theorem State.flagsSub_opLIP (w : Width) (d c a : Word) : (s.flagsSub w d c a).opLIP = s.opLIP := rfl
@[simp] theorem State.flagsSub_es (w : Width) (d c a : Word) : (s.flagsSub w d c a).es = s.es := rfl
@[simp] theorem State.flagsSub_cs (w : Width) (d c a : Word) : (s.flagsSub w d c a).cs = s.cs := rfl
@[simp] theorem State.flagsSub_ss (w : Width) (d c a : Word) : (s.flagsSub w d c a).ss = s.ss := rfl
@[simp] theorem State.flagsSub_ds (w : Width) (d c a : Word) : (s.flagsSub w d c a).ds = s.ds := rfl
@[simp] theorem State.flagsSub_fs (w : Width) (d c a : Word) : (s.flagsSub w d c a).fs = s.fs := rfl
@[simp] theorem State.flagsSub_gs (w : Width) (d c a : Word) : (s.flagsSub w d c a).gs = s.gs := rfl
@[simp] theorem State.flagsSub_cpl (w : Width) (d c a : Word) : (s.flagsSub w d c a).cpl = s.cpl := rfl
@[simp] theorem State.flagsSub_flags (w : Width) (d c a : Word) : (s.flagsSub w d c a).flags = s.flags.install .all w a c d a := rfl
@[simp] theorem State.flagsSub_cr0 (w : Width) (d c a : Word) : (s.flagsSub w d c a).cr0 = s.cr0 := rfl
@[simp] theorem State.flagsSub_cr2 (w : Width) (d c a : Word) : (s.flagsSub w d c a).cr2 = s.cr2 := rfl
@[simp] theorem State.flagsSub_cr3 (w : Width) (d c a : Word) : (s.flagsSub w d c a).cr3 = s.cr3 := rfl
@[simp] theorem State.flagsSub_dr0 (w : Width) (d c a : Word) : (s.flagsSub w d c a).dr0 = s.dr0 := rfl
@[simp] theorem State.flagsSub_dr1 (w : Width) (d c a : Word) : (s.flagsSub w d c a).dr1 = s.dr1 := rfl
@[simp] theorem State.flagsSub_dr2 (w : Width) (d c a : Word) : (s.flagsSub w d c a).dr2 = s.dr2 := rfl
@[simp] theorem State.flagsSub_dr3 (w : Width) (d c a : Word) : (s.flagsSub w d c a).dr3 = s.dr3 := rfl
@[simp] theorem State.flagsSub_dr4 (w : Width) (d c a : Word) : (s.flagsSub w d c a).dr4 = s.dr4 := rfl
@[simp] theorem State.flagsSub_dr5 (w : Width) (d c a : Word) : (s.flagsSub w d c a).dr5 = s.dr5 := rfl
@[simp] theorem State.flagsSub_dr6 (w : Width) (d c a : Word) : (s.flagsSub w d c a).dr6 = s.dr6 := rfl
@[simp] theorem State.flagsSub_dr7 (w : Width) (d c a : Word) : (s.flagsSub w d c a).dr7 = s.dr7 := rfl
@[simp] theorem State.flagsSub_gdtr (w : Width) (d c a : Word) : (s.flagsSub w d c a).gdtr = s.gdtr := rfl
@[simp] theorem State.flagsSub_idtr (w : Width) (d c a : Word) : (s.flagsSub w d c a).idtr = s.idtr := rfl
@[simp] theorem State.flagsSub_ldtr (w : Width) (d c a : Word) : (s.flagsSub w d c a).ldtr = s.ldtr := rfl
@[simp] theorem State.flagsSub_tr (w : Width) (d c a : Word) : (s.flagsSub w d c a).tr = s.tr := rfl
@[simp] theorem State.flagsSub_opFlags (w : Width) (d c a : Word) : (s.flagsSub w d c a).opFlags = s.opFlags := rfl
@[simp] theorem State.flagsSub_opPrefixes (w : Width) (d c a : Word) : (s.flagsSub w d c a).opPrefixes = s.opPrefixes := rfl
@[simp] theorem State.flagsSub_regEA (w : Width) (d c a : Word) : (s.flagsSub w d c a).regEA = s.regEA := rfl
@[simp] theorem State.flagsSub_regEAWrite (w : Width) (d c a : Word) : (s.flagsSub w d c a).regEAWrite = s.regEAWrite := rfl
@[simp] theorem State.flagsSub_nFault (w : Width) (d c a : Word) : (s.flagsSub w d c a).nFault = s.nFault := rfl
@[simp] theorem State.flagsSub_intFlags (w : Width) (d c a : Word) : (s.flagsSub w d c a).intFlags = s.intFlags := rfl
@[simp] theorem State.flagsSub_lastOpcode (w : Width) (d c a : Word) : (s.flagsSub w d c a).lastOpcode = s.lastOpcode := rfl
@[simp] theorem State.flagsSub_mem (w : Width) (d c a : Word) : (s.flagsSub w d c a).mem = s.mem := rfl
@[simp] theorem State.flagsSub_noTrap (w : Width) (d c a : Word) : (s.flagsSub w d c a).noTrap = s.noTrap := rfl
@[simp] theorem State.flagsSub_portAnswers (w : Width) (d c a : Word) : (s.flagsSub w d c a).portAnswers = s.portAnswers := rfl
@[simp] theorem State.flagsSub_intAcks (w : Width) (d c a : Word) : (s.flagsSub w d c a).intAcks = s.intAcks := rfl
@[simp] theorem State.flagsSub_oracleCount (w : Width) (d c a : Word) : (s.flagsSub w d c a).oracleCount = s.oracleCount := rfl
@[simp] theorem State.flagsSub_portLog (w : Width) (d c a : Word) : (s.flagsSub w d c a).portLog = s.portLog := rfl
@[simp] theorem State.flagsSub_busLog (w : Width) (d c a : Word) : (s.flagsSub w d c a).busLog = s.busLog := rfl
@[simp] theorem State.flagsSub_copAnswers (w : Width) (d c a : Word) : (s.flagsSub w d c a).copAnswers = s.copAnswers := rfl
@[simp] theorem State.flagsSub_copLog (w : Width) (d c a : Word) : (s.flagsSub w d c a).copLog = s.copLog := rfl

/-! ### `flagsInc` -/

@[simp] theorem State.flagsInc_cfg (w : Width) (d a : Word) : (s.flagsInc w d a).cfg = s.cfg := rfl
@[simp] theorem State.flagsInc_gpr (w : Width) (d a : Word) : (s.flagsInc w d a).gpr = s.gpr := rfl
@[simp] theorem State.flagsInc_pc (w : Width) (d a : Word) : (s.flagsInc w d a).pc = s.pc := rfl
@[simp] theorem State.flagsInc_opLIP (w : Width) (d a : Word) : (s.flagsInc w d a).opLIP = s.opLIP := rfl
@[simp] theorem State.flagsInc_es (w : Width) (d a : Word) : (s.flagsInc w d a).es = s.es := rfl
@[simp] theorem State.flagsInc_cs (w : Width) (d a : Word) : (s.flagsInc w d a).cs = s.cs := rfl
@[simp] theorem State.flagsInc_ss (w : Width) (d a : Word) : (s.flagsInc w d a).ss = s.ss := rfl
@[simp] theorem State.flagsInc_ds (w : Width) (d a : Word) : (s.flagsInc w d a).ds = s.ds := rfl
@[simp] theorem State.flagsInc_fs (w : Width) (d a : Word) : (s.flagsInc w d a).fs = s.fs := rfl
@[simp] theorem State.flagsInc_gs (w : Width) (d a : Word) : (s.flagsInc w d a).gs = s.gs := rfl
@[simp] theorem State.flagsInc_cpl (w : Width) (d a : Word) : (s.flagsInc w d a).cpl = s.cpl := rfl
@[simp] theorem State.flagsInc_flags (w : Width) (d a : Word) : (s.flagsInc w d a).flags = s.flags.install .notCF w d 1 a a := rfl
@[simp] theorem State.flagsInc_cr0 (w : Width) (d a : Word) : (s.flagsInc w d a).cr0 = s.cr0 := rfl
@[simp] theorem State.flagsInc_cr2 (w : Width) (d a : Word) : (s.flagsInc w d a).cr2 = s.cr2 := rfl
@[simp] theorem State.flagsInc_cr3 (w : Width) (d a : Word) : (s.flagsInc w d a).cr3 = s.cr3 := rfl
@[simp] theorem State.flagsInc_dr0 (w : Width) (d a : Word) : (s.flagsInc w d a).dr0 = s.dr0 := rfl
@[simp] theorem State.flagsInc_dr1 (w : Width) (d a : Word) : (s.flagsInc w d a).dr1 = s.dr1 := rfl
@[simp] theorem State.flagsInc_dr2 (w : Width) (d a : Word) : (s.flagsInc w d a).dr2 = s.dr2 := rfl
@[simp] theorem State.flagsInc_dr3 (w : Width) (d a : Word) : (s.flagsInc w d a).dr3 = s.dr3 := rfl
@[simp] theorem State.flagsInc_dr4 (w : Width) (d a : Word) : (s.flagsInc w d a).dr4 = s.dr4 := rfl
@[simp] theorem State.flagsInc_dr5 (w : Width) (d a : Word) : (s.flagsInc w d a).dr5 = s.dr5 := rfl
@[simp] theorem State.flagsInc_dr6 (w : Width) (d a : Word) : (s.flagsInc w d a).dr6 = s.dr6 := rfl
@[simp] theorem State.flagsInc_dr7 (w : Width) (d a : Word) : (s.flagsInc w d a).dr7 = s.dr7 := rfl
@[simp] theorem State.flagsInc_gdtr (w : Width) (d a : Word) : (s.flagsInc w d a).gdtr = s.gdtr := rfl
@[simp] theorem State.flagsInc_idtr (w : Width) (d a : Word) : (s.flagsInc w d a).idtr = s.idtr := rfl
@[simp] theorem State.flagsInc_ldtr (w : Width) (d a : Word) : (s.flagsInc w d a).ldtr = s.ldtr := rfl
@[simp] theorem State.flagsInc_tr (w : Width) (d a : Word) : (s.flagsInc w d a).tr = s.tr := rfl
@[simp] theorem State.flagsInc_opFlags (w : Width) (d a : Word) : (s.flagsInc w d a).opFlags = s.opFlags := rfl
@[simp] theorem State.flagsInc_opPrefixes (w : Width) (d a : Word) : (s.flagsInc w d a).opPrefixes = s.opPrefixes := rfl
@[simp] theorem State.flagsInc_regEA (w : Width) (d a : Word) : (s.flagsInc w d a).regEA = s.regEA := rfl
@[simp] theorem State.flagsInc_regEAWrite (w : Width) (d a : Word) : (s.flagsInc w d a).regEAWrite = s.regEAWrite := rfl
@[simp] theorem State.flagsInc_nFault (w : Width) (d a : Word) : (s.flagsInc w d a).nFault = s.nFault := rfl
@[simp] theorem State.flagsInc_intFlags (w : Width) (d a : Word) : (s.flagsInc w d a).intFlags = s.intFlags := rfl
@[simp] theorem State.flagsInc_lastOpcode (w : Width) (d a : Word) : (s.flagsInc w d a).lastOpcode = s.lastOpcode := rfl
@[simp] theorem State.flagsInc_mem (w : Width) (d a : Word) : (s.flagsInc w d a).mem = s.mem := rfl
@[simp] theorem State.flagsInc_noTrap (w : Width) (d a : Word) : (s.flagsInc w d a).noTrap = s.noTrap := rfl
@[simp] theorem State.flagsInc_portAnswers (w : Width) (d a : Word) : (s.flagsInc w d a).portAnswers = s.portAnswers := rfl
@[simp] theorem State.flagsInc_intAcks (w : Width) (d a : Word) : (s.flagsInc w d a).intAcks = s.intAcks := rfl
@[simp] theorem State.flagsInc_oracleCount (w : Width) (d a : Word) : (s.flagsInc w d a).oracleCount = s.oracleCount := rfl
@[simp] theorem State.flagsInc_portLog (w : Width) (d a : Word) : (s.flagsInc w d a).portLog = s.portLog := rfl
@[simp] theorem State.flagsInc_busLog (w : Width) (d a : Word) : (s.flagsInc w d a).busLog = s.busLog := rfl
@[simp] theorem State.flagsInc_copAnswers (w : Width) (d a : Word) : (s.flagsInc w d a).copAnswers = s.copAnswers := rfl
@[simp] theorem State.flagsInc_copLog (w : Width) (d a : Word) : (s.flagsInc w d a).copLog = s.copLog := rfl

/-! ### `flagsDec` -/

@[simp] theorem State.flagsDec_cfg (w : Width) (d a : Word) : (s.flagsDec w d a).cfg = s.cfg := rfl
@[simp] theorem State.flagsDec_gpr (w : Width) (d a : Word) : (s.flagsDec w d a).gpr = s.gpr := rfl
@[simp] theorem State.flagsDec_pc (w : Width) (d a : Word) : (s.flagsDec w d a).pc = s.pc := rfl
@[simp] theorem State.flagsDec_opLIP (w : Width) (d a : Word) : (s.flagsDec w d a).opLIP = s.opLIP := rfl
@[simp] theorem State.flagsDec_es (w : Width) (d a : Word) : (s.flagsDec w d a).es = s.es := rfl
@[simp] theorem State.flagsDec_cs (w : Width) (d a : Word) : (s.flagsDec w d a).cs = s.cs := rfl
@[simp] theorem State.flagsDec_ss (w : Width) (d a : Word) : (s.flagsDec w d a).ss = s.ss := rfl
@[simp] theorem State.flagsDec_ds (w : Width) (d a : Word) : (s.flagsDec w d a).ds = s.ds := rfl
@[simp] theorem State.flagsDec_fs (w : Width) (d a : Word) : (s.flagsDec w d a).fs = s.fs := rfl
@[simp] theorem State.flagsDec_gs (w : Width) (d a : Word) : (s.flagsDec w d a).gs = s.gs := rfl
@[simp] theorem State.flagsDec_cpl (w : Width) (d a : Word) : (s.flagsDec w d a).cpl = s.cpl := rfl
@[simp] theorem State.flagsDec_flags (w : Width) (d a : Word) : (s.flagsDec w d a).flags = s.flags.install .notCF w a 1 d a := rfl
@[simp] theorem State.flagsDec_cr0 (w : Width) (d a : Word) : (s.flagsDec w d a).cr0 = s.cr0 := rfl
@[simp] theorem State.flagsDec_cr2 (w : Width) (d a : Word) : (s.flagsDec w d a).cr2 = s.cr2 := rfl
@[simp] theorem State.flagsDec_cr3 (w : Width) (d a : Word) : (s.flagsDec w d a).cr3 = s.cr3 := rfl
@[simp] theorem State.flagsDec_dr0 (w : Width) (d a : Word) : (s.flagsDec w d a).dr0 = s.dr0 := rfl
@[simp] theorem State.flagsDec_dr1 (w : Width) (d a : Word) : (s.flagsDec w d a).dr1 = s.dr1 := rfl
@[simp] theorem State.flagsDec_dr2 (w : Width) (d a : Word) : (s.flagsDec w d a).dr2 = s.dr2 := rfl
@[simp] theorem State.flagsDec_dr3 (w : Width) (d a : Word) : (s.flagsDec w d a).dr3 = s.dr3 := rfl
@[simp] theorem State.flagsDec_dr4 (w : Width) (d a : Word) : (s.flagsDec w d a).dr4 = s.dr4 := rfl
@[simp] theorem State.flagsDec_dr5 (w : Width) (d a : Word) : (s.flagsDec w d a).dr5 = s.dr5 := rfl
@[simp] theorem State.flagsDec_dr6 (w : Width) (d a : Word) : (s.flagsDec w d a).dr6 = s.dr6 := rfl
@[simp] theorem State.flagsDec_dr7 (w : Width) (d a : Word) : (s.flagsDec w d a).dr7 = s.dr7 := rfl
@[simp] theorem State.flagsDec_gdtr (w : Width) (d a : Word) : (s.flagsDec w d a).gdtr = s.gdtr := rfl
@[simp] theorem State.flagsDec_idtr (w : Width) (d a : Word) : (s.flagsDec w d a).idtr = s.idtr := rfl
@[simp] theorem State.flagsDec_ldtr (w : Width) (d a : Word) : (s.flagsDec w d a).ldtr = s.ldtr := rfl
@[simp] theorem State.flagsDec_tr (w : Width) (d a : Word) : (s.flagsDec w d a).tr = s.tr := rfl
@[simp] theorem State.flagsDec_opFlags (w : Width) (d a : Word) : (s.flagsDec w d a).opFlags = s.opFlags := rfl
@[simp] theorem State.flagsDec_opPrefixes (w : Width) (d a : Word) : (s.flagsDec w d a).opPrefixes = s.opPrefixes := rfl
@[simp] theorem State.flagsDec_regEA (w : Width) (d a : Word) : (s.flagsDec w d a).regEA = s.regEA := rfl
@[simp] theorem State.flagsDec_regEAWrite (w : Width) (d a : Word) : (s.flagsDec w d a).regEAWrite = s.regEAWrite := rfl
@[simp] theorem State.flagsDec_nFault (w : Width) (d a : Word) : (s.flagsDec w d a).nFault = s.nFault := rfl
@[simp] theorem State.flagsDec_intFlags (w : Width) (d a : Word) : (s.flagsDec w d a).intFlags = s.intFlags := rfl
@[simp] theorem State.flagsDec_lastOpcode (w : Width) (d a : Word) : (s.flagsDec w d a).lastOpcode = s.lastOpcode := rfl
@[simp] theorem State.flagsDec_mem (w : Width) (d a : Word) : (s.flagsDec w d a).mem = s.mem := rfl
@[simp] theorem State.flagsDec_noTrap (w : Width) (d a : Word) : (s.flagsDec w d a).noTrap = s.noTrap := rfl
@[simp] theorem State.flagsDec_portAnswers (w : Width) (d a : Word) : (s.flagsDec w d a).portAnswers = s.portAnswers := rfl
@[simp] theorem State.flagsDec_intAcks (w : Width) (d a : Word) : (s.flagsDec w d a).intAcks = s.intAcks := rfl
@[simp] theorem State.flagsDec_oracleCount (w : Width) (d a : Word) : (s.flagsDec w d a).oracleCount = s.oracleCount := rfl
@[simp] theorem State.flagsDec_portLog (w : Width) (d a : Word) : (s.flagsDec w d a).portLog = s.portLog := rfl
@[simp] theorem State.flagsDec_busLog (w : Width) (d a : Word) : (s.flagsDec w d a).busLog = s.busLog := rfl
@[simp] theorem State.flagsDec_copAnswers (w : Width) (d a : Word) : (s.flagsDec w d a).copAnswers = s.copAnswers := rfl
@[simp] theorem State.flagsDec_copLog (w : Width) (d a : Word) : (s.flagsDec w d a).copLog = s.copLog := rfl

/-! ### `flagsPZS` -/

@[simp] theorem State.flagsPZS_cfg (w : Width) (a : Word) : (s.flagsPZS w a).cfg = s.cfg := rfl
@[simp] theorem State.flagsPZS_gpr (w : Width) (a : Word) : (s.flagsPZS w a).gpr = s.gpr := rfl
@[simp] theorem State.flagsPZS_pc (w : Width) (a : Word) : (s.flagsPZS w a).pc = s.pc := rfl
@[simp] theorem State.flagsPZS_opLIP (w : Width) (a : Word) : (s.flagsPZS w a).opLIP = s.opLIP := rfl
@[simp] theorem State.flagsPZS_es (w : Width) (a : Word) : (s.flagsPZS w a).es = s.es := rfl
@[simp] theorem State.flagsPZS_cs (w : Width) (a : Word) : (s.flagsPZS w a).cs = s.cs := rfl
@[simp] theorem State.flagsPZS_ss (w : Width) (a : Word) : (s.flagsPZS w a).ss = s.ss := rfl
@[simp] theorem State.flagsPZS_ds (w : Width) (a : Word) : (s.flagsPZS w a).ds = s.ds := rfl
@[simp] theorem State.flagsPZS_fs (w : Width) (a : Word) : (s.flagsPZS w a).fs = s.fs := rfl
@[simp] theorem State.flagsPZS_gs (w : Width) (a : Word) : (s.flagsPZS w a).gs = s.gs := rfl
@[simp] theorem State.flagsPZS_cpl (w : Width) (a : Word) : (s.flagsPZS w a).cpl = s.cpl := rfl
@[simp] theorem State.flagsPZS_flags (w : Width) (a : Word) : (s.flagsPZS w a).flags = s.flags.install .pzs w 0 0 0 a := rfl
@[simp] theorem State.flagsPZS_cr0 (w : Width) (a : Word) : (s.flagsPZS w a).cr0 = s.cr0 := rfl
@[simp] theorem State.flagsPZS_cr2 (w : Width) (a : Word) : (s.flagsPZS w a).cr2 = s.cr2 := rfl
@[simp] theorem State.flagsPZS_cr3 (w : Width) (a : Word) : (s.flagsPZS w a).cr3 = s.cr3 := rfl
@[simp] theorem State.flagsPZS_dr0 (w : Width) (a : Word) : (s.flagsPZS w a).dr0 = s.dr0 := rfl
@[simp] theorem State.flagsPZS_dr1 (w : Width) (a : Word) : (s.flagsPZS w a).dr1 = s.dr1 := rfl
@[simp] theorem State.flagsPZS_dr2 (w : Width) (a : Word) : (s.flagsPZS w a).dr2 = s.dr2 := rfl
@[simp] theorem State.flagsPZS_dr3 (w : Width) (a : Word) : (s.flagsPZS w a).dr3 = s.dr3 := rfl
@[simp] theorem State.flagsPZS_dr4 (w : Width) (a : Word) : (s.flagsPZS w a).dr4 = s.dr4 := rfl
@[simp] theorem State.flagsPZS_dr5 (w : Width) (a : Word) : (s.flagsPZS w a).dr5 = s.dr5 := rfl
@[simp] theorem State.flagsPZS_dr6 (w : Width) (a : Word) : (s.flagsPZS w a).dr6 = s.dr6 := rfl
@[simp] theorem State.flagsPZS_dr7 (w : Width) (a : Word) : (s.flagsPZS w a).dr7 = s.dr7 := rfl
@[simp] theorem State.flagsPZS_gdtr (w : Width) (a : Word) : (s.flagsPZS w a).gdtr = s.gdtr := rfl
@[simp] theorem State.flagsPZS_idtr (w : Width) (a : Word) : (s.flagsPZS w a).idtr = s.idtr := rfl
@[simp] theorem State.flagsPZS_ldtr (w : Width) (a : Word) : (s.flagsPZS w a).ldtr = s.ldtr := rfl
@[simp] theorem State.flagsPZS_tr (w : Width) (a : Word) : (s.flagsPZS w a).tr = s.tr := rfl
@[simp] theorem State.flagsPZS_opFlags (w : Width) (a : Word) : (s.flagsPZS w a).opFlags = s.opFlags := rfl
@[simp] theorem State.flagsPZS_opPrefixes (w : Width) (a : Word) : (s.flagsPZS w a).opPrefixes = s.opPrefixes := rfl
@[simp] theorem State.flagsPZS_regEA (w : Width) (a : Word) : (s.flagsPZS w a).regEA = s.regEA := rfl
@[simp] theorem State.flagsPZS_regEAWrite (w : Width) (a : Word) : (s.flagsPZS w a).regEAWrite = s.regEAWrite := rfl
@[simp] theorem State.flagsPZS_nFault (w : Width) (a : Word) : (s.flagsPZS w a).nFault = s.nFault := rfl
@[simp] theorem State.flagsPZS_intFlags (w : Width) (a : Word) : (s.flagsPZS w a).intFlags = s.intFlags := rfl
@[simp] theorem State.flagsPZS_lastOpcode (w : Width) (a : Word) : (s.flagsPZS w a).lastOpcode = s.lastOpcode := rfl
@[simp] theorem State.flagsPZS_mem (w : Width) (a : Word) : (s.flagsPZS w a).mem = s.mem := rfl
@[simp] theorem State.flagsPZS_noTrap (w : Width) (a : Word) : (s.flagsPZS w a).noTrap = s.noTrap := rfl
@[simp] theorem State.flagsPZS_portAnswers (w : Width) (a : Word) : (s.flagsPZS w a).portAnswers = s.portAnswers := rfl
@[simp] theorem State.flagsPZS_intAcks (w : Width) (a : Word) : (s.flagsPZS w a).intAcks = s.intAcks := rfl
@[simp] theorem State.flagsPZS_oracleCount (w : Width) (a : Word) : (s.flagsPZS w a).oracleCount = s.oracleCount := rfl
@[simp] theorem State.flagsPZS_portLog (w : Width) (a : Word) : (s.flagsPZS w a).portLog = s.portLog := rfl
@[simp] theorem State.flagsPZS_busLog (w : Width) (a : Word) : (s.flagsPZS w a).busLog = s.busLog := rfl
@[simp] theorem State.flagsPZS_copAnswers (w : Width) (a : Word) : (s.flagsPZS w a).copAnswers = s.copAnswers := rfl
@[simp] theorem State.flagsPZS_copLog (w : Width) (a : Word) : (s.flagsPZS w a).copLog = s.copLog := rfl

/-! ### `undefine` -/

@[simp] theorem State.undefine_cfg (site : UndefSite) (w : Width) (m old : Word) (ops : List Word) : (s.undefine site w m old ops).cfg = s.cfg := by
  unfold State.undefine; split <;> rfl
@[simp] theorem State.undefine_gpr (site : UndefSite) (w : Width) (m old : Word) (ops : List Word) : (s.undefine site w m old ops).gpr = s.gpr := by
  unfold State.undefine; split <;> rfl
@[simp] theorem State.undefine_pc (site : UndefSite) (w : Width) (m old : Word) (ops : List Word) : (s.undefine site w m old ops).pc = s.pc := by
  unfold State.undefine; split <;> rfl
@[simp] theorem State.undefine_opLIP (site : UndefSite) (w : Width) (m old : Word) (ops : List Word) : (s.undefine site w m old ops).opLIP = s.opLIP := by
  unfold State.undefine; split <;> rfl
@[simp] theorem State.undefine_es (site : UndefSite) (w : Width) (m old : Word) (ops : List Word) : (s.undefine site w m old ops).es = s.es := by
  unfold State.undefine; split <;> rfl
@[simp] theorem State.undefine_cs (site : UndefSite) (w : Width) (m old : Word) (ops : List Word) : (s.undefine site w m old ops).cs = s.cs := by
  unfold State.undefine; split <;> rfl
@[simp] theorem State.undefine_ss (site : UndefSite) (w : Width) (m old : Word) (ops : List Word) : (s.undefine site w m old ops).ss = s.ss := by
  unfold State.undefine; split <;> rfl
@[simp] theorem State.undefine_ds (site : UndefSite) (w : Width) (m old : Word) (ops : List Word) : (s.undefine site w m old ops).ds = s.ds := by
  unfold State.undefine; split <;> rfl
@[simp] theorem State.undefine_fs (site : UndefSite) (w : Width) (m old : Word) (ops : List Word) : (s.undefine site w m old ops).fs = s.fs := by
  unfold State.undefine; split <;> rfl
@[simp] theorem State.undefine_gs (site : UndefSite) (w : Width) (m old : Word) (ops : List Word) : (s.undefine site w m old ops).gs = s.gs := by
  unfold State.undefine; split <;> rfl
@[simp] theorem State.undefine_cpl (site : UndefSite) (w : Width) (m old : Word) (ops : List Word) : (s.undefine site w m old ops).cpl = s.cpl := by
  unfold State.undefine; split <;> rfl
@[simp] theorem State.undefine_cr0 (site : UndefSite) (w : Width) (m old : Word) (ops : List Word) : (s.undefine site w m old ops).cr0 = s.cr0 := by
  unfold State.undefine; split <;> rfl
@[simp] theorem State.undefine_cr2 (site : UndefSite) (w : Width) (m old : Word) (ops : List Word) : (s.undefine site w m old ops).cr2 = s.cr2 := by
  unfold State.undefine; split <;> rfl
@[simp] theorem State.undefine_cr3 (site : UndefSite) (w : Width) (m old : Word) (ops : List Word) : (s.undefine site w m old ops).cr3 = s.cr3 := by
  unfold State.undefine; split <;> rfl
@[simp] theorem State.undefine_dr0 (site : UndefSite) (w : Width) (m old : Word) (ops : List Word) : (s.undefine site w m old ops).dr0 = s.dr0 := by
  unfold State.undefine; split <;> rfl
@[simp] theorem State.undefine_dr1 (site : UndefSite) (w : Width) (m old : Word) (ops : List Word) : (s.undefine site w m old ops).dr1 = s.dr1 := by
  unfold State.undefine; split <;> rfl
@[simp] theorem State.undefine_dr2 (site : UndefSite) (w : Width) (m old : Word) (ops : List Word) : (s.undefine site w m old ops).dr2 = s.dr2 := by
  unfold State.undefine; split <;> rfl
@[simp] theorem State.undefine_dr3 (site : UndefSite) (w : Width) (m old : Word) (ops : List Word) : (s.undefine site w m old ops).dr3 = s.dr3 := by
  unfold State.undefine; split <;> rfl
@[simp] theorem State.undefine_dr4 (site : UndefSite) (w : Width) (m old : Word) (ops : List Word) : (s.undefine site w m old ops).dr4 = s.dr4 := by
  unfold State.undefine; split <;> rfl
@[simp] theorem State.undefine_dr5 (site : UndefSite) (w : Width) (m old : Word) (ops : List Word) : (s.undefine site w m old ops).dr5 = s.dr5 := by
  unfold State.undefine; split <;> rfl
@[simp] theorem State.undefine_dr6 (site : UndefSite) (w : Width) (m old : Word) (ops : List Word) : (s.undefine site w m old ops).dr6 = s.dr6 := by
  unfold State.undefine; split <;> rfl
@[simp] theorem State.undefine_dr7 (site : UndefSite) (w : Width) (m old : Word) (ops : List Word) : (s.undefine site w m old ops).dr7 = s.dr7 := by
  unfold State.undefine; split <;> rfl
@[simp] theorem State.undefine_gdtr (site : UndefSite) (w : Width) (m old : Word) (ops : List Word) : (s.undefine site w m old ops).gdtr = s.gdtr := by
  unfold State.undefine; split <;> rfl
@[simp] theorem State.undefine_idtr (site : UndefSite) (w : Width) (m old : Word) (ops : List Word) : (s.undefine site w m old ops).idtr = s.idtr := by
  unfold State.undefine; split <;> rfl
@[simp] theorem State.undefine_ldtr (site : UndefSite) (w : Width) (m old : Word) (ops : List Word) : (s.undefine site w m old ops).ldtr = s.ldtr := by
  unfold State.undefine; split <;> rfl
@[simp] theorem State.undefine_tr (site : UndefSite) (w : Width) (m old : Word) (ops : List Word) : (s.undefine site w m old ops).tr = s.tr := by
  unfold State.undefine; split <;> rfl
@[simp] theorem State.undefine_opFlags (site : UndefSite) (w : Width) (m old : Word) (ops : List Word) : (s.undefine site w m old ops).opFlags = s.opFlags := by
  unfold State.undefine; split <;> rfl
@[simp] theorem State.undefine_opPrefixes (site : UndefSite) (w : Width) (m old : Word) (ops : List Word) : (s.undefine site w m old ops).opPrefixes = s.opPrefixes := by
  unfold State.undefine; split <;> rfl
@[simp] theorem State.undefine_regEA (site : UndefSite) (w : Width) (m old : Word) (ops : List Word) : (s.undefine site w m old ops).regEA = s.regEA := by
  unfold State.undefine; split <;> rfl
@[simp] theorem State.undefine_regEAWrite (site : UndefSite) (w : Width) (m old : Word) (ops : List Word) : (s.undefine site w m old ops).regEAWrite = s.regEAWrite := by
  unfold State.undefine; split <;> rfl
@[simp] theorem State.undefine_nFault (site : UndefSite) (w : Width) (m old : Word) (ops : List Word) : (s.undefine site w m old ops).nFault = s.nFault := by
  unfold State.undefine; split <;> rfl
@[simp] theorem State.undefine_intFlags (site : UndefSite) (w : Width) (m old : Word) (ops : List Word) : (s.undefine site w m old ops).intFlags = s.intFlags := by
  unfold State.undefine; split <;> rfl
@[simp] theorem State.undefine_lastOpcode (site : UndefSite) (w : Width) (m old : Word) (ops : List Word) : (s.undefine site w m old ops).lastOpcode = s.lastOpcode := by
  unfold State.undefine; split <;> rfl
@[simp] theorem State.undefine_mem (site : UndefSite) (w : Width) (m old : Word) (ops : List Word) : (s.undefine site w m old ops).mem = s.mem := by
  unfold State.undefine; split <;> rfl
@[simp] theorem State.undefine_noTrap (site : UndefSite) (w : Width) (m old : Word) (ops : List Word) : (s.undefine site w m old ops).noTrap = s.noTrap := by
  unfold State.undefine; split <;> rfl
@[simp] theorem State.undefine_portAnswers (site : UndefSite) (w : Width) (m old : Word) (ops : List Word) : (s.undefine site w m old ops).portAnswers = s.portAnswers := by
  unfold State.undefine; split <;> rfl
@[simp] theorem State.undefine_intAcks (site : UndefSite) (w : Width) (m old : Word) (ops : List Word) : (s.undefine site w m old ops).intAcks = s.intAcks := by
  unfold State.undefine; split <;> rfl
@[simp] theorem State.undefine_oracleCount (site : UndefSite) (w : Width) (m old : Word) (ops : List Word) : (s.undefine site w m old ops).oracleCount = s.oracleCount := by
  unfold State.undefine; split <;> rfl
@[simp] theorem State.undefine_portLog (site : UndefSite) (w : Width) (m old : Word) (ops : List Word) : (s.undefine site w m old ops).portLog = s.portLog := by
  unfold State.undefine; split <;> rfl
@[simp] theorem State.undefine_busLog (site : UndefSite) (w : Width) (m old : Word) (ops : List Word) : (s.undefine site w m old ops).busLog = s.busLog := by
  unfold State.undefine; split <;> rfl
@[simp] theorem State.undefine_copAnswers (site : UndefSite) (w : Width) (m old : Word) (ops : List Word) : (s.undefine site w m old ops).copAnswers = s.copAnswers := by
  unfold State.undefine; split <;> rfl
@[simp] theorem State.undefine_copLog (site : UndefSite) (w : Width) (m old : Word) (ops : List Word) : (s.undefine site w m old ops).copLog = s.copLog := by
  unfold State.undefine; split <;> rfl

/-! ### `enterAt` -/

@[simp] theorem State.enterAt_cfg (pc : Word) (c : Half) : (s.enterAt pc c).cfg = s.cfg := rfl
@[simp] theorem State.enterAt_gpr (pc : Word) (c : Half) : (s.enterAt pc c).gpr = s.gpr := rfl
@[simp] theorem State.enterAt_pc (pc : Word) (c : Half) : (s.enterAt pc c).pc = pc := rfl
@[simp] theorem State.enterAt_opLIP (pc : Word) (c : Half) : (s.enterAt pc c).opLIP = (s.cs.invalid c).base + pc := rfl
@[simp] theorem State.enterAt_es (pc : Word) (c : Half) : (s.enterAt pc c).es = s.es := rfl
@[simp] theorem State.enterAt_cs (pc : Word) (c : Half) : (s.enterAt pc c).cs = s.cs.invalid c := rfl
@[simp] theorem State.enterAt_ss (pc : Word) (c : Half) : (s.enterAt pc c).ss = s.ss := rfl
@[simp] theorem State.enterAt_ds (pc : Word) (c : Half) : (s.enterAt pc c).ds = s.ds := rfl
@[simp] theorem State.enterAt_fs (pc : Word) (c : Half) : (s.enterAt pc c).fs = s.fs := rfl
@[simp] theorem State.enterAt_gs (pc : Word) (c : Half) : (s.enterAt pc c).gs = s.gs := rfl
@[simp] theorem State.enterAt_cpl (pc : Word) (c : Half) : (s.enterAt pc c).cpl = selRPL c := rfl
@[simp] theorem State.enterAt_flags (pc : Word) (c : Half) : (s.enterAt pc c).flags = s.flags := rfl
@[simp] theorem State.enterAt_cr0 (pc : Word) (c : Half) : (s.enterAt pc c).cr0 = s.cr0 := rfl
@[simp] theorem State.enterAt_cr2 (pc : Word) (c : Half) : (s.enterAt pc c).cr2 = s.cr2 := rfl
@[simp] theorem State.enterAt_cr3 (pc : Word) (c : Half) : (s.enterAt pc c).cr3 = s.cr3 := rfl
@[simp] theorem State.enterAt_dr0 (pc : Word) (c : Half) : (s.enterAt pc c).dr0 = s.dr0 := rfl
@[simp] theorem State.enterAt_dr1 (pc : Word) (c : Half) : (s.enterAt pc c).dr1 = s.dr1 := rfl
@[simp] theorem State.enterAt_dr2 (pc : Word) (c : Half) : (s.enterAt pc c).dr2 = s.dr2 := rfl
@[simp] theorem State.enterAt_dr3 (pc : Word) (c : Half) : (s.enterAt pc c).dr3 = s.dr3 := rfl
@[simp] theorem State.enterAt_dr4 (pc : Word) (c : Half) : (s.enterAt pc c).dr4 = s.dr4 := rfl
@[simp] theorem State.enterAt_dr5 (pc : Word) (c : Half) : (s.enterAt pc c).dr5 = s.dr5 := rfl
@[simp] theorem State.enterAt_dr6 (pc : Word) (c : Half) : (s.enterAt pc c).dr6 = s.dr6 := rfl
@[simp] theorem State.enterAt_dr7 (pc : Word) (c : Half) : (s.enterAt pc c).dr7 = s.dr7 := rfl
@[simp] theorem State.enterAt_gdtr (pc : Word) (c : Half) : (s.enterAt pc c).gdtr = s.gdtr := rfl
@[simp] theorem State.enterAt_idtr (pc : Word) (c : Half) : (s.enterAt pc c).idtr = s.idtr := rfl
@[simp] theorem State.enterAt_ldtr (pc : Word) (c : Half) : (s.enterAt pc c).ldtr = s.ldtr := rfl
@[simp] theorem State.enterAt_tr (pc : Word) (c : Half) : (s.enterAt pc c).tr = s.tr := rfl
@[simp] theorem State.enterAt_opFlags (pc : Word) (c : Half) : (s.enterAt pc c).opFlags = s.opFlags := rfl
@[simp] theorem State.enterAt_opPrefixes (pc : Word) (c : Half) : (s.enterAt pc c).opPrefixes = s.opPrefixes := rfl
@[simp] theorem State.enterAt_regEA (pc : Word) (c : Half) : (s.enterAt pc c).regEA = s.regEA := rfl
@[simp] theorem State.enterAt_regEAWrite (pc : Word) (c : Half) : (s.enterAt pc c).regEAWrite = s.regEAWrite := rfl
@[simp] theorem State.enterAt_nFault (pc : Word) (c : Half) : (s.enterAt pc c).nFault = s.nFault := rfl
@[simp] theorem State.enterAt_intFlags (pc : Word) (c : Half) : (s.enterAt pc c).intFlags = s.intFlags := rfl
@[simp] theorem State.enterAt_lastOpcode (pc : Word) (c : Half) : (s.enterAt pc c).lastOpcode = s.lastOpcode := rfl
@[simp] theorem State.enterAt_mem (pc : Word) (c : Half) : (s.enterAt pc c).mem = s.mem := rfl
@[simp] theorem State.enterAt_noTrap (pc : Word) (c : Half) : (s.enterAt pc c).noTrap = s.noTrap := rfl
@[simp] theorem State.enterAt_portAnswers (pc : Word) (c : Half) : (s.enterAt pc c).portAnswers = s.portAnswers := rfl
@[simp] theorem State.enterAt_intAcks (pc : Word) (c : Half) : (s.enterAt pc c).intAcks = s.intAcks := rfl
@[simp] theorem State.enterAt_oracleCount (pc : Word) (c : Half) : (s.enterAt pc c).oracleCount = s.oracleCount := rfl
@[simp] theorem State.enterAt_portLog (pc : Word) (c : Half) : (s.enterAt pc c).portLog = s.portLog := rfl
@[simp] theorem State.enterAt_busLog (pc : Word) (c : Half) : (s.enterAt pc c).busLog = s.busLog := rfl
@[simp] theorem State.enterAt_copAnswers (pc : Word) (c : Half) : (s.enterAt pc c).copAnswers = s.copAnswers := rfl
@[simp] theorem State.enterAt_copLog (pc : Word) (c : Half) : (s.enterAt pc c).copLog = s.copLog := rfl

/-! ### `copSeen` -/

@[simp] theorem State.copSeen_cfg (ev : CopEvent) : (s.copSeen ev).cfg = s.cfg := rfl
@[simp] theorem State.copSeen_gpr (ev : CopEvent) : (s.copSeen ev).gpr = s.gpr := rfl
@[simp] theorem State.copSeen_pc (ev : CopEvent) : (s.copSeen ev).pc = s.pc := rfl
@[simp] theorem State.copSeen_opLIP (ev : CopEvent) : (s.copSeen ev).opLIP = s.opLIP := rfl
@[simp] theorem State.copSeen_es (ev : CopEvent) : (s.copSeen ev).es = s.es := rfl
@[simp] theorem State.copSeen_cs (ev : CopEvent) : (s.copSeen ev).cs = s.cs := rfl
@[simp] theorem State.copSeen_ss (ev : CopEvent) : (s.copSeen ev).ss = s.ss := rfl
@[simp] theorem State.copSeen_ds (ev : CopEvent) : (s.copSeen ev).ds = s.ds := rfl
@[simp] theorem State.copSeen_fs (ev : CopEvent) : (s.copSeen ev).fs = s.fs := rfl
@[simp] theorem State.copSeen_gs (ev : CopEvent) : (s.copSeen ev).gs = s.gs := rfl
@[simp] theorem State.copSeen_cpl (ev : CopEvent) : (s.copSeen ev).cpl = s.cpl := rfl
@[simp] theorem State.copSeen_flags (ev : CopEvent) : (s.copSeen ev).flags = s.flags := rfl
@[simp] theorem State.copSeen_cr0 (ev : CopEvent) : (s.copSeen ev).cr0 = s.cr0 := rfl
@[simp] theorem State.copSeen_cr2 (ev : CopEvent) : (s.copSeen ev).cr2 = s.cr2 := rfl
@[simp] theorem State.copSeen_cr3 (ev : CopEvent) : (s.copSeen ev).cr3 = s.cr3 := rfl
@[simp] theorem State.copSeen_dr0 (ev : CopEvent) : (s.copSeen ev).dr0 = s.dr0 := rfl
@[simp] theorem State.copSeen_dr1 (ev : CopEvent) : (s.copSeen ev).dr1 = s.dr1 := rfl
@[simp] theorem State.copSeen_dr2 (ev : CopEvent) : (s.copSeen ev).dr2 = s.dr2 := rfl
@[simp] theorem State.copSeen_dr3 (ev : CopEvent) : (s.copSeen ev).dr3 = s.dr3 := rfl
@[simp] theorem State.copSeen_dr4 (ev : CopEvent) : (s.copSeen ev).dr4 = s.dr4 := rfl
@[simp] theorem State.copSeen_dr5 (ev : CopEvent) : (s.copSeen ev).dr5 = s.dr5 := rfl
@[simp] theorem State.copSeen_dr6 (ev : CopEvent) : (s.copSeen ev).dr6 = s.dr6 := rfl
@[simp] theorem State.copSeen_dr7 (ev : CopEvent) : (s.copSeen ev).dr7 = s.dr7 := rfl
@[simp] theorem State.copSeen_gdtr (ev : CopEvent) : (s.copSeen ev).gdtr = s.gdtr := rfl
@[simp] theorem State.copSeen_idtr (ev : CopEvent) : (s.copSeen ev).idtr = s.idtr := rfl
@[simp] theorem State.copSeen_ldtr (ev : CopEvent) : (s.copSeen ev).ldtr = s.ldtr := rfl
@[simp] theorem State.copSeen_tr (ev : CopEvent) : (s.copSeen ev).tr = s.tr := rfl
@[simp] theorem State.copSeen_opFlags (ev : CopEvent) : (s.copSeen ev).opFlags = s.opFlags := rfl
@[simp] theorem State.copSeen_opPrefixes (ev : CopEvent) : (s.copSeen ev).opPrefixes = s.opPrefixes := rfl
@[simp] theorem State.copSeen_regEA (ev : CopEvent) : (s.copSeen ev).regEA = s.regEA := rfl
@[simp] theorem State.copSeen_regEAWrite (ev : CopEvent) : (s.copSeen ev).regEAWrite = s.regEAWrite := rfl
@[simp] theorem State.copSeen_nFault (ev : CopEvent) : (s.copSeen ev).nFault = s.nFault := rfl
@[simp] theorem State.copSeen_intFlags (ev : CopEvent) : (s.copSeen ev).intFlags = s.intFlags := rfl
@[simp] theorem State.copSeen_lastOpcode (ev : CopEvent) : (s.copSeen ev).lastOpcode = s.lastOpcode := rfl
@[simp] theorem State.copSeen_mem (ev : CopEvent) : (s.copSeen ev).mem = s.mem := rfl
@[simp] theorem State.copSeen_noTrap (ev : CopEvent) : (s.copSeen ev).noTrap = s.noTrap := rfl
@[simp] theorem State.copSeen_portAnswers (ev : CopEvent) : (s.copSeen ev).portAnswers = s.portAnswers := rfl
@[simp] theorem State.copSeen_intAcks (ev : CopEvent) : (s.copSeen ev).intAcks = s.intAcks := rfl
@[simp] theorem State.copSeen_oracleCount (ev : CopEvent) : (s.copSeen ev).oracleCount = if s.copAnswers.isEmpty then s.oracleCount + 1 else s.oracleCount := rfl
@[simp] theorem State.copSeen_portLog (ev : CopEvent) : (s.copSeen ev).portLog = s.portLog := rfl
@[simp] theorem State.copSeen_busLog (ev : CopEvent) : (s.copSeen ev).busLog = s.busLog := rfl
@[simp] theorem State.copSeen_copAnswers (ev : CopEvent) : (s.copSeen ev).copAnswers = s.copAnswers.tail := rfl
@[simp] theorem State.copSeen_copLog (ev : CopEvent) : (s.copSeen ev).copLog = ev :: s.copLog := rfl

/-! ### `setDr` -/

@[simp] theorem State.setDr_cfg (n : BitVec 3) (v : Word) : (s.setDr n v).cfg = s.cfg := by
  unfold State.setDr; split <;> rfl
@[simp] theorem State.setDr_gpr (n : BitVec 3) (v : Word) : (s.setDr n v).gpr = s.gpr := by
  unfold State.setDr; split <;> rfl
@[simp] theorem State.setDr_pc (n : BitVec 3) (v : Word) : (s.setDr n v).pc = s.pc := by
  unfold State.setDr; split <;> rfl
@[simp] theorem State.setDr_opLIP (n : BitVec 3) (v : Word) : (s.setDr n v).opLIP = s.opLIP := by
  unfold State.setDr; split <;> rfl
@[simp] theorem State.setDr_es (n : BitVec 3) (v : Word) : (s.setDr n v).es = s.es := by
  unfold State.setDr; split <;> rfl
@[simp] theorem State.setDr_cs (n : BitVec 3) (v : Word) : (s.setDr n v).cs = s.cs := by
  unfold State.setDr; split <;> rfl
@[simp] theorem State.setDr_ss (n : BitVec 3) (v : Word) : (s.setDr n v).ss = s.ss := by
  unfold State.setDr; split <;> rfl
@[simp] theorem State.setDr_ds (n : BitVec 3) (v : Word) : (s.setDr n v).ds = s.ds := by
  unfold State.setDr; split <;> rfl
@[simp] theorem State.setDr_fs (n : BitVec 3) (v : Word) : (s.setDr n v).fs = s.fs := by
  unfold State.setDr; split <;> rfl
@[simp] theorem State.setDr_gs (n : BitVec 3) (v : Word) : (s.setDr n v).gs = s.gs := by
  unfold State.setDr; split <;> rfl
@[simp] theorem State.setDr_cpl (n : BitVec 3) (v : Word) : (s.setDr n v).cpl = s.cpl := by
  unfold State.setDr; split <;> rfl
@[simp] theorem State.setDr_flags (n : BitVec 3) (v : Word) : (s.setDr n v).flags = s.flags := by
  unfold State.setDr; split <;> rfl
@[simp] theorem State.setDr_cr0 (n : BitVec 3) (v : Word) : (s.setDr n v).cr0 = s.cr0 := by
  unfold State.setDr; split <;> rfl
@[simp] theorem State.setDr_cr2 (n : BitVec 3) (v : Word) : (s.setDr n v).cr2 = s.cr2 := by
  unfold State.setDr; split <;> rfl
@[simp] theorem State.setDr_cr3 (n : BitVec 3) (v : Word) : (s.setDr n v).cr3 = s.cr3 := by
  unfold State.setDr; split <;> rfl
@[simp] theorem State.setDr_gdtr (n : BitVec 3) (v : Word) : (s.setDr n v).gdtr = s.gdtr := by
  unfold State.setDr; split <;> rfl
@[simp] theorem State.setDr_idtr (n : BitVec 3) (v : Word) : (s.setDr n v).idtr = s.idtr := by
  unfold State.setDr; split <;> rfl
@[simp] theorem State.setDr_ldtr (n : BitVec 3) (v : Word) : (s.setDr n v).ldtr = s.ldtr := by
  unfold State.setDr; split <;> rfl
@[simp] theorem State.setDr_tr (n : BitVec 3) (v : Word) : (s.setDr n v).tr = s.tr := by
  unfold State.setDr; split <;> rfl
@[simp] theorem State.setDr_opFlags (n : BitVec 3) (v : Word) : (s.setDr n v).opFlags = s.opFlags := by
  unfold State.setDr; split <;> rfl
@[simp] theorem State.setDr_opPrefixes (n : BitVec 3) (v : Word) : (s.setDr n v).opPrefixes = s.opPrefixes := by
  unfold State.setDr; split <;> rfl
@[simp] theorem State.setDr_regEA (n : BitVec 3) (v : Word) : (s.setDr n v).regEA = s.regEA := by
  unfold State.setDr; split <;> rfl
@[simp] theorem State.setDr_regEAWrite (n : BitVec 3) (v : Word) : (s.setDr n v).regEAWrite = s.regEAWrite := by
  unfold State.setDr; split <;> rfl
@[simp] theorem State.setDr_nFault (n : BitVec 3) (v : Word) : (s.setDr n v).nFault = s.nFault := by
  unfold State.setDr; split <;> rfl
@[simp] theorem State.setDr_intFlags (n : BitVec 3) (v : Word) : (s.setDr n v).intFlags = s.intFlags := by
  unfold State.setDr; split <;> rfl
@[simp] theorem State.setDr_lastOpcode (n : BitVec 3) (v : Word) : (s.setDr n v).lastOpcode = s.lastOpcode := by
  unfold State.setDr; split <;> rfl
@[simp] theorem State.setDr_mem (n : BitVec 3) (v : Word) : (s.setDr n v).mem = s.mem := by
  unfold State.setDr; split <;> rfl
@[simp] theorem State.setDr_noTrap (n : BitVec 3) (v : Word) : (s.setDr n v).noTrap = s.noTrap := by
  unfold State.setDr; split <;> rfl
@[simp] theorem State.setDr_portAnswers (n : BitVec 3) (v : Word) : (s.setDr n v).portAnswers = s.portAnswers := by
  unfold State.setDr; split <;> rfl
@[simp] theorem State.setDr_intAcks (n : BitVec 3) (v : Word) : (s.setDr n v).intAcks = s.intAcks := by
  unfold State.setDr; split <;> rfl
@[simp] theorem State.setDr_oracleCount (n : BitVec 3) (v : Word) : (s.setDr n v).oracleCount = s.oracleCount := by
  unfold State.setDr; split <;> rfl
@[simp] theorem State.setDr_portLog (n : BitVec 3) (v : Word) : (s.setDr n v).portLog = s.portLog := by
  unfold State.setDr; split <;> rfl
@[simp] theorem State.setDr_busLog (n : BitVec 3) (v : Word) : (s.setDr n v).busLog = s.busLog := by
  unfold State.setDr; split <;> rfl
@[simp] theorem State.setDr_copAnswers (n : BitVec 3) (v : Word) : (s.setDr n v).copAnswers = s.copAnswers := by
  unfold State.setDr; split <;> rfl
@[simp] theorem State.setDr_copLog (n : BitVec 3) (v : Word) : (s.setDr n v).copLog = s.copLog := by
  unfold State.setDr; split <;> rfl

end Sys2Proof.Machine
end

