-- ==== Sys2Proof/Laws/Observe.lean ====
section
/-! SUPPORT. Which updates leave which observations alone: one equation for each update and each function of the state that reads
none of the fields it writes. -/

namespace Sys2Proof.Machine

variable (s : State)

@[simp] theorem State.setReg_seg (w : Width) (r : Reg) (v : Word) (k : SReg) : (s.setReg w r v).seg k = s.seg k := rfl
@[simp] theorem State.setReg_view (w : Width) (r : Reg) (v : Word) (k : SReg) : (s.setReg w r v).view k = s.view k := rfl
@[simp] theorem State.setReg_flag (w : Width) (r : Reg) (v : Word) (g : Flag) : (s.setReg w r v).flag g = s.flag g := rfl
@[simp] theorem State.setReg_direct (w : Width) (r : Reg) (v : Word) (k : Word) : (s.setReg w r v).direct k = s.direct k := rfl
@[simp] theorem State.setReg_getPS (w : Width) (r : Reg) (v : Word) : (s.setReg w r v).getPS = s.getPS := rfl
@[simp] theorem State.setReg_protectedMode (w : Width) (r : Reg) (v : Word) : (s.setReg w r v).protectedMode = s.protectedMode := rfl
@[simp] theorem State.setReg_pagingOn (w : Width) (r : Reg) (v : Word) : (s.setReg w r v).pagingOn = s.pagingOn := rfl
@[simp] theorem State.setReg_user (w : Width) (r : Reg) (v : Word) : (s.setReg w r v).user = s.user := rfl
@[simp] theorem State.setReg_opW (w : Width) (r : Reg) (v : Word) : (s.setReg w r v).opW = s.opW := rfl
@[simp] theorem State.setReg_adW (w : Width) (r : Reg) (v : Word) : (s.setReg w r v).adW = s.adW := rfl
@[simp] theorem State.setReg_code32 (w : Width) (r : Reg) (v : Word) : (s.setReg w r v).code32 = s.code32 := rfl
@[simp] theorem State.setReg_busByte (w : Width) (r : Reg) (v : Word) (k : Nat) : (s.setReg w r v).busByte k = s.busByte k := rfl
@[simp] theorem State.setReg_busRead (w : Width) (r : Reg) (v : Word) (k : List Nat) : (s.setReg w r v).busRead k = s.busRead k := rfl
@[simp] theorem State.setReg_busKind (w : Width) (r : Reg) (v : Word) (k : Nat) : (s.setReg w r v).busKind k = s.busKind k := rfl
@[simp] theorem State.setReg8_seg (r : Reg8) (v : Word) (k : SReg) : (s.setReg8 r v).seg k = s.seg k := rfl
@[simp] theorem State.setReg8_view (r : Reg8) (v : Word) (k : SReg) : (s.setReg8 r v).view k = s.view k := rfl
@[simp] theorem State.setReg8_flag (r : Reg8) (v : Word) (g : Flag) : (s.setReg8 r v).flag g = s.flag g := rfl
@[simp] theorem State.setReg8_direct (r : Reg8) (v : Word) (k : Word) : (s.setReg8 r v).direct k = s.direct k := rfl
@[simp] theorem State.setReg8_getPS (r : Reg8) (v : Word) : (s.setReg8 r v).getPS = s.getPS := rfl
@[simp] theorem State.setReg8_protectedMode (r : Reg8) (v : Word) : (s.setReg8 r v).protectedMode = s.protectedMode := rfl
@[simp] theorem State.setReg8_pagingOn (r : Reg8) (v : Word) : (s.setReg8 r v).pagingOn = s.pagingOn := rfl
@[simp] theorem State.setReg8_user (r : Reg8) (v : Word) : (s.setReg8 r v).user = s.user := rfl
@[simp] theorem State.setReg8_opW (r : Reg8) (v : Word) : (s.setReg8 r v).opW = s.opW := rfl
@[simp] theorem State.setReg8_adW (r : Reg8) (v : Word) : (s.setReg8 r v).adW = s.adW := rfl
@[simp] theorem State.setReg8_code32 (r : Reg8) (v : Word) : (s.setReg8 r v).code32 = s.code32 := rfl
@[simp] theorem State.setReg8_busByte (r : Reg8) (v : Word) (k : Nat) : (s.setReg8 r v).busByte k = s.busByte k := rfl
@[simp] theorem State.setReg8_busRead (r : Reg8) (v : Word) (k : List Nat) : (s.setReg8 r v).busRead k = s.busRead k := rfl
@[simp] theorem State.setReg8_busKind (r : Reg8) (v : Word) (k : Nat) : (s.setReg8 r v).busKind k = s.busKind k := rfl
@[simp] theorem State.setPc_seg (v : Word) (k : SReg) : (s.setPc v).seg k = s.seg k := rfl
@[simp] theorem State.setPc_view (v : Word) (k : SReg) : (s.setPc v).view k = s.view k := rfl
@[simp] theorem State.setPc_reg (v : Word) (k : Width) (q : Reg) : (s.setPc v).reg k q = s.reg k q := rfl
@[simp] theorem State.setPc_reg8 (v : Word) (q : Reg8) : (s.setPc v).reg8 q = s.reg8 q := rfl
@[simp] theorem State.setPc_flag (v : Word) (g : Flag) : (s.setPc v).flag g = s.flag g := rfl
@[simp] theorem State.setPc_direct (v : Word) (k : Word) : (s.setPc v).direct k = s.direct k := rfl
@[simp] theorem State.setPc_getPS (v : Word) : (s.setPc v).getPS = s.getPS := rfl
@[simp] theorem State.setPc_protectedMode (v : Word) : (s.setPc v).protectedMode = s.protectedMode := rfl
@[simp] theorem State.setPc_pagingOn (v : Word) : (s.setPc v).pagingOn = s.pagingOn := rfl
@[simp] theorem State.setPc_user (v : Word) : (s.setPc v).user = s.user := rfl
@[simp] theorem State.setPc_opW (v : Word) : (s.setPc v).opW = s.opW := rfl
@[simp] theorem State.setPc_adW (v : Word) : (s.setPc v).adW = s.adW := rfl
@[simp] theorem State.setPc_code32 (v : Word) : (s.setPc v).code32 = s.code32 := rfl
@[simp] theorem State.setPc_busByte (v : Word) (k : Nat) : (s.setPc v).busByte k = s.busByte k := rfl
@[simp] theorem State.setPc_busRead (v : Word) (k : List Nat) : (s.setPc v).busRead k = s.busRead k := rfl
@[simp] theorem State.setPc_busKind (v : Word) (k : Nat) : (s.setPc v).busKind k = s.busKind k := rfl
@[simp] theorem State.setPc_stack (v : Word) : (s.setPc v).stack = s.stack := rfl
@[simp] theorem State.setOpLIP_seg (v : Word) (k : SReg) : (s.setOpLIP v).seg k = s.seg k := rfl
@[simp] theorem State.setOpLIP_view (v : Word) (k : SReg) : (s.setOpLIP v).view k = s.view k := rfl
@[simp] theorem State.setOpLIP_reg (v : Word) (k : Width) (q : Reg) : (s.setOpLIP v).reg k q = s.reg k q := rfl
@[simp] theorem State.setOpLIP_reg8 (v : Word) (q : Reg8) : (s.setOpLIP v).reg8 q = s.reg8 q := rfl
@[simp] theorem State.setOpLIP_flag (v : Word) (g : Flag) : (s.setOpLIP v).flag g = s.flag g := rfl
@[simp] theorem State.setOpLIP_direct (v : Word) (k : Word) : (s.setOpLIP v).direct k = s.direct k := rfl
@[simp] theorem State.setOpLIP_getPS (v : Word) : (s.setOpLIP v).getPS = s.getPS := rfl
@[simp] theorem State.setOpLIP_protectedMode (v : Word) : (s.setOpLIP v).protectedMode = s.protectedMode := rfl
@[simp] theorem State.setOpLIP_pagingOn (v : Word) : (s.setOpLIP v).pagingOn = s.pagingOn := rfl
@[simp] theorem State.setOpLIP_user (v : Word) : (s.setOpLIP v).user = s.user := rfl
@[simp] theorem State.setOpLIP_opW (v : Word) : (s.setOpLIP v).opW = s.opW := rfl
@[simp] theorem State.setOpLIP_adW (v : Word) : (s.setOpLIP v).adW = s.adW := rfl
@[simp] theorem State.setOpLIP_code32 (v : Word) : (s.setOpLIP v).code32 = s.code32 := rfl
@[simp] theorem State.setOpLIP_busByte (v : Word) (k : Nat) : (s.setOpLIP v).busByte k = s.busByte k := rfl
@[simp] theorem State.setOpLIP_busRead (v : Word) (k : List Nat) : (s.setOpLIP v).busRead k = s.busRead k := rfl
@[simp] theorem State.setOpLIP_busKind (v : Word) (k : Nat) : (s.setOpLIP v).busKind k = s.busKind k := rfl
@[simp] theorem State.setOpLIP_stack (v : Word) : (s.setOpLIP v).stack = s.stack := rfl
@[simp] theorem State.setCr0_seg (v : Word) (k : SReg) : (s.setCr0 v).seg k = s.seg k := rfl
@[simp] theorem State.setCr0_view (v : Word) (k : SReg) : (s.setCr0 v).view k = s.view k := rfl
@[simp] theorem State.setCr0_reg (v : Word) (k : Width) (q : Reg) : (s.setCr0 v).reg k q = s.reg k q := rfl
@[simp] theorem State.setCr0_reg8 (v : Word) (q : Reg8) : (s.setCr0 v).reg8 q = s.reg8 q := rfl
@[simp] theorem State.setCr0_flag (v : Word) (g : Flag) : (s.setCr0 v).flag g = s.flag g := rfl
@[simp] theorem State.setCr0_direct (v : Word) (k : Word) : (s.setCr0 v).direct k = s.direct k := rfl
@[simp] theorem State.setCr0_getPS (v : Word) : (s.setCr0 v).getPS = s.getPS := rfl
@[simp] theorem State.setCr0_user (v : Word) : (s.setCr0 v).user = s.user := rfl
@[simp] theorem State.setCr0_opW (v : Word) : (s.setCr0 v).opW = s.opW := rfl
@[simp] theorem State.setCr0_adW (v : Word) : (s.setCr0 v).adW = s.adW := rfl
@[simp] theorem State.setCr0_code32 (v : Word) : (s.setCr0 v).code32 = s.code32 := rfl
@[simp] theorem State.setCr0_busByte (v : Word) (k : Nat) : (s.setCr0 v).busByte k = s.busByte k := rfl
@[simp] theorem State.setCr0_busRead (v : Word) (k : List Nat) : (s.setCr0 v).busRead k = s.busRead k := rfl
@[simp] theorem State.setCr0_busKind (v : Word) (k : Nat) : (s.setCr0 v).busKind k = s.busKind k := rfl
@[simp] theorem State.setCr0_stack (v : Word) : (s.setCr0 v).stack = s.stack := rfl
@[simp] theorem State.setCr2_seg (v : Word) (k : SReg) : (s.setCr2 v).seg k = s.seg k := rfl
@[simp] theorem State.setCr2_view (v : Word) (k : SReg) : (s.setCr2 v).view k = s.view k := rfl
@[simp] theorem State.setCr2_reg (v : Word) (k : Width) (q : Reg) : (s.setCr2 v).reg k q = s.reg k q := rfl
@[simp] theorem State.setCr2_reg8 (v : Word) (q : Reg8) : (s.setCr2 v).reg8 q = s.reg8 q := rfl
@[simp] theorem State.setCr2_flag (v : Word) (g : Flag) : (s.setCr2 v).flag g = s.flag g := rfl
@[simp] theorem State.setCr2_direct (v : Word) (k : Word) : (s.setCr2 v).direct k = s.direct k := rfl
@[simp] theorem State.setCr2_getPS (v : Word) : (s.setCr2 v).getPS = s.getPS := rfl
@[simp] theorem State.setCr2_protectedMode (v : Word) : (s.setCr2 v).protectedMode = s.protectedMode := rfl
@[simp] theorem State.setCr2_pagingOn (v : Word) : (s.setCr2 v).pagingOn = s.pagingOn := rfl
@[simp] theorem State.setCr2_user (v : Word) : (s.setCr2 v).user = s.user := rfl
@[simp] theorem State.setCr2_opW (v : Word) : (s.setCr2 v).opW = s.opW := rfl
@[simp] theorem State.setCr2_adW (v : Word) : (s.setCr2 v).adW = s.adW := rfl
@[simp] theorem State.setCr2_code32 (v : Word) : (s.setCr2 v).code32 = s.code32 := rfl
@[simp] theorem State.setCr2_busByte (v : Word) (k : Nat) : (s.setCr2 v).busByte k = s.busByte k := rfl
@[simp] theorem State.setCr2_busRead (v : Word) (k : List Nat) : (s.setCr2 v).busRead k = s.busRead k := rfl
@[simp] theorem State.setCr2_busKind (v : Word) (k : Nat) : (s.setCr2 v).busKind k = s.busKind k := rfl
@[simp] theorem State.setCr2_stack (v : Word) : (s.setCr2 v).stack = s.stack := rfl
@[simp] theorem State.setCr3_seg (v : Word) (k : SReg) : (s.setCr3 v).seg k = s.seg k := rfl
@[simp] theorem State.setCr3_view (v : Word) (k : SReg) : (s.setCr3 v).view k = s.view k := rfl
@[simp] theorem State.setCr3_reg (v : Word) (k : Width) (q : Reg) : (s.setCr3 v).reg k q = s.reg k q := rfl
@[simp] theorem State.setCr3_reg8 (v : Word) (q : Reg8) : (s.setCr3 v).reg8 q = s.reg8 q := rfl
@[simp] theorem State.setCr3_flag (v : Word) (g : Flag) : (s.setCr3 v).flag g = s.flag g := rfl
@[simp] theorem State.setCr3_direct (v : Word) (k : Word) : (s.setCr3 v).direct k = s.direct k := rfl
@[simp] theorem State.setCr3_getPS (v : Word) : (s.setCr3 v).getPS = s.getPS := rfl
@[simp] theorem State.setCr3_protectedMode (v : Word) : (s.setCr3 v).protectedMode = s.protectedMode := rfl
@[simp] theorem State.setCr3_pagingOn (v : Word) : (s.setCr3 v).pagingOn = s.pagingOn := rfl
@[simp] theorem State.setCr3_user (v : Word) : (s.setCr3 v).user = s.user := rfl
@[simp] theorem State.setCr3_opW (v : Word) : (s.setCr3 v).opW = s.opW := rfl
@[simp] theorem State.setCr3_adW (v : Word) : (s.setCr3 v).adW = s.adW := rfl
@[simp] theorem State.setCr3_code32 (v : Word) : (s.setCr3 v).code32 = s.code32 := rfl
@[simp] theorem State.setCr3_busByte (v : Word) (k : Nat) : (s.setCr3 v).busByte k = s.busByte k := rfl
@[simp] theorem State.setCr3_busRead (v : Word) (k : List Nat) : (s.setCr3 v).busRead k = s.busRead k := rfl
@[simp] theorem State.setCr3_busKind (v : Word) (k : Nat) : (s.setCr3 v).busKind k = s.busKind k := rfl
@[simp] theorem State.setCr3_stack (v : Word) : (s.setCr3 v).stack = s.stack := rfl
@[simp] theorem State.setGdtr_seg (v : TableReg) (k : SReg) : (s.setGdtr v).seg k = s.seg k := rfl
@[simp] theorem State.setGdtr_view (v : TableReg) (k : SReg) : (s.setGdtr v).view k = s.view k := rfl
@[simp] theorem State.setGdtr_reg (v : TableReg) (k : Width) (q : Reg) : (s.setGdtr v).reg k q = s.reg k q := rfl
@[simp] theorem State.setGdtr_reg8 (v : TableReg) (q : Reg8) : (s.setGdtr v).reg8 q = s.reg8 q := rfl
@[simp] theorem State.setGdtr_flag (v : TableReg) (g : Flag) : (s.setGdtr v).flag g = s.flag g := rfl
@[simp] theorem State.setGdtr_direct (v : TableReg) (k : Word) : (s.setGdtr v).direct k = s.direct k := rfl
@[simp] theorem State.setGdtr_getPS (v : TableReg) : (s.setGdtr v).getPS = s.getPS := rfl
@[simp] theorem State.setGdtr_protectedMode (v : TableReg) : (s.setGdtr v).protectedMode = s.protectedMode := rfl
@[simp] theorem State.setGdtr_pagingOn (v : TableReg) : (s.setGdtr v).pagingOn = s.pagingOn := rfl
@[simp] theorem State.setGdtr_user (v : TableReg) : (s.setGdtr v).user = s.user := rfl
@[simp] theorem State.setGdtr_opW (v : TableReg) : (s.setGdtr v).opW = s.opW := rfl
@[simp] theorem State.setGdtr_adW (v : TableReg) : (s.setGdtr v).adW = s.adW := rfl
@[simp] theorem State.setGdtr_code32 (v : TableReg) : (s.setGdtr v).code32 = s.code32 := rfl
@[simp] theorem State.setGdtr_busByte (v : TableReg) (k : Nat) : (s.setGdtr v).busByte k = s.busByte k := rfl
@[simp] theorem State.setGdtr_busRead (v : TableReg) (k : List Nat) : (s.setGdtr v).busRead k = s.busRead k := rfl
@[simp] theorem State.setGdtr_busKind (v : TableReg) (k : Nat) : (s.setGdtr v).busKind k = s.busKind k := rfl
@[simp] theorem State.setGdtr_stack (v : TableReg) : (s.setGdtr v).stack = s.stack := rfl
@[simp] theorem State.setIdtr_seg (v : TableReg) (k : SReg) : (s.setIdtr v).seg k = s.seg k := rfl
@[simp] theorem State.setIdtr_view (v : TableReg) (k : SReg) : (s.setIdtr v).view k = s.view k := rfl
@[simp] theorem State.setIdtr_reg (v : TableReg) (k : Width) (q : Reg) : (s.setIdtr v).reg k q = s.reg k q := rfl
@[simp] theorem State.setIdtr_reg8 (v : TableReg) (q : Reg8) : (s.setIdtr v).reg8 q = s.reg8 q := rfl
@[simp] theorem State.setIdtr_flag (v : TableReg) (g : Flag) : (s.setIdtr v).flag g = s.flag g := rfl
@[simp] theorem State.setIdtr_direct (v : TableReg) (k : Word) : (s.setIdtr v).direct k = s.direct k := rfl
@[simp] theorem State.setIdtr_getPS (v : TableReg) : (s.setIdtr v).getPS = s.getPS := rfl
@[simp] theorem State.setIdtr_protectedMode (v : TableReg) : (s.setIdtr v).protectedMode = s.protectedMode := rfl
@[simp] theorem State.setIdtr_pagingOn (v : TableReg) : (s.setIdtr v).pagingOn = s.pagingOn := rfl
@[simp] theorem State.setIdtr_user (v : TableReg) : (s.setIdtr v).user = s.user := rfl
@[simp] theorem State.setIdtr_opW (v : TableReg) : (s.setIdtr v).opW = s.opW := rfl
@[simp] theorem State.setIdtr_adW (v : TableReg) : (s.setIdtr v).adW = s.adW := rfl
@[simp] theorem State.setIdtr_code32 (v : TableReg) : (s.setIdtr v).code32 = s.code32 := rfl
@[simp] theorem State.setIdtr_busByte (v : TableReg) (k : Nat) : (s.setIdtr v).busByte k = s.busByte k := rfl
@[simp] theorem State.setIdtr_busRead (v : TableReg) (k : List Nat) : (s.setIdtr v).busRead k = s.busRead k := rfl
@[simp] theorem State.setIdtr_busKind (v : TableReg) (k : Nat) : (s.setIdtr v).busKind k = s.busKind k := rfl
@[simp] theorem State.setIdtr_stack (v : TableReg) : (s.setIdtr v).stack = s.stack := rfl
@[simp] theorem State.setHalt_seg (v : Bool) (k : SReg) : (s.setHalt v).seg k = s.seg k := rfl
@[simp] theorem State.setHalt_view (v : Bool) (k : SReg) : (s.setHalt v).view k = s.view k := rfl
@[simp] theorem State.setHalt_reg (v : Bool) (k : Width) (q : Reg) : (s.setHalt v).reg k q = s.reg k q := rfl
@[simp] theorem State.setHalt_reg8 (v : Bool) (q : Reg8) : (s.setHalt v).reg8 q = s.reg8 q := rfl
@[simp] theorem State.setHalt_flag (v : Bool) (g : Flag) : (s.setHalt v).flag g = s.flag g := rfl
@[simp] theorem State.setHalt_direct (v : Bool) (k : Word) : (s.setHalt v).direct k = s.direct k := rfl
@[simp] theorem State.setHalt_getPS (v : Bool) : (s.setHalt v).getPS = s.getPS := rfl
@[simp] theorem State.setHalt_protectedMode (v : Bool) : (s.setHalt v).protectedMode = s.protectedMode := rfl
@[simp] theorem State.setHalt_pagingOn (v : Bool) : (s.setHalt v).pagingOn = s.pagingOn := rfl
@[simp] theorem State.setHalt_user (v : Bool) : (s.setHalt v).user = s.user := rfl
@[simp] theorem State.setHalt_opW (v : Bool) : (s.setHalt v).opW = s.opW := rfl
@[simp] theorem State.setHalt_adW (v : Bool) : (s.setHalt v).adW = s.adW := rfl
@[simp] theorem State.setHalt_code32 (v : Bool) : (s.setHalt v).code32 = s.code32 := rfl
@[simp] theorem State.setHalt_busByte (v : Bool) (k : Nat) : (s.setHalt v).busByte k = s.busByte k := rfl
@[simp] theorem State.setHalt_busRead (v : Bool) (k : List Nat) : (s.setHalt v).busRead k = s.busRead k := rfl
@[simp] theorem State.setHalt_busKind (v : Bool) (k : Nat) : (s.setHalt v).busKind k = s.busKind k := rfl
@[simp] theorem State.setHalt_stack (v : Bool) : (s.setHalt v).stack = s.stack := rfl
@[simp] theorem State.setNoWrite_seg (v : Bool) (k : SReg) : (s.setNoWrite v).seg k = s.seg k := rfl
@[simp] theorem State.setNoWrite_view (v : Bool) (k : SReg) : (s.setNoWrite v).view k = s.view k := rfl
@[simp] theorem State.setNoWrite_reg (v : Bool) (k : Width) (q : Reg) : (s.setNoWrite v).reg k q = s.reg k q := rfl
@[simp] theorem State.setNoWrite_reg8 (v : Bool) (q : Reg8) : (s.setNoWrite v).reg8 q = s.reg8 q := rfl
@[simp] theorem State.setNoWrite_flag (v : Bool) (g : Flag) : (s.setNoWrite v).flag g = s.flag g := rfl
@[simp] theorem State.setNoWrite_direct (v : Bool) (k : Word) : (s.setNoWrite v).direct k = s.direct k := rfl
@[simp] theorem State.setNoWrite_getPS (v : Bool) : (s.setNoWrite v).getPS = s.getPS := rfl
@[simp] theorem State.setNoWrite_protectedMode (v : Bool) : (s.setNoWrite v).protectedMode = s.protectedMode := rfl
@[simp] theorem State.setNoWrite_pagingOn (v : Bool) : (s.setNoWrite v).pagingOn = s.pagingOn := rfl
@[simp] theorem State.setNoWrite_user (v : Bool) : (s.setNoWrite v).user = s.user := rfl
@[simp] theorem State.setNoWrite_opW (v : Bool) : (s.setNoWrite v).opW = s.opW := rfl
@[simp] theorem State.setNoWrite_adW (v : Bool) : (s.setNoWrite v).adW = s.adW := rfl
@[simp] theorem State.setNoWrite_code32 (v : Bool) : (s.setNoWrite v).code32 = s.code32 := rfl
@[simp] theorem State.setNoWrite_busByte (v : Bool) (k : Nat) : (s.setNoWrite v).busByte k = s.busByte k := rfl
@[simp] theorem State.setNoWrite_busRead (v : Bool) (k : List Nat) : (s.setNoWrite v).busRead k = s.busRead k := rfl
@[simp] theorem State.setNoWrite_busKind (v : Bool) (k : Nat) : (s.setNoWrite v).busKind k = s.busKind k := rfl
@[simp] theorem State.setNoWrite_stack (v : Bool) : (s.setNoWrite v).stack = s.stack := rfl
@[simp] theorem State.setNoReadWrite_seg (k : SReg) : (s.setNoReadWrite).seg k = s.seg k := rfl
@[simp] theorem State.setNoReadWrite_view (k : SReg) : (s.setNoReadWrite).view k = s.view k := rfl
@[simp] theorem State.setNoReadWrite_reg (k : Width) (q : Reg) : (s.setNoReadWrite).reg k q = s.reg k q := rfl
@[simp] theorem State.setNoReadWrite_reg8 (q : Reg8) : (s.setNoReadWrite).reg8 q = s.reg8 q := rfl
@[simp] theorem State.setNoReadWrite_flag (g : Flag) : (s.setNoReadWrite).flag g = s.flag g := rfl
@[simp] theorem State.setNoReadWrite_direct (k : Word) : (s.setNoReadWrite).direct k = s.direct k := rfl
@[simp] theorem State.setNoReadWrite_getPS  : (s.setNoReadWrite).getPS = s.getPS := rfl
@[simp] theorem State.setNoReadWrite_protectedMode  : (s.setNoReadWrite).protectedMode = s.protectedMode := rfl
@[simp] theorem State.setNoReadWrite_pagingOn  : (s.setNoReadWrite).pagingOn = s.pagingOn := rfl
@[simp] theorem State.setNoReadWrite_user  : (s.setNoReadWrite).user = s.user := rfl
@[simp] theorem State.setNoReadWrite_opW  : (s.setNoReadWrite).opW = s.opW := rfl
@[simp] theorem State.setNoReadWrite_adW  : (s.setNoReadWrite).adW = s.adW := rfl
@[simp] theorem State.setNoReadWrite_code32  : (s.setNoReadWrite).code32 = s.code32 := rfl
@[simp] theorem State.setNoReadWrite_busByte (k : Nat) : (s.setNoReadWrite).busByte k = s.busByte k := rfl
@[simp] theorem State.setNoReadWrite_busRead (k : List Nat) : (s.setNoReadWrite).busRead k = s.busRead k := rfl
@[simp] theorem State.setNoReadWrite_busKind (k : Nat) : (s.setNoReadWrite).busKind k = s.busKind k := rfl
@[simp] theorem State.setNoReadWrite_stack  : (s.setNoReadWrite).stack = s.stack := rfl
@[simp] theorem State.setLdtr_seg (v : LdtReg) (k : SReg) : (s.setLdtr v).seg k = s.seg k := rfl
@[simp] theorem State.setLdtr_view (v : LdtReg) (k : SReg) : (s.setLdtr v).view k = s.view k := rfl
@[simp] theorem State.setLdtr_reg (v : LdtReg) (k : Width) (q : Reg) : (s.setLdtr v).reg k q = s.reg k q := rfl
@[simp] theorem State.setLdtr_reg8 (v : LdtReg) (q : Reg8) : (s.setLdtr v).reg8 q = s.reg8 q := rfl
@[simp] theorem State.setLdtr_flag (v : LdtReg) (g : Flag) : (s.setLdtr v).flag g = s.flag g := rfl
@[simp] theorem State.setLdtr_direct (v : LdtReg) (k : Word) : (s.setLdtr v).direct k = s.direct k := rfl
@[simp] theorem State.setLdtr_getPS (v : LdtReg) : (s.setLdtr v).getPS = s.getPS := rfl
@[simp] theorem State.setLdtr_protectedMode (v : LdtReg) : (s.setLdtr v).protectedMode = s.protectedMode := rfl
@[simp] theorem State.setLdtr_pagingOn (v : LdtReg) : (s.setLdtr v).pagingOn = s.pagingOn := rfl
@[simp] theorem State.setLdtr_user (v : LdtReg) : (s.setLdtr v).user = s.user := rfl
@[simp] theorem State.setLdtr_opW (v : LdtReg) : (s.setLdtr v).opW = s.opW := rfl
@[simp] theorem State.setLdtr_adW (v : LdtReg) : (s.setLdtr v).adW = s.adW := rfl
@[simp] theorem State.setLdtr_code32 (v : LdtReg) : (s.setLdtr v).code32 = s.code32 := rfl
@[simp] theorem State.setLdtr_busByte (v : LdtReg) (k : Nat) : (s.setLdtr v).busByte k = s.busByte k := rfl
@[simp] theorem State.setLdtr_busRead (v : LdtReg) (k : List Nat) : (s.setLdtr v).busRead k = s.busRead k := rfl
@[simp] theorem State.setLdtr_busKind (v : LdtReg) (k : Nat) : (s.setLdtr v).busKind k = s.busKind k := rfl
@[simp] theorem State.setLdtr_stack (v : LdtReg) : (s.setLdtr v).stack = s.stack := rfl
@[simp] theorem State.setTr_seg (v : TaskReg) (k : SReg) : (s.setTr v).seg k = s.seg k := rfl
@[simp] theorem State.setTr_view (v : TaskReg) (k : SReg) : (s.setTr v).view k = s.view k := rfl
@[simp] theorem State.setTr_reg (v : TaskReg) (k : Width) (q : Reg) : (s.setTr v).reg k q = s.reg k q := rfl
@[simp] theorem State.setTr_reg8 (v : TaskReg) (q : Reg8) : (s.setTr v).reg8 q = s.reg8 q := rfl
@[simp] theorem State.setTr_flag (v : TaskReg) (g : Flag) : (s.setTr v).flag g = s.flag g := rfl
@[simp] theorem State.setTr_direct (v : TaskReg) (k : Word) : (s.setTr v).direct k = s.direct k := rfl
@[simp] theorem State.setTr_getPS (v : TaskReg) : (s.setTr v).getPS = s.getPS := rfl
@[simp] theorem State.setTr_protectedMode (v : TaskReg) : (s.setTr v).protectedMode = s.protectedMode := rfl
@[simp] theorem State.setTr_pagingOn (v : TaskReg) : (s.setTr v).pagingOn = s.pagingOn := rfl
@[simp] theorem State.setTr_user (v : TaskReg) : (s.setTr v).user = s.user := rfl
@[simp] theorem State.setTr_opW (v : TaskReg) : (s.setTr v).opW = s.opW := rfl
@[simp] theorem State.setTr_adW (v : TaskReg) : (s.setTr v).adW = s.adW := rfl
@[simp] theorem State.setTr_code32 (v : TaskReg) : (s.setTr v).code32 = s.code32 := rfl
@[simp] theorem State.setTr_busByte (v : TaskReg) (k : Nat) : (s.setTr v).busByte k = s.busByte k := rfl
@[simp] theorem State.setTr_busRead (v : TaskReg) (k : List Nat) : (s.setTr v).busRead k = s.busRead k := rfl
@[simp] theorem State.setTr_busKind (v : TaskReg) (k : Nat) : (s.setTr v).busKind k = s.busKind k := rfl
@[simp] theorem State.setTr_stack (v : TaskReg) : (s.setTr v).stack = s.stack := rfl
@[simp] theorem State.setNFault_seg (v : Option Byte) (k : SReg) : (s.setNFault v).seg k = s.seg k := rfl
@[simp] theorem State.setNFault_view (v : Option Byte) (k : SReg) : (s.setNFault v).view k = s.view k := rfl
@[simp] theorem State.setNFault_reg (v : Option Byte) (k : Width) (q : Reg) : (s.setNFault v).reg k q = s.reg k q := rfl
@[simp] theorem State.setNFault_reg8 (v : Option Byte) (q : Reg8) : (s.setNFault v).reg8 q = s.reg8 q := rfl
@[simp] theorem State.setNFault_flag (v : Option Byte) (g : Flag) : (s.setNFault v).flag g = s.flag g := rfl
@[simp] theorem State.setNFault_direct (v : Option Byte) (k : Word) : (s.setNFault v).direct k = s.direct k := rfl
@[simp] theorem State.setNFault_getPS (v : Option Byte) : (s.setNFault v).getPS = s.getPS := rfl
@[simp] theorem State.setNFault_protectedMode (v : Option Byte) : (s.setNFault v).protectedMode = s.protectedMode := rfl
@[simp] theorem State.setNFault_pagingOn (v : Option Byte) : (s.setNFault v).pagingOn = s.pagingOn := rfl
@[simp] theorem State.setNFault_user (v : Option Byte) : (s.setNFault v).user = s.user := rfl
@[simp] theorem State.setNFault_opW (v : Option Byte) : (s.setNFault v).opW = s.opW := rfl
@[simp] theorem State.setNFault_adW (v : Option Byte) : (s.setNFault v).adW = s.adW := rfl
@[simp] theorem State.setNFault_code32 (v : Option Byte) : (s.setNFault v).code32 = s.code32 := rfl
@[simp] theorem State.setNFault_busByte (v : Option Byte) (k : Nat) : (s.setNFault v).busByte k = s.busByte k := rfl
@[simp] theorem State.setNFault_busRead (v : Option Byte) (k : List Nat) : (s.setNFault v).busRead k = s.busRead k := rfl
@[simp] theorem State.setNFault_busKind (v : Option Byte) (k : Nat) : (s.setNFault v).busKind k = s.busKind k := rfl
@[simp] theorem State.setNFault_stack (v : Option Byte) : (s.setNFault v).stack = s.stack := rfl
@[simp] theorem State.setNoTrap_seg (v : Bool) (k : SReg) : (s.setNoTrap v).seg k = s.seg k := rfl
@[simp] theorem State.setNoTrap_view (v : Bool) (k : SReg) : (s.setNoTrap v).view k = s.view k := rfl
@[simp] theorem State.setNoTrap_reg (v : Bool) (k : Width) (q : Reg) : (s.setNoTrap v).reg k q = s.reg k q := rfl
@[simp] theorem State.setNoTrap_reg8 (v : Bool) (q : Reg8) : (s.setNoTrap v).reg8 q = s.reg8 q := rfl
@[simp] theorem State.setNoTrap_flag (v : Bool) (g : Flag) : (s.setNoTrap v).flag g = s.flag g := rfl
@[simp] theorem State.setNoTrap_direct (v : Bool) (k : Word) : (s.setNoTrap v).direct k = s.direct k := rfl
@[simp] theorem State.setNoTrap_getPS (v : Bool) : (s.setNoTrap v).getPS = s.getPS := rfl
@[simp] theorem State.setNoTrap_protectedMode (v : Bool) : (s.setNoTrap v).protectedMode = s.protectedMode := rfl
@[simp] theorem State.setNoTrap_pagingOn (v : Bool) : (s.setNoTrap v).pagingOn = s.pagingOn := rfl
@[simp] theorem State.setNoTrap_user (v : Bool) : (s.setNoTrap v).user = s.user := rfl
@[simp] theorem State.setNoTrap_opW (v : Bool) : (s.setNoTrap v).opW = s.opW := rfl
@[simp] theorem State.setNoTrap_adW (v : Bool) : (s.setNoTrap v).adW = s.adW := rfl
@[simp] theorem State.setNoTrap_code32 (v : Bool) : (s.setNoTrap v).code32 = s.code32 := rfl
@[simp] theorem State.setNoTrap_busByte (v : Bool) (k : Nat) : (s.setNoTrap v).busByte k = s.busByte k := rfl
@[simp] theorem State.setNoTrap_busRead (v : Bool) (k : List Nat) : (s.setNoTrap v).busRead k = s.busRead k := rfl
@[simp] theorem State.setNoTrap_busKind (v : Bool) (k : Nat) : (s.setNoTrap v).busKind k = s.busKind k := rfl
@[simp] theorem State.setNoTrap_stack (v : Bool) : (s.setNoTrap v).stack = s.stack := rfl
@[simp] theorem State.setLastOpcode_seg (v : Byte) (k : SReg) : (s.setLastOpcode v).seg k = s.seg k := rfl
@[simp] theorem State.setLastOpcode_view (v : Byte) (k : SReg) : (s.setLastOpcode v).view k = s.view k := rfl
@[simp] theorem State.setLastOpcode_reg (v : Byte) (k : Width) (q : Reg) : (s.setLastOpcode v).reg k q = s.reg k q := rfl
@[simp] theorem State.setLastOpcode_reg8 (v : Byte) (q : Reg8) : (s.setLastOpcode v).reg8 q = s.reg8 q := rfl
@[simp] theorem State.setLastOpcode_flag (v : Byte) (g : Flag) : (s.setLastOpcode v).flag g = s.flag g := rfl
@[simp] theorem State.setLastOpcode_direct (v : Byte) (k : Word) : (s.setLastOpcode v).direct k = s.direct k := rfl
@[simp] theorem State.setLastOpcode_getPS (v : Byte) : (s.setLastOpcode v).getPS = s.getPS := rfl
@[simp] theorem State.setLastOpcode_protectedMode (v : Byte) : (s.setLastOpcode v).protectedMode = s.protectedMode := rfl
@[simp] theorem State.setLastOpcode_pagingOn (v : Byte) : (s.setLastOpcode v).pagingOn = s.pagingOn := rfl
@[simp] theorem State.setLastOpcode_user (v : Byte) : (s.setLastOpcode v).user = s.user := rfl
@[simp] theorem State.setLastOpcode_opW (v : Byte) : (s.setLastOpcode v).opW = s.opW := rfl
@[simp] theorem State.setLastOpcode_adW (v : Byte) : (s.setLastOpcode v).adW = s.adW := rfl
@[simp] theorem State.setLastOpcode_code32 (v : Byte) : (s.setLastOpcode v).code32 = s.code32 := rfl
@[simp] theorem State.setLastOpcode_busByte (v : Byte) (k : Nat) : (s.setLastOpcode v).busByte k = s.busByte k := rfl
@[simp] theorem State.setLastOpcode_busRead (v : Byte) (k : List Nat) : (s.setLastOpcode v).busRead k = s.busRead k := rfl
@[simp] theorem State.setLastOpcode_busKind (v : Byte) (k : Nat) : (s.setLastOpcode v).busKind k = s.busKind k := rfl
@[simp] theorem State.setLastOpcode_stack (v : Byte) : (s.setLastOpcode v).stack = s.stack := rfl
@[simp] theorem State.setNoIntr_seg (v : Bool) (k : SReg) : (s.setNoIntr v).seg k = s.seg k := rfl
@[simp] theorem State.setNoIntr_view (v : Bool) (k : SReg) : (s.setNoIntr v).view k = s.view k := rfl
@[simp] theorem State.setNoIntr_reg (v : Bool) (k : Width) (q : Reg) : (s.setNoIntr v).reg k q = s.reg k q := rfl
@[simp] theorem State.setNoIntr_reg8 (v : Bool) (q : Reg8) : (s.setNoIntr v).reg8 q = s.reg8 q := rfl
@[simp] theorem State.setNoIntr_flag (v : Bool) (g : Flag) : (s.setNoIntr v).flag g = s.flag g := rfl
@[simp] theorem State.setNoIntr_direct (v : Bool) (k : Word) : (s.setNoIntr v).direct k = s.direct k := rfl
@[simp] theorem State.setNoIntr_getPS (v : Bool) : (s.setNoIntr v).getPS = s.getPS := rfl
@[simp] theorem State.setNoIntr_protectedMode (v : Bool) : (s.setNoIntr v).protectedMode = s.protectedMode := rfl
@[simp] theorem State.setNoIntr_pagingOn (v : Bool) : (s.setNoIntr v).pagingOn = s.pagingOn := rfl
@[simp] theorem State.setNoIntr_user (v : Bool) : (s.setNoIntr v).user = s.user := rfl
@[simp] theorem State.setNoIntr_opW (v : Bool) : (s.setNoIntr v).opW = s.opW := rfl
@[simp] theorem State.setNoIntr_adW (v : Bool) : (s.setNoIntr v).adW = s.adW := rfl
@[simp] theorem State.setNoIntr_code32 (v : Bool) : (s.setNoIntr v).code32 = s.code32 := rfl
@[simp] theorem State.setNoIntr_busByte (v : Bool) (k : Nat) : (s.setNoIntr v).busByte k = s.busByte k := rfl
@[simp] theorem State.setNoIntr_busRead (v : Bool) (k : List Nat) : (s.setNoIntr v).busRead k = s.busRead k := rfl
@[simp] theorem State.setNoIntr_busKind (v : Bool) (k : Nat) : (s.setNoIntr v).busKind k = s.busKind k := rfl
@[simp] theorem State.setNoIntr_stack (v : Bool) : (s.setNoIntr v).stack = s.stack := rfl
@[simp] theorem State.jumpTo_seg (v : Word) (k : SReg) : (s.jumpTo v).seg k = s.seg k := rfl
@[simp] theorem State.jumpTo_view (v : Word) (k : SReg) : (s.jumpTo v).view k = s.view k := rfl
@[simp] theorem State.jumpTo_reg (v : Word) (k : Width) (q : Reg) : (s.jumpTo v).reg k q = s.reg k q := rfl
@[simp] theorem State.jumpTo_reg8 (v : Word) (q : Reg8) : (s.jumpTo v).reg8 q = s.reg8 q := rfl
@[simp] theorem State.jumpTo_flag (v : Word) (g : Flag) : (s.jumpTo v).flag g = s.flag g := rfl
@[simp] theorem State.jumpTo_direct (v : Word) (k : Word) : (s.jumpTo v).direct k = s.direct k := rfl
@[simp] theorem State.jumpTo_getPS (v : Word) : (s.jumpTo v).getPS = s.getPS := rfl
@[simp] theorem State.jumpTo_protectedMode (v : Word) : (s.jumpTo v).protectedMode = s.protectedMode := rfl
@[simp] theorem State.jumpTo_pagingOn (v : Word) : (s.jumpTo v).pagingOn = s.pagingOn := rfl
@[simp] theorem State.jumpTo_user (v : Word) : (s.jumpTo v).user = s.user := rfl
@[simp] theorem State.jumpTo_opW (v : Word) : (s.jumpTo v).opW = s.opW := rfl
@[simp] theorem State.jumpTo_adW (v : Word) : (s.jumpTo v).adW = s.adW := rfl
@[simp] theorem State.jumpTo_code32 (v : Word) : (s.jumpTo v).code32 = s.code32 := rfl
@[simp] theorem State.jumpTo_busByte (v : Word) (k : Nat) : (s.jumpTo v).busByte k = s.busByte k := rfl
@[simp] theorem State.jumpTo_busRead (v : Word) (k : List Nat) : (s.jumpTo v).busRead k = s.busRead k := rfl
@[simp] theorem State.jumpTo_busKind (v : Word) (k : Nat) : (s.jumpTo v).busKind k = s.busKind k := rfl
@[simp] theorem State.jumpTo_stack (v : Word) : (s.jumpTo v).stack = s.stack := rfl
@[simp] theorem State.captureEA_seg (l : Loc) (k : SReg) : (s.captureEA l).seg k = s.seg k := rfl
@[simp] theorem State.captureEA_view (l : Loc) (k : SReg) : (s.captureEA l).view k = s.view k := rfl
@[simp] theorem State.captureEA_reg (l : Loc) (k : Width) (q : Reg) : (s.captureEA l).reg k q = s.reg k q := rfl
@[simp] theorem State.captureEA_reg8 (l : Loc) (q : Reg8) : (s.captureEA l).reg8 q = s.reg8 q := rfl
@[simp] theorem State.captureEA_flag (l : Loc) (g : Flag) : (s.captureEA l).flag g = s.flag g := rfl
@[simp] theorem State.captureEA_direct (l : Loc) (k : Word) : (s.captureEA l).direct k = s.direct k := rfl
@[simp] theorem State.captureEA_getPS (l : Loc) : (s.captureEA l).getPS = s.getPS := rfl
@[simp] theorem State.captureEA_protectedMode (l : Loc) : (s.captureEA l).protectedMode = s.protectedMode := rfl
@[simp] theorem State.captureEA_pagingOn (l : Loc) : (s.captureEA l).pagingOn = s.pagingOn := rfl
@[simp] theorem State.captureEA_user (l : Loc) : (s.captureEA l).user = s.user := rfl
@[simp] theorem State.captureEA_opW (l : Loc) : (s.captureEA l).opW = s.opW := rfl
@[simp] theorem State.captureEA_adW (l : Loc) : (s.captureEA l).adW = s.adW := rfl
@[simp] theorem State.captureEA_code32 (l : Loc) : (s.captureEA l).code32 = s.code32 := rfl
@[simp] theorem State.captureEA_busByte (l : Loc) (k : Nat) : (s.captureEA l).busByte k = s.busByte k := rfl
@[simp] theorem State.captureEA_busRead (l : Loc) (k : List Nat) : (s.captureEA l).busRead k = s.busRead k := rfl
@[simp] theorem State.captureEA_busKind (l : Loc) (k : Nat) : (s.captureEA l).busKind k = s.busKind k := rfl
@[simp] theorem State.captureEA_stack (l : Loc) : (s.captureEA l).stack = s.stack := rfl
@[simp] theorem State.captureWrite_seg (l : Loc) (k : SReg) : (s.captureWrite l).seg k = s.seg k := rfl
@[simp] theorem State.captureWrite_view (l : Loc) (k : SReg) : (s.captureWrite l).view k = s.view k := rfl
@[simp] theorem State.captureWrite_reg (l : Loc) (k : Width) (q : Reg) : (s.captureWrite l).reg k q = s.reg k q := rfl
@[simp] theorem State.captureWrite_reg8 (l : Loc) (q : Reg8) : (s.captureWrite l).reg8 q = s.reg8 q := rfl
@[simp] theorem State.captureWrite_flag (l : Loc) (g : Flag) : (s.captureWrite l).flag g = s.flag g := rfl
@[simp] theorem State.captureWrite_direct (l : Loc) (k : Word) : (s.captureWrite l).direct k = s.direct k := rfl
@[simp] theorem State.captureWrite_getPS (l : Loc) : (s.captureWrite l).getPS = s.getPS := rfl
@[simp] theorem State.captureWrite_protectedMode (l : Loc) : (s.captureWrite l).protectedMode = s.protectedMode := rfl
@[simp] theorem State.captureWrite_pagingOn (l : Loc) : (s.captureWrite l).pagingOn = s.pagingOn := rfl
@[simp] theorem State.captureWrite_user (l : Loc) : (s.captureWrite l).user = s.user := rfl
@[simp] theorem State.captureWrite_opW (l : Loc) : (s.captureWrite l).opW = s.opW := rfl
@[simp] theorem State.captureWrite_adW (l : Loc) : (s.captureWrite l).adW = s.adW := rfl
@[simp] theorem State.captureWrite_code32 (l : Loc) : (s.captureWrite l).code32 = s.code32 := rfl
@[simp] theorem State.captureWrite_busByte (l : Loc) (k : Nat) : (s.captureWrite l).busByte k = s.busByte k := rfl
@[simp] theorem State.captureWrite_busRead (l : Loc) (k : List Nat) : (s.captureWrite l).busRead k = s.busRead k := rfl
@[simp] theorem State.captureWrite_busKind (l : Loc) (k : Nat) : (s.captureWrite l).busKind k = s.busKind k := rfl
@[simp] theorem State.captureWrite_stack (l : Loc) : (s.captureWrite l).stack = s.stack := rfl
@[simp] theorem State.setBusByte_seg (a : Nat) (v : Byte) (k : SReg) : (s.setBusByte a v).seg k = s.seg k := by
  unfold State.setBusByte; split <;> rfl
@[simp] theorem State.setBusByte_view (a : Nat) (v : Byte) (k : SReg) : (s.setBusByte a v).view k = s.view k := by
  unfold State.setBusByte; split <;> rfl
@[simp] theorem State.setBusByte_reg (a : Nat) (v : Byte) (k : Width) (q : Reg) : (s.setBusByte a v).reg k q = s.reg k q := by
  unfold State.setBusByte; split <;> rfl
@[simp] theorem State.setBusByte_reg8 (a : Nat) (v : Byte) (q : Reg8) : (s.setBusByte a v).reg8 q = s.reg8 q := by
  unfold State.setBusByte; split <;> rfl
@[simp] theorem State.setBusByte_flag (a : Nat) (v : Byte) (g : Flag) : (s.setBusByte a v).flag g = s.flag g := by
  unfold State.setBusByte; split <;> rfl
@[simp] theorem State.setBusByte_direct (a : Nat) (v : Byte) (k : Word) : (s.setBusByte a v).direct k = s.direct k := by
  unfold State.setBusByte; split <;> rfl
@[simp] theorem State.setBusByte_getPS (a : Nat) (v : Byte) : (s.setBusByte a v).getPS = s.getPS := by
  unfold State.setBusByte; split <;> rfl
@[simp] theorem State.setBusByte_protectedMode (a : Nat) (v : Byte) : (s.setBusByte a v).protectedMode = s.protectedMode := by
  unfold State.setBusByte; split <;> rfl
@[simp] theorem State.setBusByte_pagingOn (a : Nat) (v : Byte) : (s.setBusByte a v).pagingOn = s.pagingOn := by
  unfold State.setBusByte; split <;> rfl
@[simp] theorem State.setBusByte_user (a : Nat) (v : Byte) : (s.setBusByte a v).user = s.user := by
  unfold State.setBusByte; split <;> rfl
@[simp] theorem State.setBusByte_opW (a : Nat) (v : Byte) : (s.setBusByte a v).opW = s.opW := by
  unfold State.setBusByte; split <;> rfl
@[simp] theorem State.setBusByte_adW (a : Nat) (v : Byte) : (s.setBusByte a v).adW = s.adW := by
  unfold State.setBusByte; split <;> rfl
@[simp] theorem State.setBusByte_code32 (a : Nat) (v : Byte) : (s.setBusByte a v).code32 = s.code32 := by
  unfold State.setBusByte; split <;> rfl
@[simp] theorem State.setBusByte_busKind (a : Nat) (v : Byte) (k : Nat) : (s.setBusByte a v).busKind k = s.busKind k := by
  unfold State.setBusByte; split <;> rfl
@[simp] theorem State.setBusByte_stack (a : Nat) (v : Byte) : (s.setBusByte a v).stack = s.stack := by
  unfold State.setBusByte; split <;> rfl
@[simp] theorem State.busWrite_seg (as : List Nat) (bs : List Byte) (k : SReg) : (s.busWrite as bs).seg k = s.seg k := by
  cases k <;> simp [State.seg]
@[simp] theorem State.busWrite_view (as : List Nat) (bs : List Byte) (k : SReg) : (s.busWrite as bs).view k = s.view k := by simp [State.view, State.user, State.seg]
@[simp] theorem State.busWrite_reg (as : List Nat) (bs : List Byte) (k : Width) (q : Reg) : (s.busWrite as bs).reg k q = s.reg k q := by simp [State.reg]
@[simp] theorem State.busWrite_reg8 (as : List Nat) (bs : List Byte) (q : Reg8) : (s.busWrite as bs).reg8 q = s.reg8 q := by simp [State.reg8]
@[simp] theorem State.busWrite_flag (as : List Nat) (bs : List Byte) (g : Flag) : (s.busWrite as bs).flag g = s.flag g := by simp [State.flag]
@[simp] theorem State.busWrite_direct (as : List Nat) (bs : List Byte) (k : Word) : (s.busWrite as bs).direct k = s.direct k := by simp [State.direct]
@[simp] theorem State.busWrite_getPS (as : List Nat) (bs : List Byte) : (s.busWrite as bs).getPS = s.getPS := by simp [State.getPS]
@[simp] theorem State.busWrite_protectedMode (as : List Nat) (bs : List Byte) : (s.busWrite as bs).protectedMode = s.protectedMode := by simp [State.protectedMode]
@[simp] theorem State.busWrite_pagingOn (as : List Nat) (bs : List Byte) : (s.busWrite as bs).pagingOn = s.pagingOn := by simp [State.pagingOn]
@[simp] theorem State.busWrite_user (as : List Nat) (bs : List Byte) : (s.busWrite as bs).user = s.user := by simp [State.user]
@[simp] theorem State.busWrite_opW (as : List Nat) (bs : List Byte) : (s.busWrite as bs).opW = s.opW := by simp [State.opW, State.op32]
@[simp] theorem State.busWrite_adW (as : List Nat) (bs : List Byte) : (s.busWrite as bs).adW = s.adW := by simp [State.adW, State.ad32]
@[simp] theorem State.busWrite_code32 (as : List Nat) (bs : List Byte) : (s.busWrite as bs).code32 = s.code32 := by simp [State.code32]
@[simp] theorem State.busWrite_busKind (as : List Nat) (bs : List Byte) (k : Nat) : (s.busWrite as bs).busKind k = s.busKind k := by simp [State.busKind]
@[simp] theorem State.busWrite_stack (as : List Nat) (bs : List Byte) : (s.busWrite as bs).stack = s.stack := by simp [State.stack, State.view, State.seg, State.reg, State.user]
@[simp] theorem State.logBus_seg (es : List BusEvent) (k : SReg) : (s.logBus es).seg k = s.seg k := rfl
@[simp] theorem State.logBus_view (es : List BusEvent) (k : SReg) : (s.logBus es).view k = s.view k := rfl
@[simp] theorem State.logBus_reg (es : List BusEvent) (k : Width) (q : Reg) : (s.logBus es).reg k q = s.reg k q := rfl
@[simp] theorem State.logBus_reg8 (es : List BusEvent) (q : Reg8) : (s.logBus es).reg8 q = s.reg8 q := rfl
@[simp] theorem State.logBus_flag (es : List BusEvent) (g : Flag) : (s.logBus es).flag g = s.flag g := rfl
@[simp] theorem State.logBus_direct (es : List BusEvent) (k : Word) : (s.logBus es).direct k = s.direct k := rfl
@[simp] theorem State.logBus_getPS (es : List BusEvent) : (s.logBus es).getPS = s.getPS := rfl
@[simp] theorem State.logBus_protectedMode (es : List BusEvent) : (s.logBus es).protectedMode = s.protectedMode := rfl
@[simp] theorem State.logBus_pagingOn (es : List BusEvent) : (s.logBus es).pagingOn = s.pagingOn := rfl
@[simp] theorem State.logBus_user (es : List BusEvent) : (s.logBus es).user = s.user := rfl
@[simp] theorem State.logBus_opW (es : List BusEvent) : (s.logBus es).opW = s.opW := rfl
@[simp] theorem State.logBus_adW (es : List BusEvent) : (s.logBus es).adW = s.adW := rfl
@[simp] theorem State.logBus_code32 (es : List BusEvent) : (s.logBus es).code32 = s.code32 := rfl
@[simp] theorem State.logBus_busByte (es : List BusEvent) (k : Nat) : (s.logBus es).busByte k = s.busByte k := rfl
@[simp] theorem State.logBus_busRead (es : List BusEvent) (k : List Nat) : (s.logBus es).busRead k = s.busRead k := rfl
@[simp] theorem State.logBus_busKind (es : List BusEvent) (k : Nat) : (s.logBus es).busKind k = s.busKind k := rfl
@[simp] theorem State.logBus_stack (es : List BusEvent) : (s.logBus es).stack = s.stack := rfl
@[simp] theorem State.busStore_seg (ops : BusOps) (bs : List Byte) (k : SReg) : (s.busStore ops bs).seg k = s.seg k := by simp [State.busStore]
@[simp] theorem State.busStore_view (ops : BusOps) (bs : List Byte) (k : SReg) : (s.busStore ops bs).view k = s.view k := by simp [State.busStore]
@[simp] theorem State.busStore_reg (ops : BusOps) (bs : List Byte) (k : Width) (q : Reg) : (s.busStore ops bs).reg k q = s.reg k q := by simp [State.busStore]
@[simp] theorem State.busStore_reg8 (ops : BusOps) (bs : List Byte) (q : Reg8) : (s.busStore ops bs).reg8 q = s.reg8 q := by simp [State.busStore]
@[simp] theorem State.busStore_flag (ops : BusOps) (bs : List Byte) (g : Flag) : (s.busStore ops bs).flag g = s.flag g := by simp [State.busStore]
@[simp] theorem State.busStore_direct (ops : BusOps) (bs : List Byte) (k : Word) : (s.busStore ops bs).direct k = s.direct k := by simp [State.busStore]
@[simp] theorem State.busStore_getPS (ops : BusOps) (bs : List Byte) : (s.busStore ops bs).getPS = s.getPS := by simp [State.busStore]
@[simp] theorem State.busStore_protectedMode (ops : BusOps) (bs : List Byte) : (s.busStore ops bs).protectedMode = s.protectedMode := by simp [State.busStore]
@[simp] theorem State.busStore_pagingOn (ops : BusOps) (bs : List Byte) : (s.busStore ops bs).pagingOn = s.pagingOn := by simp [State.busStore]
@[simp] theorem State.busStore_user (ops : BusOps) (bs : List Byte) : (s.busStore ops bs).user = s.user := by simp [State.busStore]
@[simp] theorem State.busStore_opW (ops : BusOps) (bs : List Byte) : (s.busStore ops bs).opW = s.opW := by simp [State.busStore]
@[simp] theorem State.busStore_adW (ops : BusOps) (bs : List Byte) : (s.busStore ops bs).adW = s.adW := by simp [State.busStore]
@[simp] theorem State.busStore_code32 (ops : BusOps) (bs : List Byte) : (s.busStore ops bs).code32 = s.code32 := by simp [State.busStore]
@[simp] theorem State.busStore_busKind (ops : BusOps) (bs : List Byte) (k : Nat) : (s.busStore ops bs).busKind k = s.busKind k := by simp [State.busStore]
@[simp] theorem State.busStore_stack (ops : BusOps) (bs : List Byte) : (s.busStore ops bs).stack = s.stack := by simp [State.busStore]
@[simp] theorem State.setSeg_reg (r : SReg) (v : SegReg) (k : Width) (q : Reg) : (s.setSeg r v).reg k q = s.reg k q := by
  cases r <;> rfl
@[simp] theorem State.setSeg_reg8 (r : SReg) (v : SegReg) (q : Reg8) : (s.setSeg r v).reg8 q = s.reg8 q := by
  cases r <;> rfl
@[simp] theorem State.setSeg_flag (r : SReg) (v : SegReg) (g : Flag) : (s.setSeg r v).flag g = s.flag g := by
  cases r <;> rfl
@[simp] theorem State.setSeg_direct (r : SReg) (v : SegReg) (k : Word) : (s.setSeg r v).direct k = s.direct k := by
  cases r <;> rfl
@[simp] theorem State.setSeg_getPS (r : SReg) (v : SegReg) : (s.setSeg r v).getPS = s.getPS := by
  cases r <;> rfl
@[simp] theorem State.setSeg_protectedMode (r : SReg) (v : SegReg) : (s.setSeg r v).protectedMode = s.protectedMode := by
  cases r <;> rfl
@[simp] theorem State.setSeg_pagingOn (r : SReg) (v : SegReg) : (s.setSeg r v).pagingOn = s.pagingOn := by
  cases r <;> rfl
@[simp] theorem State.setSeg_user (r : SReg) (v : SegReg) : (s.setSeg r v).user = s.user := by
  cases r <;> rfl
@[simp] theorem State.setSeg_busByte (r : SReg) (v : SegReg) (k : Nat) : (s.setSeg r v).busByte k = s.busByte k := by
  cases r <;> rfl
@[simp] theorem State.setSeg_busRead (r : SReg) (v : SegReg) (k : List Nat) : (s.setSeg r v).busRead k = s.busRead k := by
  cases r <;> rfl
@[simp] theorem State.setSeg_busKind (r : SReg) (v : SegReg) (k : Nat) : (s.setSeg r v).busKind k = s.busKind k := by
  cases r <;> rfl
@[simp] theorem State.setFlag_seg (f : Flag) (v : Bool) (k : SReg) : (s.setFlag f v).seg k = s.seg k := rfl
@[simp] theorem State.setFlag_view (f : Flag) (v : Bool) (k : SReg) : (s.setFlag f v).view k = s.view k := rfl
@[simp] theorem State.setFlag_reg (f : Flag) (v : Bool) (k : Width) (q : Reg) : (s.setFlag f v).reg k q = s.reg k q := rfl
@[simp] theorem State.setFlag_reg8 (f : Flag) (v : Bool) (q : Reg8) : (s.setFlag f v).reg8 q = s.reg8 q := rfl
@[simp] theorem State.setFlag_protectedMode (f : Flag) (v : Bool) : (s.setFlag f v).protectedMode = s.protectedMode := rfl
@[simp] theorem State.setFlag_pagingOn (f : Flag) (v : Bool) : (s.setFlag f v).pagingOn = s.pagingOn := rfl
@[simp] theorem State.setFlag_user (f : Flag) (v : Bool) : (s.setFlag f v).user = s.user := rfl
@[simp] theorem State.setFlag_opW (f : Flag) (v : Bool) : (s.setFlag f v).opW = s.opW := rfl
@[simp] theorem State.setFlag_adW (f : Flag) (v : Bool) : (s.setFlag f v).adW = s.adW := rfl
@[simp] theorem State.setFlag_code32 (f : Flag) (v : Bool) : (s.setFlag f v).code32 = s.code32 := rfl
@[simp] theorem State.setFlag_busByte (f : Flag) (v : Bool) (k : Nat) : (s.setFlag f v).busByte k = s.busByte k := rfl
@[simp] theorem State.setFlag_busRead (f : Flag) (v : Bool) (k : List Nat) : (s.setFlag f v).busRead k = s.busRead k := rfl
@[simp] theorem State.setFlag_busKind (f : Flag) (v : Bool) (k : Nat) : (s.setFlag f v).busKind k = s.busKind k := rfl
@[simp] theorem State.setFlag_stack (f : Flag) (v : Bool) : (s.setFlag f v).stack = s.stack := rfl
@[simp] theorem State.setPS_seg (v m : Word) (k : SReg) : (s.setPS v m).seg k = s.seg k := rfl
@[simp] theorem State.setPS_view (v m : Word) (k : SReg) : (s.setPS v m).view k = s.view k := rfl
@[simp] theorem State.setPS_reg (v m : Word) (k : Width) (q : Reg) : (s.setPS v m).reg k q = s.reg k q := rfl
@[simp] theorem State.setPS_reg8 (v m : Word) (q : Reg8) : (s.setPS v m).reg8 q = s.reg8 q := rfl
@[simp] theorem State.setPS_protectedMode (v m : Word) : (s.setPS v m).protectedMode = s.protectedMode := rfl
@[simp] theorem State.setPS_pagingOn (v m : Word) : (s.setPS v m).pagingOn = s.pagingOn := rfl
@[simp] theorem State.setPS_user (v m : Word) : (s.setPS v m).user = s.user := rfl
@[simp] theorem State.setPS_opW (v m : Word) : (s.setPS v m).opW = s.opW := rfl
@[simp] theorem State.setPS_adW (v m : Word) : (s.setPS v m).adW = s.adW := rfl
@[simp] theorem State.setPS_code32 (v m : Word) : (s.setPS v m).code32 = s.code32 := rfl
@[simp] theorem State.setPS_busByte (v m : Word) (k : Nat) : (s.setPS v m).busByte k = s.busByte k := rfl
@[simp] theorem State.setPS_busRead (v m : Word) (k : List Nat) : (s.setPS v m).busRead k = s.busRead k := rfl
@[simp] theorem State.setPS_busKind (v m : Word) (k : Nat) : (s.setPS v m).busKind k = s.busKind k := rfl
@[simp] theorem State.setPS_stack (v m : Word) : (s.setPS v m).stack = s.stack := rfl
@[simp] theorem State.setDirect_seg (m : Word) (v : Bool) (k : SReg) : (s.setDirect m v).seg k = s.seg k := rfl
@[simp] theorem State.setDirect_view (m : Word) (v : Bool) (k : SReg) : (s.setDirect m v).view k = s.view k := rfl
@[simp] theorem State.setDirect_reg (m : Word) (v : Bool) (k : Width) (q : Reg) : (s.setDirect m v).reg k q = s.reg k q := rfl
@[simp] theorem State.setDirect_reg8 (m : Word) (v : Bool) (q : Reg8) : (s.setDirect m v).reg8 q = s.reg8 q := rfl
@[simp] theorem State.setDirect_protectedMode (m : Word) (v : Bool) : (s.setDirect m v).protectedMode = s.protectedMode := rfl
@[simp] theorem State.setDirect_pagingOn (m : Word) (v : Bool) : (s.setDirect m v).pagingOn = s.pagingOn := rfl
@[simp] theorem State.setDirect_user (m : Word) (v : Bool) : (s.setDirect m v).user = s.user := rfl
@[simp] theorem State.setDirect_opW (m : Word) (v : Bool) : (s.setDirect m v).opW = s.opW := rfl
@[simp] theorem State.setDirect_adW (m : Word) (v : Bool) : (s.setDirect m v).adW = s.adW := rfl
@[simp] theorem State.setDirect_code32 (m : Word) (v : Bool) : (s.setDirect m v).code32 = s.code32 := rfl
@[simp] theorem State.setDirect_busByte (m : Word) (v : Bool) (k : Nat) : (s.setDirect m v).busByte k = s.busByte k := rfl
@[simp] theorem State.setDirect_busRead (m : Word) (v : Bool) (k : List Nat) : (s.setDirect m v).busRead k = s.busRead k := rfl
@[simp] theorem State.setDirect_busKind (m : Word) (v : Bool) (k : Nat) : (s.setDirect m v).busKind k = s.busKind k := rfl
@[simp] theorem State.setDirect_stack (m : Word) (v : Bool) : (s.setDirect m v).stack = s.stack := rfl
@[simp] theorem State.flagsAdd_seg (w : Width) (d c a : Word) (k : SReg) : (s.flagsAdd w d c a).seg k = s.seg k := rfl
@[simp] theorem State.flagsAdd_view (w : Width) (d c a : Word) (k : SReg) : (s.flagsAdd w d c a).view k = s.view k := rfl
@[simp] theorem State.flagsAdd_reg (w : Width) (d c a : Word) (k : Width) (q : Reg) : (s.flagsAdd w d c a).reg k q = s.reg k q := rfl
@[simp] theorem State.flagsAdd_reg8 (w : Width) (d c a : Word) (q : Reg8) : (s.flagsAdd w d c a).reg8 q = s.reg8 q := rfl
@[simp] theorem State.flagsAdd_protectedMode (w : Width) (d c a : Word) : (s.flagsAdd w d c a).protectedMode = s.protectedMode := rfl
@[simp] theorem State.flagsAdd_pagingOn (w : Width) (d c a : Word) : (s.flagsAdd w d c a).pagingOn = s.pagingOn := rfl
@[simp] theorem State.flagsAdd_user (w : Width) (d c a : Word) : (s.flagsAdd w d c a).user = s.user := rfl
@[simp] theorem State.flagsAdd_opW (w : Width) (d c a : Word) : (s.flagsAdd w d c a).opW = s.opW := rfl
@[simp] theorem State.flagsAdd_adW (w : Width) (d c a : Word) : (s.flagsAdd w d c a).adW = s.adW := rfl
@[simp] theorem State.flagsAdd_code32 (w : Width) (d c a : Word) : (s.flagsAdd w d c a).code32 = s.code32 := rfl
@[simp] theorem State.flagsAdd_busByte (w : Width) (d c a : Word) (k : Nat) : (s.flagsAdd w d c a).busByte k = s.busByte k := rfl
@[simp] theorem State.flagsAdd_busRead (w : Width) (d c a : Word) (k : List Nat) : (s.flagsAdd w d c a).busRead k = s.busRead k := rfl
@[simp] theorem State.flagsAdd_busKind (w : Width) (d c a : Word) (k : Nat) : (s.flagsAdd w d c a).busKind k = s.busKind k := rfl
@[simp] theorem State.flagsAdd_stack (w : Width) (d c a : Word) : (s.flagsAdd w d c a).stack = s.stack := rfl
@[simp] theorem State.flagsSub_seg (w : Width) (d c a : Word) (k : SReg) : (s.flagsSub w d c a).seg k = s.seg k := rfl
@[simp] theorem State.flagsSub_view (w : Width) (d c a : Word) (k : SReg) : (s.flagsSub w d c a).view k = s.view k := rfl
@[simp] theorem State.flagsSub_reg (w : Width) (d c a : Word) (k : Width) (q : Reg) : (s.flagsSub w d c a).reg k q = s.reg k q := rfl
@[simp] theorem State.flagsSub_reg8 (w : Width) (d c a : Word) (q : Reg8) : (s.flagsSub w d c a).reg8 q = s.reg8 q := rfl
@[simp] theorem State.flagsSub_protectedMode (w : Width) (d c a : Word) : (s.flagsSub w d c a).protectedMode = s.protectedMode := rfl
@[simp] theorem State.flagsSub_pagingOn (w : Width) (d c a : Word) : (s.flagsSub w d c a).pagingOn = s.pagingOn := rfl
@[simp] theorem State.flagsSub_user (w : Width) (d c a : Word) : (s.flagsSub w d c a).user = s.user := rfl
@[simp] theorem State.flagsSub_opW (w : Width) (d c a : Word) : (s.flagsSub w d c a).opW = s.opW := rfl
@[simp] theorem State.flagsSub_adW (w : Width) (d c a : Word) : (s.flagsSub w d c a).adW = s.adW := rfl
@[simp] theorem State.flagsSub_code32 (w : Width) (d c a : Word) : (s.flagsSub w d c a).code32 = s.code32 := rfl
@[simp] theorem State.flagsSub_busByte (w : Width) (d c a : Word) (k : Nat) : (s.flagsSub w d c a).busByte k = s.busByte k := rfl
@[simp] theorem State.flagsSub_busRead (w : Width) (d c a : Word) (k : List Nat) : (s.flagsSub w d c a).busRead k = s.busRead k := rfl
@[simp] theorem State.flagsSub_busKind (w : Width) (d c a : Word) (k : Nat) : (s.flagsSub w d c a).busKind k = s.busKind k := rfl
@[simp] theorem State.flagsSub_stack (w : Width) (d c a : Word) : (s.flagsSub w d c a).stack = s.stack := rfl
@[simp] theorem State.flagsInc_seg (w : Width) (d a : Word) (k : SReg) : (s.flagsInc w d a).seg k = s.seg k := rfl
@[simp] theorem State.flagsInc_view (w : Width) (d a : Word) (k : SReg) : (s.flagsInc w d a).view k = s.view k := rfl
@[simp] theorem State.flagsInc_reg (w : Width) (d a : Word) (k : Width) (q : Reg) : (s.flagsInc w d a).reg k q = s.reg k q := rfl
@[simp] theorem State.flagsInc_reg8 (w : Width) (d a : Word) (q : Reg8) : (s.flagsInc w d a).reg8 q = s.reg8 q := rfl
@[simp] theorem State.flagsInc_protectedMode (w : Width) (d a : Word) : (s.flagsInc w d a).protectedMode = s.protectedMode := rfl
@[simp] theorem State.flagsInc_pagingOn (w : Width) (d a : Word) : (s.flagsInc w d a).pagingOn = s.pagingOn := rfl
@[simp] theorem State.flagsInc_user (w : Width) (d a : Word) : (s.flagsInc w d a).user = s.user := rfl
@[simp] theorem State.flagsInc_opW (w : Width) (d a : Word) : (s.flagsInc w d a).opW = s.opW := rfl
@[simp] theorem State.flagsInc_adW (w : Width) (d a : Word) : (s.flagsInc w d a).adW = s.adW := rfl
@[simp] theorem State.flagsInc_code32 (w : Width) (d a : Word) : (s.flagsInc w d a).code32 = s.code32 := rfl
@[simp] theorem State.flagsInc_busByte (w : Width) (d a : Word) (k : Nat) : (s.flagsInc w d a).busByte k = s.busByte k := rfl
@[simp] theorem State.flagsInc_busRead (w : Width) (d a : Word) (k : List Nat) : (s.flagsInc w d a).busRead k = s.busRead k := rfl
@[simp] theorem State.flagsInc_busKind (w : Width) (d a : Word) (k : Nat) : (s.flagsInc w d a).busKind k = s.busKind k := rfl
@[simp] theorem State.flagsInc_stack (w : Width) (d a : Word) : (s.flagsInc w d a).stack = s.stack := rfl
@[simp] theorem State.flagsDec_seg (w : Width) (d a : Word) (k : SReg) : (s.flagsDec w d a).seg k = s.seg k := rfl
@[simp] theorem State.flagsDec_view (w : Width) (d a : Word) (k : SReg) : (s.flagsDec w d a).view k = s.view k := rfl
@[simp] theorem State.flagsDec_reg (w : Width) (d a : Word) (k : Width) (q : Reg) : (s.flagsDec w d a).reg k q = s.reg k q := rfl
@[simp] theorem State.flagsDec_reg8 (w : Width) (d a : Word) (q : Reg8) : (s.flagsDec w d a).reg8 q = s.reg8 q := rfl
@[simp] theorem State.flagsDec_protectedMode (w : Width) (d a : Word) : (s.flagsDec w d a).protectedMode = s.protectedMode := rfl
@[simp] theorem State.flagsDec_pagingOn (w : Width) (d a : Word) : (s.flagsDec w d a).pagingOn = s.pagingOn := rfl
@[simp] theorem State.flagsDec_user (w : Width) (d a : Word) : (s.flagsDec w d a).user = s.user := rfl
@[simp] theorem State.flagsDec_opW (w : Width) (d a : Word) : (s.flagsDec w d a).opW = s.opW := rfl
@[simp] theorem State.flagsDec_adW (w : Width) (d a : Word) : (s.flagsDec w d a).adW = s.adW := rfl
@[simp] theorem State.flagsDec_code32 (w : Width) (d a : Word) : (s.flagsDec w d a).code32 = s.code32 := rfl
@[simp] theorem State.flagsDec_busByte (w : Width) (d a : Word) (k : Nat) : (s.flagsDec w d a).busByte k = s.busByte k := rfl
@[simp] theorem State.flagsDec_busRead (w : Width) (d a : Word) (k : List Nat) : (s.flagsDec w d a).busRead k = s.busRead k := rfl
@[simp] theorem State.flagsDec_busKind (w : Width) (d a : Word) (k : Nat) : (s.flagsDec w d a).busKind k = s.busKind k := rfl
@[simp] theorem State.flagsDec_stack (w : Width) (d a : Word) : (s.flagsDec w d a).stack = s.stack := rfl
@[simp] theorem State.flagsPZS_seg (w : Width) (a : Word) (k : SReg) : (s.flagsPZS w a).seg k = s.seg k := rfl
@[simp] theorem State.flagsPZS_view (w : Width) (a : Word) (k : SReg) : (s.flagsPZS w a).view k = s.view k := rfl
@[simp] theorem State.flagsPZS_reg (w : Width) (a : Word) (k : Width) (q : Reg) : (s.flagsPZS w a).reg k q = s.reg k q := rfl
@[simp] theorem State.flagsPZS_reg8 (w : Width) (a : Word) (q : Reg8) : (s.flagsPZS w a).reg8 q = s.reg8 q := rfl
@[simp] theorem State.flagsPZS_protectedMode (w : Width) (a : Word) : (s.flagsPZS w a).protectedMode = s.protectedMode := rfl
@[simp] theorem State.flagsPZS_pagingOn (w : Width) (a : Word) : (s.flagsPZS w a).pagingOn = s.pagingOn := rfl
@[simp] theorem State.flagsPZS_user (w : Width) (a : Word) : (s.flagsPZS w a).user = s.user := rfl
@[simp] theorem State.flagsPZS_opW (w : Width) (a : Word) : (s.flagsPZS w a).opW = s.opW := rfl
@[simp] theorem State.flagsPZS_adW (w : Width) (a : Word) : (s.flagsPZS w a).adW = s.adW := rfl
@[simp] theorem State.flagsPZS_code32 (w : Width) (a : Word) : (s.flagsPZS w a).code32 = s.code32 := rfl
@[simp] theorem State.flagsPZS_busByte (w : Width) (a : Word) (k : Nat) : (s.flagsPZS w a).busByte k = s.busByte k := rfl
@[simp] theorem State.flagsPZS_busRead (w : Width) (a : Word) (k : List Nat) : (s.flagsPZS w a).busRead k = s.busRead k := rfl
@[simp] theorem State.flagsPZS_busKind (w : Width) (a : Word) (k : Nat) : (s.flagsPZS w a).busKind k = s.busKind k := rfl
@[simp] theorem State.flagsPZS_stack (w : Width) (a : Word) : (s.flagsPZS w a).stack = s.stack := rfl
@[simp] theorem State.undefine_seg (site : UndefSite) (w : Width) (m old : Word) (ops : List Word) (k : SReg) : (s.undefine site w m old ops).seg k = s.seg k := by
  unfold State.undefine; split <;> rfl
@[simp] theorem State.undefine_view (site : UndefSite) (w : Width) (m old : Word) (ops : List Word) (k : SReg) : (s.undefine site w m old ops).view k = s.view k := by
  unfold State.undefine; split <;> rfl
@[simp] theorem State.undefine_reg (site : UndefSite) (w : Width) (m old : Word) (ops : List Word) (k : Width) (q : Reg) : (s.undefine site w m old ops).reg k q = s.reg k q := by
  unfold State.undefine; split <;> rfl
@[simp] theorem State.undefine_reg8 (site : UndefSite) (w : Width) (m old : Word) (ops : List Word) (q : Reg8) : (s.undefine site w m old ops).reg8 q = s.reg8 q := by
  unfold State.undefine; split <;> rfl
@[simp] theorem State.undefine_protectedMode (site : UndefSite) (w : Width) (m old : Word) (ops : List Word) : (s.undefine site w m old ops).protectedMode = s.protectedMode := by
  unfold State.undefine; split <;> rfl
@[simp] theorem State.undefine_pagingOn (site : UndefSite) (w : Width) (m old : Word) (ops : List Word) : (s.undefine site w m old ops).pagingOn = s.pagingOn := by
  unfold State.undefine; split <;> rfl
@[simp] theorem State.undefine_user (site : UndefSite) (w : Width) (m old : Word) (ops : List Word) : (s.undefine site w m old ops).user = s.user := by
  unfold State.undefine; split <;> rfl
@[simp] theorem State.undefine_opW (site : UndefSite) (w : Width) (m old : Word) (ops : List Word) : (s.undefine site w m old ops).opW = s.opW := by
  unfold State.undefine; split <;> rfl
@[simp] theorem State.undefine_adW (site : UndefSite) (w : Width) (m old : Word) (ops : List Word) : (s.undefine site w m old ops).adW = s.adW := by
  unfold State.undefine; split <;> rfl
@[simp] theorem State.undefine_code32 (site : UndefSite) (w : Width) (m old : Word) (ops : List Word) : (s.undefine site w m old ops).code32 = s.code32 := by
  unfold State.undefine; split <;> rfl
@[simp] theorem State.undefine_busByte (site : UndefSite) (w : Width) (m old : Word) (ops : List Word) (k : Nat) : (s.undefine site w m old ops).busByte k = s.busByte k := by
  unfold State.undefine; split <;> rfl
@[simp] theorem State.undefine_busRead (site : UndefSite) (w : Width) (m old : Word) (ops : List Word) (k : List Nat) : (s.undefine site w m old ops).busRead k = s.busRead k := by
  unfold State.undefine; split <;> rfl
@[simp] theorem State.undefine_busKind (site : UndefSite) (w : Width) (m old : Word) (ops : List Word) (k : Nat) : (s.undefine site w m old ops).busKind k = s.busKind k := by
  unfold State.undefine; split <;> rfl
@[simp] theorem State.undefine_stack (site : UndefSite) (w : Width) (m old : Word) (ops : List Word) : (s.undefine site w m old ops).stack = s.stack := by
  unfold State.undefine; split <;> rfl
@[simp] theorem State.enterAt_reg (pc : Word) (c : Half) (k : Width) (q : Reg) : (s.enterAt pc c).reg k q = s.reg k q := rfl
@[simp] theorem State.enterAt_reg8 (pc : Word) (c : Half) (q : Reg8) : (s.enterAt pc c).reg8 q = s.reg8 q := rfl
@[simp] theorem State.enterAt_flag (pc : Word) (c : Half) (g : Flag) : (s.enterAt pc c).flag g = s.flag g := rfl
@[simp] theorem State.enterAt_direct (pc : Word) (c : Half) (k : Word) : (s.enterAt pc c).direct k = s.direct k := rfl
@[simp] theorem State.enterAt_getPS (pc : Word) (c : Half) : (s.enterAt pc c).getPS = s.getPS := rfl
@[simp] theorem State.enterAt_protectedMode (pc : Word) (c : Half) : (s.enterAt pc c).protectedMode = s.protectedMode := rfl
@[simp] theorem State.enterAt_pagingOn (pc : Word) (c : Half) : (s.enterAt pc c).pagingOn = s.pagingOn := rfl
@[simp] theorem State.enterAt_busByte (pc : Word) (c : Half) (k : Nat) : (s.enterAt pc c).busByte k = s.busByte k := rfl
@[simp] theorem State.enterAt_busRead (pc : Word) (c : Half) (k : List Nat) : (s.enterAt pc c).busRead k = s.busRead k := rfl
@[simp] theorem State.enterAt_busKind (pc : Word) (c : Half) (k : Nat) : (s.enterAt pc c).busKind k = s.busKind k := rfl
@[simp] theorem State.copSeen_seg (ev : CopEvent) (k : SReg) : (s.copSeen ev).seg k = s.seg k := rfl
@[simp] theorem State.copSeen_view (ev : CopEvent) (k : SReg) : (s.copSeen ev).view k = s.view k := rfl
@[simp] theorem State.copSeen_reg (ev : CopEvent) (k : Width) (q : Reg) : (s.copSeen ev).reg k q = s.reg k q := rfl
@[simp] theorem State.copSeen_reg8 (ev : CopEvent) (q : Reg8) : (s.copSeen ev).reg8 q = s.reg8 q := rfl
@[simp] theorem State.copSeen_flag (ev : CopEvent) (g : Flag) : (s.copSeen ev).flag g = s.flag g := rfl
@[simp] theorem State.copSeen_direct (ev : CopEvent) (k : Word) : (s.copSeen ev).direct k = s.direct k := rfl
@[simp] theorem State.copSeen_getPS (ev : CopEvent) : (s.copSeen ev).getPS = s.getPS := rfl
@[simp] theorem State.copSeen_protectedMode (ev : CopEvent) : (s.copSeen ev).protectedMode = s.protectedMode := rfl
@[simp] theorem State.copSeen_pagingOn (ev : CopEvent) : (s.copSeen ev).pagingOn = s.pagingOn := rfl
@[simp] theorem State.copSeen_user (ev : CopEvent) : (s.copSeen ev).user = s.user := rfl
@[simp] theorem State.copSeen_opW (ev : CopEvent) : (s.copSeen ev).opW = s.opW := rfl
@[simp] theorem State.copSeen_adW (ev : CopEvent) : (s.copSeen ev).adW = s.adW := rfl
@[simp] theorem State.copSeen_code32 (ev : CopEvent) : (s.copSeen ev).code32 = s.code32 := rfl
@[simp] theorem State.copSeen_busByte (ev : CopEvent) (k : Nat) : (s.copSeen ev).busByte k = s.busByte k := rfl
@[simp] theorem State.copSeen_busRead (ev : CopEvent) (k : List Nat) : (s.copSeen ev).busRead k = s.busRead k := rfl
@[simp] theorem State.copSeen_busKind (ev : CopEvent) (k : Nat) : (s.copSeen ev).busKind k = s.busKind k := rfl
@[simp] theorem State.copSeen_stack (ev : CopEvent) : (s.copSeen ev).stack = s.stack := rfl
@[simp] theorem State.setDr_seg (n : BitVec 3) (v : Word) (k : SReg) : (s.setDr n v).seg k = s.seg k := by
  unfold State.setDr; split <;> rfl
@[simp] theorem State.setDr_view (n : BitVec 3) (v : Word) (k : SReg) : (s.setDr n v).view k = s.view k := by
  unfold State.setDr; split <;> rfl
@[simp] theorem State.setDr_reg (n : BitVec 3) (v : Word) (k : Width) (q : Reg) : (s.setDr n v).reg k q = s.reg k q := by
  unfold State.setDr; split <;> rfl
@[simp] theorem State.setDr_reg8 (n : BitVec 3) (v : Word) (q : Reg8) : (s.setDr n v).reg8 q = s.reg8 q := by
  unfold State.setDr; split <;> rfl
@[simp] theorem State.setDr_flag (n : BitVec 3) (v : Word) (g : Flag) : (s.setDr n v).flag g = s.flag g := by
  unfold State.setDr; split <;> rfl
@[simp] theorem State.setDr_direct (n : BitVec 3) (v : Word) (k : Word) : (s.setDr n v).direct k = s.direct k := by
  unfold State.setDr; split <;> rfl
@[simp] theorem State.setDr_getPS (n : BitVec 3) (v : Word) : (s.setDr n v).getPS = s.getPS := by
  unfold State.setDr; split <;> rfl
@[simp] theorem State.setDr_protectedMode (n : BitVec 3) (v : Word) : (s.setDr n v).protectedMode = s.protectedMode := by
  unfold State.setDr; split <;> rfl
@[simp] theorem State.setDr_pagingOn (n : BitVec 3) (v : Word) : (s.setDr n v).pagingOn = s.pagingOn := by
  unfold State.setDr; split <;> rfl
@[simp] theorem State.setDr_user (n : BitVec 3) (v : Word) : (s.setDr n v).user = s.user := by
  unfold State.setDr; split <;> rfl
@[simp] theorem State.setDr_opW (n : BitVec 3) (v : Word) : (s.setDr n v).opW = s.opW := by
  unfold State.setDr; split <;> rfl
@[simp] theorem State.setDr_adW (n : BitVec 3) (v : Word) : (s.setDr n v).adW = s.adW := by
  unfold State.setDr; split <;> rfl
@[simp] theorem State.setDr_code32 (n : BitVec 3) (v : Word) : (s.setDr n v).code32 = s.code32 := by
  unfold State.setDr; split <;> rfl
@[simp] theorem State.setDr_busByte (n : BitVec 3) (v : Word) (k : Nat) : (s.setDr n v).busByte k = s.busByte k := by
  unfold State.setDr; split <;> rfl
@[simp] theorem State.setDr_busRead (n : BitVec 3) (v : Word) (k : List Nat) : (s.setDr n v).busRead k = s.busRead k := by
  unfold State.setDr; split <;> rfl
@[simp] theorem State.setDr_busKind (n : BitVec 3) (v : Word) (k : Nat) : (s.setDr n v).busKind k = s.busKind k := by
  unfold State.setDr; split <;> rfl
@[simp] theorem State.setDr_stack (n : BitVec 3) (v : Word) : (s.setDr n v).stack = s.stack := by
  unfold State.setDr; split <;> rfl

end Sys2Proof.Machine
end

