-- ==== Sys2Proof/Laws/Memory.lean ====
section
/-! SUPPORT. The laws of memory: a write is read back and changes no other byte, every operation keeps the canonical form, and
equal contents in canonical form are equal data. -/

namespace Sys2Proof.Machine

namespace Memory

theorem wfFrom_cons {lo k : Nat} {v : Byte} {m : Memory} :
    wfFrom lo ((k, v) :: m) = true ↔ lo ≤ k ∧ v ≠ unlisted ∧ wfFrom (k + 1) m = true := by
  simp [wfFrom, and_assoc]

theorem wfFrom_mono {lo lo' : Nat} (h : lo' ≤ lo) : ∀ {m : Memory}, wfFrom lo m = true → wfFrom lo' m = true
  | [], _ => rfl
  | (k, v) :: m, hm => by
    rw [wfFrom_cons] at *
    exact ⟨Nat.le_trans h hm.1, hm.2⟩

/-- Below its first cell a memory reads as unlisted. -/
theorem read_below {lo a : Nat} (h : a < lo) : ∀ {m : Memory}, wfFrom lo m = true → read m a = unlisted
  | [], _ => rfl
  | (k, v) :: m, hm => by
    rw [wfFrom_cons] at hm
    simp only [read]
    rw [if_neg (by omega), if_pos (by omega)]

theorem write_wfFrom {lo a : Nat} {v : Byte} (ha : lo ≤ a) :
    ∀ {m : Memory}, wfFrom lo m = true → wfFrom lo (write m a v) = true
  | [], _ => by
    simp only [write]
    split <;> simp_all [wfFrom]
  | (k, x) :: m, hm => by
    rw [wfFrom_cons] at hm
    simp only [write]
    split
    · split
      · exact wfFrom_mono (by omega) hm.2.2
      · exact wfFrom_cons.2 ⟨hm.1, ‹_›, hm.2.2⟩
    · split
      · split
        · exact wfFrom_cons.2 hm
        · exact wfFrom_cons.2 ⟨ha, ‹_›, wfFrom_cons.2 ⟨by omega, hm.2.1, hm.2.2⟩⟩
      · exact wfFrom_cons.2 ⟨hm.1, hm.2.1, write_wfFrom (by omega) hm.2.2⟩

/-- Every write keeps the canonical form. -/
theorem write_wf {m : Memory} (h : m.wf = true) (a : Nat) (v : Byte) : (m.write a v).wf = true :=
  write_wfFrom (Nat.zero_le a) h

theorem read_write_from {lo a b : Nat} {v : Byte} (ha : lo ≤ a) :
    ∀ {m : Memory}, wfFrom lo m = true → read (write m a v) b = if b = a then v else read m b
  | [], _ => by
    simp only [write]
    by_cases hv : v = unlisted <;> by_cases hb : b = a <;> simp [hv, hb, read]
  | (k, x) :: m, hm => by
    rw [wfFrom_cons] at hm
    simp only [write]
    split
    · subst a
      split
      · by_cases hb : b = k
        · rw [if_pos hb, hb, read_below (Nat.lt_succ_self k) hm.2.2]; exact Eq.symm ‹_›
        · rw [if_neg hb]
          simp only [read, if_neg hb]
          split
          · exact read_below (by omega) hm.2.2
          · rfl
      · simp only [read]
        by_cases hb : b = k <;> simp [hb]
    · split
      · split
        · by_cases hb : b = a
          · rw [if_pos hb, hb]
            simp only [read]
            rw [if_neg (by omega), if_pos (by omega)]
            exact Eq.symm ‹_›
          · rw [if_neg hb]
        · simp only [read]
          by_cases hb : b = a
          · simp [hb]
          · simp only [if_neg hb]
            by_cases hba : b < a
            · rw [if_pos hba, if_neg (by omega), if_pos (by omega)]
            · rw [if_neg hba]
      · simp only [read]
        by_cases hbk : b = k
        · rw [if_pos hbk, if_neg (by omega)]
          simp [hbk]
        · simp only [if_neg hbk]
          by_cases hlt : b < k
          · rw [if_pos hlt, if_neg (by omega), if_pos hlt]
          · rw [if_neg hlt, if_neg hlt, read_write_from (by omega) hm.2.2]

/-- What any byte reads as after a write. -/
theorem read_write {m : Memory} (h : m.wf = true) (a b : Nat) (v : Byte) :
    (m.write a v).read b = if b = a then v else m.read b :=
  read_write_from (Nat.zero_le a) h

theorem read_head {lo k : Nat} {v : Byte} {m : Memory} (_ : wfFrom lo ((k, v) :: m) = true) : read ((k, v) :: m) k = v := by
  simp [read]

theorem eq_of_read_from : ∀ {lo : Nat} {m n : Memory}, wfFrom lo m = true → wfFrom lo n = true →
    (∀ a, read m a = read n a) → m = n
  | _, [], [], _, _, _ => rfl
  | _, [], (k, v) :: n, _, hn, h => by
    have := h k
    rw [read_head hn] at this
    exact absurd this.symm (wfFrom_cons.1 hn).2.1
  | _, (k, v) :: m, [], hm, _, h => by
    have := h k
    rw [read_head hm] at this
    exact absurd this (wfFrom_cons.1 hm).2.1
  | lo, (k, v) :: m, (j, w) :: n, hm, hn, h => by
    have hm' := wfFrom_cons.1 hm
    have hn' := wfFrom_cons.1 hn
    have hkj : k = j := by
      rcases Nat.lt_trichotomy k j with hlt | heq | hgt
      · have := h k
        rw [read_head hm] at this
        simp only [read] at this
        rw [if_neg (by omega), if_pos hlt] at this
        exact absurd this hm'.2.1
      · exact heq
      · have := h j
        rw [read_head hn] at this
        simp only [read] at this
        rw [if_neg (by omega), if_pos hgt] at this
        exact absurd this.symm hn'.2.1
    subst hkj
    have hvw : v = w := by
      have := h k
      rwa [read_head hm, read_head hn] at this
    subst hvw
    have : m = n := eq_of_read_from hm'.2.2 hn'.2.2 fun a => by
      have ha := h a
      simp only [read] at ha
      by_cases hak : a ≤ k
      · rw [read_below (by omega) hm'.2.2, read_below (by omega) hn'.2.2]
      · rwa [if_neg (by omega), if_neg (by omega), if_neg (by omega), if_neg (by omega)] at ha
    rw [this]

/-- Two memories in canonical form that read the same are the same. -/
theorem eq_of_read {m n : Memory} (hm : m.wf = true) (hn : n.wf = true) (h : ∀ a, m.read a = n.read a) : m = n :=
  eq_of_read_from hm hn h

end Memory

/-! ### The Bus -/

/-- What a write to one byte of the Bus does (R103). -/
theorem State.setBusByte_eq (s : State) (a : Nat) (v : Byte) : s.setBusByte a v = { s with
    mem := if s.busKind a = .ram then s.mem.write (busAddr s.cfg.model a) v else s.mem } := by
  unfold State.setBusByte
  split <;> simp_all

theorem State.setBusByte_wf {s : State} (h : s.mem.wf = true) (a : Nat) (v : Byte) : (s.setBusByte a v).mem.wf = true := by
  rw [State.setBusByte_eq]
  dsimp only
  split
  · exact Memory.write_wf h _ _
  · exact h

/-- Two addresses that reach the same Bus address have the same thing behind them. -/
theorem State.busKind_congr (s : State) {a b : Nat} (h : busAddr s.cfg.model a = busAddr s.cfg.model b) : s.busKind a = s.busKind b := by
  rw [State.busKind, State.busKind, h]

/-- After a write to one byte, RAM at that address reads as the byte, all else reads as before. -/
theorem State.busByte_setBusByte {s : State} (h : s.mem.wf = true) (a b : Nat) (v : Byte) :
    (s.setBusByte a v).busByte b =
      if busAddr s.cfg.model b = busAddr s.cfg.model a ∧ s.busKind a = .ram then v else s.busByte b := by
  have hm : (s.setBusByte a v).mem = if s.busKind a = .ram then s.mem.write (busAddr s.cfg.model a) v else s.mem := by
    rw [State.setBusByte_eq]
  simp only [State.busByte, State.setBusByte_busKind, State.setBusByte_cfg, hm]
  by_cases hr : s.busKind a = .ram
  · by_cases hb : busAddr s.cfg.model b = busAddr s.cfg.model a
    · rw [s.busKind_congr hb, hr]
      simp [Memory.read_write h, hb]
    · simp [hr, hb, Memory.read_write h]
  · simp [hr]

theorem State.busWrite_wf : ∀ (as : List Nat) (bs : List Byte) {s : State}, s.mem.wf = true → (s.busWrite as bs).mem.wf = true
  | [], _, _, h => h
  | _ :: _, [], _, h => h
  | a :: as, b :: bs, _, h => State.busWrite_wf as bs (State.setBusByte_wf h a b)

/-- A byte whose Bus address is not among those written reads as before. -/
theorem State.busByte_busWrite_other {c : Nat} : ∀ (as : List Nat) (bs : List Byte) {s : State}, s.mem.wf = true →
    busAddr s.cfg.model c ∉ as.map (busAddr s.cfg.model) → (s.busWrite as bs).busByte c = s.busByte c
  | [], _, _, _, _ => rfl
  | _ :: _, [], _, _, _ => rfl
  | a :: as, b :: bs, s, h, hc => by
    simp only [List.map_cons, List.mem_cons, not_or] at hc
    have := State.busByte_busWrite_other as bs (State.setBusByte_wf h a b) (c := c) (by simpa using hc.2)
    rw [State.busWrite, this, State.busByte_setBusByte h, if_neg (fun e => hc.1 e.1)]

/-- A byte that is no RAM reads as before whatever is written. -/
theorem State.busByte_busWrite_kept {c : Nat} : ∀ (as : List Nat) (bs : List Byte) {s : State}, s.mem.wf = true →
    s.busKind c ≠ .ram → (s.busWrite as bs).busByte c = s.busByte c
  | [], _, _, _, _ => rfl
  | _ :: _, [], _, _, _ => rfl
  | a :: as, b :: bs, s, h, hc => by
    have := State.busByte_busWrite_kept as bs (State.setBusByte_wf h a b) (c := c) (by simpa using hc)
    rw [State.busWrite, this, State.busByte_setBusByte h, if_neg (fun e => hc ((s.busKind_congr e.1).trans e.2))]

/-- Bytes written to different Bus addresses with RAM behind them are read back. -/
theorem State.busRead_busWrite (as : List Nat) (bs : List Byte) {s : State} (h : s.mem.wf = true)
    (hl : as.length = bs.length) (hn : (as.map (busAddr s.cfg.model)).Nodup) (hr : ∀ a ∈ as, s.busKind a = .ram) :
    as.map (s.busWrite as bs).busByte = bs := by
  induction as generalizing bs s with
  | nil => cases bs with
    | nil => rfl
    | cons b bs => simp at hl
  | cons a as ih => cases bs with
    | nil => simp at hl
    | cons b bs =>
      simp only [List.map_cons, List.nodup_cons] at hn
      have hw := State.setBusByte_wf h a b
      have htail := ih bs hw (by simpa using hl) (by simpa using hn.2)
        (fun x hx => (State.setBusByte_busKind s a b x).trans (hr x (List.mem_cons_of_mem _ hx)))
      have hhead := State.busByte_busWrite_other as bs hw (c := a) (by simpa using hn.1)
      rw [State.busByte_setBusByte h, if_pos ⟨rfl, hr a List.mem_cons_self⟩] at hhead
      simp only [List.map_cons, State.busWrite, hhead, htail]

/-- A write changes memory only. -/
theorem State.busWrite_eq : ∀ (as : List Nat) (bs : List Byte) (s : State), s.busWrite as bs = { s with mem := (s.busWrite as bs).mem }
  | [], _, _ => rfl
  | _ :: _, [], _ => rfl
  | a :: as, b :: bs, s => by
    rw [State.busWrite, State.busWrite_eq as bs (s.setBusByte a b), State.setBusByte_eq]

/-- The bytes of the operations of an access, one operation a byte. -/
theorem flatten_byteOps : ∀ as : List Nat, (byteOps as).flatten = as
  | [] => rfl
  | a :: as => congrArg (a :: ·) (flatten_byteOps as)

/-- The bytes of the operations of an access. -/
theorem flatten_busOps (m : Model) (as : List Nat) : (busOps m as).flatten = as := by
  unfold busOps
  split
  · rfl
  · rfl
  · split <;> rfl
  · exact flatten_byteOps as

/-- No operation reaches a device where none stands behind the bytes. -/
theorem State.reachesDevice_quiet {s : State} {as : List Nat} (h : ∀ a ∈ as, s.busKind a ≠ .device) : s.reachesDevice as = false := by
  simpa [State.reachesDevice] using h

/-- Where no device stands behind the bytes, read operations leave no trace. -/
theorem State.readEvents_quiet {s : State} {ops : BusOps} (h : ∀ a ∈ ops.flatten, s.busKind a ≠ .device) : s.readEvents ops = [] := by
  rw [State.readEvents, List.filter_eq_nil_iff.mpr, List.map_nil]
  intro as has
  rw [State.reachesDevice_quiet fun a ha => h a (List.mem_flatten.mpr ⟨as, has, ha⟩)]
  exact Bool.false_ne_true

/-- Where no device stands behind the bytes, write operations leave none but memory. -/
theorem State.writeEvents_quiet {s : State} : ∀ {ops : BusOps} {bs : List Byte}, (∀ a ∈ ops.flatten, s.busKind a ≠ .device) →
    s.writeEvents ops bs = []
  | [], _, _ => rfl
  | as :: r, bs, h => by
    rw [List.flatten_cons] at h
    rw [State.writeEvents, State.reachesDevice_quiet fun a ha => h a (List.mem_append_left _ ha),
      State.writeEvents_quiet fun a ha => h a (List.mem_append_right _ ha)]
    rfl

/-- Where no device stands behind the bytes, a store changes memory only. -/
theorem State.busStore_quiet {s : State} {ops : BusOps} (bs : List Byte) (h : ∀ a ∈ ops.flatten, s.busKind a ≠ .device) :
    s.busStore ops bs = s.busWrite ops.flatten bs := by
  rw [State.busStore, State.writeEvents_quiet h]
  rfl

theorem State.busStore_wf (ops : BusOps) (bs : List Byte) {s : State} (h : s.mem.wf = true) : (s.busStore ops bs).mem.wf = true :=
  State.busWrite_wf ops.flatten bs h

/-- Memory after reset is in canonical form. -/
theorem State.reset_mem_wf : State.reset.mem.wf = true := rfl

end Sys2Proof.Machine
end

