-- ==== Sys2Proof/Laws/Registers.lean ====
section
/-! SUPPORT. The laws of the register views (R31 to R33): what is written to a view is read back, the rest of the register and the
other registers stay. -/

namespace Sys2Proof

theorem trunc_trunc (w : Width) (v : Word) : trunc w (trunc w v) = trunc w v := by
  simp only [trunc, BitVec.and_assoc, BitVec.and_self]

theorem trunc_of_w32 (v : Word) : trunc .w32 v = v := by
  rw [trunc, Width.mask, show (0xFFFFFFFF : Word) = BitVec.allOnes 32 from rfl, BitVec.and_allOnes]

theorem trunc_zero (w : Width) : trunc w 0 = 0 := by
  simp [trunc]

namespace Machine

theorem Gpr.get_set (g : Gpr) (r q : Reg) (v : Word) : (g.set r v).get q = if q = r then v else g.get q := by
  cases r <;> cases q <;> rfl

@[simp] theorem Gpr.get_set_same (g : Gpr) (r : Reg) (v : Word) : (g.set r v).get r = v := by
  rw [Gpr.get_set, if_pos rfl]

theorem Gpr.get_set_other (g : Gpr) {r q : Reg} (h : q ≠ r) (v : Word) : (g.set r v).get q = g.get q := by
  rw [Gpr.get_set, if_neg h]

theorem Gpr.ext_get {g h : Gpr} (e : ∀ r, g.get r = h.get r) : g = h := by
  have := e .ax; have := e .cx; have := e .dx; have := e .bx; have := e .sp; have := e .bp; have := e .si; have := e .di
  cases g; cases h; simp_all [Gpr.get]

theorem Gpr.set_set (g : Gpr) (r : Reg) (u v : Word) : (g.set r u).set r v = g.set r v := by
  cases r <;> rfl

theorem merge_mask (w : Width) (old v : Word) : merge w old v &&& w.mask = v &&& w.mask := by
  unfold merge
  generalize w.mask = m
  ext i
  simp only [BitVec.getElem_and, BitVec.getElem_or, BitVec.getElem_not]
  cases old[i] <;> cases v[i] <;> cases m[i] <;> rfl

theorem merge_rest (w : Width) (old v : Word) : merge w old v &&& ~~~w.mask = old &&& ~~~w.mask := by
  unfold merge
  generalize w.mask = m
  ext i
  simp only [BitVec.getElem_and, BitVec.getElem_or, BitVec.getElem_not]
  cases old[i] <;> cases v[i] <;> cases m[i] <;> rfl

theorem trunc_merge (w : Width) (old v : Word) : trunc w (merge w old v) = trunc w v := merge_mask w old v

theorem merge_w32 (old v : Word) : merge .w32 old v = v := by
  have h := trunc_merge .w32 old v
  rwa [trunc_of_w32, trunc_of_w32] at h

theorem State.reg_setReg_same (s : State) (w : Width) (r : Reg) (v : Word) : (s.setReg w r v).reg w r = trunc w v := by
  simp [State.reg, trunc_merge]

theorem State.reg_setReg_other (s : State) (w k : Width) {r q : Reg} (h : q ≠ r) (v : Word) :
    (s.setReg w r v).reg k q = s.reg k q := by
  simp [State.reg, Gpr.get_set_other _ h]

theorem mergeByte_low (old v : Word) : trunc .w8 (mergeByte false old v) = trunc .w8 v := trunc_merge .w8 old v

theorem cases_lt32 {p : Nat → Prop} (h : ∀ k : Fin 32, p k.val) (i : Nat) (hi : i < 32) : p i := h ⟨i, hi⟩

/-- Bits of a constant, for a symbolic place: the masks of the high byte. -/
theorem high_byte_masks (i : Nat) (hi : i < 32) :
    ((0xFF#32).getLsbD i = decide (i < 8)) ∧
      ((~~~0xFF00#32 : Word).getLsbD i = (decide (i < 8) || decide (16 ≤ i))) :=
  cases_lt32 (p := fun i => ((0xFF#32).getLsbD i = decide (i < 8)) ∧
      ((~~~0xFF00#32 : Word).getLsbD i = (decide (i < 8) || decide (16 ≤ i)))) (by decide) i hi

theorem mergeByte_high (old v : Word) : trunc .w8 (mergeByte true old v >>> 8) = trunc .w8 v := by
  apply BitVec.eq_of_getLsbD_eq
  intro i hi
  have hm := (high_byte_masks i hi).1
  have hm' : (0xFF : Word).getLsbD i = decide (i < 8) := hm
  simp only [trunc, mergeByte, Width.mask, if_true, BitVec.getLsbD_and, BitVec.getLsbD_ushiftRight, BitVec.getLsbD_or,
    BitVec.getLsbD_shiftLeft, hm']
  by_cases h8 : i < 8
  · have h := (high_byte_masks (8 + i) (by omega)).2
    rw [h]
    simp [h8, hm, show 8 + i < 32 by omega, show ¬ 16 ≤ 8 + i by omega, show ¬ 8 + i < 8 by omega, -BitVec.getLsbD_eq_getElem]
  · simp [h8, hm, -BitVec.getLsbD_eq_getElem]

theorem State.reg8_setReg8_same (s : State) (r : Reg8) (v : Word) : (s.setReg8 r v).reg8 r = trunc .w8 v := by
  unfold State.reg8
  cases h : high8 r with
  | true => simp [h, mergeByte_high]
  | false => simp [h, mergeByte_low]

end Machine

end Sys2Proof
end

