-- ==== Sys2Proof/Laws/Run.lean ====
section
/-! SUPPORT. How an operation `M α` runs on a state: one equation for each way operations are put together, and the generic
Hoare rule `Keeps` (a property of states that no outcome loses). -/

namespace Sys2Proof.Machine

variable {α β : Type}

/-- A sequence, by the outcome of its first part. -/
theorem run_bind (m : M α) (f : α → M β) (s : State) :
    (m >>= f) s = match m s with
      | .ok a t => f a t
      | .error e t => .error e t := by
  simp only [bind, EStateM.bind]
  cases m s <;> rfl

theorem run_bind_ok {m : M α} {s t : State} {a : α} (h : m s = .ok a t) (f : α → M β) : (m >>= f) s = f a t := by
  rw [run_bind, h]

theorem run_bind_error {m : M α} {s t : State} {e : Stop} (h : m s = .error e t) (f : α → M β) :
    (m >>= f) s = .error e t := by
  rw [run_bind, h]

@[simp] theorem run_pure (a : α) (s : State) : (pure a : M α) s = .ok a s := rfl
@[simp] theorem run_get (s : State) : (get : M State) s = .ok s s := rfl
@[simp] theorem run_set (t s : State) : (set t : M PUnit) s = .ok ⟨⟩ t := rfl
@[simp] theorem run_modify (f : State → State) (s : State) : (modify f : M PUnit) s = .ok ⟨⟩ (f s) := rfl
@[simp] theorem run_throw (e : Stop) (s : State) : (throw e : M α) s = .error e s := rfl
@[simp] theorem run_read (f : State → α) (s : State) : Machine.read f s = .ok (f s) s := rfl
@[simp] theorem run_refuse (r : Refusal) (s : State) : (refuse r : M α) s = .error (.refused r) s := rfl
@[simp] theorem run_get_bind (f : State → M β) (s : State) : (get >>= f) s = f s s := rfl
@[simp] theorem run_read_bind (g : State → α) (f : α → M β) (s : State) : (Machine.read g >>= f) s = f (g s) s := rfl
@[simp] theorem run_pure_bind (a : α) (f : α → M β) (s : State) : ((pure a : M α) >>= f) s = f a s := rfl
@[simp] theorem run_modify_bind (g : State → State) (f : PUnit → M β) (s : State) :
    ((modify g : M PUnit) >>= f) s = f ⟨⟩ (g s) := rfl
@[simp] theorem run_map (f : α → β) (m : M α) (s : State) :
    (f <$> m) s = match m s with
      | .ok a t => .ok (f a) t
      | .error e t => .error e t := by
  simp only [Functor.map, EStateM.map]
  cases m s <;> rfl

@[simp] theorem ensure_true (x : Exn) : ensure true x = pure () := rfl
@[simp] theorem ensure_false (x : Exn) : ensure false x = raise x := rfl
@[simp] theorem whenM_true (m : M Unit) : whenM true m = m := rfl
@[simp] theorem whenM_false (m : M Unit) : whenM false m = pure () := rfl

theorem ensure_of {ok : Bool} (h : ok = true) (x : Exn) : ensure ok x = pure () := by rw [h]; rfl

/-! ### Outcomes of an instruction -/

theorem finish_ok {m : M Unit} {s t : State} (h : m s = .ok () t) : finish m s = .next t := by
  simp only [finish, h]

theorem finish_exn {m : M Unit} {s t : State} {x : Exn} (h : m s = .error (.exn x) t) : finish m s = raiseExn x t := by
  simp only [finish, h]

theorem finish_refused {m : M Unit} {s t : State} {r : Refusal} (h : m s = .error (.refused r) t) :
    finish m s = .refused r := by
  simp only [finish, h]

/-! ### Properties that every outcome keeps -/

/-- Whatever the operation answers, the state it leaves has the property if the state before had it. -/
def Keeps (p : State → Prop) (m : M α) : Prop :=
  ∀ s, p s → match m s with
    | .ok _ t => p t
    | .error _ t => p t

/-- The same for a change of state. -/
def KeepsBy (p : State → Prop) (f : State → State) : Prop := ∀ s, p s → p (f s)

variable {p : State → Prop}

theorem keeps_pure (a : α) : Keeps p (pure a : M α) := fun _ h => h
theorem keeps_get : Keeps p (get : M State) := fun _ h => h
theorem keeps_read (f : State → α) : Keeps p (Machine.read f) := fun _ h => h
theorem keeps_throw (e : Stop) : Keeps p (throw e : M α) := fun _ h => h
theorem keeps_refuse (r : Refusal) : Keeps p (refuse r : M α) := fun _ h => h
theorem keeps_modify {f : State → State} (h : KeepsBy p f) : Keeps p (modify f : M PUnit) := fun s hs => h s hs

theorem keeps_bind {m : M α} {f : α → M β} (hm : Keeps p m) (hf : ∀ a, Keeps p (f a)) : Keeps p (m >>= f) := by
  intro s hs
  have h := hm s hs
  rw [run_bind]
  cases hms : m s with
  | ok a t => rw [hms] at h; exact hf a t h
  | error e t => rw [hms] at h; exact h

theorem keeps_map {m : M α} {f : α → β} (hm : Keeps p m) : Keeps p (f <$> m) := by
  intro s hs
  have h := hm s hs
  rw [run_map]
  cases hms : m s <;> rw [hms] at h <;> exact h

theorem keeps_ite {c : Prop} [Decidable c] {m n : M α} (hm : Keeps p m) (hn : Keeps p n) :
    Keeps p (if c then m else n) := by
  split
  · exact hm
  · exact hn

theorem keeps_whenM {c : Bool} {m : M Unit} (hm : Keeps p m) : Keeps p (whenM c m) := keeps_ite hm (keeps_pure ())

/-- The change where an operation stops. -/
theorem keeps_onStop {f : State → State} {m : M α} (hf : KeepsBy p f) (hm : Keeps p m) : Keeps p (onStop f m) := by
  intro s hs
  have h := hm s hs
  unfold onStop
  cases e : m s <;> rw [e] at h
  · exact h
  · exact hf _ h

/-- What asking for an exception does to the state. -/
theorem keeps_raise (h : KeepsBy p State.setNoReadWrite)
    (x : Exn) : Keeps p (raise x : M α) := fun s hs => h s hs

theorem keeps_ensure (h : KeepsBy p State.setNoReadWrite)
    (b : Bool) (x : Exn) : Keeps p (ensure b x) := keeps_ite (keeps_pure ()) (keeps_raise h x)

theorem keepsBy_comp {f g : State → State} (hf : KeepsBy p f) (hg : KeepsBy p g) : KeepsBy p fun s => f (g s) :=
  fun s hs => hf _ (hg s hs)

end Sys2Proof.Machine
end

