-- ==== Sys2Proof/Laws/Access.lean ====
section
/-! SUPPORT. What reading and writing an operand and the stack do while paging is off: one equation for each shared operation, and
what is read back afterwards. -/

namespace Sys2Proof.Machine

/-! ### Addresses -/

theorem busAddr_add {m : Model} (a i : Nat) : busAddr m (a + i) = (busAddr m a + i) % 2 ^ m.paBits := by
  simp [busAddr, Nat.add_mod]

theorem paBits_ge (m : Model) : 20 ≤ m.paBits := by cases m <;> decide

theorem mem_addrs {a b : Nat} : ∀ {n : Nat}, b ∈ addrs a n ↔ a ≤ b ∧ b < a + n
  | 0 => ⟨fun h => absurd h List.not_mem_nil, fun h => by omega⟩
  | n + 1 => by
    rw [addrs, List.mem_cons, mem_addrs]
    omega

theorem length_addrs (a : Nat) : ∀ n, (addrs a n).length = n
  | 0 => rfl
  | n + 1 => by rw [addrs, List.length_cons, length_addrs]

theorem length_wrapAddrs (r : SegReg) (off : Nat) : ∀ n, (r.wrapAddrs off n).length = n
  | 0 => rfl
  | n + 1 => by rw [SegReg.wrapAddrs, List.length_cons, length_wrapAddrs]

theorem length_leBytes (v : Word) : ∀ n, (leBytes n v).length = n
  | 0 => rfl
  | n + 1 => by rw [leBytes, List.length_cons, length_leBytes]

theorem State.length_spread (s : State) (seg : SReg) (off n : Nat) : (s.spread seg off n).length = n := by
  unfold State.spread
  split
  · exact length_wrapAddrs _ _ _
  · exact length_addrs _ _

/-- Few consecutive addresses are different on the Bus. -/
theorem nodup_addrs {m : Model} (a : Nat) : ∀ {n : Nat}, n ≤ 2 ^ m.paBits → ((addrs a n).map (busAddr m)).Nodup
  | 0, _ => by simp [addrs]
  | n + 1, hn => by
    rw [addrs, List.map_cons, List.nodup_cons]
    refine ⟨?_, nodup_addrs (a + 1) (by omega)⟩
    simp only [List.mem_map, mem_addrs, not_exists, not_and]
    intro b hb hab
    simp only [busAddr] at hab
    have h : (b - a) % 2 ^ m.paBits = 0 := Nat.sub_mod_eq_zero_of_mod_eq hab
    rw [Nat.mod_eq_of_lt (by omega)] at h
    omega

theorem mem_wrapAddrs {r : SegReg} {b : Nat} : ∀ {off n : Nat}, b ∈ r.wrapAddrs off n →
    ∃ i, i < n ∧ b = (r.linear ((off + i) % 0x10000)).toNat
  | _, 0, h => by simp [SegReg.wrapAddrs] at h
  | off, n + 1, h => by
    rw [SegReg.wrapAddrs, List.mem_cons] at h
    rcases h with h | h
    · exact ⟨0, by omega, h⟩
    · obtain ⟨i, hi, hb⟩ := mem_wrapAddrs h
      exact ⟨i + 1, by omega, by rw [hb]; congr 2; omega⟩

theorem busAddr_linear_inj {m : Model} {r : SegReg} {x y : Nat} (hx : x < 0x10000) (hy : y < 0x10000)
    (h : busAddr m (r.linear x).toNat = busAddr m (r.linear y).toNat) : x = y := by
  have hp := paBits_ge m
  have hd : (0x100000 : Nat) ∣ 2 ^ m.paBits := ⟨2 ^ (m.paBits - 20), by
    rw [show (0x100000 : Nat) = 2 ^ 20 from rfl, ← Nat.pow_add]; congr 1; omega⟩
  have h20 := congrArg (· % 0x100000) h
  simp only [busAddr, Nat.mod_mod_of_dvd _ hd, SegReg.linear, BitVec.toNat_add, BitVec.toNat_ofNat] at h20
  omega

theorem nodup_wrapAddrs {m : Model} (r : SegReg) : ∀ {off n : Nat}, n ≤ 0x10000 →
    ((r.wrapAddrs off n).map (busAddr m)).Nodup
  | _, 0, _ => by simp [SegReg.wrapAddrs]
  | off, n + 1, hn => by
    rw [SegReg.wrapAddrs, List.map_cons, List.nodup_cons]
    refine ⟨?_, nodup_wrapAddrs r (by omega)⟩
    simp only [List.mem_map, not_exists, not_and]
    intro b hb hab
    obtain ⟨i, hi, rfl⟩ := mem_wrapAddrs hb
    have := busAddr_linear_inj (by omega) (by omega) hab
    omega

theorem State.nodup_spread (s : State) (seg : SReg) (off : Nat) {n : Nat} (hn : n ≤ 4) :
    ((s.spread seg off n).map (busAddr s.cfg.model)).Nodup := by
  unfold State.spread
  split
  · exact nodup_wrapAddrs _ (by omega)
  · have := paBits_ge s.cfg.model
    exact nodup_addrs _ (Nat.le_trans (by omega : n ≤ 2 ^ 20) (Nat.pow_le_pow_right (by decide) this))

/-! ### Byte order -/

theorem ofLe_leBytes_w8 (v : Word) : ofLe (leBytes 1 v) = v &&& 0xFF := by
  apply BitVec.eq_of_getLsbD_eq
  intro i hi
  have h : (0xFF : Word).getLsbD i = decide (i < 8) :=
    cases_lt32 (p := fun i => (0xFF : Word).getLsbD i = decide (i < 8)) (by decide) i hi
  simp only [leBytes, ofLe, BitVec.getLsbD_or, BitVec.getLsbD_setWidth, BitVec.getLsbD_shiftLeft, BitVec.getLsbD_and, h]
  by_cases h8 : i < 8 <;> simp [h8, hi]

theorem ofLe_leBytes_w16 (v : Word) : ofLe (leBytes 2 v) = v &&& 0xFFFF := by
  apply BitVec.eq_of_getLsbD_eq
  intro i hi
  have h : (0xFFFF : Word).getLsbD i = decide (i < 16) :=
    cases_lt32 (p := fun i => (0xFFFF : Word).getLsbD i = decide (i < 16)) (by decide) i hi
  simp only [leBytes, ofLe, BitVec.getLsbD_or, BitVec.getLsbD_setWidth, BitVec.getLsbD_shiftLeft, BitVec.getLsbD_ushiftRight,
    BitVec.getLsbD_and, h]
  by_cases h8 : i < 8
  · simp [h8, hi, show i < 16 by omega]
  · by_cases h16 : i < 16
    · simp [h8, hi, h16, show i - 8 < 8 by omega, show 8 + (i - 8) = i by omega, show i - 8 < 32 by omega]
    · simp [h8, hi, h16, show ¬ i - 8 < 8 by omega]

theorem ofLe_leBytes_w32 (v : Word) : ofLe (leBytes 4 v) = v := by
  apply BitVec.eq_of_getLsbD_eq
  intro i hi
  simp only [leBytes, ofLe, BitVec.getLsbD_or, BitVec.getLsbD_setWidth, BitVec.getLsbD_shiftLeft, BitVec.getLsbD_ushiftRight]
  by_cases h8 : i < 8
  · simp [h8, hi]
  · by_cases h16 : i < 16
    · simp [h8, hi, show i - 8 < 8 by omega, show 8 + (i - 8) = i by omega, show i - 8 < 32 by omega]
    · by_cases h24 : i < 24
      · simp [h8, hi, show ¬ i - 8 < 8 by omega, show i - 8 - 8 < 8 by omega, show 8 + (8 + (i - 8 - 8)) = i by omega,
          show i - 8 - 8 < 32 by omega, show i - 8 < 32 by omega]
      · simp [h8, hi, show ¬ i - 8 < 8 by omega, show ¬ i - 8 - 8 < 8 by omega, show i - 8 - 8 - 8 < 8 by omega,
          show 8 + (8 + (8 + (i - 8 - 8 - 8))) = i by omega, show i - 8 - 8 < 32 by omega, show i - 8 < 32 by omega,
          show i - 8 - 8 - 8 < 32 by omega]

/-- The bytes of a value of a width, put together again (R110). -/
theorem ofLe_leBytes (w : Width) (v : Word) : ofLe (leBytes w.bytes v) = trunc w v := by
  cases w
  · exact ofLe_leBytes_w8 v
  · exact ofLe_leBytes_w16 v
  · rw [trunc_of_w32]; exact ofLe_leBytes_w32 v

/-! ### Access through a segment -/

theorem physOf_flat {s : State} (h : s.pagingOn = false) (la : Word) (n : Nat) (wr user : Bool) :
    physOf la n wr user s = .ok (busOps s.cfg.model (addrs la.toNat n)) s := by
  simp [physOf, h]

/-- The Bus operations of an access through a segment, with paging off. -/
def State.opsAt (s : State) (seg : SReg) (off n : Nat) : BusOps :=
  if s.cfg.model.class8086 then (s.seg seg).wrapOps s.cfg.model off n
  else busOps s.cfg.model (addrs ((s.seg seg).linear off).toNat n)

theorem State.flatten_opsAt (s : State) (seg : SReg) (off n : Nat) : (s.opsAt seg off n).flatten = s.spread seg off n := by
  unfold State.opsAt State.spread SegReg.wrapOps
  repeat' split
  all_goals first | exact flatten_busOps _ _ | exact flatten_byteOps _

theorem view_phys_flat {s : State} (h : s.pagingOn = false) (seg : SReg) (off n : Nat) (wr : Bool) :
    (s.view seg).phys off n wr s = .ok (s.opsAt seg off n) s := by
  unfold View.phys State.opsAt
  rw [run_get_bind]
  split
  · rfl
  · exact physOf_flat h _ _ _ _

theorem view_check_granted {s : State} {v : View} {off n : Nat} {k : Access}
    (h : v.allows s.cfg.model s.protectedMode off n k = true) : v.check off n k s = .ok () s := by
  simp [View.check, h]

/-- A granted read reaches no device. -/
theorem State.grants_quiet {s : State} {seg : SReg} {off n : Nat} {k : Access} (h : s.grants seg off n k) :
    ∀ a ∈ s.spread seg off n, s.busKind a ≠ .device := by
  intro a ha
  have := h.2.2 a ha
  cases k <;> simp_all [Access.plain]

/-- A granted write reaches RAM only. -/
theorem State.grants_ram {s : State} {seg : SReg} {off n : Nat} (h : s.grants seg off n .write) :
    ∀ a ∈ s.spread seg off n, s.busKind a = .ram := fun a ha => by simpa [Access.plain] using h.2.2 a ha

theorem busFetch_quiet {s : State} {ops : BusOps} (h : ∀ a ∈ ops.flatten, s.busKind a ≠ .device) :
    busFetch ops s = .ok (ops.flatten.map s.busByte) s := by
  unfold busFetch
  rw [run_get_bind, run_modify_bind, State.readEvents_quiet h]
  rfl

theorem view_readBytes_granted {s : State} {seg : SReg} {off n : Nat} {k : Access} (h : s.grants seg off n k) :
    (s.view seg).readBytes off n k s = .ok ((s.spread seg off n).map s.busByte) s := by
  unfold View.readBytes
  rw [run_bind_ok (view_check_granted h.2.1), run_bind_ok (view_phys_flat h.1 seg off n false),
    busFetch_quiet (by rw [State.flatten_opsAt]; exact State.grants_quiet h), State.flatten_opsAt]

theorem view_read_granted {s : State} {seg : SReg} {off n : Nat} {k : Access} (h : s.grants seg off n k) :
    (s.view seg).read off n k s = .ok (s.busRead (s.spread seg off n)) s := by
  unfold View.read
  rw [run_bind_ok (view_readBytes_granted h)]
  rfl

theorem segRead_granted {s : State} {seg : SReg} {off n : Nat} (h : s.grants seg off n .read) :
    segRead seg off n s = .ok (s.busRead (s.spread seg off n)) s := by
  unfold segRead
  rw [run_read_bind, view_read_granted h]

theorem view_write_granted {s : State} {seg : SReg} {off n : Nat} (h : s.grants seg off n .write) (x : Word) :
    (s.view seg).write off n x s = .ok () (s.busWrite (s.spread seg off n) (leBytes n x)) := by
  unfold View.write View.writeBytes
  rw [length_leBytes, run_bind_ok (view_check_granted h.2.1), run_bind_ok (view_phys_flat h.1 seg off n true), run_modify,
    State.busStore_quiet _ (by rw [State.flatten_opsAt]; exact State.grants_quiet h), State.flatten_opsAt]

theorem segWrite_granted {s : State} {seg : SReg} {off n : Nat} (h : s.grants seg off n .write) (x : Word) :
    segWrite seg off n x s = .ok () (s.busWrite (s.spread seg off n) (leBytes n x)) := by
  unfold segWrite
  rw [run_read_bind, view_write_granted h]

theorem view_probe_granted {s : State} {seg : SReg} {off n : Nat} (h : s.grants seg off n .write) :
    (s.view seg).probe off n s = .ok () s := by
  unfold View.probe
  rw [run_bind_ok (view_check_granted h.2.1), run_bind_ok (view_phys_flat h.1 seg off n true)]
  rfl

/-! ### Operands -/

/-- The state after a value is written to an operand, with paging off: `regEAWrite` is the operand's address (R64). -/
def State.putAt (w : Width) (l : Loc) (v : Word) (s : State) : State :=
  match l with
  | .byteReg r => s.setReg8 r v
  | .reg r => s.setReg w r v
  | .mem seg off => (s.captureWrite l).busWrite (s.spread seg off w.bytes) (leBytes w.bytes v)

/-- The state after the write permission of an operand was tested. -/
def State.checkedAt (l : Loc) (s : State) : State :=
  match l with
  | .byteReg _ | .reg _ => s
  | .mem _ _ => s.captureWrite l

/-- The capture of the write address changes no grant. -/
theorem State.grants_captureWrite (s : State) (l : Loc) (seg : SReg) (off n : Nat) (k : Access) :
    (s.captureWrite l).grants seg off n k = s.grants seg off n k := rfl

theorem readLoc_flat {s : State} {w : Width} {l : Loc} (h : s.canRead w l) : readLoc w l s = .ok (s.valueAt w l) s := by
  cases l with
  | byteReg r => rfl
  | reg r => rfl
  | mem seg off => exact segRead_granted h

theorem writeLoc_flat {s : State} {w : Width} {l : Loc} (h : s.canWrite w l) (v : Word) :
    writeLoc w l v s = .ok () (s.putAt w l v) := by
  cases l with
  | byteReg r => rfl
  | reg r => rfl
  | mem seg off =>
    simp only [writeLoc, run_modify_bind]
    rw [segWrite_granted (s := s.captureWrite (.mem seg off)) h v]
    rfl

theorem checkLoc_flat {s : State} {w : Width} {l : Loc} (h : s.canWrite w l) : checkLoc w l s = .ok () (s.checkedAt l) := by
  cases l with
  | byteReg r => rfl
  | reg r => rfl
  | mem seg off =>
    simp only [checkLoc, run_modify_bind, run_read_bind, View.checkWrite, run_get_bind]
    cases (s.captureWrite (.mem seg off)).protectedMode
    · rfl
    · exact view_probe_granted (s := s.captureWrite (.mem seg off)) h

theorem State.putAt_gpr (s : State) (w : Width) (l : Loc) (v : Word) : (s.putAt w l v).gpr = s.gprWith w l v := by
  cases l <;> simp [State.putAt, State.gprWith]

theorem State.putAt_mem_reg (s : State) (w : Width) (l : Loc) (v : Word) (h : ∀ seg off, l ≠ .mem seg off) :
    (s.putAt w l v).mem = s.mem := by
  cases l with
  | byteReg r => rfl
  | reg r => rfl
  | mem seg off => exact absurd rfl (h seg off)

theorem State.putAt_wf {s : State} (h : s.mem.wf = true) (w : Width) (l : Loc) (v : Word) : (s.putAt w l v).mem.wf = true := by
  cases l with
  | byteReg r => exact h
  | reg r => exact h
  | mem seg off => exact State.busWrite_wf _ _ (s := s.captureWrite _) h

/-- Writing an operand that may be written changes nothing but the general registers, memory and `regEAWrite`. -/
theorem State.putAt_eq {s : State} {w : Width} {l : Loc} (h : s.canWrite w l) (v : Word) :
    s.putAt w l v = { s with gpr := (s.putAt w l v).gpr, mem := (s.putAt w l v).mem, regEAWrite := (s.putAt w l v).regEAWrite } := by
  cases l with
  | byteReg r => rfl
  | reg r => rfl
  | mem seg off =>
    have e := State.busWrite_eq (s.spread seg off w.bytes) (leBytes w.bytes v) (s.captureWrite (.mem seg off))
    simp only [State.putAt]
    rw [e]
    rfl

/-- What an operand holds depends only on the registers, the model and memory. -/
theorem State.valueAt_congr {s t : State} (w : Width) (l : Loc) (hg : t.gpr = s.gpr) (hm : t.mem = s.mem) (hc : t.cfg = s.cfg)
    (hs : SameSegments s t) : t.valueAt w l = s.valueAt w l := by
  obtain ⟨h1, h2, h3, h4, h5, h6, -⟩ := hs
  cases l with
  | byteReg r => simp [State.valueAt, State.reg8, hg]
  | reg r => simp [State.valueAt, State.reg, hg]
  | mem seg off =>
    have hseg : t.seg seg = s.seg seg := by cases seg <;> assumption
    have hb : t.busByte = s.busByte := by funext a; simp [State.busByte, State.busKind, hm, hc]
    simp [State.valueAt, State.busRead, State.spread, hseg, hb, hc]

/-- The value written to an operand that may be written is read back, at its width. -/
theorem State.valueAt_putAt {s : State} (h : s.mem.wf = true) {w : Width} {l : Loc} (hw : s.canWrite w l) (v : Word) :
    (s.putAt w l v).valueAt w l = (match l with | .byteReg _ => trunc .w8 v | _ => trunc w v) := by
  cases l with
  | byteReg r => exact s.reg8_setReg8_same r v
  | reg r => exact s.reg_setReg_same w r v
  | mem seg off =>
    have hsp : ((s.captureWrite (.mem seg off)).busWrite (s.spread seg off w.bytes) (leBytes w.bytes v)).spread seg off w.bytes =
        s.spread seg off w.bytes := by
      simp [State.spread]
    simp only [State.valueAt, State.busRead, State.putAt]
    rw [hsp, State.busRead_busWrite _ _ (s := s.captureWrite (.mem seg off)) h (by rw [State.length_spread, length_leBytes])
      (s.nodup_spread seg off (by cases w <;> decide)) (State.grants_ram (s := s) hw), ofLe_leBytes]

theorem State.putAt_memory {s : State} (h : s.mem.wf = true) (w : Width) (l : Loc) (v : Word) :
    SameMemoryBut s (s.putAt w l v) (s.storedAt w l) := by
  intro a ha
  cases l with
  | byteReg r => rfl
  | reg r => rfl
  | mem seg off => exact State.busByte_busWrite_other _ _ (s := s.captureWrite (.mem seg off)) h ha

/-- A value written to an operand of its width, by any state that has the registers and the memory `putAt` leaves. -/
theorem wrote_of_putAt {s t : State} {w : Width} {l : Loc} {v : Word} (h : s.mem.wf = true) (hw : s.canWrite w l)
    (hv : trunc w v = v) (hl : ∀ r, l = .byteReg r → w = .w8) (hg : t.gpr = (s.putAt w l v).gpr)
    (hm : t.mem = (s.putAt w l v).mem) (hc : t.cfg = s.cfg) (hs : SameSegments s t) : Wrote w l v s t := by
  have e := State.putAt_eq hw v
  have hs' : SameSegments (s.putAt w l v) t := by
    rw [e]; exact hs
  have hc' : t.cfg = (s.putAt w l v).cfg := by rw [e]; exact hc
  refine ⟨?_, by rw [hg, State.putAt_gpr], ?_⟩
  · rw [State.valueAt_congr w l hg hm hc' hs', State.valueAt_putAt h hw]
    cases l with
    | byteReg r => have := hl r rfl; subst this; exact hv
    | reg r => exact hv
    | mem seg off => exact hv
  · intro a ha
    rw [← State.putAt_memory h w l v a ha]
    simp [State.busByte, State.busKind, hm, hc']

/-! ### The stack -/

theorem State.stack_view (s : State) : s.stack.view = s.view .ss := rfl

theorem stack_push_granted {s : State} {k : Stack} {w : Width} (hv : k.view = s.view .ss)
    (h : s.grants .ss (trunc k.w (k.sp - BitVec.ofNat 32 w.bytes)).toNat w.bytes .write) (v : Word) :
    k.push w v s = .ok { k with sp := trunc k.w (k.sp - BitVec.ofNat 32 w.bytes) }
      (s.busWrite (s.spread .ss (trunc k.w (k.sp - BitVec.ofNat 32 w.bytes)).toNat w.bytes) (leBytes w.bytes (trunc w v))) := by
  unfold Stack.push
  rw [hv, run_bind_ok (view_write_granted h (trunc w v))]
  rfl

theorem stack_peek_granted {s : State} {k : Stack} {off n : Nat} (hv : k.view = s.view .ss)
    (h : s.grants .ss (k.at off).toNat n .read) : k.peek off n s = .ok (s.busRead (s.spread .ss (k.at off).toNat n)) s := by
  unfold Stack.peek
  rw [hv]
  exact view_read_granted h

theorem push_granted {s : State} {w : Width} (h : s.grants .ss (s.below w.bytes) w.bytes .write) (v : Word) :
    push w v s = .ok () ((s.busWrite (s.spread .ss (s.below w.bytes) w.bytes) (leBytes w.bytes (trunc w v))).setReg s.stack.w .sp
      (trunc s.stack.w (s.stack.sp - BitVec.ofNat 32 w.bytes))) := by
  unfold push
  rw [run_read_bind, run_bind_ok (stack_push_granted rfl h v)]
  rfl

theorem pop_granted {s : State} {w : Width} (h : s.grants .ss (s.above 0) w.bytes .read) :
    pop w s = .ok (s.stackValue w 0) (s.setReg s.stack.w .sp (trunc s.stack.w (s.stack.sp + BitVec.ofNat 32 w.bytes))) := by
  unfold pop
  rw [run_read_bind, run_bind_ok (stack_peek_granted rfl h)]
  rfl

end Sys2Proof.Machine
end

