-- ==== Sys2Proof/Laws/Flags.lean ====
section
/-! SUPPORT. The laws of the flag engine: the value of every flag after each way flags are written, and the bits of PS that stay. -/

namespace Sys2Proof.Machine

/-- The place of a flag in PS (R46). -/
def Flag.place : Flag → Nat
  | .cf => 0 | .pf => 2 | .af => 4 | .zf => 6 | .sf => 7 | .of => 11

theorem Flag.mask_eq (f : Flag) : f.mask = BitVec.twoPow 32 f.place := by cases f <;> decide

theorem Flag.place_lt (f : Flag) : f.place < 32 := by cases f <;> decide

theorem Flag.place_inj {f g : Flag} (h : f.place = g.place) : f = g := by
  revert h; cases f <;> cases g <;> decide

/-- A test against one bit's mask is that bit. -/
theorem and_twoPow_ne_zero (x : Word) {k : Nat} (hk : k < 32) : ((x &&& BitVec.twoPow 32 k) != 0) = x.getLsbD k := by
  cases h : x.getLsbD k with
  | true =>
    rw [bne_iff_ne]
    intro h0
    have := congrArg (fun y => BitVec.getLsbD y k) h0
    simp only [BitVec.getLsbD_and, BitVec.getLsbD_twoPow, h, hk] at this
    simp at this
  | false =>
    simp only [bne_eq_false_iff_eq]
    apply BitVec.eq_of_getLsbD_eq
    intro i hi
    by_cases hik : i = k
    · subst hik; simp only [BitVec.getLsbD_and, h]; simp
    · simp only [BitVec.getLsbD_and, BitVec.getLsbD_twoPow]; simp [Ne.symm hik]

theorem getLsbD_putMask (x m : Word) (v : Bool) {i : Nat} (hi : i < 32) :
    (putMask x m v).getLsbD i = if m.getLsbD i then v else x.getLsbD i := by
  cases v <;> cases hm : m.getLsbD i <;>
    simp [putMask, BitVec.getLsbD_or, BitVec.getLsbD_and, BitVec.getLsbD_not, hm, hi, -BitVec.getLsbD_eq_getElem]

theorem Flag.mask_getLsbD (f : Flag) (i : Nat) : f.mask.getLsbD i = decide (i = f.place) := by
  rw [f.mask_eq, BitVec.getLsbD_twoPow]
  by_cases h : i = f.place
  · simp [h, f.place_lt]
  · simp [h, Ne.symm h]

namespace FlagEngine

/-- The stored bit of a flag. -/
theorem flag_stored_bit (e : FlagEngine) (f : Flag) (h : e.cached.has f = false) : e.flag f = e.ps.getLsbD f.place := by
  rw [flag, if_neg (by simp [h]), f.mask_eq, and_twoPow_ne_zero _ f.place_lt]

theorem flag_cached (e : FlagEngine) (f : Flag) (h : e.cached.has f = true) : e.flag f = e.formula f := by
  rw [flag, if_pos h]

theorem getLsbD_commit (e : FlagEngine) (f : Flag) (ps : Word) {i : Nat} (hi : i < 32) :
    (e.commit f ps).getLsbD i = if i = f.place then e.flag f else ps.getLsbD i := by
  rw [commit, getLsbD_putMask _ _ _ hi, f.mask_getLsbD i]
  by_cases h : i = f.place <;> simp [h]

theorem getLsbD_commitLost (e : FlagEngine) (n : CachedSet) (f : Flag) (ps : Word) {i : Nat} (hi : i < 32) :
    (e.commitLost n f ps).getLsbD i = if i = f.place ∧ e.cached.has f ∧ n.has f = false then e.flag f else ps.getLsbD i := by
  unfold commitLost
  by_cases hc : e.cached.has f <;> by_cases hn : n.has f <;> simp [hc, hn, getLsbD_commit e f ps hi]

/-- The bits of the materialised PS: the flags at their places, every other bit as stored (R49). -/
theorem getLsbD_stored (e : FlagEngine) {i : Nat} (hi : i < 32) :
    e.stored.getLsbD i = if i = 0 then e.flag .cf else if i = 2 then e.flag .pf else if i = 4 then e.flag .af
      else if i = 6 then e.flag .zf else if i = 7 then e.flag .sf else if i = 11 then e.flag .of else e.ps.getLsbD i := by
  simp only [stored, getLsbD_commit e _ _ hi, Flag.place]
  rfl

theorem stored_flag (e : FlagEngine) (f : Flag) : e.stored.getLsbD f.place = e.flag f := by
  rw [getLsbD_stored e f.place_lt]
  cases f <;> rfl

/-- A flag after an installed result: by its formula if the result represents it, else as it was (R49). -/
theorem flag_install (e : FlagEngine) (n : CachedSet) (w : Width) (d s a l : Word) (f : Flag) :
    (e.install n w d s a l).flag f =
      if n.has f then (FlagEngine.mk 0 d s a l w n).formula f else e.flag f := by
  by_cases hn : n.has f = true
  · rw [if_pos hn, flag_cached _ _ (by exact hn)]
    cases f <;> rfl
  · rw [if_neg hn, flag_stored_bit _ _ (by simpa [install] using hn)]
    simp only [install]
    have hn' : n.has f = false := by simpa using hn
    cases hc : e.cached.has f with
    | true => cases f <;> simp [getLsbD_commitLost, Flag.place, hn', hc, -BitVec.getLsbD_eq_getElem]
    | false =>
      rw [flag_stored_bit e f hc]
      cases f <;> simp [getLsbD_commitLost, Flag.place, hc, -BitVec.getLsbD_eq_getElem]

theorem getLsbD_install_ps (e : FlagEngine) (n : CachedSet) (w : Width) (d s a l : Word) {i : Nat} (hi : i < 32)
    (hp : ∀ f : Flag, i ≠ f.place) : (e.install n w d s a l).ps.getLsbD i = e.ps.getLsbD i := by
  simp only [install, getLsbD_commitLost e _ _ _ hi]
  simp [hp]

/-- A flag after one flag is set (R49). -/
theorem flag_setFlag (e : FlagEngine) (f g : Flag) (v : Bool) :
    (e.setFlag f v).flag g = if g = f then v else e.flag g := by
  by_cases hg : g = f
  · subst hg
    rw [if_pos rfl, flag_stored_bit _ _ (by cases g <;> rfl)]
    simp only [setFlag, getLsbD_putMask _ _ _ g.place_lt, g.mask_getLsbD _]
    simp
  · rw [if_neg hg]
    have hc : (e.setFlag f v).cached.has g = e.cached.has g := by
      revert hg; cases f <;> cases g <;> simp [setFlag, CachedSet.drop, CachedSet.has]
    cases h : e.cached.has g with
    | true => rw [flag_cached _ _ (hc.trans h), flag_cached _ _ h]; cases g <;> rfl
    | false =>
      rw [flag_stored_bit _ _ (hc.trans h), flag_stored_bit _ _ h]
      simp only [setFlag, getLsbD_putMask _ _ _ g.place_lt, f.mask_getLsbD _]
      rw [if_neg]
      simpa using fun h' => hg (Flag.place_inj h')

theorem getLsbD_setFlag_ps (e : FlagEngine) (f : Flag) (v : Bool) {i : Nat} (hi : i < 32) (hp : i ≠ f.place) :
    (e.setFlag f v).ps.getLsbD i = e.ps.getLsbD i := by
  simp only [setFlag, getLsbD_putMask _ _ _ hi, f.mask_getLsbD _]
  simp [hp]

/-- A flag after one flag is set from a word (R49). -/
theorem flag_setFrom (e : FlagEngine) (v m : Word) (f g : Flag) :
    (e.setFrom v m f).flag g = if g = f ∧ m.getLsbD f.place then v.getLsbD f.place else e.flag g := by
  simp only [setFrom, f.mask_eq, and_twoPow_ne_zero _ f.place_lt]
  by_cases hm : m.getLsbD f.place <;> by_cases hg : g = f <;> simp [hm, hg, flag_setFlag, -BitVec.getLsbD_eq_getElem]

/-- A flag after the flags of a mask are set (R49). -/
theorem flag_setFlags (e : FlagEngine) (v m : Word) (f : Flag) :
    (e.setFlags v m).flag f = if m.getLsbD f.place then v.getLsbD f.place else e.flag f := by
  simp only [setFlags, flag_setFrom]
  cases f <;> simp [-BitVec.getLsbD_eq_getElem]

theorem getLsbD_setFrom_ps (e : FlagEngine) (v m : Word) (f : Flag) {i : Nat} (hi : i < 32) (hp : i ≠ f.place) :
    (e.setFrom v m f).ps.getLsbD i = e.ps.getLsbD i := by
  unfold setFrom
  split
  · exact getLsbD_setFlag_ps e f _ hi hp
  · rfl

/-- The other bits of PS after the flags of a mask are set. -/
theorem getLsbD_setFlags_ps (e : FlagEngine) (v m : Word) {i : Nat} (hi : i < 32) (hp : ∀ f : Flag, i ≠ f.place) :
    (e.setFlags v m).ps.getLsbD i = e.ps.getLsbD i := by
  simp only [setFlags, getLsbD_setFrom_ps _ v m _ hi (hp _)]

theorem has_setFrom (e : FlagEngine) (v m : Word) (f g : Flag) :
    (e.setFrom v m f).cached.has g = (e.cached.has g && !(decide (g = f) && m.getLsbD f.place)) := by
  simp only [setFrom, f.mask_eq, and_twoPow_ne_zero _ f.place_lt]
  cases m.getLsbD f.place <;> cases f <;> cases g <;> simp [setFlag, CachedSet.drop, CachedSet.has]

/-- A flag stays cached exactly if it is not one of the mask (R49). -/
theorem has_setFlags (e : FlagEngine) (v m : Word) (f : Flag) :
    (e.setFlags v m).cached.has f = (e.cached.has f && !m.getLsbD f.place) := by
  simp only [setFlags, has_setFrom]
  cases f <;> simp

theorem getLsbD_setPS_ps (e : FlagEngine) (v m : Word) {i : Nat} (hi : i < 32) :
    (e.setPS v m).ps.getLsbD i = if m.getLsbD i then v.getLsbD i else e.stored.getLsbD i := by
  simp only [setPS]
  cases hm : m.getLsbD i <;>
    simp [BitVec.getLsbD_or, BitVec.getLsbD_and, BitVec.getLsbD_not, hm, hi, -BitVec.getLsbD_eq_getElem]

/-- A flag after `setPS` (R53). -/
theorem flag_setPS (e : FlagEngine) (v m : Word) (f : Flag) :
    (e.setPS v m).flag f = if m.getLsbD f.place then v.getLsbD f.place else e.flag f := by
  rw [flag_stored_bit _ _ (by cases f <;> rfl), getLsbD_setPS_ps _ _ _ f.place_lt, stored_flag]

/-- The other bits of PS after `setPS`. -/
theorem getLsbD_setPS_other (e : FlagEngine) (v m : Word) {i : Nat} (hi : i < 32) (hp : ∀ f : Flag, i ≠ f.place)
    (hm : m.getLsbD i = false) : (e.setPS v m).ps.getLsbD i = e.ps.getLsbD i := by
  rw [getLsbD_setPS_ps _ _ _ hi, hm]
  have h := getLsbD_stored e hi
  simp only [Bool.false_eq_true, if_false, h]
  have := hp .cf; have := hp .pf; have := hp .af; have := hp .zf; have := hp .sf; have := hp .of
  simp_all [Flag.place]

end FlagEngine

/-! ### At the level of the state -/

theorem State.flag_setFlag (s : State) (f g : Flag) (v : Bool) :
    (s.setFlag f v).flag g = if g = f then v else s.flag g := s.flags.flag_setFlag f g v

@[simp] theorem State.flag_setFlag_same (s : State) (f : Flag) (v : Bool) : (s.setFlag f v).flag f = v := by
  rw [s.flag_setFlag, if_pos rfl]

theorem State.flag_setPS (s : State) (v m : Word) (f : Flag) :
    (s.setPS v m).flag f = if m.getLsbD f.place then v.getLsbD f.place else s.flag f := s.flags.flag_setPS v m f

/-- A flag outside the mask of what is undefined is untouched by it (R381). -/
theorem State.flag_undefine (s : State) (site : UndefSite) (w : Width) (m old : Word) (ops : List Word) (f : Flag)
    (h : s.cfg.undef = .blockDefault ∨ m.getLsbD f.place = false) : (s.undefine site w m old ops).flag f = s.flag f := by
  unfold State.undefine
  split
  · rfl
  · rcases h with h | h
    · simp_all
    · exact (s.flags.flag_setFlags _ m f).trans (by rw [h]; rfl)

/-- The direct flags and the other bits of PS, apart from the six cached flags, as an update of the flags leaves them. -/
theorem State.ps_undefine (s : State) (site : UndefSite) (w : Width) (m old : Word) (ops : List Word) {i : Nat} (hi : i < 32)
    (hp : ∀ f : Flag, i ≠ f.place) : (s.undefine site w m old ops).flags.ps.getLsbD i = s.flags.ps.getLsbD i := by
  unfold State.undefine
  split
  · rfl
  · exact s.flags.getLsbD_setFlags_ps _ m hi hp

/-- A flag stays cached, unless it is a free one (R49; log 49). -/
theorem State.has_undefine (s : State) (site : UndefSite) (w : Width) (m old : Word) (ops : List Word) (f : Flag) :
    (s.undefine site w m old ops).flags.cached.has f =
      (s.flags.cached.has f && !(s.cfg.undef == .anyValue && m.getLsbD f.place)) := by
  unfold State.undefine
  split
  · simp_all
  · rename_i h
    rw [h]
    exact s.flags.has_setFlags _ m f

/-! ### The formulas of R47 as bits -/

theorem Width.msb_eq (w : Width) : w.msb = BitVec.twoPow 32 (w.bits - 1) := by cases w <;> decide

theorem Width.bits_lt (w : Width) : w.bits - 1 < 32 := by cases w <;> decide

theorem Width.msb_mask (w : Width) : (w.msb - 1) ||| w.msb = w.mask := by cases w <;> decide

namespace FlagEngine

variable (ps d x a l : Word) (w : Width) (n : CachedSet)

theorem formula_cf : (FlagEngine.mk ps d x a l w n).formula .cf = bit (d ^^^ ((d ^^^ x) &&& (x ^^^ a))) (w.bits - 1) := by
  simp only [formula, bit, Width.msb_eq w]
  exact and_twoPow_ne_zero _ (Width.bits_lt w)

theorem formula_pf : (FlagEngine.mk ps d x a l w n).formula .pf = evenParity l := rfl

theorem formula_af : (FlagEngine.mk ps d x a l w n).formula .af = bit (a ^^^ (d ^^^ x)) 4 :=
  and_twoPow_ne_zero (k := 4) _ (by decide)

theorem formula_zf : (FlagEngine.mk ps d x a l w n).formula .zf = decide (trunc w l = 0) := by
  simp only [formula, Width.msb_mask w, trunc]
  rfl

theorem formula_sf : (FlagEngine.mk ps d x a l w n).formula .sf = bit l (w.bits - 1) := by
  simp only [formula, bit, Width.msb_eq w]
  exact and_twoPow_ne_zero _ (Width.bits_lt w)

theorem formula_of : (FlagEngine.mk ps d x a l w n).formula .of = bit ((d ^^^ a) &&& (x ^^^ a)) (w.bits - 1) := by
  simp only [formula, bit, Width.msb_eq w]
  exact and_twoPow_ne_zero _ (Width.bits_lt w)

end FlagEngine

/-- Addition installs the six formulas (R47). -/
theorem flagsBy_flagsAdd (s : State) (w : Width) (d x a : Word) : FlagsBy w d x a a (s.flagsAdd w d x a) where
  cf := by simp only [State.flag, State.flagsAdd_flags, FlagEngine.flag_install]; exact FlagEngine.formula_cf _ _ _ _ _ _ _
  pf := by simp only [State.flag, State.flagsAdd_flags, FlagEngine.flag_install]; exact FlagEngine.formula_pf _ _ _ _ _ _ _
  af := by simp only [State.flag, State.flagsAdd_flags, FlagEngine.flag_install]; exact FlagEngine.formula_af _ _ _ _ _ _ _
  zf := by simp only [State.flag, State.flagsAdd_flags, FlagEngine.flag_install]; exact FlagEngine.formula_zf _ _ _ _ _ _ _
  sf := by simp only [State.flag, State.flagsAdd_flags, FlagEngine.flag_install]; exact FlagEngine.formula_sf _ _ _ _ _ _ _
  of := by simp only [State.flag, State.flagsAdd_flags, FlagEngine.flag_install]; exact FlagEngine.formula_of _ _ _ _ _ _ _

/-- Subtraction installs the same formulas with D and A exchanged (R50). -/
theorem flagsBy_flagsSub (s : State) (w : Width) (d x a : Word) : FlagsBy w a x d a (s.flagsSub w d x a) where
  cf := by simp only [State.flag, State.flagsSub_flags, FlagEngine.flag_install]; exact FlagEngine.formula_cf _ _ _ _ _ _ _
  pf := by simp only [State.flag, State.flagsSub_flags, FlagEngine.flag_install]; exact FlagEngine.formula_pf _ _ _ _ _ _ _
  af := by simp only [State.flag, State.flagsSub_flags, FlagEngine.flag_install]; exact FlagEngine.formula_af _ _ _ _ _ _ _
  zf := by simp only [State.flag, State.flagsSub_flags, FlagEngine.flag_install]; exact FlagEngine.formula_zf _ _ _ _ _ _ _
  sf := by simp only [State.flag, State.flagsSub_flags, FlagEngine.flag_install]; exact FlagEngine.formula_sf _ _ _ _ _ _ _
  of := by simp only [State.flag, State.flagsSub_flags, FlagEngine.flag_install]; exact FlagEngine.formula_of _ _ _ _ _ _ _

/-- INC: the formulas of an addition of 1, CF kept (R48). -/
theorem fiveFlags_flagsInc (s : State) (w : Width) (d a : Word) : FiveFlags w d 1 a a (s.flagsInc w d a) where
  pf := by simp only [State.flag, State.flagsInc_flags, FlagEngine.flag_install]; exact FlagEngine.formula_pf _ _ _ _ _ _ _
  af := by simp only [State.flag, State.flagsInc_flags, FlagEngine.flag_install]; exact FlagEngine.formula_af _ _ _ _ _ _ _
  zf := by simp only [State.flag, State.flagsInc_flags, FlagEngine.flag_install]; exact FlagEngine.formula_zf _ _ _ _ _ _ _
  sf := by simp only [State.flag, State.flagsInc_flags, FlagEngine.flag_install]; exact FlagEngine.formula_sf _ _ _ _ _ _ _
  of := by simp only [State.flag, State.flagsInc_flags, FlagEngine.flag_install]; exact FlagEngine.formula_of _ _ _ _ _ _ _

theorem flagsInc_cf (s : State) (w : Width) (d a : Word) : (s.flagsInc w d a).flag .cf = s.flag .cf := by
  simp only [State.flag, State.flagsInc_flags, FlagEngine.flag_install]; rfl

/-- DEC: the formulas of a subtraction of 1, CF kept (R48, R50). -/
theorem fiveFlags_flagsDec (s : State) (w : Width) (d a : Word) : FiveFlags w a 1 d a (s.flagsDec w d a) where
  pf := by simp only [State.flag, State.flagsDec_flags, FlagEngine.flag_install]; exact FlagEngine.formula_pf _ _ _ _ _ _ _
  af := by simp only [State.flag, State.flagsDec_flags, FlagEngine.flag_install]; exact FlagEngine.formula_af _ _ _ _ _ _ _
  zf := by simp only [State.flag, State.flagsDec_flags, FlagEngine.flag_install]; exact FlagEngine.formula_zf _ _ _ _ _ _ _
  sf := by simp only [State.flag, State.flagsDec_flags, FlagEngine.flag_install]; exact FlagEngine.formula_sf _ _ _ _ _ _ _
  of := by simp only [State.flag, State.flagsDec_flags, FlagEngine.flag_install]; exact FlagEngine.formula_of _ _ _ _ _ _ _

theorem flagsDec_cf (s : State) (w : Width) (d a : Word) : (s.flagsDec w d a).flag .cf = s.flag .cf := by
  simp only [State.flag, State.flagsDec_flags, FlagEngine.flag_install]; rfl

/-- PF, ZF and SF from a result; CF, AF and OF kept. -/
theorem resultFlags_flagsPZS (s : State) (w : Width) (a : Word) : ResultFlags w a (s.flagsPZS w a) where
  pf := by simp only [State.flag, State.flagsPZS_flags, FlagEngine.flag_install]; exact FlagEngine.formula_pf _ _ _ _ _ _ _
  zf := by simp only [State.flag, State.flagsPZS_flags, FlagEngine.flag_install]; exact FlagEngine.formula_zf _ _ _ _ _ _ _
  sf := by simp only [State.flag, State.flagsPZS_flags, FlagEngine.flag_install]; exact FlagEngine.formula_sf _ _ _ _ _ _ _

theorem flagsPZS_other (s : State) (w : Width) (a : Word) (f : Flag) (h : f = .cf ∨ f = .af ∨ f = .of) :
    (s.flagsPZS w a).flag f = s.flag f := by
  simp only [State.flag, State.flagsPZS_flags, FlagEngine.flag_install]
  rcases h with rfl | rfl | rfl <;> rfl

/-! ### The bits of PS that are no cached flag -/

theorem psCached_getLsbD (i : Nat) (hi : i < 32) (h : psCached.getLsbD i = false) (f : Flag) : i ≠ f.place := by
  rintro rfl
  revert h; cases f <;> decide

/-- Two PS words with the same bits outside the six flags. -/
theorem sameDirect_of_bits {s t : State}
    (h : ∀ i, i < 32 → (∀ f : Flag, i ≠ f.place) → t.flags.ps.getLsbD i = s.flags.ps.getLsbD i) : SameDirect s t := by
  apply BitVec.eq_of_getLsbD_eq
  intro i hi
  simp only [BitVec.getLsbD_and, BitVec.getLsbD_not]
  cases hc : psCached.getLsbD i with
  | true => simp
  | false => simp [h i hi (psCached_getLsbD i hi hc), -BitVec.getLsbD_eq_getElem]

theorem sameDirect_of_eq {s t : State} (h : t.flags = s.flags) : SameDirect s t := by rw [SameDirect, h]

theorem sameDirect_trans {s t u : State} (h : SameDirect s t) (k : SameDirect t u) : SameDirect s u := k.trans h

theorem sameDirect_install (s : State) (n : CachedSet) (w : Width) (d x a l : Word) :
    SameDirect s { s with flags := s.flags.install n w d x a l } :=
  sameDirect_of_bits fun _ hi hp => s.flags.getLsbD_install_ps n w d x a l hi hp

theorem sameDirect_setFlag (s : State) (f : Flag) (v : Bool) : SameDirect s (s.setFlag f v) :=
  sameDirect_of_bits fun _ hi hp => s.flags.getLsbD_setFlag_ps f v hi (hp f)

theorem sameDirect_undefine (s : State) (site : UndefSite) (w : Width) (m old : Word) (ops : List Word) :
    SameDirect s (s.undefine site w m old ops) :=
  sameDirect_of_bits fun _ hi hp => s.ps_undefine site w m old ops hi hp

end Sys2Proof.Machine
end

