-- ==== Sys2Proof/Laws/Keeps.lean ====
section
/-! SUPPORT. What the shared operations can do to a state, said once: a property that stores, CR2 and the bookkeeping of a refused
access leave alone survives every operation that only accesses memory, whatever it answers; one that also survives the writing
of segment registers, LDTR and the stack pointer survives the loads and the stack. -/

namespace Sys2Proof.Machine

variable {α β : Type} {p : State → Prop}

/-- A property that no access to memory can lose. -/
structure Stable (p : State → Prop) : Prop where
  store   : ∀ ops bs, KeepsBy p (State.busStore ops bs)
  noted   : ∀ es, KeepsBy p (State.logBus es)
  cr2     : ∀ v, KeepsBy p (State.setCr2 v)
  refused : KeepsBy p State.setNoReadWrite

/-- The canonical form of memory is one. -/
theorem stable_wf : Stable fun s => s.mem.wf = true where
  store ops bs _ h := State.busStore_wf ops bs h
  noted _ _ h := h
  cr2 _ _ h := h
  refused _ h := h

/-- So is every property of the fields that accesses do not write. -/
theorem stable_cfg (c : Params) : Stable fun s => s.cfg = c where
  store ops bs s h := (State.busStore_cfg s ops bs).trans h
  noted _ _ h := h
  cr2 _ _ h := h
  refused _ h := h

/-- A change of state that depends on a test. -/
theorem keepsBy_ite {c : State → Prop} [∀ s, Decidable (c s)] {f g : State → State} (hf : KeepsBy p f) (hg : KeepsBy p g) :
    KeepsBy p fun s => if c s then f s else g s := by
  intro s hs
  dsimp only
  split
  · exact hf s hs
  · exact hg s hs

section
variable (h : Stable p)
include h

theorem keeps_raise' (x : Exn) : Keeps p (raise x : M α) := keeps_raise h.refused x
theorem keeps_ensure' (b : Bool) (x : Exn) : Keeps p (ensure b x) := keeps_ensure h.refused b x

theorem keeps_pageFault (la : Word) (a b c : Bool) : Keeps p (pageFault la a b c : M α) :=
  keeps_bind (keeps_modify (h.cr2 la)) fun _ => keeps_raise' h _

theorem keeps_busFetch (ops : BusOps) : Keeps p (busFetch ops) :=
  keeps_bind keeps_get fun _ => keeps_bind (keeps_modify (h.noted _)) fun _ => keeps_pure _

/-- The page walk writes CR2 and page-table entries only (R203, R204). -/
theorem keeps_translate (la : Word) (wr user : Bool) : Keeps p (translate la wr user) := by
  refine keeps_bind keeps_get fun s => keeps_bind (keeps_busFetch h _) fun _ => ?_
  refine keeps_ite (keeps_pageFault h _ _ _ _) (keeps_bind (keeps_busFetch h _) fun _ => ?_)
  refine keeps_ite (keeps_pageFault h _ _ _ _) (keeps_ite (keeps_pageFault h _ _ _ _) (keeps_ite (keeps_pageFault h _ _ _ _) ?_))
  refine keeps_bind (keeps_modify (keepsBy_ite (fun _ hs => hs) (h.store _ _))) fun _ =>
    keeps_bind (keeps_modify (keepsBy_ite (fun _ hs => hs) (h.store _ _))) fun _ => keeps_pure _

theorem keeps_translateEach (wr user : Bool) : ∀ (n : Nat) (la : Word), Keeps p (translateEach la wr user n)
  | 0, _ => keeps_pure _
  | n + 1, la => keeps_bind (keeps_translate h la wr user) fun _ =>
      keeps_bind (keeps_translateEach wr user n (la + 1)) fun _ => keeps_pure _

theorem keeps_physOf (la : Word) (n : Nat) (wr user : Bool) : Keeps p (physOf la n wr user) := by
  refine keeps_bind keeps_get fun s => keeps_ite (keeps_pure _) (keeps_ite (keeps_bind (keeps_translateEach h _ _ _ _) fun _ => keeps_pure _) ?_)
  exact keeps_bind (keeps_translate h _ _ _) fun _ => keeps_pure _

theorem keeps_memRead (la : Word) (n : Nat) (user : Bool) : Keeps p (memRead la n user) :=
  keeps_bind (keeps_physOf h _ _ _ _) fun _ => keeps_bind (keeps_busFetch h _) fun _ => keeps_pure _

theorem keeps_memWrite (la : Word) (n : Nat) (v : Word) (user : Bool) : Keeps p (memWrite la n v user) :=
  keeps_bind (keeps_physOf h _ _ _ _) fun _ => keeps_modify (h.store _ _)

theorem keeps_sysRead (la : Word) (n : Nat) : Keeps p (sysRead la n) := keeps_memRead h _ _ _
theorem keeps_sysWrite (la : Word) (n : Nat) (v : Word) : Keeps p (sysWrite la n v) := keeps_memWrite h _ _ _ _

theorem keeps_view_check (v : View) (off n : Nat) (k : Access) : Keeps p (v.check off n k) :=
  keeps_bind keeps_get fun _ => keeps_ensure' h _ _

theorem keeps_view_phys (v : View) (off n : Nat) (wr : Bool) : Keeps p (v.phys off n wr) :=
  keeps_bind keeps_get fun _ => keeps_ite (keeps_pure _) (keeps_physOf h _ _ _ _)

theorem keeps_view_readBytes (v : View) (off n : Nat) (k : Access) : Keeps p (v.readBytes off n k) :=
  keeps_bind (keeps_view_check h _ _ _ _) fun _ => keeps_bind (keeps_view_phys h _ _ _ _) fun _ => keeps_busFetch h _

theorem keeps_view_writeBytes (v : View) (off : Nat) (bs : List Byte) : Keeps p (v.writeBytes off bs) :=
  keeps_bind (keeps_view_check h _ _ _ _) fun _ => keeps_bind (keeps_view_phys h _ _ _ _) fun _ => keeps_modify (h.store _ _)

theorem keeps_view_read (v : View) (off n : Nat) (k : Access) : Keeps p (v.read off n k) :=
  keeps_bind (keeps_view_readBytes h _ _ _ _) fun _ => keeps_pure _

theorem keeps_view_write (v : View) (off n : Nat) (x : Word) : Keeps p (v.write off n x) := keeps_view_writeBytes h _ _ _

theorem keeps_view_probe (v : View) (off n : Nat) : Keeps p (v.probe off n) :=
  keeps_bind (keeps_view_check h _ _ _ _) fun _ => keeps_bind (keeps_view_phys h _ _ _ _) fun _ => keeps_pure _

theorem keeps_view_checkWrite (v : View) (off n : Nat) : Keeps p (v.checkWrite off n) :=
  keeps_bind keeps_get fun _ => keeps_whenM (keeps_view_probe h _ _ _)

theorem keeps_segRead (r : SReg) (off n : Nat) : Keeps p (segRead r off n) :=
  keeps_bind (keeps_read _) fun _ => keeps_view_read h _ _ _ _

theorem keeps_segWrite (r : SReg) (off n : Nat) (x : Word) : Keeps p (segWrite r off n x) :=
  keeps_bind (keeps_read _) fun _ => keeps_view_write h _ _ _ _

/-! ### The stack before its commit -/

theorem keeps_stack_push (k : Stack) (w : Width) (v : Word) : Keeps p (k.push w v) :=
  keeps_bind (keeps_view_write h _ _ _ _) fun _ => keeps_pure _

theorem keeps_stack_pushAll (w : Width) : ∀ (vs : List Word) (k : Stack), Keeps p (k.pushAll w vs)
  | [], _ => keeps_pure _
  | _ :: vs, k => keeps_bind (keeps_stack_push h k w _) fun k' => keeps_stack_pushAll w vs k'

theorem keeps_stack_peek (k : Stack) (at_ n : Nat) : Keeps p (k.peek at_ n) := keeps_view_read h _ _ _ _

/-! ### Descriptors and their tests -/

theorem keeps_readDesc (a : Word) : Keeps p (readDesc a) := by
  refine keeps_bind (keeps_sysRead h _ _) fun _ => keeps_bind (keeps_sysRead h _ _) fun _ =>
    keeps_bind (keeps_sysRead h _ _) fun _ => keeps_bind (keeps_read _) fun _ => keeps_bind ?_ fun _ => keeps_pure _
  exact keeps_ite (keeps_sysRead h _ _) (keeps_pure _)

theorem keeps_fetchDesc (sel : Half) : Keeps p (fetchDesc sel) :=
  keeps_bind keeps_get fun _ => keeps_ite (keeps_pure _) (keeps_bind (keeps_readDesc h _) fun _ => keeps_pure _)

theorem keeps_orRaise (x : SelFault → Exn) (e : Except SelFault α) : Keeps p (orRaise x e) := by
  cases e with
  | ok a => exact keeps_pure a
  | error f => exact keeps_raise' h _

theorem keeps_testSel (sel : Half) (rule : Desc → Except SelFault α) : Keeps p (testSel sel rule) := by
  refine keeps_ite (keeps_pure _) (keeps_bind (keeps_fetchDesc h sel) fun d => ?_)
  cases d <;> exact keeps_pure _

theorem keeps_markAccessed (d : Desc) : Keeps p (markAccessed d) := keeps_whenM (keeps_sysWrite h _ _ _)

theorem keeps_markStackAndCode (ss cs : Desc) : Keeps p (markStackAndCode ss cs) :=
  keeps_bind (keeps_markAccessed h ss) fun _ => keeps_markAccessed h cs

theorem keeps_testCode (ext sel : Half) (rule : Desc → Except SelFault (BitVec 2)) : Keeps p (testCode ext sel rule) :=
  keeps_bind (keeps_testSel h _ _) fun _ => keeps_bind (keeps_orRaise h _ _) fun _ => keeps_pure _

theorem keeps_tssStack (lvl : BitVec 2) (ext : Half) : Keeps p (tssStack lvl ext) := by
  refine keeps_bind (keeps_read _) fun tr => ?_
  cases tr.kind <;>
    exact keeps_bind (keeps_ensure' h _ _) fun _ => keeps_bind (keeps_sysRead h _ _) fun _ =>
      keeps_bind (keeps_sysRead h _ _) fun _ => keeps_pure _

/-! ### The task switch up to the new TR -/

theorem keeps_tssField (n off : Nat) : Keeps p (tssField n off) := keeps_bind (keeps_read _) fun _ => keeps_sysRead h _ _

theorem keeps_writeFields (base : Word) (n : Nat) : ∀ l, Keeps p (writeFields base n l)
  | [] => keeps_pure _
  | _ :: r => keeps_bind (keeps_sysWrite h _ _ _) fun _ => keeps_writeFields base n r

theorem keeps_saveTask (k : SwitchKind) (retpc : Word) : Keeps p (saveTask k retpc) :=
  keeps_bind keeps_get fun _ => keeps_writeFields h _ _ _

theorem keeps_clearBusy : Keeps p clearBusy :=
  keeps_bind keeps_get fun _ => keeps_bind (keeps_sysRead h _ _) fun _ => keeps_sysWrite h _ _ _

theorem keeps_testTask (sel : Half) (k : SwitchKind) (ext : Half) : Keeps p (testTask sel k ext) := by
  refine keeps_bind keeps_get fun s => keeps_bind (keeps_ensure' h _ _) fun _ => keeps_bind (keeps_ensure' h _ _) fun _ =>
    keeps_bind (keeps_fetchDesc h sel) fun d => ?_
  cases d with
  | none => exact keeps_raise' h _
  | some d =>
    dsimp only
    split
    · exact keeps_raise' h _
    · exact keeps_bind (keeps_ensure' h _ _) fun _ => keeps_bind (keeps_ensure' h _ _) fun _ =>
        keeps_bind (keeps_ensure' h _ _) fun _ => keeps_bind (keeps_ensure' h _ _) fun _ => keeps_pure _

end

/-- A property that the loads of data segment registers, of SS and of LDTR and the stack pointer cannot lose either. -/
structure StableLoads (p : State → Prop) : Prop extends Stable p where
  seg  : ∀ r v, r ≠ .cs → KeepsBy p (State.setSeg r v)
  ldtr : ∀ v, KeepsBy p (State.setLdtr v)
  gpr  : ∀ w r v, KeepsBy p (State.setReg w r v)

section
variable (h : StableLoads p)
include h

theorem keeps_stack_commit (k : Stack) : Keeps p k.commit := keeps_modify (h.gpr _ _ _)

theorem keeps_push (w : Width) (v : Word) : Keeps p (push w v) :=
  keeps_bind (keeps_read _) fun k => keeps_bind (keeps_stack_push h.toStable k w v) fun k' => keeps_stack_commit h k'

theorem keeps_pop (w : Width) : Keeps p (pop w) :=
  keeps_bind (keeps_read _) fun _ => keeps_bind (keeps_stack_peek h.toStable _ _ _) fun _ =>
    keeps_bind (keeps_stack_commit h _) fun _ => keeps_pure _

theorem keeps_loadSs (sel : Half) : Keeps p (loadSs sel) :=
  keeps_bind keeps_get fun _ => keeps_bind (keeps_testSel h.toStable _ _) fun _ => keeps_bind (keeps_orRaise h.toStable _ _) fun _ =>
    keeps_bind (keeps_markAccessed h.toStable _) fun _ => keeps_modify (h.seg _ _ (by decide))

theorem keeps_loadData {r : SReg} (hr : r ≠ .cs) (sel : Half) : Keeps p (loadData r sel) := by
  refine keeps_bind keeps_get fun _ => keeps_ite (keeps_modify (h.seg _ _ hr)) ?_
  exact keeps_bind (keeps_testSel h.toStable _ _) fun _ => keeps_bind (keeps_orRaise h.toStable _ _) fun _ =>
    keeps_bind (keeps_markAccessed h.toStable _) fun _ => keeps_modify (h.seg _ _ hr)

/-- A load of a register other than CS, in either mode (R141, R150). -/
theorem keeps_loadSeg {r : SReg} (hr : r ≠ .cs) (sel : Half) : Keeps p (loadSeg r sel) := by
  refine keeps_bind keeps_get fun _ => keeps_ite (keeps_modify fun s hs => ?_) (keeps_ite (keeps_loadSs h sel) (keeps_loadData h hr sel))
  simp only [State.realLoad, if_neg hr]
  exact h.seg _ _ hr s hs

theorem keeps_loadLdt (x : SelFault → Exn) (sel : Half) : Keeps p (loadLdt x sel) := by
  refine keeps_ite (keeps_modify (h.ldtr _)) (keeps_ite (keeps_raise' h.toStable _) ?_)
  exact keeps_bind (keeps_testSel h.toStable _ _) fun _ => keeps_bind (keeps_orRaise h.toStable _ _) fun _ =>
    keeps_modify (h.ldtr _)

end

/-- A property that operands cannot lose: it also survives the capture of `regEA`, byte registers and NOWRITE. -/
structure StableOperands (p : State → Prop) : Prop extends StableLoads p where
  capture : ∀ l, KeepsBy p (State.captureEA l)
  written : ∀ l, KeepsBy p (State.captureWrite l)
  gpr8    : ∀ r v, KeepsBy p (State.setReg8 r v)
  noWrite : ∀ b, KeepsBy p (State.setNoWrite b)

section
variable (h : StableOperands p)
include h

theorem keeps_capture (l : Loc) : Keeps p (capture l) := keeps_bind (keeps_modify (h.capture l)) fun _ => keeps_pure _

theorem keeps_locM (m : MemOp) : Keeps p (locM m) := keeps_bind keeps_get fun _ => keeps_capture h _
theorem keeps_locE (e : RM) : Keeps p (locE e) := keeps_bind keeps_get fun _ => keeps_capture h _
theorem keeps_locE8 (e : RM8) : Keeps p (locE8 e) := keeps_bind keeps_get fun _ => keeps_capture h _
theorem keeps_locO (off : Word) : Keeps p (locO off) := keeps_bind keeps_get fun _ => keeps_capture h _
theorem keeps_noWrite : Keeps p noWrite := keeps_modify (h.noWrite _)

theorem keeps_readLoc (w : Width) (l : Loc) : Keeps p (readLoc w l) := by
  cases l with
  | byteReg r => exact keeps_read _
  | reg r => exact keeps_read _
  | mem seg off => exact keeps_segRead h.toStable _ _ _

theorem keeps_writeLoc (w : Width) (l : Loc) (v : Word) : Keeps p (writeLoc w l v) := by
  cases l with
  | byteReg r => exact keeps_modify (h.gpr8 _ _)
  | reg r => exact keeps_modify (h.gpr _ _ _)
  | mem seg off => exact keeps_bind (keeps_modify (h.written _)) fun _ => keeps_segWrite h.toStable _ _ _ _

theorem keeps_checkLoc (w : Width) (l : Loc) : Keeps p (checkLoc w l) := by
  cases l with
  | byteReg r => exact keeps_pure _
  | reg r => exact keeps_pure _
  | mem seg off => exact keeps_bind (keeps_modify (h.written _)) fun _ => keeps_bind (keeps_read _) fun _ =>
      keeps_view_checkWrite h.toStable _ _ _

/-- A read-modify-write instruction keeps what its change of flags keeps (R246, R290). -/
theorem keeps_readModifyWrite (w : Width) (l : Loc) (f : State → Word → Word × (State → State))
    (hf : ∀ s d, KeepsBy p (f s d).2) : Keeps p (readModifyWrite w l f) :=
  keeps_bind (keeps_checkLoc h w l) fun _ => keeps_bind (keeps_readLoc h w l) fun d => keeps_bind keeps_get fun s =>
    keeps_bind (keeps_writeLoc h w l _) fun _ => keeps_modify (hf s d)

end

/-! ### Ports -/

theorem keeps_bitmapAllows (h : Stable p) (mb : Nat) : ∀ (n port : Nat), Keeps p (bitmapAllows mb port n)
  | 0, _ => keeps_pure _
  | n + 1, port => keeps_bind (keeps_read _) fun _ => keeps_bind (keeps_ensure' h _ _) fun _ =>
      keeps_bind (keeps_sysRead h _ _) fun _ => keeps_bind (keeps_ensure' h _ _) fun _ => keeps_bitmapAllows h mb n (port + 1)

/-- The I/O privilege check accesses memory only (R107, R616). -/
theorem keeps_ioCheck (h : Stable p) (port : Half) (n : Nat) : Keeps p (ioCheck port n) :=
  keeps_bind keeps_get fun _ => keeps_ite
    (keeps_ite (keeps_bind (keeps_sysRead h _ _) fun _ => keeps_bitmapAllows h _ _ _) (keeps_raise' h _)) (keeps_pure _)

end Sys2Proof.Machine
end

