-- ==== Sys2Proof/Tests/Slice0.lean ====
section
/-! SUPPORT. Tests: ill-formed terms that WellFormed refuses, a word for every constructor, the vectors of
95_test_vectors.md and the examples of the rules on one step each, and a witness for the hypotheses of each statement. -/

namespace Sys2Proof.Tests
open Sys2Proof Sys2Proof.Machine
set_option Elab.async false

/-! ### States for the tests -/

/-- The reset state of a model with CS at 0 and the instruction pointer at 0x100 (the setting of 95_test_vectors.md). -/
def testBase (m : Model) : State :=
  let s := State.resetFor (.defaults m)
  { s with pc := 0x100, cs := { s.cs with sel := 0, base := 0 } }

/-- Bytes put in memory. -/
def place (a : Nat) (bs : List Byte) (s : State) : State := s.busWrite (addrs a bs.length) bs

/-- A general register set. -/
def setR (r : Reg) (v : Word) (s : State) : State := { s with gpr := s.gpr.set r v }

/-- The stored PS word set. -/
def setPs (v : Word) (s : State) : State := { s with flags := { s.flags with ps := v } }

/-- CF, PF, AF, ZF, SF and OF as digits. -/
def flagsAre (t : State) (l : List Nat) : Bool := [Flag.cf, .pf, .af, .zf, .sf, .of].map (fun f => (t.flag f).toNat) == l

/-- Bytes found in memory. -/
def bytesAre (t : State) (a : Nat) (l : List Byte) : Bool := (addrs a l.length).map t.busByte == l

/-- A word in memory. -/
def wordAt (t : State) (a : Nat) : Nat := (t.busRead (addrs a 2)).toNat

/-- A segment register with a flat 64 KB descriptor. -/
def flat (sel acc : Half) (a : Word) (dpl : BitVec 2) : SegReg := ⟨sel, 0, 0xFFFF, acc, 0, dpl, some a⟩

/-- The tables of the protected-mode vectors: code, data and TSS descriptors at 0x1000, gates at 0x2000, a TSS at 0x3000. -/
def tables (s : State) : State :=
  let s := place 0x1000 [0, 0, 0, 0, 0, 0, 0, 0, 255, 255, 0, 0, 0, 0x9B, 0, 0, 255, 255, 0, 0, 0, 0x93, 0, 0,
    255, 255, 0, 0, 0, 0xFB, 0, 0, 255, 255, 0, 0, 0, 0xF3, 0, 0, 0x2B, 0, 0, 0x30, 0, 0x83, 0, 0, 255, 255, 0, 0, 0, 0x9F, 0, 0,
    0x2B, 0, 0, 0x31, 0, 0x81, 0, 0] s
  let s := place 0x2108 [0, 0x40, 8, 0, 0, 0xE6, 0, 0] s
  let s := place 0x2068 [0, 0x50, 8, 0, 0, 0x86, 0, 0] s
  let s := place 0x3002 [0, 8, 0x10, 0] s
  { s with gdtr := ⟨0x1000, 0x3F⟩, idtr := ⟨0x2000, 0x7FF⟩, tr := ⟨0x28, 0x3000, 0x2B, .tss286⟩, cr0 := s.cr0 ||| 1 }

/-- A program at CPL 3 in those tables. -/
def ring3 (s : State) : State :=
  setPs 0x202 (setR .sp 0x200 { s with
    cpl := 3, cs := flat 0x1B 0xFB00 0x1018 3, ss := flat 0x23 0xF300 0x1020 3,
    ds := flat 0x23 0xF300 0x1020 3, es := flat 0x23 0xF300 0x1020 3 })

/-- A program at CPL 0 in those tables. -/
def ring0 (s : State) : State :=
  setPs 2 (setR .sp 0x800 { s with
    cpl := 0, cs := flat 0x8 0x9B00 0x1008 0, ss := flat 0x10 0x9300 0x1010 0,
    ds := flat 0x10 0x9300 0x1010 0, es := flat 0x10 0x9300 0x1010 0 })

/-- A fault was delivered: its vector in flight, its error code at the stack top. -/
def faultSeen (t : State) (v : Byte) (e : Nat) : Bool := t.nFault == some v && wordAt t (t.gpr.sp.toNat) == e

/-- One step of code placed at the instruction pointer, in a state made by f. -/
def check (m : Model) (code : List Byte) (f : State → State) (p : State → Bool) : Bool :=
  match step (f (place 0x100 code (testBase m))) with
  | .next t => p t
  | _ => false

/-! ### WellFormed refuses an ill-formed term, check by check -/

/-- 16-bit sizes on the 80386. -/
def ctx16 : DecCtx := ⟨.i80386, false, false⟩

/-- 32-bit sizes on the 80386. -/
def ctx32 : DecCtx := ⟨.i80386, true, true⟩

/-- 32-bit sizes exist on the 80386 only (R238). -/
theorem test_wf_sizes : WellFormed ⟨.i80286, true, false⟩ .nop = false ∧ WellFormed ⟨.i8086, false, true⟩ .nop = false := by
  decide +kernel

/-- mod 0 with BP has no form without a displacement (R282). -/
theorem test_wf_bp : WellFormed ctx16 (.negEv (.mem (.base16 .bp .none))) = false := by decide +kernel

/-- EBP has no form without a displacement, as a base and in a SIB byte (R283, R284). -/
theorem test_wf_ebp : WellFormed ctx32 (.negEv (.mem (.base32 .bp .none))) = false ∧
    WellFormed ctx32 (.negEb (.mem (.sib 0 none .bp .none))) = false := by decide +kernel

/-- ESP is no base without a SIB byte, and never an index (R283, R284). -/
theorem test_wf_esp : WellFormed ctx32 (.negEv (.mem (.base32 .sp .none))) = false ∧
    WellFormed ctx32 (.negEv (.mem (.sib 1 (some .sp) .ax .none))) = false ∧
    WellFormed ctx32 (.negEv (.mem (.sibNoBase 1 (some .sp) 0))) = false := by decide +kernel

/-- A memory operand of the other address size has no encoding. -/
theorem test_wf_address_size : WellFormed ctx32 (.negEv (.mem (.base16 .bx .none))) = false ∧
    WellFormed ctx32 (.negEv (.mem (.abs16 0))) = false ∧ WellFormed ctx16 (.negEv (.mem (.base32 .bx .none))) = false ∧
    WellFormed ctx16 (.negEv (.mem (.abs32 0))) = false ∧ WellFormed ctx16 (.negEv (.mem (.sib 0 none .bx .none))) = false ∧
    WellFormed ctx16 (.negEv (.mem (.sibNoBase 0 none 0))) = false := by decide +kernel

/-- An immediate, a displacement and an offset fit their size (R243). -/
theorem test_wf_fits : WellFormed ctx16 (.addEAXIv 0x10000) = false ∧ WellFormed ctx16 (.jmpJv 0x10000) = false ∧
    WellFormed ctx16 (.jmpFarAp 0x10000 0) = false ∧ WellFormed ctx16 (.movALOb 0x10000) = false := by decide +kernel

/-- FS and GS belong to the 80386, and MOV CS is no instruction (R37, R254). -/
theorem test_wf_segments : WellFormed ⟨.i80286, false, false⟩ (.movEwSw (.reg .ax) .fs) = false ∧
    WellFormed ctx16 (.movSwEw .cs (.reg .ax)) = false := by decide +kernel

/-- XCHG eAX,eAX is NOP (R313). -/
theorem test_wf_xchg : WellFormed ctx16 (.xchgEAXR .ax) = false := by decide +kernel

/-- Each instruction belongs to its models (R250). -/
theorem test_wf_models : WellFormed ⟨.i8086, false, false⟩ .pusha = false ∧ WellFormed ⟨.i80186, false, false⟩ .clts = false ∧
    WellFormed ⟨.i80286, false, false⟩ (.bsfGvEv .ax (.reg .ax)) = false ∧ WellFormed ⟨.i80186, false, false⟩ .popCS = false ∧
    WellFormed ⟨.i8086, false, false⟩ (.shl6 (.ib 1) (.eb (.reg .al))) = false ∧
    WellFormed ⟨.i8086, false, false⟩ (.shlEbIb (.reg .al) 1) = false := by decide +kernel

/-! ### Every constructor decodes from a word written out from its encoding -/

/-- A list of bytes decodes, at 16-bit sizes, to an instruction and nothing is left over. -/
def decodesTo (m : Model) (p : List Byte × Instr) : Bool := decode ⟨m, false, false⟩ p.1 == some (p.2, [])

/-- Words 1: each laid out from the row of the opcode table and the encoding of its operands (R230, R242, R280). -/
theorem test_words_1 : [
    ([0x00, 0xD1], Instr.addEbGb (.reg .cl) .dl),
    ([0x01, 0xD1], .addEvGv (.reg .cx) .dx),
    ([0x02, 0xD1], .addGbEb .dl (.reg .cl)),
    ([0x03, 0xD1], .addGvEv .dx (.reg .cx)),
    ([0x04, 0x7F], .addALIb 0x7F),
    ([0x05, 0x65, 0x87], .addEAXIv 0x8765),
    ([0x80, 0xC1, 0x7F], .addEbIb (.reg .cl) 0x7F),
    ([0x81, 0xC1, 0x65, 0x87], .addEvIv (.reg .cx) 0x8765),
    ([0x82, 0xC1, 0x7F], .addEbIb82 (.reg .cl) 0x7F),
    ([0x83, 0xC1, 0x7F], .addEvIbs (.reg .cx) 0x7F),
    ([0x08, 0xD1], .orEbGb (.reg .cl) .dl),
    ([0x09, 0xD1], .orEvGv (.reg .cx) .dx),
    ([0x0A, 0xD1], .orGbEb .dl (.reg .cl)),
    ([0x0B, 0xD1], .orGvEv .dx (.reg .cx)),
    ([0x0C, 0x7F], .orALIb 0x7F),
    ([0x0D, 0x65, 0x87], .orEAXIv 0x8765),
    ([0x80, 0xC9, 0x7F], .orEbIb (.reg .cl) 0x7F),
    ([0x81, 0xC9, 0x65, 0x87], .orEvIv (.reg .cx) 0x8765),
    ([0x82, 0xC9, 0x7F], .orEbIb82 (.reg .cl) 0x7F),
    ([0x83, 0xC9, 0x7F], .orEvIbs (.reg .cx) 0x7F)].all (decodesTo .i80386) = true := by
  decide +kernel

/-- Words 2: each laid out from the row of the opcode table and the encoding of its operands (R230, R242, R280). -/
theorem test_words_2 : [
    ([0x10, 0xD1], Instr.adcEbGb (.reg .cl) .dl),
    ([0x11, 0xD1], .adcEvGv (.reg .cx) .dx),
    ([0x12, 0xD1], .adcGbEb .dl (.reg .cl)),
    ([0x13, 0xD1], .adcGvEv .dx (.reg .cx)),
    ([0x14, 0x7F], .adcALIb 0x7F),
    ([0x15, 0x65, 0x87], .adcEAXIv 0x8765),
    ([0x80, 0xD1, 0x7F], .adcEbIb (.reg .cl) 0x7F),
    ([0x81, 0xD1, 0x65, 0x87], .adcEvIv (.reg .cx) 0x8765),
    ([0x82, 0xD1, 0x7F], .adcEbIb82 (.reg .cl) 0x7F),
    ([0x83, 0xD1, 0x7F], .adcEvIbs (.reg .cx) 0x7F),
    ([0x18, 0xD1], .sbbEbGb (.reg .cl) .dl),
    ([0x19, 0xD1], .sbbEvGv (.reg .cx) .dx),
    ([0x1A, 0xD1], .sbbGbEb .dl (.reg .cl)),
    ([0x1B, 0xD1], .sbbGvEv .dx (.reg .cx)),
    ([0x1C, 0x7F], .sbbALIb 0x7F),
    ([0x1D, 0x65, 0x87], .sbbEAXIv 0x8765),
    ([0x80, 0xD9, 0x7F], .sbbEbIb (.reg .cl) 0x7F),
    ([0x81, 0xD9, 0x65, 0x87], .sbbEvIv (.reg .cx) 0x8765),
    ([0x82, 0xD9, 0x7F], .sbbEbIb82 (.reg .cl) 0x7F),
    ([0x83, 0xD9, 0x7F], .sbbEvIbs (.reg .cx) 0x7F)].all (decodesTo .i80386) = true := by
  decide +kernel

/-- Words 3: each laid out from the row of the opcode table and the encoding of its operands (R230, R242, R280). -/
theorem test_words_3 : [
    ([0x20, 0xD1], Instr.andEbGb (.reg .cl) .dl),
    ([0x21, 0xD1], .andEvGv (.reg .cx) .dx),
    ([0x22, 0xD1], .andGbEb .dl (.reg .cl)),
    ([0x23, 0xD1], .andGvEv .dx (.reg .cx)),
    ([0x24, 0x7F], .andALIb 0x7F),
    ([0x25, 0x65, 0x87], .andEAXIv 0x8765),
    ([0x80, 0xE1, 0x7F], .andEbIb (.reg .cl) 0x7F),
    ([0x81, 0xE1, 0x65, 0x87], .andEvIv (.reg .cx) 0x8765),
    ([0x82, 0xE1, 0x7F], .andEbIb82 (.reg .cl) 0x7F),
    ([0x83, 0xE1, 0x7F], .andEvIbs (.reg .cx) 0x7F),
    ([0x28, 0xD1], .subEbGb (.reg .cl) .dl),
    ([0x29, 0xD1], .subEvGv (.reg .cx) .dx),
    ([0x2A, 0xD1], .subGbEb .dl (.reg .cl)),
    ([0x2B, 0xD1], .subGvEv .dx (.reg .cx)),
    ([0x2C, 0x7F], .subALIb 0x7F),
    ([0x2D, 0x65, 0x87], .subEAXIv 0x8765),
    ([0x80, 0xE9, 0x7F], .subEbIb (.reg .cl) 0x7F),
    ([0x81, 0xE9, 0x65, 0x87], .subEvIv (.reg .cx) 0x8765),
    ([0x82, 0xE9, 0x7F], .subEbIb82 (.reg .cl) 0x7F),
    ([0x83, 0xE9, 0x7F], .subEvIbs (.reg .cx) 0x7F)].all (decodesTo .i80386) = true := by
  decide +kernel

/-- Words 4: each laid out from the row of the opcode table and the encoding of its operands (R230, R242, R280). -/
theorem test_words_4 : [
    ([0x30, 0xD1], Instr.xorEbGb (.reg .cl) .dl),
    ([0x31, 0xD1], .xorEvGv (.reg .cx) .dx),
    ([0x32, 0xD1], .xorGbEb .dl (.reg .cl)),
    ([0x33, 0xD1], .xorGvEv .dx (.reg .cx)),
    ([0x34, 0x7F], .xorALIb 0x7F),
    ([0x35, 0x65, 0x87], .xorEAXIv 0x8765),
    ([0x80, 0xF1, 0x7F], .xorEbIb (.reg .cl) 0x7F),
    ([0x81, 0xF1, 0x65, 0x87], .xorEvIv (.reg .cx) 0x8765),
    ([0x82, 0xF1, 0x7F], .xorEbIb82 (.reg .cl) 0x7F),
    ([0x83, 0xF1, 0x7F], .xorEvIbs (.reg .cx) 0x7F),
    ([0x38, 0xD1], .cmpEbGb (.reg .cl) .dl),
    ([0x39, 0xD1], .cmpEvGv (.reg .cx) .dx),
    ([0x3A, 0xD1], .cmpGbEb .dl (.reg .cl)),
    ([0x3B, 0xD1], .cmpGvEv .dx (.reg .cx)),
    ([0x3C, 0x7F], .cmpALIb 0x7F),
    ([0x3D, 0x65, 0x87], .cmpEAXIv 0x8765),
    ([0x80, 0xF9, 0x7F], .cmpEbIb (.reg .cl) 0x7F),
    ([0x81, 0xF9, 0x65, 0x87], .cmpEvIv (.reg .cx) 0x8765),
    ([0x82, 0xF9, 0x7F], .cmpEbIb82 (.reg .cl) 0x7F),
    ([0x83, 0xF9, 0x7F], .cmpEvIbs (.reg .cx) 0x7F)].all (decodesTo .i80386) = true := by
  decide +kernel

/-- Words 5: each laid out from the row of the opcode table and the encoding of its operands (R230, R242, R280). -/
theorem test_words_5 : [
    ([0x43], Instr.incR .bx),
    ([0x4B], .decR .bx),
    ([0x53], .pushR .bx),
    ([0x5B], .popR .bx),
    ([0x62, 0x17], .boundGvMa .dx (.base16 .bx .none)),
    ([0x63, 0xD1], .arplEwGw (.reg .cx) .dx),
    ([0x68, 0x65, 0x87], .pushIv 0x8765),
    ([0x69, 0xD1, 0x65, 0x87], .imulGvEvIv .dx (.reg .cx) 0x8765),
    ([0x6A, 0x7F], .pushIbs 0x7F),
    ([0x6B, 0xD1, 0x7F], .imulGvEvIbs .dx (.reg .cx) 0x7F),
    ([0x75, 0x90], .jccJb .nz 0x90),
    ([0x84, 0xD1], .testEbGb (.reg .cl) .dl),
    ([0x85, 0xD1], .testEvGv (.reg .cx) .dx),
    ([0x86, 0xD1], .xchgEbGb (.reg .cl) .dl),
    ([0x87, 0xD1], .xchgEvGv (.reg .cx) .dx),
    ([0x88, 0xD1], .movEbGb (.reg .cl) .dl),
    ([0x89, 0xD1], .movEvGv (.reg .cx) .dx),
    ([0x8A, 0xD1], .movGbEb .dl (.reg .cl)),
    ([0x8B, 0xD1], .movGvEv .dx (.reg .cx)),
    ([0x8C, 0xD9], .movEwSw (.reg .cx) .ds)].all (decodesTo .i80386) = true := by
  decide +kernel

/-- Words 6: each laid out from the row of the opcode table and the encoding of its operands (R230, R242, R280). -/
theorem test_words_6 : [
    ([0x8D, 0xD1], Instr.leaGvM .dx (.reg .cx)),
    ([0x8E, 0xD9], .movSwEw .ds (.reg .cx)),
    ([0x8F, 0xC1], .popEv (.reg .cx)),
    ([0x93], .xchgEAXR .bx),
    ([0x9A, 0x21, 0x43, 0x0D, 0xF0], .callFarAp 0x4321 0xF00D),
    ([0xA0, 0x21, 0x43], .movALOb 0x4321),
    ([0xA1, 0x21, 0x43], .movEAXOv 0x4321),
    ([0xA2, 0x21, 0x43], .movObAL 0x4321),
    ([0xA3, 0x21, 0x43], .movOvEAX 0x4321),
    ([0xA8, 0x7F], .testALIb 0x7F),
    ([0xA9, 0x65, 0x87], .testEAXIv 0x8765),
    ([0xB3, 0x7F], .movR8Ib .bl 0x7F),
    ([0xBB, 0x65, 0x87], .movRIv .bx 0x8765),
    ([0xC0, 0xC1, 0x7F], .rolEbIb (.reg .cl) 0x7F),
    ([0xC1, 0xC1, 0x7F], .rolEvIb (.reg .cx) 0x7F),
    ([0xD0, 0xC1], .rolEbOne (.reg .cl)),
    ([0xD1, 0xC1], .rolEvOne (.reg .cx)),
    ([0xD2, 0xC1], .rolEbCL (.reg .cl)),
    ([0xD3, 0xC1], .rolEvCL (.reg .cx)),
    ([0xC0, 0xC9, 0x7F], .rorEbIb (.reg .cl) 0x7F)].all (decodesTo .i80386) = true := by
  decide +kernel

/-- Words 7: each laid out from the row of the opcode table and the encoding of its operands (R230, R242, R280). -/
theorem test_words_7 : [
    ([0xC1, 0xC9, 0x7F], Instr.rorEvIb (.reg .cx) 0x7F),
    ([0xD0, 0xC9], .rorEbOne (.reg .cl)),
    ([0xD1, 0xC9], .rorEvOne (.reg .cx)),
    ([0xD2, 0xC9], .rorEbCL (.reg .cl)),
    ([0xD3, 0xC9], .rorEvCL (.reg .cx)),
    ([0xC0, 0xD1, 0x7F], .rclEbIb (.reg .cl) 0x7F),
    ([0xC1, 0xD1, 0x7F], .rclEvIb (.reg .cx) 0x7F),
    ([0xD0, 0xD1], .rclEbOne (.reg .cl)),
    ([0xD1, 0xD1], .rclEvOne (.reg .cx)),
    ([0xD2, 0xD1], .rclEbCL (.reg .cl)),
    ([0xD3, 0xD1], .rclEvCL (.reg .cx)),
    ([0xC0, 0xD9, 0x7F], .rcrEbIb (.reg .cl) 0x7F),
    ([0xC1, 0xD9, 0x7F], .rcrEvIb (.reg .cx) 0x7F),
    ([0xD0, 0xD9], .rcrEbOne (.reg .cl)),
    ([0xD1, 0xD9], .rcrEvOne (.reg .cx)),
    ([0xD2, 0xD9], .rcrEbCL (.reg .cl)),
    ([0xD3, 0xD9], .rcrEvCL (.reg .cx)),
    ([0xC0, 0xE1, 0x7F], .shlEbIb (.reg .cl) 0x7F),
    ([0xC1, 0xE1, 0x7F], .shlEvIb (.reg .cx) 0x7F),
    ([0xD0, 0xE1], .shlEbOne (.reg .cl))].all (decodesTo .i80386) = true := by
  decide +kernel

/-- Words 8: each laid out from the row of the opcode table and the encoding of its operands (R230, R242, R280). -/
theorem test_words_8 : [
    ([0xD1, 0xE1], Instr.shlEvOne (.reg .cx)),
    ([0xD2, 0xE1], .shlEbCL (.reg .cl)),
    ([0xD3, 0xE1], .shlEvCL (.reg .cx)),
    ([0xC0, 0xE9, 0x7F], .shrEbIb (.reg .cl) 0x7F),
    ([0xC1, 0xE9, 0x7F], .shrEvIb (.reg .cx) 0x7F),
    ([0xD0, 0xE9], .shrEbOne (.reg .cl)),
    ([0xD1, 0xE9], .shrEvOne (.reg .cx)),
    ([0xD2, 0xE9], .shrEbCL (.reg .cl)),
    ([0xD3, 0xE9], .shrEvCL (.reg .cx)),
    ([0xC0, 0xF1, 0x7F], .shl6 (.ib 0x7F) (.eb (.reg .cl))),
    ([0xC0, 0xF9, 0x7F], .sarEbIb (.reg .cl) 0x7F),
    ([0xC1, 0xF9, 0x7F], .sarEvIb (.reg .cx) 0x7F),
    ([0xD0, 0xF9], .sarEbOne (.reg .cl)),
    ([0xD1, 0xF9], .sarEvOne (.reg .cx)),
    ([0xD2, 0xF9], .sarEbCL (.reg .cl)),
    ([0xD3, 0xF9], .sarEvCL (.reg .cx)),
    ([0xC2, 0x34, 0x12], .retIw 0x1234),
    ([0xC4, 0x17], .lesGvMp .dx (.base16 .bx .none)),
    ([0xC5, 0x17], .ldsGvMp .dx (.base16 .bx .none)),
    ([0xC6, 0xC1, 0x7F], .movEbIb (.reg .cl) 0x7F)].all (decodesTo .i80386) = true := by
  decide +kernel

/-- Words 9: each laid out from the row of the opcode table and the encoding of its operands (R230, R242, R280). -/
theorem test_words_9 : [
    ([0xC7, 0xC1, 0x65, 0x87], Instr.movEvIv (.reg .cx) 0x8765),
    ([0xC8, 0x34, 0x12, 0x7F], .enterIwIb 0x1234 0x7F),
    ([0xCA, 0x34, 0x12], .retfIw 0x1234),
    ([0xCD, 0x7F], .intIb 0x7F),
    ([0xD4, 0x7F], .aamIb 0x7F),
    ([0xD5, 0x7F], .aadIb 0x7F),
    ([0xDE, 0xE9], .esc 6 5 (.reg .cx)),
    ([0xE0, 0x90], .loopnzJb 0x90),
    ([0xE1, 0x90], .loopzJb 0x90),
    ([0xE2, 0x90], .loopJb 0x90),
    ([0xE3, 0x90], .jcxzJb 0x90),
    ([0xE4, 0x7F], .inALIb 0x7F),
    ([0xE5, 0x7F], .inEAXIb 0x7F),
    ([0xE6, 0x7F], .outIbAL 0x7F),
    ([0xE7, 0x7F], .outIbEAX 0x7F),
    ([0xE8, 0x65, 0x87], .callJv 0x8765),
    ([0xE9, 0x65, 0x87], .jmpJv 0x8765),
    ([0xEA, 0x21, 0x43, 0x0D, 0xF0], .jmpFarAp 0x4321 0xF00D),
    ([0xEB, 0x90], .jmpJb 0x90),
    ([0xF6, 0xC1, 0x7F], .testEbIb (.reg .cl) 0x7F)].all (decodesTo .i80386) = true := by
  decide +kernel

/-- Words 10: each laid out from the row of the opcode table and the encoding of its operands (R230, R242, R280). -/
theorem test_words_10 : [
    ([0xF7, 0xC1, 0x65, 0x87], Instr.testEvIv (.reg .cx) 0x8765),
    ([0xF6, 0xD1], .notEb (.reg .cl)),
    ([0xF7, 0xD1], .notEv (.reg .cx)),
    ([0xF6, 0xD9], .negEb (.reg .cl)),
    ([0xF7, 0xD9], .negEv (.reg .cx)),
    ([0xF6, 0xE1], .mulEb (.reg .cl)),
    ([0xF7, 0xE1], .mulEv (.reg .cx)),
    ([0xF6, 0xE9], .imulEb (.reg .cl)),
    ([0xF7, 0xE9], .imulEv (.reg .cx)),
    ([0xF6, 0xF1], .divEb (.reg .cl)),
    ([0xF7, 0xF1], .divEv (.reg .cx)),
    ([0xF6, 0xF9], .idivEb (.reg .cl)),
    ([0xF7, 0xF9], .idivEv (.reg .cx)),
    ([0xFE, 0xC1], .incEb (.reg .cl)),
    ([0xFE, 0xC9], .decEb (.reg .cl)),
    ([0xFF, 0xC1], .incEv (.reg .cx)),
    ([0xFF, 0xC9], .decEv (.reg .cx)),
    ([0xFF, 0xD1], .callEv (.reg .cx)),
    ([0xFF, 0x1F], .callFarMp (.base16 .bx .none)),
    ([0xFF, 0xE1], .jmpEv (.reg .cx))].all (decodesTo .i80386) = true := by
  decide +kernel

/-- Words 11: each laid out from the row of the opcode table and the encoding of its operands (R230, R242, R280). -/
theorem test_words_11 : [
    ([0xFF, 0x2F], Instr.jmpFarMp (.base16 .bx .none)),
    ([0xFF, 0xF1], .pushEv (.reg .cx)),
    ([0x0F, 0x00, 0xC1], .sldtEw (.reg .cx)),
    ([0x0F, 0x00, 0xC9], .strEw (.reg .cx)),
    ([0x0F, 0x00, 0xD1], .lldtEw (.reg .cx)),
    ([0x0F, 0x00, 0xD9], .ltrEw (.reg .cx)),
    ([0x0F, 0x00, 0xE1], .verrEw (.reg .cx)),
    ([0x0F, 0x00, 0xE9], .verwEw (.reg .cx)),
    ([0x0F, 0x01, 0x07], .sgdtMs (.base16 .bx .none)),
    ([0x0F, 0x01, 0x0F], .sidtMs (.base16 .bx .none)),
    ([0x0F, 0x01, 0x17], .lgdtMs (.base16 .bx .none)),
    ([0x0F, 0x01, 0x1F], .lidtMs (.base16 .bx .none)),
    ([0x0F, 0x01, 0xE1], .smswEw (.reg .cx)),
    ([0x0F, 0x01, 0xF1], .lmswEw (.reg .cx)),
    ([0x0F, 0x02, 0xD1], .larGvEw .dx (.reg .cx)),
    ([0x0F, 0x03, 0xD1], .lslGvEw .dx (.reg .cx)),
    ([0x0F, 0x20, 0xD9], .movRdCd .cx 3),
    ([0x0F, 0x21, 0xD9], .movRdDd .cx 3),
    ([0x0F, 0x22, 0xD9], .movCdRd 3 .cx),
    ([0x0F, 0x23, 0xD9], .movDdRd 3 .cx)].all (decodesTo .i80386) = true := by
  decide +kernel

/-- Words 12: each laid out from the row of the opcode table and the encoding of its operands (R230, R242, R280). -/
theorem test_words_12 : [
    ([0x0F, 0x85, 0x65, 0x87], Instr.jccJv .nz 0x8765),
    ([0x0F, 0x95, 0xC1], .setccEb .nz (.reg .cl)),
    ([0x0F, 0xA3, 0xD1], .btEvGv (.reg .cx) .dx),
    ([0x0F, 0xA4, 0xD1, 0x7F], .shldEvGvIb (.reg .cx) .dx 0x7F),
    ([0x0F, 0xA5, 0xD1], .shldEvGvCL (.reg .cx) .dx),
    ([0x0F, 0xAB, 0xD1], .btsEvGv (.reg .cx) .dx),
    ([0x0F, 0xAC, 0xD1, 0x7F], .shrdEvGvIb (.reg .cx) .dx 0x7F),
    ([0x0F, 0xAD, 0xD1], .shrdEvGvCL (.reg .cx) .dx),
    ([0x0F, 0xAF, 0xD1], .imulGvEv .dx (.reg .cx)),
    ([0x0F, 0xB2, 0x17], .lssGvMp .dx (.base16 .bx .none)),
    ([0x0F, 0xB3, 0xD1], .btrEvGv (.reg .cx) .dx),
    ([0x0F, 0xB4, 0x17], .lfsGvMp .dx (.base16 .bx .none)),
    ([0x0F, 0xB5, 0x17], .lgsGvMp .dx (.base16 .bx .none)),
    ([0x0F, 0xB6, 0xD1], .movzxGvEb .dx (.reg .cl)),
    ([0x0F, 0xB7, 0xD1], .movzxGvEw .dx (.reg .cx)),
    ([0x0F, 0xBA, 0xE1, 0x7F], .btEvIb (.reg .cx) 0x7F),
    ([0x0F, 0xBA, 0xE9, 0x7F], .btsEvIb (.reg .cx) 0x7F),
    ([0x0F, 0xBA, 0xF1, 0x7F], .btrEvIb (.reg .cx) 0x7F),
    ([0x0F, 0xBA, 0xF9, 0x7F], .btcEvIb (.reg .cx) 0x7F),
    ([0x0F, 0xBB, 0xD1], .btcEvGv (.reg .cx) .dx)].all (decodesTo .i80386) = true := by
  decide +kernel

/-- Words 13: each laid out from the row of the opcode table and the encoding of its operands (R230, R242, R280). -/
theorem test_words_13 : [
    ([0x0F, 0xBC, 0xD1], Instr.bsfGvEv .dx (.reg .cx)),
    ([0x0F, 0xBD, 0xD1], .bsrGvEv .dx (.reg .cx)),
    ([0x0F, 0xBE, 0xD1], .movsxGvEb .dx (.reg .cl)),
    ([0x0F, 0xBF, 0xD1], .movsxGvEw .dx (.reg .cx)),
    ([0x06], .pushES),
    ([0x07], .popES),
    ([0x0E], .pushCS),
    ([0x16], .pushSS),
    ([0x17], .popSS),
    ([0x1E], .pushDS),
    ([0x1F], .popDS),
    ([0x26], .prefixES),
    ([0x2E], .prefixCS),
    ([0x36], .prefixSS),
    ([0x3E], .prefixDS),
    ([0x64], .prefixFS),
    ([0x65], .prefixGS),
    ([0x66], .prefixOpSize),
    ([0x67], .prefixAdSize)].all (decodesTo .i80386) = true := by
  decide +kernel

/-- Words 14: each laid out from the row of the opcode table and the encoding of its operands (R230, R242, R280). -/
theorem test_words_14 : [
    ([0xF0], Instr.prefixLock),
    ([0xF2], .prefixRepNZ),
    ([0xF3], .prefixRepZ),
    ([0x27], .daa),
    ([0x2F], .das),
    ([0x37], .aaa),
    ([0x3F], .aas),
    ([0x60], .pusha),
    ([0x61], .popa),
    ([0x6C], .insb),
    ([0x6D], .insv),
    ([0x6E], .outsb),
    ([0x6F], .outsv),
    ([0x90], .nop),
    ([0x98], .cbw),
    ([0x99], .cwd),
    ([0x9B], .wait),
    ([0x9C], .pushf),
    ([0x9D], .popf),
    ([0x9E], .sahf)].all (decodesTo .i80386) = true := by
  decide +kernel

/-- Words 15: each laid out from the row of the opcode table and the encoding of its operands (R230, R242, R280). -/
theorem test_words_15 : [
    ([0x9F], Instr.lahf),
    ([0xA4], .movsb),
    ([0xA5], .movsv),
    ([0xA6], .cmpsb),
    ([0xA7], .cmpsv),
    ([0xAA], .stosb),
    ([0xAB], .stosv),
    ([0xAC], .lodsb),
    ([0xAD], .lodsv),
    ([0xAE], .scasb),
    ([0xAF], .scasv),
    ([0xC3], .ret),
    ([0xC9], .leave),
    ([0xCB], .retf),
    ([0xCC], .int3),
    ([0xCE], .into),
    ([0xCF], .iret),
    ([0xD6], .undefD6),
    ([0xD7], .xlat),
    ([0xEC], .inALDX)].all (decodesTo .i80386) = true := by
  decide +kernel

/-- Words 16: each laid out from the row of the opcode table and the encoding of its operands (R230, R242, R280). -/
theorem test_words_16 : [
    ([0xED], Instr.inEAXDX),
    ([0xEE], .outDXAL),
    ([0xEF], .outDXEAX),
    ([0xF1], .undefF1),
    ([0xF4], .hlt),
    ([0xF5], .cmc),
    ([0xF6, 0xC8], .undefF6r1),
    ([0xF8], .clc),
    ([0xF9], .stc),
    ([0xFA], .cli),
    ([0xFB], .sti),
    ([0xFC], .cld),
    ([0xFD], .std),
    ([0xFF, 0xF8], .undefFFr7),
    ([0x0F, 0x06], .clts),
    ([0x0F, 0xA0], .pushFS),
    ([0x0F, 0xA1], .popFS),
    ([0x0F, 0xA8], .pushGS),
    ([0x0F, 0xA9], .popGS),
    ([0x0F, 0xFF], .undefOther)].all (decodesTo .i80386) = true := by
  decide +kernel

/-- POP CS is an instruction of the 8086 and 8088 only (R252). -/
theorem test_word_popCS : decodesTo .i8086 ([0x0F], .popCS) = true := by
  decide +kernel

/-! ### One step each; the expected results are those of 95_test_vectors.md or of the example in the rule -/

/-- Vector T1. -/
theorem test_add_overflow :
    check .i80286 [0x04, 0x50] (setR .ax 0x50)
      (fun t => t.gpr.ax == 0xA0 && flagsAre t [0, 1, 0, 0, 1, 1]) = true := by
  decide +kernel

/-- Vector T1. -/
theorem test_add_dword_carry :
    check .i80386 [0x66, 0x01, 0xD8] (setR .ax 0xFFFFFFFF ∘ setR .bx 0xFFFFFFFF)
      (fun t => t.gpr.ax == 0xFFFFFFFE && flagsAre t [1, 0, 1, 0, 1, 0]) = true := by
  decide +kernel

/-- Vector T1. -/
theorem test_adc :
    check .i80286 [0x14, 0xFF] (setR .ax 0xFF ∘ setPs 0x3)
      (fun t => t.gpr.ax == 0xFF && flagsAre t [1, 1, 1, 0, 1, 0]) = true := by
  decide +kernel

/-- Vector T1. -/
theorem test_inc_keeps_carry :
    check .i80286 [0x40] (setR .ax 0xFFFF ∘ setPs 0x3)
      (fun t => t.gpr.ax == 0x0 && flagsAre t [1, 1, 1, 1, 0, 0]) = true := by
  decide +kernel

/-- Vector T2. -/
theorem test_sub_borrow :
    check .i80286 [0x2C, 0x01] (id)
      (fun t => t.gpr.ax == 0xFF && flagsAre t [1, 1, 1, 0, 1, 0]) = true := by
  decide +kernel

/-- Vector T2. -/
theorem test_sub_overflow :
    check .i80286 [0x2C, 0x01] (setR .ax 0x80)
      (fun t => t.gpr.ax == 0x7F && flagsAre t [0, 0, 1, 0, 0, 1]) = true := by
  decide +kernel

/-- Vector T2. -/
theorem test_sbb :
    check .i80286 [0x1C, 0xFF] (setPs 0x3)
      (fun t => t.gpr.ax == 0x0 && flagsAre t [1, 1, 1, 1, 0, 0]) = true := by
  decide +kernel

/-- Vector T2. -/
theorem test_cmp :
    check .i80286 [0x3C, 0x80] (setR .ax 0x7F)
      (fun t => t.gpr.ax == 0x7F && flagsAre t [1, 1, 0, 0, 1, 1]) = true := by
  decide +kernel

/-- Vector T2. -/
theorem test_neg :
    check .i80286 [0xF6, 0xD8] (setR .ax 0x80)
      (fun t => t.gpr.ax == 0x80 && flagsAre t [1, 0, 0, 0, 1, 1]) = true := by
  decide +kernel

/-- Vector T2. -/
theorem test_dec :
    check .i80286 [0xFE, 0xC8] (setR .ax 0x80 ∘ setPs 0x3)
      (fun t => t.gpr.ax == 0x7F && flagsAre t [1, 0, 1, 0, 0, 1]) = true := by
  decide +kernel

/-- Vector T3. -/
theorem test_mul_word :
    check .i80286 [0xF7, 0xE3] (setR .ax 0xFFFF ∘ setR .bx 0xFFFF)
      (fun t => t.gpr.ax == 0x1 && flagsAre t [1, 0, 0, 0, 0, 1]) = true := by
  decide +kernel

/-- Vector T3. -/
theorem test_imul_byte :
    check .i80286 [0xF6, 0xEB] (setR .ax 0x80 ∘ setR .bx 0xFF)
      (fun t => t.gpr.ax == 0x80 && flagsAre t [1, 0, 0, 0, 0, 1]) = true := by
  decide +kernel

/-- Vector T3. -/
theorem test_imul_three :
    check .i80286 [0x6B, 0xC3, 0x03] (setR .bx 0x4000)
      (fun t => t.gpr.ax == 0xC000 && flagsAre t [1, 0, 0, 0, 0, 1]) = true := by
  decide +kernel

/-- Vector T3. -/
theorem test_div :
    check .i80286 [0xF7, 0xF3] (setR .ax 0x64 ∘ setR .bx 0x7)
      (fun t => t.gpr.ax == 0xE && t.gpr.dx == 2) = true := by
  decide +kernel

/-- Vector T3. -/
theorem test_div_by_zero :
    check .i80286 [0xF7, 0xF3] (setR .ax 0x1)
      (fun t => t.nFault == some 0 && wordAt t 0xFFFA == 0x100) = true := by
  decide +kernel

/-- Vector T3. -/
theorem test_idiv :
    check .i80286 [0xF6, 0xFB] (setR .ax 0xFFF9 ∘ setR .bx 0x2)
      (fun t => t.gpr.ax == 0xFFFD) = true := by
  decide +kernel

/-- Vector T3. -/
theorem test_idiv_overflow :
    check .i80286 [0xF6, 0xFB] (setR .ax 0x8000 ∘ setR .bx 0xFF)
      (fun t => t.nFault == some 0) = true := by
  decide +kernel

/-- Vector T4. -/
theorem test_daa :
    check .i80286 [0x27] (setR .ax 0x9A ∘ setPs 0x2)
      (fun t => t.gpr.ax == 0x0 && t.flag .cf && t.flag .af) = true := by
  decide +kernel

/-- Vector T4. -/
theorem test_das :
    check .i80286 [0x2F] (setR .ax 0x5 ∘ setPs 0x12)
      (fun t => t.gpr.ax == 0xFF && t.flag .cf && t.flag .af) = true := by
  decide +kernel

/-- Vector T4. -/
theorem test_aaa :
    check .i80286 [0x37] (setR .ax 0xB ∘ setPs 0x2)
      (fun t => t.gpr.ax == 0x101 && t.flag .cf && t.flag .af) = true := by
  decide +kernel

/-- Vector T4. -/
theorem test_aas :
    check .i80286 [0x3F] (setR .ax 0x1FF ∘ setPs 0x2)
      (fun t => t.gpr.ax == 0x9 && t.flag .cf && t.flag .af) = true := by
  decide +kernel

/-- Vector T4. -/
theorem test_aam :
    check .i80286 [0xD4, 0x0A] (setR .ax 0x3F)
      (fun t => t.gpr.ax == 0x603) = true := by
  decide +kernel

/-- Vector T4. -/
theorem test_aad :
    check .i80286 [0xD5, 0x0A] (setR .ax 0x603)
      (fun t => t.gpr.ax == 0x3F) = true := by
  decide +kernel

/-- Vector T5. -/
theorem test_and :
    check .i80286 [0x25, 0x00, 0xFF] (setR .ax 0xF0F0 ∘ setPs 0x8D7)
      (fun t => t.gpr.ax == 0xF000 && flagsAre t [0, 1, 1, 0, 1, 0]) = true := by
  decide +kernel

/-- Vector T5. -/
theorem test_or :
    check .i80286 [0x0C, 0x80] (setR .ax 0x1 ∘ setPs 0x8D7)
      (fun t => t.gpr.ax == 0x81 && flagsAre t [0, 1, 0, 0, 1, 0]) = true := by
  decide +kernel

/-- Vector T5. -/
theorem test_xor :
    check .i80286 [0x31, 0xC0] (setR .ax 0x7701 ∘ setPs 0x8D7)
      (fun t => t.gpr.ax == 0x0 && flagsAre t [0, 1, 0, 1, 0, 0]) = true := by
  decide +kernel

/-- Vector T5. -/
theorem test_test :
    check .i80286 [0xA8, 0x80] (setR .ax 0x7F ∘ setPs 0x8D7)
      (fun t => t.gpr.ax == 0x7F && flagsAre t [0, 1, 1, 1, 0, 0]) = true := by
  decide +kernel

/-- Vector T5. -/
theorem test_not :
    check .i80286 [0xF6, 0xD0] (setR .ax 0xF ∘ setPs 0x8D7)
      (fun t => t.gpr.ax == 0xF0 && flagsAre t [1, 1, 1, 1, 1, 1]) = true := by
  decide +kernel

/-- Vector T6. -/
theorem test_shl_one :
    check .i80386 [0xD0, 0xE0] (setR .ax 0x81)
      (fun t => t.gpr.ax == 0x2 && flagsAre t [1, 0, 0, 0, 0, 1]) = true := by
  decide +kernel

/-- Vector T6. -/
theorem test_shl_beyond_width :
    check .i80386 [0xC0, 0xE0, 0x09] (setR .ax 0xFF)
      (fun t => t.gpr.ax == 0x0 && flagsAre t [0, 1, 0, 1, 0, 0]) = true := by
  decide +kernel

/-- Vector T7. -/
theorem test_shr_eight :
    check .i80386 [0xC0, 0xE8, 0x08] (setR .ax 0x80)
      (fun t => t.gpr.ax == 0x0 && flagsAre t [1, 1, 0, 1, 0, 1]) = true := by
  decide +kernel

/-- Vector T8. -/
theorem test_sar_twenty :
    check .i80386 [0xC0, 0xF8, 0x14] (setR .ax 0x80)
      (fun t => t.gpr.ax == 0xFF && flagsAre t [1, 1, 0, 0, 1, 0]) = true := by
  decide +kernel

/-- Vector T9. -/
theorem test_rol_seventeen :
    check .i80386 [0xC1, 0xC0, 0x11] (setR .ax 0x8001 ∘ setPs 0x42)
      (fun t => t.gpr.ax == 0x3 && flagsAre t [1, 0, 0, 1, 0, 1]) = true := by
  decide +kernel

/-- Vector T9. -/
theorem test_ror_one :
    check .i80386 [0xD0, 0xC8] (setR .ax 0x1 ∘ setPs 0x42)
      (fun t => t.gpr.ax == 0x80 && flagsAre t [1, 0, 0, 1, 0, 1]) = true := by
  decide +kernel

/-- Vector T9. -/
theorem test_rcl_two :
    check .i80386 [0xC0, 0xD0, 0x02] (setR .ax 0x81 ∘ setPs 0x42)
      (fun t => t.gpr.ax == 0x5 && flagsAre t [0, 0, 0, 1, 0, 0]) = true := by
  decide +kernel

/-- Vector T9. -/
theorem test_rcr_nine :
    check .i80386 [0xC0, 0xD8, 0x09] (setR .ax 0x1 ∘ setPs 0x43)
      (fun t => t.gpr.ax == 0x1 && flagsAre t [1, 0, 0, 1, 0, 0]) = true := by
  decide +kernel

/-- Vector T10. -/
theorem test_shld :
    check .i80386 [0x0F, 0xA4, 0xD8, 0x04] (setR .ax 0x1234 ∘ setR .bx 0xABCD)
      (fun t => t.gpr.ax == 0x234A && flagsAre t [1, 0, 0, 0, 0, 0]) = true := by
  decide +kernel

/-- Vector T10. -/
theorem test_shrd :
    check .i80386 [0x0F, 0xAC, 0xD8, 0x04] (setR .ax 0x1234 ∘ setR .bx 0xABCD)
      (fun t => t.gpr.ax == 0xD123 && flagsAre t [0, 0, 0, 0, 1, 1]) = true := by
  decide +kernel

/-- Vector T10. -/
theorem test_bt_negative_offset :
    check .i80386 [0x0F, 0xA3, 0x07] (place 0xFE [0x00, 0x80] ∘ setR .bx 0x100 ∘ setR .ax 0xFFFF)
      (fun t => t.gpr.ax == 0xFFFF && flagsAre t [1, 0, 0, 0, 0, 0]) = true := by
  decide +kernel

/-- Vector T10. -/
theorem test_bts :
    check .i80386 [0x0F, 0xBA, 0xE8, 0x00] (setPs 0x3)
      (fun t => t.gpr.ax == 0x1 && flagsAre t [0, 0, 0, 0, 0, 0]) = true := by
  decide +kernel

/-- Vector T10. -/
theorem test_btr :
    check .i80386 [0x0F, 0xBA, 0xF0, 0x00] (setR .ax 0x1)
      (fun t => t.gpr.ax == 0x0 && flagsAre t [1, 0, 0, 0, 0, 0]) = true := by
  decide +kernel

/-- Vector T10. -/
theorem test_btc :
    check .i80386 [0x0F, 0xBA, 0xF8, 0x0F] (setPs 0x3)
      (fun t => t.gpr.ax == 0x8000 && flagsAre t [0, 0, 0, 0, 0, 0]) = true := by
  decide +kernel

/-- Vector T10. -/
theorem test_bsf :
    check .i80386 [0x0F, 0xBC, 0xC3] (setR .bx 0x10)
      (fun t => t.gpr.ax == 0x4 && flagsAre t [0, 0, 0, 0, 0, 0]) = true := by
  decide +kernel

/-- Vector T10. -/
theorem test_bsr :
    check .i80386 [0x0F, 0xBD, 0xC3] (setR .bx 0x110)
      (fun t => t.gpr.ax == 0x8 && flagsAre t [0, 0, 0, 0, 0, 0]) = true := by
  decide +kernel

/-- Vector T10. -/
theorem test_setl :
    check .i80386 [0x0F, 0x9C, 0xC0] (setPs 0x82)
      (fun t => t.gpr.ax == 0x1 && flagsAre t [0, 0, 0, 0, 1, 0]) = true := by
  decide +kernel

/-- Vector T11. -/
theorem test_mov_byte_keeps_rest :
    check .i80386 [0xB4, 0x12] (setR .ax 0xAABBCCDD)
      (fun t => t.gpr.ax == 0xAABB12DD) = true := by
  decide +kernel

/-- Vector T11. -/
theorem test_mov_memory_order :
    check .i80286 [0xC7, 0x06, 0x00, 0x02, 0x34, 0x12] (id)
      (fun t => bytesAre t 0x200 [0x34, 0x12]) = true := by
  decide +kernel

/-- Vector T11. -/
theorem test_mov_segment :
    check .i80286 [0x8E, 0xD8] (setR .ax 0x1234)
      (fun t => t.ds.sel == 0x1234 && t.ds.base == 0x12340) = true := by
  decide +kernel

/-- Vector T11. -/
theorem test_xchg :
    check .i80286 [0x87, 0xD9] (setR .cx 0x1 ∘ setR .bx 0x2)
      (fun t => t.gpr.cx == 2 && t.gpr.bx == 1) = true := by
  decide +kernel

/-- Vector T11. -/
theorem test_lea :
    check .i80286 [0x8D, 0x47, 0xFE] (setR .bx 0x1)
      (fun t => t.gpr.ax == 0xFFFF) = true := by
  decide +kernel

/-- Vector T16. -/
theorem test_lea_register :
    check .i80286 [0x8D, 0xC0] (id)
      (fun t => t.nFault == some 6) = true := by
  decide +kernel

/-- Vector T11. -/
theorem test_les :
    check .i80286 [0xC4, 0x1E, 0x00, 0x02] (place 0x200 [0x00, 0x01, 0x00, 0x20])
      (fun t => t.gpr.bx == 0x100 && t.es.sel == 0x2000) = true := by
  decide +kernel

/-- By R315. -/
theorem test_lds :
    check .i80286 [0xC5, 0x1E, 0x00, 0x02] (place 0x200 [0x00, 0x01, 0x00, 0x20])
      (fun t => t.gpr.bx == 0x100 && t.ds.base == 0x20000) = true := by
  decide +kernel

/-- By R315. -/
theorem test_lss_takes_interrupts :
    check .i80386 [0x0F, 0xB2, 0x1E, 0x00, 0x02] (place 0x200 [0x00, 0x01, 0x00, 0x20])
      (fun t => t.ss.sel == 0x2000 && !t.opFlags.noIntr) = true := by
  decide +kernel

/-- By R315. -/
theorem test_lfs :
    check .i80386 [0x0F, 0xB4, 0x1E, 0x00, 0x02] (place 0x200 [0x00, 0x01, 0x00, 0x20])
      (fun t => t.fs.sel == 0x2000 && t.gpr.bx == 0x100) = true := by
  decide +kernel

/-- By R315. -/
theorem test_lgs :
    check .i80386 [0x0F, 0xB5, 0x1E, 0x00, 0x02] (place 0x200 [0x00, 0x01, 0x00, 0x20])
      (fun t => t.gs.sel == 0x2000 && t.gpr.bx == 0x100) = true := by
  decide +kernel

/-- Vector T11. -/
theorem test_xlat :
    check .i80286 [0xD7] (setR .bx 0x200 ∘ setR .ax 0x5 ∘ place 0x205 [0x7A])
      (fun t => t.gpr.ax == 0x7A) = true := by
  decide +kernel

/-- Vector T11. -/
theorem test_push_wraps :
    check .i80286 [0x50] (setR .sp 0x0 ∘ setR .ax 0xBEEF)
      (fun t => bytesAre t 0xFFFE [0xEF, 0xBE] && t.gpr.sp == 0xFFFE) = true := by
  decide +kernel

/-- Vector T11. -/
theorem test_push_sp_8086 :
    check .i8086 [0x54] (setR .sp 0x200)
      (fun t => wordAt t 0x1FE == 0x1FE) = true := by
  decide +kernel

/-- Vector T11. -/
theorem test_pop_ss :
    check .i80286 [0x17] (setR .sp 0x1FE ∘ place 0x1FE [0x00, 0x30])
      (fun t => t.ss.base == 0x30000 && t.gpr.sp == 0x200 && t.opFlags.noIntr) = true := by
  decide +kernel

/-- Vector T16. -/
theorem test_pop_cs_8086 :
    check .i8086 [0x0F] (place 0x0 [0x00, 0x20])
      (fun t => t.cs.sel == 0x2000 && t.pc == 0x101) = true := by
  decide +kernel

/-- By R325. -/
theorem test_pusha_fifth_is_old_sp :
    check .i80286 [0x60] (setR .sp 0x100 ∘ setR .di 0x77)
      (fun t => t.gpr.sp == 0xF0 && wordAt t 0xF6 == 0x100 && wordAt t 0xF0 == 0x77) = true := by
  decide +kernel

/-- By R326. -/
theorem test_popa :
    check .i80286 [0x61] (setR .sp 0xF0 ∘ place 0xF0 [0x77, 0x00, 0x02, 0x00, 0x03, 0x00, 0x04, 0x00, 0x05, 0x00, 0x06, 0x00, 0x07, 0x00, 0x08, 0x00])
      (fun t => t.gpr == ⟨8, 7, 6, 5, 0x100, 3, 2, 0x77⟩) = true := by
  decide +kernel

/-- Vector T11. -/
theorem test_enter :
    check .i80286 [0xC8, 0x10, 0x00, 0x00] (setR .sp 0x300 ∘ setR .bp 0x200)
      (fun t => wordAt t 0x2FE == 0x200 && t.gpr.bp == 0x2FE && t.gpr.sp == 0x2EE) = true := by
  decide +kernel

/-- Vector T11. -/
theorem test_leave :
    check .i80286 [0xC9] (setR .bp 0x2FE ∘ place 0x2FE [0x00, 0x02])
      (fun t => t.gpr.bp == 0x200 && t.gpr.sp == 0x300) = true := by
  decide +kernel

/-- Vector T11. -/
theorem test_cbw :
    check .i80286 [0x98] (setR .ax 0x80)
      (fun t => t.gpr.ax == 0xFF80) = true := by
  decide +kernel

/-- Vector T11. -/
theorem test_cwd :
    check .i80286 [0x99] (setR .ax 0x8000)
      (fun t => t.gpr.dx == 0xFFFF) = true := by
  decide +kernel

/-- Vector T11. -/
theorem test_movzx :
    check .i80386 [0x0F, 0xB6, 0xC3] (setR .bx 0xFF)
      (fun t => t.gpr.ax == 0xFF) = true := by
  decide +kernel

/-- Vector T11. -/
theorem test_movsx :
    check .i80386 [0x0F, 0xBE, 0xC3] (setR .bx 0xFF)
      (fun t => t.gpr.ax == 0xFFFF) = true := by
  decide +kernel

/-- Vector T11. -/
theorem test_in :
    check .i80286 [0xE4, 0x60] (fun s => { s with portAnswers := [0x5A] })
      (fun t => t.gpr.ax == 0x5A && t.portLog == [.read 0x60 1 0x5A]) = true := by
  decide +kernel

/-- Vector T11. -/
theorem test_out :
    check .i80286 [0xE6, 0x20] (setR .ax 0x20)
      (fun t => t.portLog == [.write 0x20 1 0x20]) = true := by
  decide +kernel

/-- Vector T11. -/
theorem test_word_wraps_8086 :
    check .i8086 [0xA1, 0xFF, 0xFF] (place 0xFFFF [0x12] ∘ place 0x0 [0x34])
      (fun t => t.gpr.ax == 0x3412) = true := by
  decide +kernel

/-- Vector T11. -/
theorem test_word_beyond_limit :
    check .i80286 [0xA1, 0xFF, 0xFF] (id)
      (fun t => t.nFault == some 13 && wordAt t 0xFFFA == 0x100) = true := by
  decide +kernel

/-- Vector T13. -/
theorem test_jmp_self :
    check .i80286 [0xEB, 0xFE] (id)
      (fun t => t.pc == 0x100) = true := by
  decide +kernel

/-- Vector T13. -/
theorem test_jmp_wraps :
    check .i80286 [0xE9, 0x00, 0xFF] (id)
      (fun t => t.pc == 3) = true := by
  decide +kernel

/-- Vector T13. -/
theorem test_jcc_taken :
    check .i80286 [0x7C, 0x05] (setPs 0x82)
      (fun t => t.pc == 0x107) = true := by
  decide +kernel

/-- Vector T13. -/
theorem test_jcc_not_taken :
    check .i80286 [0x74, 0x05] (setPs 0x2)
      (fun t => t.pc == 0x102) = true := by
  decide +kernel

/-- Vector T13. -/
theorem test_jcxz :
    check .i80286 [0xE3, 0x10] (id)
      (fun t => t.pc == 0x112) = true := by
  decide +kernel

/-- Vector T13. -/
theorem test_loop_wraps :
    check .i80286 [0xE2, 0xFE] (id)
      (fun t => t.pc == 0x100 && t.gpr.cx == 0xFFFF) = true := by
  decide +kernel

/-- Vector T13. -/
theorem test_loopz_stops :
    check .i80286 [0xE1, 0x10] (setR .cx 0x2)
      (fun t => t.pc == 0x102 && t.gpr.cx == 1) = true := by
  decide +kernel

/-- By R456. -/
theorem test_loopnz :
    check .i80286 [0xE0, 0x10] (setR .cx 0x2)
      (fun t => t.pc == 0x112 && t.gpr.cx == 1) = true := by
  decide +kernel

/-- Vector T13. -/
theorem test_call :
    check .i80286 [0xE8, 0x10, 0x00] (setR .sp 0x200)
      (fun t => t.pc == 0x113 && wordAt t 0x1FE == 0x103) = true := by
  decide +kernel

/-- Vector T13. -/
theorem test_ret_iw :
    check .i80286 [0xC2, 0x04, 0x00] (setR .sp 0x1FE ∘ place 0x1FE [0x03, 0x01])
      (fun t => t.pc == 0x103 && t.gpr.sp == 0x204) = true := by
  decide +kernel

/-- The example of R461. -/
theorem test_jmp_far :
    check .i80286 [0xEA, 0x00, 0x7C, 0x00, 0x00] (id)
      (fun t => t.pc == 0x7C00 && t.cs.sel == 0) = true := by
  decide +kernel

/-- The example of R462. -/
theorem test_call_far :
    check .i80286 [0x9A, 0x00, 0x01, 0x00, 0x20] (setR .sp 0x400)
      (fun t => t.pc == 0x100 && t.cs.base == 0x20000 && wordAt t 0x3FC == 0x105) = true := by
  decide +kernel

/-- The example of R463. -/
theorem test_retf :
    check .i80286 [0xCB] (setR .sp 0x200 ∘ place 0x200 [0x15, 0x00, 0x00, 0x10])
      (fun t => t.pc == 0x15 && t.cs.sel == 0x1000 && t.gpr.sp == 0x204) = true := by
  decide +kernel

/-- Vector T13. -/
theorem test_bound_error :
    check .i80286 [0x62, 0x06, 0x00, 0x02] (setR .sp 0x400 ∘ setR .ax 0x5 ∘ place 0x200 [0x00, 0x00, 0x04, 0x00])
      (fun t => t.nFault == some 5 && wordAt t 0x3FA == 0x100) = true := by
  decide +kernel

/-- Vector T20. -/
theorem test_int :
    check .i80286 [0xCD, 0x21] (setPs 0x202 ∘ setR .sp 0x400 ∘ place 0x84 [0x60, 0x14, 0xA0, 0x00])
      (fun t => t.cs.base == 0xA00 && t.pc == 0x1460 && wordAt t 0x3FE == 0x202 && wordAt t 0x3FA == 0x102 && t.getPS == 2) = true := by
  decide +kernel

/-- Vector T13. -/
theorem test_int3 :
    check .i80286 [0xCC] (setR .sp 0x400 ∘ place 0xC [0x77, 0x07, 0x00, 0x00])
      (fun t => t.pc == 0x777 && wordAt t 0x3FA == 0x101) = true := by
  decide +kernel

/-- Vector T13. -/
theorem test_into_without_overflow :
    check .i80286 [0xCE] (id)
      (fun t => t.pc == 0x101) = true := by
  decide +kernel

/-- By R490. -/
theorem test_iret :
    check .i80286 [0xCF] (setR .sp 0x200 ∘ place 0x200 [0x15, 0x00, 0x00, 0x10, 0x02, 0x02] ∘ fun s => { s with nFault := some 0 })
      (fun t => t.pc == 0x15 && t.cs.sel == 0x1000 && t.getPS == 0x202 && t.nFault == none) = true := by
  decide +kernel

/-- Vector T14. -/
theorem test_movs_down :
    check .i80286 [0xA5] (setPs 0x402 ∘ setR .si 0x180 ∘ setR .di 0x200 ∘ place 0x180 [0x41])
      (fun t => bytesAre t 0x200 [0x41] && t.gpr.si == 0x17E && t.gpr.di == 0x1FE) = true := by
  decide +kernel

/-- Vector T14. -/
theorem test_rep_with_count_zero :
    check .i80286 [0xF3, 0xA4] (setR .si 0x180)
      (fun t => t.pc == 0x102 && t.gpr.si == 0x180) = true := by
  decide +kernel

/-- Vector T14. -/
theorem test_rep_goes_back :
    check .i80286 [0xF3, 0xA4] (setR .si 0x180 ∘ setR .cx 0x3)
      (fun t => t.pc == 0x100 && t.gpr.cx == 2) = true := by
  decide +kernel

/-- Vector T14. -/
theorem test_cmps_ends :
    check .i80286 [0xF3, 0xA6] (setR .si 0x180 ∘ setR .di 0x200 ∘ setR .cx 0x4 ∘ place 0x180 [0x61])
      (fun t => t.pc == 0x102 && t.gpr.cx == 3 && !t.flag .zf) = true := by
  decide +kernel

/-- Vector T14. -/
theorem test_scas :
    check .i80286 [0xF2, 0xAE] (setR .di 0x200 ∘ setR .cx 0xFFFF)
      (fun t => t.pc == 0x102 && t.gpr.di == 0x201 && t.flag .zf) = true := by
  decide +kernel

/-- Vector T14. -/
theorem test_lods_override :
    check .i80286 [0x2E, 0xAC] (setR .si 0x200 ∘ place 0x200 [0x41] ∘ fun s => { s with ds.base := 0x5000 })
      (fun t => t.gpr.ax == 0x41) = true := by
  decide +kernel

/-- Vector T14. -/
theorem test_stos_no_override :
    check .i80286 [0x2E, 0xAA] (setR .ax 0x41 ∘ setR .di 0x200 ∘ fun s => { s with es.base := 0x5000 })
      (fun t => bytesAre t 0x5200 [0x41]) = true := by
  decide +kernel

/-- Vector T14. -/
theorem test_ins :
    check .i80286 [0x6C] (setR .di 0x200 ∘ setR .dx 0x1F0 ∘ fun s => { s with portAnswers := [0x34] })
      (fun t => bytesAre t 0x200 [0x34] && t.gpr.di == 0x201) = true := by
  decide +kernel

/-- Vector T14. -/
theorem test_outs :
    check .i80286 [0x6E] (setR .si 0x200 ∘ setR .dx 0x378 ∘ place 0x200 [0x55])
      (fun t => t.portLog == [.write 0x378 1 0x55]) = true := by
  decide +kernel

/-- Vector T15. -/
theorem test_pushf_8086 :
    check .i8086 [0x9C] (setR .sp 0x400)
      (fun t => wordAt t 0x3FE == 0xF002) = true := by
  decide +kernel

/-- Vector T15. -/
theorem test_popf_real_286 :
    check .i80286 [0x9D] (setR .sp 0x400 ∘ place 0x400 [0xFF, 0xFF])
      (fun t => t.getPS == 0x0FD7) = true := by
  decide +kernel

/-- Vector T15. -/
theorem test_lahf :
    check .i80286 [0x9F] (setPs 0x3)
      (fun t => t.gpr.ax == 0x300) = true := by
  decide +kernel

/-- Vector T15. -/
theorem test_sahf_keeps_of :
    check .i80286 [0x9E] (setR .ax 0xFF00 ∘ setPs 0x802)
      (fun t => t.getPS == 0x8D7) = true := by
  decide +kernel

/-- Vector T15. -/
theorem test_cmc :
    check .i80286 [0xF5] (setPs 0x3)
      (fun t => !t.flag .cf) = true := by
  decide +kernel

/-- Vector T15. -/
theorem test_stc :
    check .i80286 [0xF9] (id)
      (fun t => t.flag .cf) = true := by
  decide +kernel

/-- By R559. -/
theorem test_clc :
    check .i80286 [0xF8] (setPs 0x3)
      (fun t => !t.flag .cf) = true := by
  decide +kernel

/-- Vector T15. -/
theorem test_std :
    check .i80286 [0xFD] (id)
      (fun t => t.direct psDF) = true := by
  decide +kernel

/-- By R558. -/
theorem test_cld :
    check .i80286 [0xFC] (setPs 0x402)
      (fun t => !t.direct psDF) = true := by
  decide +kernel

/-- By R556. -/
theorem test_cli :
    check .i80286 [0xFA] (setPs 0x202)
      (fun t => !t.direct psIF) = true := by
  decide +kernel

/-- By R557. -/
theorem test_sti_holds_off :
    check .i80286 [0xFB] (id)
      (fun t => t.direct psIF && t.opFlags.noIntr) = true := by
  decide +kernel

/-- Vector T15. -/
theorem test_lgdt_24_bits :
    check .i80386 [0x0F, 0x01, 0x16, 0x00, 0x06] (place 0x600 [0xFF, 0x03, 0x00, 0x10, 0x02, 0x7F])
      (fun t => t.gdtr == ⟨0x21000, 0x3FF⟩) = true := by
  decide +kernel

/-- Vector T15. -/
theorem test_lidt_32_bits :
    check .i80386 [0x66, 0x0F, 0x01, 0x1E, 0x00, 0x06] (place 0x600 [0xFF, 0x03, 0x00, 0x10, 0x02, 0x7F])
      (fun t => t.idtr == ⟨0x7F021000, 0x3FF⟩) = true := by
  decide +kernel

/-- Vector T15. -/
theorem test_sgdt_286 :
    check .i80286 [0x0F, 0x01, 0x06, 0x00, 0x06] (fun s => { s with gdtr := ⟨0x21000, 0x3FF⟩ })
      (fun t => bytesAre t 0x600 [0xFF, 3, 0, 0x10, 2, 0xFF]) = true := by
  decide +kernel

/-- Vector T15. -/
theorem test_sidt_286 :
    check .i80286 [0x0F, 0x01, 0x0E, 0x00, 0x06] (id)
      (fun t => bytesAre t 0x600 [0xFF, 3, 0, 0, 0, 0xFF]) = true := by
  decide +kernel

/-- Vector T15. -/
theorem test_smsw_286 :
    check .i80286 [0x0F, 0x01, 0xE0] (id)
      (fun t => t.gpr.ax == 0xFFF0) = true := by
  decide +kernel

/-- Vector T15. -/
theorem test_lmsw_sets_pe :
    check .i80286 [0x0F, 0x01, 0xF0] (setR .ax 0x1)
      (fun t => t.protectedMode) = true := by
  decide +kernel

/-- Vector T15. -/
theorem test_clts :
    check .i80286 [0x0F, 0x06] (fun s => { s with cr0 := 0xFFF8 })
      (fun t => t.cr0 == 0xFFF0) = true := by
  decide +kernel

/-- Vector T15. -/
theorem test_mov_from_cr0 :
    check .i80386 [0x0F, 0x20, 0xC0] (id)
      (fun t => t.gpr.ax == 0x7FFFFFE0) = true := by
  decide +kernel

/-- Vector T15. -/
theorem test_mov_cr0_paging_alone :
    check .i80386 [0x0F, 0x22, 0xC0] (setR .ax 0x80000000)
      (fun t => t.nFault == some 13) = true := by
  decide +kernel

/-- Vector T15. -/
theorem test_mov_cr1 :
    check .i80386 [0x0F, 0x22, 0xC8] (id)
      (fun t => t.nFault == some 6) = true := by
  decide +kernel

/-- Vector T15. -/
theorem test_mov_dr0 :
    check .i80386 [0x0F, 0x23, 0xC0] (setR .ax 0x12345678)
      (fun t => t.dr0 == 0x12345678) = true := by
  decide +kernel

/-- Vector T15. -/
theorem test_wait_with_task_switched :
    check .i80286 [0x9B] (fun s => { s with cr0 := 0xFFFA })
      (fun t => t.nFault == some 7) = true := by
  decide +kernel

/-- Vector T15. -/
theorem test_esc_length :
    check .i80286 [0xD9, 0x06, 0x00, 0x10] (id)
      (fun t => t.pc == 0x104) = true := by
  decide +kernel

/-- Vector T15. -/
theorem test_lock_and_nop :
    check .i80286 [0xF0, 0x90] (id)
      (fun t => t.pc == 0x102) = true := by
  decide +kernel

/-- By R590. -/
theorem test_hlt :
    check .i80286 [0xF4] (id)
      (fun t => t.intFlags.halt && t.pc == 0x101) = true := by
  decide +kernel

/-- Vector T16. -/
theorem test_undefined_286 :
    check .i80286 [0xD6] (id)
      (fun t => t.nFault == some 6) = true := by
  decide +kernel

/-- Vector T16. -/
theorem test_no_size_prefix_286 :
    check .i80286 [0x66, 0x90] (id)
      (fun t => t.nFault == some 6) = true := by
  decide +kernel

/-- Vector T16. -/
theorem test_dword_inc :
    check .i80386 [0x66, 0x40] (setR .ax 0xFFFF)
      (fun t => t.gpr.ax == 0x10000) = true := by
  decide +kernel

/-- Vector T24. -/
theorem test_single_step :
    check .i80286 [0x90] (setR .sp 0x400 ∘ setPs 0x102 ∘ place 0x4 [0x00, 0x03, 0x00, 0x00])
      (fun t => t.pc == 0x300 && wordAt t 0x3FE == 0x102 && wordAt t 0x3FA == 0x101 && t.getPS == 2) = true := by
  decide +kernel

/-- Vector T24. -/
theorem test_no_step_trap_after_pop_ss :
    check .i80286 [0x17] (setR .sp 0x400 ∘ setPs 0x102)
      (fun t => t.pc == 0x101) = true := by
  decide +kernel

/-- Vector T26. -/
theorem test_triple_fault :
    check .i80286 [0xF7, 0xF3] (fun s => { s with idtr := ⟨0, 0⟩, gpr.sp := 0x400 })
      (fun t => t.pc == 0xFFF0 && t.cs.sel == 0xF000) = true := by
  decide +kernel

/-- Vector T21. -/
theorem test_interrupt :
    check .i8086 [0x90] (setR .sp 0x400 ∘ setPs 0x202 ∘ place 0x20 [0x00, 0x02, 0x00, 0x00] ∘ fun s => { s with intFlags := ⟨true, false⟩, intAcks := [8] })
      (fun t => t.pc == 0x200 && wordAt t 0x3FE == 0xF202 && wordAt t 0x3FA == 0x100 && t.intFlags == ⟨false, false⟩) = true := by
  decide +kernel

/-- Vector T40. -/
theorem test_ring0_load_sets_accessed :
    check .i80286 [0x8E, 0xD8] (setR .ax 0x10 ∘ place 0x1015 [0x92] ∘ ring0 ∘ tables)
      (fun t => t.ds == flat 0x10 0x9300 0x1010 0 && bytesAre t 0x1015 [0x93]) = true := by
  decide +kernel

/-- Vector T41. -/
theorem test_ring0_beyond_table :
    check .i80286 [0x8E, 0xD8] (setR .ax 0x43 ∘ ring0 ∘ tables)
      (fun t => faultSeen t 13 0x40) = true := by
  decide +kernel

/-- Vector T43. -/
theorem test_ring3_dpl_refused :
    check .i80286 [0x8E, 0xD8] (setR .ax 0x10 ∘ ring3 ∘ tables)
      (fun t => faultSeen t 13 0x10 && t.cpl == 0) = true := by
  decide +kernel

/-- Vector T44. -/
theorem test_ring3_conforming_loaded :
    check .i80286 [0x8E, 0xD8] (setR .ax 0x30 ∘ ring3 ∘ tables)
      (fun t => t.ds.sel == 0x30 && t.nFault == none) = true := by
  decide +kernel

/-- Vector T46. -/
theorem test_ring0_null_ss :
    check .i80286 [0x8E, 0xD0] (ring0 ∘ tables)
      (fun t => faultSeen t 13 0) = true := by
  decide +kernel

/-- Vector T47. -/
theorem test_ring0_ltr :
    check .i80286 [0x0F, 0x00, 0xD8] (setR .ax 0x38 ∘ ring0 ∘ tables)
      (fun t => t.tr == ⟨0x38, 0x3100, 0x2B, .tss286⟩ && bytesAre t 0x103D [0x83]) = true := by
  decide +kernel

/-- By R568. -/
theorem test_ring0_str :
    check .i80286 [0x0F, 0x00, 0xC8] (ring0 ∘ tables)
      (fun t => t.gpr.ax == 0x28) = true := by
  decide +kernel

/-- Vector T48. -/
theorem test_ring0_lldt_null :
    check .i80286 [0x0F, 0x00, 0xD0] ((fun s => { s with ldtr := ⟨8, 1, 2⟩ }) ∘ ring0 ∘ tables)
      (fun t => t.ldtr == ⟨0, 0, 0⟩) = true := by
  decide +kernel

/-- By R566. -/
theorem test_ring0_sldt :
    check .i80286 [0x0F, 0x00, 0xC0] ((fun s => { s with ldtr := ⟨8, 1, 2⟩ }) ∘ ring0 ∘ tables)
      (fun t => t.gpr.ax == 0x8) = true := by
  decide +kernel

/-- Vector T49. -/
theorem test_ring3_lar :
    check .i80286 [0x0F, 0x02, 0xC3] (setR .bx 0x23 ∘ ring3 ∘ tables)
      (fun t => t.gpr.ax == 0xF300 && t.flag .zf) = true := by
  decide +kernel

/-- Vector T49. -/
theorem test_ring3_lar_refused :
    check .i80286 [0x0F, 0x02, 0xC3] (setR .bx 0x10 ∘ ring3 ∘ tables)
      (fun t => t.gpr.ax == 0x0 && !t.flag .zf) = true := by
  decide +kernel

/-- Vector T49. -/
theorem test_ring3_lsl :
    check .i80286 [0x0F, 0x03, 0xC3] (setR .bx 0x23 ∘ ring3 ∘ tables)
      (fun t => t.gpr.ax == 0xFFFF && t.flag .zf) = true := by
  decide +kernel

/-- Vector T49. -/
theorem test_ring3_verr :
    check .i80286 [0x0F, 0x00, 0xE3] (setR .bx 0x23 ∘ ring3 ∘ tables)
      (fun t => t.flag .zf) = true := by
  decide +kernel

/-- Vector T49. -/
theorem test_ring3_verw_code :
    check .i80286 [0x0F, 0x00, 0xEB] (setR .bx 0x1B ∘ ring3 ∘ tables)
      (fun t => !t.flag .zf) = true := by
  decide +kernel

/-- By R584. -/
theorem test_ring0_arpl :
    check .i80286 [0x63, 0xC3] (setR .bx 0x8 ∘ setR .ax 0x13 ∘ ring0 ∘ tables)
      (fun t => t.gpr.bx == 0xB && t.flag .zf) = true := by
  decide +kernel

/-- By R550. -/
theorem test_ring3_hlt :
    check .i80286 [0xF4] (ring3 ∘ tables)
      (fun t => faultSeen t 13 0) = true := by
  decide +kernel

/-- By R556. -/
theorem test_ring3_cli :
    check .i80286 [0xFA] (ring3 ∘ tables)
      (fun t => faultSeen t 13 0) = true := by
  decide +kernel

/-- By R553. -/
theorem test_ring3_popf_keeps_iopl :
    check .i80286 [0x9D] (place 0x200 [0x00, 0x30] ∘ ring3 ∘ tables)
      (fun t => t.getPS == 0x202) = true := by
  decide +kernel

/-- Vector T53. -/
theorem test_ring3_call_conforming :
    check .i80286 [0x9A, 0x00, 0x50, 0x30, 0x00] (ring3 ∘ tables)
      (fun t => bytesAre t 0x1FC [5, 1, 0x1B, 0] && t.cs.sel == 0x33 && t.cpl == 3 && t.ss.sel == 0x23) = true := by
  decide +kernel

/-- Vector T54. -/
theorem test_ring3_int_to_ring0 :
    check .i80286 [0xCD, 0x21] (ring3 ∘ tables)
      (fun t => bytesAre t 0x7F6 [2, 1, 0x1B, 0, 2, 2, 0, 2, 0x23, 0] && t.ss.sel == 0x10 && t.cs.sel == 8 && t.pc == 0x4000 && t.getPS == 2) = true := by
  decide +kernel

/-- Vector T55. -/
theorem test_ring0_iret_to_ring3 :
    check .i80286 [0xCF] (place 0x800 [0x02, 0x01, 0x1B, 0x00, 0x02, 0x02, 0x00, 0x02, 0x23, 0x00] ∘ (fun s => { s with ds := flat 0x10 0x9300 0x1010 0 }) ∘ ring0 ∘ tables)
      (fun t => t.cs.sel == 0x1B && t.cpl == 3 && t.ss.sel == 0x23 && t.gpr.sp == 0x200 && t.ds.acc == 0) = true := by
  decide +kernel

/-- Vector T56. -/
theorem test_ring3_int_gate_dpl :
    check .i80286 [0xCD, 0x21] (place 0x210D [0x86] ∘ ring3 ∘ tables)
      (fun t => faultSeen t 13 0x10A && t.pc == 0x5000) = true := by
  decide +kernel

/-- Vector T58. -/
theorem test_ring0_task_switch :
    check .i80286 [0xEA, 0x00, 0x00, 0x38, 0x00] (place 0x310E [0x00, 0x02, 0x02, 0x00, 0x11, 0x11] ∘ place 0x311A [0x00, 0x04] ∘ place 0x3122 [0x10, 0x00, 0x08, 0x00, 0x10, 0x00, 0x10, 0x00, 0x00, 0x00] ∘ ring0 ∘ tables)
      (fun t => t.pc == 0x200 && t.gpr.ax == 0x1111 && t.gpr.sp == 0x400 && t.tr.sel == 0x38 && bit t.cr0 3 && bytesAre t 0x102D [0x81] && bytesAre t 0x103D [0x83]) = true := by
  decide +kernel

/-- R34, D7: a task switch of the 80286 leaves bits 31:16 of a general register. -/
theorem test_task_keeps_upper_half :
    check .i80286 [0xEA, 0x00, 0x00, 0x38, 0x00] (place 0x310E [0x00, 0x02, 0x02, 0x00, 0x11, 0x11] ∘ place 0x311A [0x00, 0x04] ∘
        place 0x3122 [0x10, 0x00, 0x08, 0x00, 0x10, 0x00, 0x10, 0x00, 0x00, 0x00] ∘ setR .dx 0xABCD0000 ∘ ring0 ∘ tables)
      (fun t => t.gpr.dx == 0xABCD0000 && t.gpr.ax == 0x1111) = true := by
  decide +kernel

/-- R419, R405: a rotate by 1 takes CF and OF out of the cached set; under `anyValue` one by more takes out no other flag, and an
AND loses AF too (log 49). -/
theorem test_cached_sets :
    let s := { testBase .i80386 with flags := { (testBase .i80386).flags with cached := .all } }
    let any := { s with cfg := { s.cfg with undef := .anyValue } }
    let rol := fun c (s : State) => (ShiftOp.flags .rol .w8 1 c ⟨2, false, false⟩ s).flags.cached
    rol 1 s = ⟨false, true, true, true, true, false⟩ ∧ rol 1 any = rol 1 s ∧ rol 2 any = rol 1 s ∧
    (Alu.flags .and .w8 1 1 1 any).flags.cached = ⟨false, true, false, true, true, false⟩ := by
  decide +kernel

/-- R347: the loop lowers EBP, and the 16-bit frame pointer then replaces BP only. -/
theorem test_enter_borrow :
    check .i80386 [0xC8, 0, 0, 2] (setR .sp 0x8000 ∘ setR .bp 0x20000 ∘ fun s =>
        { s with ss := { s.ss with ext := 0x40, limit := 0xFFFFF } })
      (fun t => t.gpr.bp == 0x17FFE && t.gpr.sp == 0x7FFA) = true := by
  decide +kernel

/-- R41, D8: a 32-bit transfer in a 16-bit code segment leaves bits 31:16 of the instruction pointer 0. -/
theorem test_jmp_32_in_16_bit_segment :
    check .i80386 [0x66, 0xE9, 0, 0, 1, 0] id (fun t => t.pc == 0x106) = true := by
  decide +kernel

/-- R142: in real mode the limit test is the plain one, whatever the record's direction. -/
theorem test_expand_down_in_real_mode :
    check .i80386 [0xA0, 0, 5] (place 0x500 [0x77] ∘ fun s => { s with ds := { s.ds with acc := 0x9700, limit := 0xFFF } })
      (fun t => t.gpr.ax == 0x77) = true := by
  decide +kernel

/-- R103: ROM loses a write; a device gets the operation, a word. -/
theorem test_bus_kinds :
    check .i8086 [0xA3, 0xFF, 6] (setR .ax 0x1234 ∘ fun s =>
        { s with cfg := { s.cfg with busMap := [⟨0x600, 0x6FF, .rom⟩, ⟨0x700, 0x7FF, .device⟩] } })
      (fun t => bytesAre t 0x6FF [0, 0] && t.busLog == [.write 0x6FF [0x34, 0x12]]) = true := by
  decide +kernel

/-- R103, R113: a dword read reaches a device as one operation. -/
theorem test_bus_dword :
    check .i80386 [0x66, 0xA1, 0, 7] (place 0x700 [1, 2, 3, 4] ∘ fun s => { s with cfg := { s.cfg with busMap := [] } })
      (fun t => t.gpr.ax == 0x04030201) = true ∧
    check .i80386 [0x66, 0xA1, 0, 7] (fun s => { s with cfg := { s.cfg with busMap := [⟨0x700, 0x7FF, .device⟩] } })
      (fun t => t.busLog == [.read 0x700 [0, 0, 0, 0]]) = true := by
  decide +kernel

/-- R154, R627: a stack segment that is not present, in the two readings. -/
theorem test_task_ss_absent :
    let s := place 0x1015 [0x13] (place 0x3126 [0x10, 0] (place 0x3124 [8, 0] (ring0 (tables (testBase .i80286)))))
    (match taskSwitch 0x38 .jmp 0x105 0 s with | .error (.exn x) _ => x == .ss 0x10 | _ => false) = true ∧
    (match taskSwitch 0x38 .jmp 0x105 0 { s with cfg := { s.cfg with taskStack := .taskFault } } with
      | .error (.exn x) _ => x == .ts 0x10 | _ => false) = true := by
  decide +kernel

/-- R592: what an attached coprocessor answers happens. -/
theorem test_esc_attached :
    check .i80286 [0xDD, 0x3E, 0, 2] (place 0x200 [0x34, 0x12] ∘ fun s =>
        { s with cfg := { s.cfg with coprocessor := .attached }, copAnswers := [⟨⟨2, false⟩, ⟨[0x99], some 0xBEEF⟩⟩] })
      (fun t => t.gpr.ax == 0xBEEF && bytesAre t 0x200 [0x99, 0x12] && t.copLog == [⟨5, 7, .mem 0x200, [0x34, 0x12]⟩]) = true := by
  decide +kernel

/-- R10, D52: a corrupted shadow state has no step. -/
theorem test_corrupt_state :
    (match step { testBase .i80386 with cpl := 1 } with | .fault f => f == .corruptState | _ => false) = true := by
  decide +kernel

/-- D23: a 16-bit stack pointer from a TSS286 on a big stack keeps the upper half of ESP. -/
theorem test_inner_stack_keeps_upper_half :
    check .i80386 [0xCD, 0x21] (setR .sp 0x50200 ∘ place 0x1016 [0xC0] ∘ ring3 ∘ tables) (fun t => t.gpr.sp == 0x507F6) = true := by
  decide +kernel

/-- R627: an absent CS of the new task is not present before its privilege is looked at. -/
theorem test_task_cs_absent :
    (match taskSwitch 0x38 .jmp 0x105 0 (place 0x101D [0x7B] (place 0x3122 [0x10, 0, 0x18, 0] (ring0 (tables (testBase .i80286))))) with
      | .error (.exn x) _ => x == .np 0x18 | _ => false) = true := by
  decide +kernel

/-- R630: a page fault in reading the new task's CS field finds TR and the instruction pointer of the new task. -/
theorem test_task_entry_page_fault :
    let s := place 0x1038 [0x2B, 0, 0xE0, 0x3F, 0, 0x81, 0, 0] (place 0x3FEE [0, 2] (place 0x8000 [7, 0x90, 0, 0]
      (place 0x9000 [7, 0, 0, 0, 7, 0x10, 0, 0, 7, 0x20, 0, 0, 7, 0x30, 0, 0] (ring0 (tables (testBase .i80386))))))
    (match taskSwitch 0x38 .jmp 0x105 0 { s with cr0 := s.cr0 ||| 0x80000000, cr3 := 0x8000 } with
      | .error (.exn x) t => x == .pg 0 && t.cr2 == 0x4004 && t.tr.sel == 0x38 && t.pc == 0x200 && t.opLIP == 0x200
      | _ => false) = true := by
  decide +kernel

/-- R592: the rm field of a register form is handed over, so that D8 C1 and D8 C2 are two escapes. -/
theorem test_esc_register_operand :
    let attach := fun s : State =>
      { s with cfg := { s.cfg with coprocessor := .attached }, copAnswers := [⟨⟨4, false⟩, ⟨[1], none⟩⟩] }
    check .i80286 [0xD8, 0xC1] attach (fun t => t.copLog == [⟨0, 0, .reg 1, []⟩]) = true ∧
    check .i80286 [0xD8, 0xC2] attach (fun t => t.copLog == [⟨0, 0, .reg 2, []⟩]) = true := by
  decide +kernel

/-- R9, R231: the published opcode byte is the one after the prefixes, also where a later byte cannot be fetched. -/
theorem test_last_opcode :
    check .i80386 [0xF3, 0x66, 0x90] id (fun t => t.lastOpcode == 0x90) = true ∧
    check .i80386 [0xB8, 0x34, 0x12] (fun s => { s with cs := { s.cs with limit := 0x101 } })
      (fun t => t.lastOpcode == 0xB8 && t.nFault == some 13) = true := by
  decide +kernel

/-- R652, R668: an error of the coprocessor raises MF before its stores and its word in AX. -/
theorem test_esc_error :
    check .i80286 [0xDD, 0x3E, 0, 2] (place 0x200 [0x34, 0x12] ∘ fun s =>
        { s with cfg := { s.cfg with coprocessor := .attached }, copAnswers := [⟨⟨2, true⟩, ⟨[0x99], some 0xBEEF⟩⟩] })
      (fun t => t.nFault == some 16 && t.gpr.ax == 0 && bytesAre t 0x200 [0x34, 0x12] && t.copAnswers == []) = true := by
  decide +kernel

/-- R38: a record of the 80286 has no extension word. -/
theorem test_corrupt_extension :
    (match step { testBase .i80286 with ds := { (testBase .i80286).ds with ext := 0x40 } } with
      | .fault f => f == .corruptState | _ => false) = true := by
  decide +kernel

/-- R231, R281: the memory operand is resolved before the mode refuses the instruction. -/
theorem test_lldt_resolves_first :
    check .i80286 [0x0F, 0x00, 0x16, 0, 2] id (fun t => t.nFault == some 6 && t.regEA == some 0x200) = true := by
  decide +kernel

/-! ### Witnesses: for each statement with hypotheses, states and operands that meet them -/

/-- `State.grants` as a computation. -/
def grantsB (s : State) (q : SReg) (off n : Nat) (k : Access) : Bool :=
  !s.pagingOn && (s.admits q off n k && (s.spread q off n).all fun a => k.plain (s.busKind a))

theorem grants_of {s : State} {q : SReg} {off n : Nat} {k : Access} (h : grantsB s q off n k = true) : s.grants q off n k := by
  simpa [grantsB, State.grants] using h

/-- Whether an operand can be accessed, as a computation. -/
def locB (s : State) (w : Width) (k : Access) : Loc → Bool
  | .byteReg _ | .reg _ => true
  | .mem q off => grantsB s q off w.bytes k

theorem canRead_of {s : State} {w : Width} {l : Loc} (h : locB s w .read l = true) : s.canRead w l := by
  cases l with
  | byteReg _ => trivial
  | reg _ => trivial
  | mem q off => exact grants_of h

theorem canWrite_of {s : State} {w : Width} {l : Loc} (h : locB s w .write l = true) : s.canWrite w l := by
  cases l with
  | byteReg _ => trivial
  | reg _ => trivial
  | mem q off => exact grants_of h

theorem canPush_of {s : State} {w : Width} {n : Nat}
    (h : ((List.range n).all fun i => grantsB s .ss (s.below ((i + 1) * w.bytes)) w.bytes .write) = true) : s.canPush w n := by
  intro i hi
  exact grants_of (List.all_eq_true.mp h i (List.mem_range.mpr hi))

theorem canPop_of {s : State} {w : Width} {n : Nat}
    (h : ((List.range n).all fun i => grantsB s .ss (s.above (i * w.bytes)) w.bytes .read) = true) : s.canPop w n := by
  intro i hi
  exact grants_of (List.all_eq_true.mp h i (List.mem_range.mpr hi))

theorem ok_of {α β : Type} {x : Except α β} {b : β} (h : x.toOption = some b) : x = .ok b := by
  cases x with
  | error _ => cases h
  | ok _ => cases h; rfl

/-- The state of an outcome, for outcomes that are next states. -/
def stateOf (s : State) : Host.Outcome State Fault Refusal → State
  | .next t => t
  | _ => s

/-- An outcome is a next state. -/
def isNext : Host.Outcome State Fault Refusal → Bool
  | .next _ => true
  | _ => false

theorem next_of {s : State} {o : Host.Outcome State Fault Refusal} (h : isNext o = true) : o = .next (stateOf s o) := by
  cases o with
  | next t => rfl
  | fault _ => cases h
  | refused _ => cases h

/-- Real mode on the 80386, stack and index registers in the middle of the segments. -/
def wit : State :=
  { testBase .i80386 with gpr := ⟨5, 3, 0, 0x300, 0x8000, 0x8000, 0x400, 0x500⟩ }

/-- The same on the 8086. -/
def wit86 : State := { testBase .i8086 with gpr := ⟨5, 3, 0, 0x300, 0x8000, 0x8000, 0x400, 0x500⟩ }

/-- A memory operand at DS:0x200. -/
def at200 : MemOp := .abs16 0x200

theorem witness_AluFormsComplete : wit.mem.wf = true ∧ wit.canRead .w8 (wit.rm8Loc (.mem at200)) ∧
    wit.canWrite .w8 (wit.rm8Loc (.mem at200)) ∧ wit.canRead wit.opW (wit.rmLoc (.mem at200)) ∧
    wit.canWrite wit.opW (wit.rmLoc (.mem at200)) :=
  ⟨by decide +kernel, canRead_of (by decide +kernel), canWrite_of (by decide +kernel), canRead_of (by decide +kernel),
    canWrite_of (by decide +kernel)⟩

theorem witness_AluResultValues : trunc .w8 0xFF = 0xFF ∧ trunc .w8 0x80 = 0x80 := by decide +kernel

theorem witness_FlagFormulasMeanArithmetic : trunc .w8 0xFF = 0xFF ∧ trunc .w8 0x01 = 0x01 ∧
    (0 = trunc .w8 (0xFF + 0x01 + ofBool false) ∧ FlagsBy .w8 0xFF 0x01 0 0 (wit.flagsAdd .w8 0xFF 0x01 0)) ∧
    (0xFD = trunc .w8 (0xFF - 0x01 - ofBool true) ∧ FlagsBy .w8 0xFD 0x01 0xFF 0xFD (wit.flagsSub .w8 0xFF 0x01 0xFD)) :=
  ⟨by decide +kernel, by decide +kernel, ⟨by decide +kernel, flagsBy_flagsAdd _ _ _ _ _⟩,
    ⟨by decide +kernel, flagsBy_flagsSub _ _ _ _ _⟩⟩

theorem witness_UnaryFormsComplete : wit.mem.wf = true ∧ wit.canRead .w8 (wit.rm8Loc (.mem at200)) ∧
    wit.canWrite .w8 (wit.rm8Loc (.mem at200)) ∧ wit.canRead wit.opW (wit.rmLoc (.mem at200)) ∧
    wit.canWrite wit.opW (wit.rmLoc (.mem at200)) := witness_AluFormsComplete

theorem witness_MultiplyCompletes : wit.canRead .w8 (wit.rm8Loc (.mem at200)) ∧ wit.canRead wit.opW (wit.rmLoc (.mem at200)) :=
  ⟨canRead_of (by decide +kernel), canRead_of (by decide +kernel)⟩

theorem witness_DivideCompletesOrTraps :
    (wit.canRead .w8 (wit.rm8Loc (.reg .cl)) ∧ DivFits wit .w8 (wit.rm8Loc (.reg .cl)) ∧ IdivFits wit .w8 (wit.rm8Loc (.reg .cl))) ∧
    (wit.canRead wit.opW (wit.rmLoc (.reg .cx)) ∧ DivFits wit wit.opW (wit.rmLoc (.reg .cx)) ∧
      IdivFits wit wit.opW (wit.rmLoc (.reg .cx))) ∧
    (¬ DivFits wit .w8 (wit.rm8Loc (.mem at200)) ∧ ¬ DivFits wit wit.opW (wit.rmLoc (.mem at200)) ∧
      ¬ IdivFits wit .w8 (wit.rm8Loc (.mem at200)) ∧ ¬ IdivFits wit wit.opW (wit.rmLoc (.mem at200))) := by
  refine ⟨⟨trivial, ?_, ?_⟩, ⟨trivial, ?_, ?_⟩, ?_, ?_, ?_, ?_⟩ <;> first | unfold DivFits; decide +kernel | unfold IdivFits; decide +kernel

theorem witness_DecimalAdjustsComplete : (10 : Byte) ≠ 0 := by decide

theorem witness_ShiftFormsComplete : wit.mem.wf = true ∧ wit.canRead .w8 (wit.rm8Loc (.mem at200)) ∧
    wit.canWrite .w8 (wit.rm8Loc (.mem at200)) ∧ wit.canRead wit.opW (wit.rmLoc (.mem at200)) ∧
    wit.canWrite wit.opW (wit.rmLoc (.mem at200)) := witness_AluFormsComplete

theorem witness_DoubleShiftsComplete : wit.mem.wf = true ∧ wit.canRead wit.opW (wit.rmLoc (.mem at200)) ∧
    wit.canWrite wit.opW (wit.rmLoc (.mem at200)) :=
  ⟨by decide +kernel, canRead_of (by decide +kernel), canWrite_of (by decide +kernel)⟩

theorem witness_BitTestsAndScansComplete : wit.mem.wf = true ∧
    wit.canRead wit.opW (bitPlace wit (.mem at200) 0xFFF0).1 ∧ wit.canWrite wit.opW (bitPlace wit (.mem at200) 0xFFF0).1 ∧
    wit.canRead wit.opW (wit.rmLoc (.mem at200)) ∧ wit.canWrite wit.opW (wit.rmLoc (.mem at200)) :=
  ⟨by decide +kernel, canRead_of (by decide +kernel), canWrite_of (by decide +kernel), canRead_of (by decide +kernel),
    canWrite_of (by decide +kernel)⟩

theorem witness_SetOnConditionCompletes : wit.mem.wf = true ∧ wit.canWrite .w8 (wit.rm8Loc (.mem at200)) ∧
    trunc .w16 0x8000 = 0x8000 ∧ trunc .w16 1 = 1 ∧
    FlagsBy .w16 (trunc .w16 (0x8000 - 1)) 1 0x8000 (trunc .w16 (0x8000 - 1))
      (wit.flagsSub .w16 0x8000 1 (trunc .w16 (0x8000 - 1))) :=
  ⟨by decide +kernel, canWrite_of (by decide +kernel), by decide +kernel, by decide +kernel, flagsBy_flagsSub _ _ _ _ _⟩

theorem witness_MovAndExchangeComplete : wit.mem.wf = true ∧ wit.canWrite .w8 (wit.rm8Loc (.mem at200)) ∧
    wit.canRead .w8 (wit.rm8Loc (.mem at200)) ∧ wit.canWrite wit.opW (wit.rmLoc (.mem at200)) ∧
    wit.canRead wit.opW (wit.rmLoc (.mem at200)) ∧ wit.canWrite wit.opW (.mem (wit.opPrefixes.seg.getD .ds) 0xFFFE) ∧
    wit.canRead wit.opW (.mem (wit.opPrefixes.seg.getD .ds) 0xFFFE) :=
  ⟨by decide +kernel, canWrite_of (by decide +kernel), canRead_of (by decide +kernel), canWrite_of (by decide +kernel),
    canRead_of (by decide +kernel), canWrite_of (by decide +kernel), canRead_of (by decide +kernel)⟩

theorem witness_EffectiveAddresses : wit.opPrefixes.seg = none ∧
    { wit with opPrefixes := { wit.opPrefixes with seg := some .es } }.opPrefixes.seg = some .es := by decide +kernel

theorem witness_LeaAndConversionsComplete : wit.cfg.leaRegUd = true ∧
    { wit with cfg := { wit.cfg with leaRegUd := false } }.cfg.leaRegUd = false ∧
    wit.canRead .w8 (.mem (wit.opPrefixes.seg.getD .ds) (((wit.gpr.get .bx).toNat + (wit.reg8 .al).toNat) % 2 ^ wit.adW.bits)) ∧
    wit.canRead .w8 (wit.rm8Loc (.mem at200)) ∧ wit.canRead .w16 (wit.rmLoc (.mem at200)) :=
  ⟨by decide +kernel, by decide +kernel, canRead_of (by decide +kernel), canRead_of (by decide +kernel),
    canRead_of (by decide +kernel)⟩

/-- Protected mode on the 80286 at CPL 3 and at CPL 0, in the tables of the vectors. -/
def user : State := ring3 (tables (testBase .i80286))
def kernel : State := ring0 (tables (testBase .i80286))

/-- Real mode reads and writes the operand; protected mode is met by the state at CPL 0. -/
theorem witness_SegmentLoadsComplete : wit.mem.wf = true ∧ wit.pagingOn = false ∧ SReg.ds ≠ .cs ∧
    wit.canRead .w16 (wit.rmLoc (.mem at200)) ∧ wit.canWrite .w16 (wit.rmLoc (.mem at200)) ∧ wit.protectedMode = false ∧
    kernel.protectedMode = true ∧ kernel.mem.wf = true ∧ kernel.pagingOn = false ∧ wit.canReadFar at200 :=
  ⟨by decide +kernel, by decide +kernel, by decide, canRead_of (by decide +kernel), canWrite_of (by decide +kernel),
    by decide +kernel, by decide +kernel, by decide +kernel, by decide +kernel,
    ⟨grants_of (by decide +kernel), grants_of (by decide +kernel)⟩⟩

theorem witness_PushFormsComplete : wit.mem.wf = true ∧ wit.canPush wit.opW 1 ∧ wit.canRead wit.opW (wit.memLoc at200) :=
  ⟨by decide +kernel, canPush_of (by decide +kernel), canRead_of (by decide +kernel)⟩

theorem witness_PopFormsComplete : wit.mem.wf = true ∧ wit.pagingOn = false ∧ wit.canPop wit.opW 1 ∧
    State.canWrite { wit with gpr := popGpr wit wit.opW.bytes } wit.opW
      (State.memLoc { wit with gpr := popGpr wit wit.opW.bytes } at200) ∧
    wit86.mem.wf = true ∧ wit86.pagingOn = false ∧ wit86.canPop wit86.opW 1 ∧ wit86.cfg.model.has186 = false :=
  ⟨by decide +kernel, by decide +kernel, canPop_of (by decide +kernel), canWrite_of (by decide +kernel), by decide +kernel,
    by decide +kernel, canPop_of (by decide +kernel), by decide +kernel⟩

theorem witness_StackFramesComplete : wit.mem.wf = true ∧ wit.canPush wit.opW 8 ∧ wit.canPop wit.opW 8 ∧
    wit.canPush wit.opW (enterPushes 3) ∧
    (∀ k, 0 < k → k < 3 → wit.grants .ss (frameOffset wit wit.opW k) wit.opW.bytes .read) ∧
    wit.grants .ss (frameOffset wit wit.opW 0) wit.opW.bytes .read :=
  ⟨by decide +kernel, canPush_of (by decide +kernel), canPop_of (by decide +kernel), canPush_of (by decide +kernel),
    fun k _ hk => by
      match k, hk with
      | 0, _ => exact grants_of (by decide +kernel)
      | 1, _ => exact grants_of (by decide +kernel)
      | 2, _ => exact grants_of (by decide +kernel),
    grants_of (by decide +kernel)⟩

theorem witness_PopfCompletes : wit.canPop wit.opW 1 := canPop_of (by decide +kernel)

theorem not_ioAllowed_user (p : Half) (n : Nat) : ¬ ioAllowed user p n := by
  unfold ioAllowed
  have h1 : user.protectedMode = true := by decide +kernel
  have h2 : ¬ user.cpl ≤ user.iopl := by decide +kernel
  have h3 : user.cfg.model.has386 = false := by decide +kernel
  simp [h1, h2, h3]

theorem witness_PortAccessesComplete : ioAllowed wit 0xFFFF 2 ∧ user.pagingOn = false ∧ ¬ ioAllowed user 0xFFFF 2 :=
  ⟨Or.inl (by decide +kernel), by decide +kernel, not_ioAllowed_user _ _⟩

/-- A repetition at work, and one whose count is used up. -/
def witRep : State := { wit with opPrefixes := { wit.opPrefixes with repz := true } }
def witRepDone : State := { witRep with gpr := { witRep.gpr with cx := 0 } }

theorem witness_StringInstructionsComplete : witRep.mem.wf = true ∧ repeated witRepDone = true ∧
    witRepDone.reg witRepDone.adW .cx = 0 ∧ ¬ (repeated witRep = true ∧ witRep.reg witRep.adW .cx = 0) ∧
    StrOp.accessible .movs .w16 witRep ∧ StrOp.accessible .cmps .w16 witRep ∧ StrOp.accessible .scas .w16 witRep ∧
    StrOp.accessible .lods .w16 witRep ∧ StrOp.accessible .stos .w16 witRep ∧ StrOp.accessible .ins .w16 witRep ∧
    StrOp.accessible .outs .w16 witRep :=
  ⟨by decide +kernel, by decide +kernel, by decide +kernel, by decide +kernel,
    ⟨canRead_of (by decide +kernel), canWrite_of (by decide +kernel)⟩,
    ⟨canRead_of (by decide +kernel), canRead_of (by decide +kernel)⟩,
    (canRead_of (by decide +kernel) : witRep.canRead .w16 (strDst witRep)),
    (canRead_of (by decide +kernel) : witRep.canRead .w16 (strSrc witRep)),
    (canWrite_of (by decide +kernel) : witRep.canWrite .w16 (strDst witRep)),
    ⟨Or.inl (by decide +kernel), canWrite_of (by decide +kernel)⟩,
    ⟨Or.inl (by decide +kernel), canRead_of (by decide +kernel)⟩⟩

/-- DI at the segment's last byte. -/
def witEdge : State := { wit with gpr := { wit.gpr with di := 0xFFFF } }

/-- SI at the segment's last byte. -/
def witSource : State := { wit with gpr := { wit.gpr with si := 0xFFFF } }

theorem witness_StringPortsTrap : user.pagingOn = false ∧ ¬ (repeated user = true ∧ user.reg user.adW .cx = 0) ∧
    ¬ ioAllowed user (strPort user) 1 ∧ witEdge.pagingOn = false ∧
    ¬ (repeated witEdge = true ∧ witEdge.reg witEdge.adW .cx = 0) ∧ ioAllowed witEdge (strPort witEdge) 2 ∧
    witEdge.admits .es (witEdge.reg witEdge.adW .di).toNat 2 .write = false ∧ witSource.pagingOn = false ∧
    ¬ (repeated witSource = true ∧ witSource.reg witSource.adW .cx = 0) ∧ ioAllowed witSource (strPort witSource) 2 ∧
    witSource.admits (witSource.opPrefixes.seg.getD .ds) (witSource.reg witSource.adW .si).toNat 2 .read = false :=
  ⟨by decide +kernel, by decide +kernel, not_ioAllowed_user _ _, by decide +kernel, by decide +kernel, Or.inl (by decide +kernel),
    by decide +kernel, by decide +kernel, by decide +kernel, Or.inl (by decide +kernel), by decide +kernel⟩

theorem witness_JumpsAndLoopsComplete : ctx16.op32 = false ∧ ctx32.op32 = true := by decide

theorem witness_NearCallsComplete : wit.mem.wf = true ∧ wit.canRead wit.opW (wit.rmLoc (.mem at200)) ∧ wit.canPush wit.opW 1 ∧
    wit.canPop wit.opW 1 :=
  ⟨by decide +kernel, canRead_of (by decide +kernel), canPush_of (by decide +kernel), canPop_of (by decide +kernel)⟩

/-- The signed value of the index, and the bounds at DS:0x200 once the words 0 and 5 stand there. -/
def witBound : State := place 0x200 [0, 0, 5, 0] wit
def witOut : State := place 0x200 [0, 0, 4, 0] wit

theorem witness_BoundCompletesOrTraps :
    let q := (witBound.resolve at200).1
    let off := (witBound.resolve at200).2
    (witBound.grants q off 2 .read ∧ witBound.grants q (off + 2) 2 .read) ∧
    (signed .w16 (witBound.busRead (witBound.spread q off 2)) ≤ signed .w16 (witBound.reg .w16 .ax) ∧
      signed .w16 (witBound.reg .w16 .ax) ≤ signed .w16 (witBound.busRead (witBound.spread q (off + 2) 2))) ∧
    signed .w16 (witOut.busRead (witOut.spread q (off + 2) 2)) < signed .w16 (witOut.reg .w16 .ax) :=
  ⟨⟨grants_of (by decide +kernel), grants_of (by decide +kernel)⟩, by decide +kernel, by decide +kernel⟩

theorem witness_FarTransfersCompleteInRealMode : wit.mem.wf = true ∧ wit.protectedMode = false ∧ wit.canReadFar at200 ∧
    wit.canPush wit.opW 2 ∧ wit.canPop wit.opW 2 :=
  ⟨by decide +kernel, by decide +kernel, ⟨grants_of (by decide +kernel), grants_of (by decide +kernel)⟩,
    canPush_of (by decide +kernel), canPop_of (by decide +kernel)⟩

theorem readyReal_wit (n : Byte) (h : n.toNat * 4 + 3 ≤ 0x3FF) : readyReal wit n :=
  ⟨by decide +kernel, by decide +kernel, Or.inr h, canPush_of (by decide +kernel)⟩

/-- Overflow set; an IDT of one entry. -/
def witOF : State := setPs 0x802 wit
def witSmall : State := { wit with idtr := ⟨0, 3⟩ }

theorem witness_SoftwareInterruptsCompleteInRealMode : wit.mem.wf = true ∧ readyReal wit 0xFF ∧ readyReal wit 3 ∧
    (readyReal witOF 4 ∧ witOF.flag .of = true) ∧ wit.flag .of = false ∧
    (witSmall.protectedMode = false ∧ ¬ vectorInLimit witSmall 1) := by
  refine ⟨by decide +kernel, readyReal_wit _ (by decide), readyReal_wit _ (by decide),
    ⟨⟨by decide +kernel, by decide +kernel, Or.inr (by decide +kernel), canPush_of (by decide +kernel)⟩, by decide +kernel⟩,
    by decide +kernel, by decide +kernel, ?_⟩
  unfold vectorInLimit
  decide +kernel

theorem witness_InterruptReturnCompletesInRealMode : wit.protectedMode = false ∧ wit.grants .ss (wit.above 0) 2 .read ∧
    wit.grants .ss (wit.above 2) 2 .read ∧ wit.grants .ss (wit.above 4) 2 .read ∧ wit.opW.bytes = 2 :=
  ⟨by decide +kernel, grants_of (by decide +kernel), grants_of (by decide +kernel), grants_of (by decide +kernel), by decide +kernel⟩

theorem witness_FaultEntryInRealMode : wit.mem.wf = true ∧ readyReal wit (Exn.gp 0).vector ∧ wit.nFault = none ∧
    wit86.cfg.model.class8086 = true :=
  ⟨by decide +kernel, readyReal_wit _ (by decide +kernel), by decide +kernel, by decide +kernel⟩

theorem witness_CallsReturn : wit.mem.wf = true ∧ wit.canPush wit.opW 2 ∧ wit.pc = trunc wit.opW wit.pc ∧ wit.pc = pcOf wit wit.pc ∧
    wit.protectedMode = false ∧ wit.cs.base = BitVec.ofNat 32 (wit.cs.sel.toNat * 16) ∧ wit.cs.addrDesc = none ∧ wit.cpl = 0 ∧
    (∃ t, exec (.callJv 0x10) wit = .next t ∧ t.canPop t.opW 1) ∧
    (∃ t, exec (.callFarAp 0x10 0x20) wit = .next t ∧ t.canPop t.opW 2) :=
  ⟨by decide +kernel, canPush_of (by decide +kernel), by decide +kernel, by decide +kernel, by decide +kernel, by decide +kernel,
    by decide +kernel, by decide +kernel, ⟨_, next_of (s := wit) (by decide +kernel), canPop_of (by decide +kernel)⟩,
    ⟨_, next_of (s := wit) (by decide +kernel), canPop_of (by decide +kernel)⟩⟩

/-- Tables with more system descriptors: an LDT at 0x40, a call gate of DPL 3 to ring 0 at 0x48, and the same with one parameter
at 0x50. -/
def moreTables (s : State) : State :=
  let s := place 0x1040 [0x3F, 0, 0, 0x11, 0, 0x82, 0, 0, 0, 0x50, 8, 0, 0, 0xE4, 0, 0, 0, 0x50, 8, 0, 1, 0xE4, 0, 0] (tables s)
  { s with gdtr := ⟨0x1000, 0x57⟩ }

/-- CPL 3 and CPL 0 in those tables. -/
def userMore : State := ring3 (moreTables (testBase .i80286))
def kernelMore : State := ring0 (moreTables (testBase .i80286))

theorem readyProt_user : readyProt userMore := ⟨by decide +kernel, by decide +kernel⟩
theorem readyProt_kernel : readyProt kernelMore := ⟨by decide +kernel, by decide +kernel⟩

/-- A task gate of DPL 3 to the TSS 0x38 in place of the second call gate. -/
def kernelTaskGate : State := place 0x1050 [0, 0, 0x38, 0, 0, 0xE5, 0, 0] kernelMore

theorem witness_FarTransfersInProtectedMode : kernelMore.mem.wf = true ∧ readyProt kernelMore ∧
    ¬ (4 ≤ (8 : Half).toNat ∧ kernelMore.inTable 8 = true ∧ (kernelMore.named 8).isSegment = false) ∧
    codeDirect kernelMore 8 = .ok 0 ∧ takes kernelMore kernelMore.opW [kernelMore.cs.sel.setWidth 32, kernelMore.pc] ∧
    userMore.mem.wf = true ∧ userMore.canReadFar at200 ∧
    (kernelTaskGate.inTable 0x50 = true ∧ (kernelTaskGate.named 0x50).isSegment = false ∧ (kernelTaskGate.named 0x50).type = 5 ∧
      gateVerdict kernelTaskGate 0x50 (kernelTaskGate.named 0x50) = none) ∧
    (kernelMore.inTable 0x38 = true ∧ (kernelMore.named 0x38).isSegment = false ∧ (kernelMore.named 0x38).type = 1 ∧
      kernelMore.cpl ≤ (kernelMore.named 0x38).dpl ∧ selRPL 0x38 ≤ (kernelMore.named 0x38).dpl) ∧
    (userMore.named 0x38).dpl < userMore.cpl ∧ ((kernelMore.named 0x28).isSegment = false ∧ (kernelMore.named 0x28).type = 3) := by
  refine ⟨by decide +kernel, readyProt_kernel, by decide +kernel, ok_of (by decide +kernel), canPush_of (by decide +kernel),
    by decide +kernel, ⟨grants_of (by decide +kernel), grants_of (by decide +kernel)⟩,
    ⟨by decide +kernel, by decide +kernel, by decide +kernel, ?_⟩, by decide +kernel, by decide +kernel, by decide +kernel⟩
  unfold gateVerdict
  rw [if_neg (by decide +kernel), if_neg (by decide +kernel)]

/-- The stack of ring 0 beyond TR's limit, and a code selector in its place. -/
def userNoStack : State := { userMore with tr := { userMore.tr with limit := 3 } }
def userBadStack : State := place 0x3004 [8, 0] userMore

theorem switch_fails : (0 < userNoStack.cpl ∧ ¬ tssHasStack userNoStack 0) ∧
    (0 < userBadStack.cpl ∧ tssHasStack userBadStack 0 ∧ ¬ stackFits userBadStack 0 (tssSs userBadStack 0)) := by
  unfold tssHasStack stackFits
  decide +kernel

/-- Two parameters, of which the second lies beyond offset 0xFFFF. -/
def userEnd : State := setR .sp 0xFFFE (place 0x1054 [2] userMore)

/-- R12, R472: the second of two parameters beyond offset 0xFFFF is not on the old stack: SS(0). -/
theorem test_call_gate_parameter_beyond_stack :
    (match farGate true 0x53 (userEnd.named 0x53) .w16 userEnd with | .error (.exn x) _ => x == .ss 0 | _ => false) = true := by
  decide +kernel

theorem witness_CallGates : userMore.mem.wf = true ∧ readyProt userMore ∧ userMore.canReadFar at200 ∧
    (codeGate userNoStack 0 (userNoStack.named 0x53).w1 true = .ok 0 ∧
      codeGate userBadStack 0 (userBadStack.named 0x53).w1 true = .ok 0) ∧
    (4 ≤ (0x53 : Half).toNat ∧ userMore.inTable 0x53 = true ∧ (userMore.named 0x53).isSegment = false ∧
      (userMore.named 0x53).type = 4) ∧
    gateVerdict userMore 0x53 (userMore.named 0x53) = none ∧ codeGate userMore 0 (userMore.named 0x53).w1 true = .ok 0 ∧
    (0 < userMore.cpl ∧ canSwitch userMore 0 ∧ userMore.grants .ss (paramAt userMore .w16 0) 2 .read ∧
      takes (innerStack userMore 0) .w16 (callFrame userMore .w16 true 1)) ∧
    (gateVerdict userEnd 0x53 (userEnd.named 0x53) = none ∧ codeGate userEnd 0 (userEnd.named 0x53).w1 true = .ok 0 ∧
      canSwitch userEnd 0 ∧ 1 < (userEnd.named 0x53).w2.toNat % 32 ∧ userEnd.admits .ss (paramAt userEnd .w16 1) 2 .read = false) ∧
    (gateVerdict kernelMore 0x48 (kernelMore.named 0x48) = none ∧ codeGate kernelMore 0 (kernelMore.named 0x48).w1 true = .ok 0 ∧
      takes kernelMore .w16 (callFrame kernelMore .w16 false 0)) := by
  refine ⟨by decide +kernel, readyProt_user, ⟨grants_of (by decide +kernel), grants_of (by decide +kernel)⟩,
    ⟨ok_of (by decide +kernel), ok_of (by decide +kernel)⟩, by decide +kernel, ?_, ok_of (by decide +kernel),
    ⟨by decide +kernel, ?_, grants_of (by decide +kernel), canPush_of (by decide +kernel)⟩,
    ⟨?_, ok_of (by decide +kernel), ?_, by decide +kernel, by decide +kernel⟩, ?_, ok_of (by decide +kernel),
    canPush_of (by decide +kernel)⟩
  · unfold gateVerdict
    rw [if_neg (by decide +kernel), if_neg (by decide +kernel)]
  · unfold canSwitch tssHasStack stackFits
    decide +kernel
  · unfold gateVerdict
    rw [if_neg (by decide +kernel), if_neg (by decide +kernel)]
  · unfold canSwitch tssHasStack stackFits
    decide +kernel
  · unfold gateVerdict
    rw [if_neg (by decide +kernel), if_neg (by decide +kernel)]

/-- The frames of a return to ring 0 and of one to ring 3, on the stack of ring 0. -/
def backInner : State := place 0x800 [0x15, 0, 8, 0, 2, 2] kernelMore
def backOuter : State := place 0x800 [0x15, 0, 0x1B, 0, 0, 2, 0x23, 0] kernelMore
def iretOuter : State := place 0x800 [0x15, 0, 0x1B, 0, 2, 2, 0, 2, 0x23, 0] kernelMore

theorem witness_FarReturnsInProtectedMode : backInner.mem.wf = true ∧ readyProt backInner ∧ backInner.canPop backInner.opW 2 ∧
    codeReturn backInner 8 = .ok 0 ∧ backInner.busRead (backInner.spread .ss (backInner.above 2) 2) = 8 ∧
    (backOuter.canPop backOuter.opW 2 ∧ codeReturn backOuter 0x1B = .ok 3 ∧ backOuter.cpl < 3 ∧
      backOuter.busRead (backOuter.spread .ss (backOuter.above 2) 2) = 0x1B ∧
      backOuter.grants .ss (backOuter.above 4) 2 .read ∧ backOuter.grants .ss (backOuter.above 6) 2 .read ∧
      backOuter.busRead (backOuter.spread .ss (backOuter.above 6) 2) = 0x23 ∧ stackFits backOuter 3 0x23) := by
  refine ⟨by decide +kernel, ⟨by decide +kernel, by decide +kernel⟩, canPop_of (by decide +kernel), ok_of (by decide +kernel),
    by decide +kernel, canPop_of (by decide +kernel), ok_of (by decide +kernel), by decide +kernel, by decide +kernel,
    grants_of (by decide +kernel), grants_of (by decide +kernel), by decide +kernel, ?_⟩
  unfold stackFits
  decide +kernel

/-- A 32-bit IRET to virtual-8086 mode at CPL 0 of the 80386. -/
def iretVm : State :=
  let s := place 0x800 [0x15, 0, 0, 0, 8, 0, 0, 0, 2, 2, 2, 0] (ring0 (moreTables (testBase .i80386)))
  { s with opPrefixes := { s.opPrefixes with dataSize := true } }

theorem witness_InterruptReturnsInProtectedMode : iretOuter.mem.wf = true ∧ readyProt iretOuter ∧
    iretOuter.direct psNT = false ∧ iretOuter.canPop iretOuter.opW 3 ∧ iretOuter.op32 = false ∧
    codeReturn iretOuter 0x1B = .ok 3 ∧ iretOuter.grants .ss (iretOuter.above 6) 2 .read ∧
    iretOuter.grants .ss (iretOuter.above 8) 2 .read ∧ stackFits iretOuter 3 0x23 ∧
    (readyProt iretVm ∧ iretVm.direct psNT = false ∧ iretVm.canPop iretVm.opW 3 ∧ iretVm.op32 = true ∧
      bit (iretVm.stackValue iretVm.opW (2 * iretVm.opW.bytes)) 17 = true ∧ iretVm.cpl = 0) ∧
    (readyProt (setPs 0x4002 kernelMore) ∧ (setPs 0x4002 kernelMore).direct psNT = true) := by
  refine ⟨by decide +kernel, ⟨by decide +kernel, by decide +kernel⟩, by decide +kernel, canPop_of (by decide +kernel),
    by decide +kernel, ok_of (by decide +kernel), grants_of (by decide +kernel), grants_of (by decide +kernel), ?_,
    ⟨⟨by decide +kernel, by decide +kernel⟩, by decide +kernel, canPop_of (by decide +kernel), by decide +kernel,
      by decide +kernel, by decide +kernel⟩, ⟨by decide +kernel, by decide +kernel⟩, by decide +kernel⟩
  unfold stackFits
  decide +kernel

/-- The gate of vector 0x21 a task gate; the same of vector 13. -/
def gateTask : State := place 0x2108 [0, 0, 0x38, 0, 0, 0xE5, 0, 0] kernelMore

/-- The gate of vector 0x21 absent, with DPL 0, of no type, and to a data segment. -/
def gateAbsent : State := place 0x210D [0x66] userMore
def gateInner : State := place 0x210D [0x86] userMore
def gateBad : State := place 0x210D [0xE2] userMore
def gateData : State := place 0x210A [0x10] userMore

theorem isGate_user : isGate userMore (idtEntry userMore 0x21) .w16 true := by
  unfold isGate
  decide +kernel

theorem isGate_kernel : isGate kernelMore (idtEntry kernelMore 0x21) .w16 true := by
  unfold isGate
  decide +kernel

theorem witness_SoftwareInterruptsInProtectedMode : userMore.mem.wf = true ∧ readyProt userMore ∧ witOF.flag .of = true ∧
    { userMore with idtr := ⟨0x2000, 0x100⟩ }.idtr.limit.toNat < 0x21 * 8 + 7 ∧ 0x21 * 8 + 7 ≤ userMore.idtr.limit.toNat ∧
    ¬ idtKind gateBad (idtEntry gateBad 0x21) ∧
    (idtKind gateInner (idtEntry gateInner 0x21) ∧ (idtEntry gateInner 0x21).dpl < gateInner.cpl) ∧
    (idtKind gateAbsent (idtEntry gateAbsent 0x21) ∧ gateAbsent.cpl ≤ (idtEntry gateAbsent 0x21).dpl ∧
      (idtEntry gateAbsent 0x21).present = false) ∧
    (idtKind gateTask (idtEntry gateTask 0x21) ∧ gateTask.cpl ≤ (idtEntry gateTask 0x21).dpl ∧
      (idtEntry gateTask 0x21).present = true ∧ (idtEntry gateTask 0x21).type = 5 ∧ gateTask.mem.wf = true) ∧
    (idtKind gateData (idtEntry gateData 0x21) ∧ (codeGate gateData 0 (idtEntry gateData 0x21).w1 true).toOption = none) ∧
    (codeGate userNoStack 0 (idtEntry userNoStack 0x21).w1 true = .ok 0 ∧
      codeGate userBadStack 0 (idtEntry userBadStack 0x21).w1 true = .ok 0) ∧
    (userMore.cpl ≤ (idtEntry userMore 0x21).dpl ∧ (idtEntry userMore 0x21).present = true ∧
      isGate userMore (idtEntry userMore 0x21) .w16 true ∧ codeGate userMore 0 (idtEntry userMore 0x21).w1 true = .ok 0 ∧
      0 < userMore.cpl ∧ canSwitch userMore 0 ∧
      takes (innerStack userMore 0) .w16 (intFrame userMore true userMore.pc none)) ∧
    (codeGate kernelMore 0 (idtEntry kernelMore 0x21).w1 true = .ok 0 ∧
      takes kernelMore .w16 (intFrame kernelMore false kernelMore.pc none)) := by
  refine ⟨by decide +kernel, readyProt_user, by decide +kernel, by decide +kernel, by decide +kernel, ?_, ?_, ?_, ?_, ?_,
    ⟨ok_of (by decide +kernel), ok_of (by decide +kernel)⟩,
    ⟨by decide +kernel, by decide +kernel, isGate_user, ok_of (by decide +kernel), by decide +kernel, ?_,
      canPush_of (by decide +kernel)⟩, ok_of (by decide +kernel), canPush_of (by decide +kernel)⟩
  all_goals first | unfold idtKind | unfold canSwitch tssHasStack stackFits
  all_goals decide +kernel

/-- A task gate for vector 13, to a task that can be entered. -/
def taskGateGp : State := place 0x2068 [0, 0, 0x38, 0, 0, 0x85, 0, 0]
  (place 0x3122 [0x10, 0, 8, 0, 0x10, 0, 0x10, 0, 0, 0] (place 0x310E [0, 2, 2, 0, 0x11, 0x11] (setR .sp 0x800 kernelMore)))

theorem witness_FaultEntryInProtectedMode : userMore.mem.wf = true ∧ readyProt userMore ∧ userMore.nFault = none ∧
    (let f := faulted (Exn.gp 0).vector userMore
     entryReady f 13 ∧ isGate f (idtEntry f 13) .w16 true ∧ codeGate f 1 (idtEntry f 13).w1 true = .ok 0 ∧
     0 < f.cpl ∧ canSwitch f 0 ∧ takes (innerStack f 0) .w16 (intFrame f true f.pc (some 0))) ∧
    (entryReady taskGateGp 13 ∧ (idtEntry taskGateGp 13).isSegment = false ∧ (idtEntry taskGateGp 13).type = 5) := by
  refine ⟨by decide +kernel, readyProt_user, by decide +kernel,
    ⟨?_, ?_, ok_of (by decide +kernel), by decide +kernel, ?_, canPush_of (by decide +kernel)⟩, ?_, by decide +kernel⟩
  all_goals first | unfold entryReady | unfold isGate | unfold canSwitch tssHasStack stackFits
  all_goals decide +kernel

/-- A fault in flight, in real mode and at CPL 3 in protected mode, where the gate of vector 8 is that of vector 0x21. -/
def witFault : State := { wit with nFault := some 13 }
def userFault : State := { place 0x2040 [0x80, 0, 8, 0, 0, 0xE6, 0, 0] userMore with nFault := some 13 }

/-- The gate of vector 8 is absent, or leads to a data segment. -/
def absentDouble : State := place 0x2045 [0x66] userFault
def badDouble : State := place 0x2042 [0x10, 0] userFault

theorem witness_DoubleAndTripleFaults : witFault.mem.wf = true ∧ witFault.cfg.model.class8086 = false ∧
    witFault.nFault = some 13 ∧ (13 : Byte) ≠ 8 ∧ readyReal witFault 8 ∧
    (let f := faulted 8 userFault
     readyProt userFault ∧ entryReady f 8 ∧ isGate f (idtEntry f 8) .w16 true ∧ codeGate f 1 (idtEntry f 8).w1 true = .ok 0 ∧
     0 < f.cpl ∧ canSwitch f 0 ∧ takes (innerStack f 0) .w16 (intFrame f true f.pc (some 0))) ∧
    (let s := { wit with idtr := ⟨0, 0x2F⟩ }
     s.nFault = none ∧ readyReal s 8 ∧ ¬ vectorInLimit s (Exn.gp 0).vector) ∧
    (let s := { userFault with nFault := none, idtr := ⟨0x2000, 71⟩ }
     readyProt s ∧ s.idtr.limit.toNat < (Exn.gp 0).vector.toNat * 8 + 7 ∧ entryReady (faulted 8 s) 8) ∧
    { witFault with nFault := some 8 }.nFault = some 8 ∧
    ({ witFault with idtr := ⟨0, 3⟩ }.protectedMode = false ∧ ¬ vectorInLimit { witFault with idtr := ⟨0, 3⟩ } 8) ∧
    ({ userFault with idtr := ⟨0, 70⟩ }.protectedMode = true ∧ { userFault with idtr := ⟨0, 70⟩ }.idtr.limit.toNat < 71) ∧
    (71 ≤ absentDouble.idtr.limit.toNat ∧ (idtEntry absentDouble 8).present = false) ∧
    ((idtEntry badDouble 8).type ≠ 5 ∧ (codeGate badDouble 1 (idtEntry badDouble 8).w1 true).toOption = none) := by
  refine ⟨by decide +kernel, by decide +kernel, by decide +kernel, by decide,
    ⟨by decide +kernel, by decide +kernel, Or.inr (by decide +kernel), canPush_of (by decide +kernel)⟩,
    ⟨⟨by decide +kernel, by decide +kernel⟩, ?_, ?_, ok_of (by decide +kernel), by decide +kernel, ?_,
      canPush_of (by decide +kernel)⟩,
    ⟨by decide +kernel, ⟨by decide +kernel, by decide +kernel, Or.inr (by decide +kernel), canPush_of (by decide +kernel)⟩, ?_⟩,
    ⟨⟨by decide +kernel, by decide +kernel⟩, by decide +kernel, ?_⟩, by decide +kernel, ⟨by decide +kernel, ?_⟩,
    by decide +kernel, by decide +kernel, by decide +kernel⟩
  all_goals first | unfold entryReady | unfold isGate | unfold canSwitch tssHasStack stackFits | unfold vectorInLimit
  all_goals decide +kernel

theorem witness_TaskSaveWritesEveryField : kernelMore.mem.wf = true ∧ kernelMore.pagingOn = false ∧
    kernelMore.cfg.model.has286 = true ∧ (∀ a ∈ fieldAt kernelMore 0x12 2, kernelMore.busKind a = .ram) :=
  ⟨by decide +kernel, by decide +kernel, by decide +kernel, by decide +kernel⟩

/-- A second task in the TSS at 0x3100: of the right form, with an LDT selector that names no LDT, and with a data selector for CS. -/
def twoTasks : State :=
  place 0x3122 [0x10, 0, 8, 0, 0x10, 0, 0x10, 0, 0, 0] (place 0x310E [0, 2, 2, 0, 0x11, 0x11] kernelMore)
def badLdtTask : State := place 0x312A [8, 0] twoTasks
def badCsTask : State := place 0x3124 [0x10, 0] twoTasks

/-- The same with a TSS selector for DS, and with the accessed bits of its code and data segments clear. -/
def badDsTask : State := place 0x3128 [0x38, 0] twoTasks
def freshTask : State := place 0x100D [0x9A] (place 0x1015 [0x92] twoTasks)

/-- A second task in a TSS of the 386 format, with VM = 1. -/
def virtualTask : State :=
  place 0x3124 [2, 0, 2, 0] (place 0x1038 [0x67, 0, 0, 0x31, 0, 0x89, 0, 0] (ring0 (moreTables (testBase .i80386))))

/-- The state a result holds. -/
def resultState (s : State) : EStateM.Result Stop State Unit → State
  | .ok _ t => t
  | .error _ _ => s

theorem result_of {s : State} {r : EStateM.Result Stop State Unit}
    (h : (match r with | .ok _ _ => true | .error _ _ => false) = true) : r = .ok () (resultState s r) := by
  cases r with
  | ok a t => rfl
  | error _ _ => cases h

/-- The loads of a switch to the TSS 0x38. -/
def loadsOf (s : State) (k : SwitchKind) : TaskLoads :=
  let v := switched s 0x38 k 0x105
  taskLoads s 0 (taskSels v) (entered s v k)

/-- Every test passes, with accessed bits still clear; or a test before the switch refuses. -/
theorem witness_TaskSwitchEntersNewTask : freshTask.mem.wf = true ∧ freshTask.pagingOn = false ∧ freshTask.cfg.model.has286 = true ∧
    (∃ t, taskSwitch 0x38 .jmp 0x105 0 freshTask = .ok () t) ∧
    (∃ t, taskSwitch 0x38 .call 0x105 0 freshTask = .ok () t ∧ SwitchKind.nests .call = true) ∧
    taskVerdict freshTask 0x28 0 .jmp = some (.gp 0x28) ∧ taskVerdict freshTask 0x38 0 .call = none ∧
    taskLdtFits (switched freshTask 0x38 .call 0x105) ∧ bit (taskPs (switched freshTask 0x38 .call 0x105)) 17 = false ∧
    (loadsOf freshTask .call).fails = none ∧ (loadsOf freshTask .call).recs.length = 4 ∧
    ((freshTask.named 0x10).w2.getLsbD 8 = false ∧ ((loadsOf freshTask .call).left.named 0x10).w2.getLsbD 8 = true) := by
  refine ⟨by decide +kernel, by decide +kernel, by decide +kernel, ⟨_, result_of (s := freshTask) (by decide +kernel)⟩,
    ⟨_, result_of (s := freshTask) (by decide +kernel), by decide +kernel⟩, by decide +kernel, by decide +kernel, ?_,
    by decide +kernel, by decide +kernel, by decide +kernel, by decide +kernel⟩
  unfold taskLdtFits
  decide +kernel

/-- The tests pass, and the LDT, the image's VM, the CS, or the DS after CS and SS then refuses. -/
theorem witness_TaskSwitchRefused :
    (taskVerdict badLdtTask 0x38 0 .jmp = none ∧ ¬ taskLdtFits (switched badLdtTask 0x38 .jmp 0x105)) ∧
    (taskVerdict virtualTask 0x38 0 .jmp = none ∧ taskLdtFits (switched virtualTask 0x38 .jmp 0x105) ∧
      bit (taskPs (switched virtualTask 0x38 .jmp 0x105)) 17 = true) ∧
    (taskVerdict badCsTask 0x38 0 .jmp = none ∧ (loadsOf badCsTask .jmp).fails = some (.ts 0x10)) ∧
    (taskVerdict badDsTask 0x38 0 .jmp = none ∧ (loadsOf badDsTask .jmp).fails = some (.ts 0x38) ∧
      (loadsOf badDsTask .jmp).recs.length = 2) := by
  unfold taskLdtFits
  decide +kernel

theorem witness_FaultThroughTaskGate :
    ∃ t, taskSwitch 0x38 .int 0 1 (faulted 13 taskGateGp) = .ok () t ∧ t.canPush t.tr.kind.width 1 :=
  ⟨_, result_of (s := taskGateGp) (by decide +kernel), canPush_of (by decide +kernel)⟩

theorem witness_FlagInstructionsComplete : maySetIf wit ∧ ¬ maySetIf user := by
  refine ⟨Or.inl (by decide +kernel), ?_⟩
  unfold maySetIf
  decide +kernel

theorem witness_TableRegisterInstructions : wit.mem.wf = true ∧ canTable wit at200 .read ∧ canTable wit at200 .write ∧ mayRule wit :=
  ⟨by decide +kernel, ⟨grants_of (by decide +kernel), grants_of (by decide +kernel)⟩,
    ⟨grants_of (by decide +kernel), grants_of (by decide +kernel)⟩, Or.inl (by decide +kernel)⟩

/-- Values for CR0: paging with protection, and without. -/
def witPg : State := { wit with gpr := { wit.gpr with ax := 0x80000001 } }
def witPgAlone : State := { wit with gpr := { wit.gpr with ax := 0x80000000 } }

theorem witness_ControlAndDebugMoves : wit.canRead .w16 (wit.rmLoc (.mem at200)) ∧ mayRule wit ∧ ¬ mayRule user ∧
    ctx16.model.has286 = true ∧ (mayRule witPg ∧ ¬ (bit (witPg.gpr.get .ax) 31 = true ∧ bit (witPg.gpr.get .ax) 0 = false)) ∧
    (mayRule witPgAlone ∧ bit (witPgAlone.gpr.get .ax) 31 = true ∧ bit (witPgAlone.gpr.get .ax) 0 = false) ∧
    (1 : BitVec 3) ∉ [(0 : BitVec 3), 2, 3] := by
  refine ⟨canRead_of (by decide +kernel), Or.inl (by decide +kernel), ?_, by decide, ⟨Or.inl (by decide +kernel), by decide +kernel⟩,
    ⟨Or.inl (by decide +kernel), by decide +kernel, by decide +kernel⟩, by decide⟩
  unfold mayRule
  decide +kernel

/-- The selector operand in CX. -/
def withCx (v : Word) (s : State) : State := { s with gpr := { s.gpr with cx := v } }

theorem witness_SystemSelectorLoads : kernelMore.mem.wf = true ∧ readyProt kernelMore ∧ kernelMore.cpl = 0 ∧
    kernelMore.canRead .w16 (kernelMore.rmLoc (.reg .cx)) ∧
    (let sel (s : State) : Half := (s.valueAt .w16 (s.rmLoc (.reg .cx))).setWidth 16
     let global (s : State) : Prop := 4 ≤ (sel s).toNat ∧ (sel s).getLsbD 2 = false ∧ s.inTable (sel s) = true ∧
       (s.named (sel s)).isSegment = false
     (sel (withCx 0 kernelMore)).toNat < 4 ∧
     (global (withCx 0x40 kernelMore) ∧ ((withCx 0x40 kernelMore).named 0x40).type = 2 ∧
       ((withCx 0x40 kernelMore).named 0x40).present = true) ∧
     (4 ≤ (sel (withCx 0x38 kernelMore)).toNat ∧ ((withCx 0x38 kernelMore).named 0x38).type ≠ 2 ∧
       kernelMore.cfg.loadFaults = .source) ∧
     (global (withCx 0x38 kernelMore) ∧ ((withCx 0x38 kernelMore).named 0x38).type = 1 ∧
       ((withCx 0x38 kernelMore).named 0x38).present = true) ∧
     ((withCx 0x40 kernelMore).named 0x40).type ≠ 1 ∧
     ((place 0x103D [0x01] (withCx 0x38 kernelMore)).named 0x38).present = false ∧
     ((place 0x1045 [0x02] (withCx 0x40 kernelMore)).named 0x40).present = false ∧
     LoadFaultStyle.intel ≠ kernelMore.cfg.loadFaults) :=
  ⟨by decide +kernel, readyProt_kernel, by decide +kernel, trivial, by decide +kernel, by decide +kernel, by decide +kernel,
    by decide +kernel, by decide +kernel, by decide +kernel, by decide +kernel, by decide +kernel⟩

theorem witness_ProtectionQueriesComplete : userMore.protectedMode = true ∧ userMore.pagingOn = false ∧ userMore.mem.wf = true ∧
    userMore.canRead .w16 (userMore.rmLoc (.mem at200)) ∧ userMore.canWrite .w16 (userMore.rmLoc (.mem at200)) ∧
    (found userMore 0x23 ∧ queryAdmits userMore 0x23 (userMore.named 0x23)) ∧ ¬ queryAdmits userMore 0x10 (userMore.named 0x10) := by
  refine ⟨by decide +kernel, by decide +kernel, by decide +kernel, canRead_of (by decide +kernel), canWrite_of (by decide +kernel),
    ⟨?_, ?_⟩, ?_⟩
  · unfold found
    decide +kernel
  · rw [queryAdmits, if_neg (by decide +kernel)]
    decide +kernel
  · rw [queryAdmits, if_neg (by decide +kernel)]
    decide +kernel

/-- MP and TS set, EM set. -/
def witMpTs : State := { wit with cr0 := 0x0A }
def witEm : State := { wit with cr0 := 0x04 }

/-- An attached coprocessor that will read two bytes, store one and deliver a word in AX; and one that signals an error. -/
def witCop : State :=
  place 0x200 [0x34, 0x12] { wit with cfg := { wit.cfg with coprocessor := .attached }, copAnswers := [⟨⟨2, false⟩, ⟨[0x99], some 0xBEEF⟩⟩] }
def witCopError : State := { witCop with copAnswers := [⟨⟨2, true⟩, ⟨[0x99], some 0xBEEF⟩⟩] }

theorem witness_HaltWaitEscape : wit.cfg.coprocessor = .none ∧
    (witCop.cfg.coprocessor = .attached ∧
      escAdmits witCop (.mem at200) (escRequest witCop 0 0 (.mem at200)).reads (escReply witCop 0 0 (.mem at200)).stores.length) ∧
    (witCopError.cfg.coprocessor = .attached ∧ witCopError.cfg.model.has286 = true ∧
      (escRequest witCopError 0 0 (.mem at200)).error = true) ∧
    mayRule wit ∧ ¬ (wit.cfg.model.has286 = true ∧ bit wit.cr0 1 = true ∧ bit wit.cr0 3 = true) ∧
    (witMpTs.cfg.model.has286 = true ∧ bit witMpTs.cr0 1 = true ∧ bit witMpTs.cr0 3 = true) ∧
    ¬ (wit.cfg.model.has286 = true ∧ (bit wit.cr0 2 = true ∨ bit wit.cr0 3 = true)) ∧
    (witEm.cfg.model.has286 = true ∧ (bit witEm.cr0 2 = true ∨ bit witEm.cr0 3 = true)) :=
  ⟨by decide +kernel, ⟨by decide +kernel, ⟨fun _ => grants_of (by decide +kernel), fun _ => grants_of (by decide +kernel)⟩⟩,
    by decide +kernel, Or.inl (by decide +kernel), by decide +kernel, by decide +kernel, by decide +kernel, by decide +kernel⟩

theorem witness_PrivilegedInstructionsTrap : (user.protectedMode = true ∧ user.cpl ≠ 0) ∧ wit.protectedMode = false := by
  decide +kernel

theorem witness_PrefixesAndUndefinedEncodings : wit.cfg.model.has186 = true ∧ wit86.cfg.model.has186 = false := by decide +kernel

theorem witness_EncodeThenDecode : WellFormed ctx32 (.movGvEv .ax (.mem (.sib 2 (some .cx) .bx (.d8 8)))) = true := by decide +kernel

/-- Code at the instruction pointer: LOCK, INC AX. -/
def witCode : State := place 0x100 [0xF0, 0x40] wit
def witTrace : State := setPs 0x102 witCode

theorem codeAt_of {s : State} {bs : List Byte}
    (h : ((List.range bs.length).all fun k =>
      grantsB s .cs (s.truncPc (s.pc + BitVec.ofNat 32 k)).toNat 1 .execute &&
        s.busRead (s.spread .cs (s.truncPc (s.pc + BitVec.ofNat 32 k)).toNat 1) == (bs.getD k 0).setWidth 32) = true) :
    codeAt s bs := by
  intro k hk
  have hb := List.all_eq_true.mp h k (List.mem_range.mpr hk)
  rw [Bool.and_eq_true] at hb
  exact ⟨grants_of hb.1, eq_of_beq hb.2⟩

theorem uncorrupted_of {s : State} (h : s.sound = true) : uncorrupted s := by
  simp only [State.sound, SegReg.sound, Bool.and_eq_true, Bool.or_eq_true, beq_iff_eq, List.all_eq_true] at h
  exact ⟨fun hp => h.1.resolve_left (by simp [hp]), fun r hr => ⟨(h.2 r hr).1, fun h3 => (h.2 r hr).2.resolve_left (by simp [h3])⟩⟩

/-- The same instruction at CPL 3 in protected mode with TF set; the gate of vector 1 is that of vector 0x21. -/
def userTrace : State := setPs 0x102 (place 0x2008 [0x80, 0, 8, 0, 0, 0xE6, 0, 0] (place 0x100 [0xF0, 0x40] userMore))

theorem witness_StepRunsDecodedInstruction : ¬ uncorrupted { wit with cpl := 3 } ∧
    (fetches witCode ∧ atPc witCode [.lock] [0x40] (.incR .ax) ∧ witCode.direct psTF = false) ∧
    (fetches witTrace ∧ atPc witTrace [.lock] [0x40] (.incR .ax) ∧ witTrace.direct psTF = true ∧
      ∃ t, exec (.incR .ax) (fetched witTrace [.lock] [0x40]) = .next t ∧ t.noTrap = false ∧ readyReal t 1) ∧
    (fetches userTrace ∧ atPc userTrace [.lock] [0x40] (.incR .ax) ∧ userTrace.direct psTF = true ∧
      ∃ t, exec (.incR .ax) (fetched userTrace [.lock] [0x40]) = .next t ∧ t.noTrap = false ∧ readyProt t ∧ entryReady t 1 ∧
        isGate t (idtEntry t 1) .w16 true ∧ codeGate t 1 (idtEntry t 1).w1 true = .ok 0 ∧ 0 < t.cpl ∧ canSwitch t 0 ∧
        takes (innerStack t 0) .w16 (intFrame t true t.pc none)) := by
  refine ⟨fun h => absurd (h.1 (by decide +kernel)) (by decide +kernel),
    ⟨⟨uncorrupted_of (by decide +kernel), by decide +kernel, by decide +kernel, by decide +kernel⟩,
      ⟨by decide +kernel, by decide +kernel, by decide +kernel, by decide +kernel, by decide +kernel, codeAt_of (by decide +kernel)⟩,
      by decide +kernel⟩,
    ⟨⟨uncorrupted_of (by decide +kernel), by decide +kernel, by decide +kernel, by decide +kernel⟩,
      ⟨by decide +kernel, by decide +kernel, by decide +kernel, by decide +kernel, by decide +kernel, codeAt_of (by decide +kernel)⟩,
      by decide +kernel,
      ⟨_, next_of (s := wit) (by decide +kernel), by decide +kernel,
        ⟨by decide +kernel, by decide +kernel, Or.inr (by decide +kernel), canPush_of (by decide +kernel)⟩⟩⟩,
    ⟨⟨uncorrupted_of (by decide +kernel), by decide +kernel, by decide +kernel, by decide +kernel⟩,
      ⟨by decide +kernel, by decide +kernel, by decide +kernel, by decide +kernel, by decide +kernel, codeAt_of (by decide +kernel)⟩,
      by decide +kernel,
      ⟨_, next_of (s := userMore) (by decide +kernel), by decide +kernel, ⟨by decide +kernel, by decide +kernel⟩, ?_, ?_,
        ok_of (by decide +kernel), by decide +kernel, ?_, canPush_of (by decide +kernel)⟩⟩⟩
  all_goals first | unfold entryReady | unfold isGate | unfold canSwitch tssHasStack stackFits
  all_goals decide +kernel

theorem witness_StepKeepsInvariant : witCode.Inv ∧ ∃ t, step witCode = .next t :=
  ⟨⟨by decide +kernel, by decide +kernel, by decide +kernel, by decide +kernel, by decide +kernel, by decide +kernel⟩,
    ⟨_, next_of (s := wit) (by decide +kernel)⟩⟩

theorem witness_StepKeepsParameters : ∃ t, step witCode = .next t := ⟨_, next_of (s := wit) (by decide +kernel)⟩

theorem witness_ResetValues : (Params.defaults .i80386).model.has286 = true ∧ (Params.defaults .i8086).model.has286 = false := by
  decide

theorem witness_RegisterViews : Reg.cx ≠ .ax := by decide

theorem witness_PsReadsMaterialisedFlags : (31 : Nat) < 32 := by decide

/-- A platform with ROM, a hole and a device. -/
def witBus : State :=
  { wit with cfg := { wit.cfg with busMap := [⟨0x600, 0x6FF, .rom⟩, ⟨0x700, 0x7FF, .hole 0xFF⟩, ⟨0x800, 0x8FF, .device⟩] } }

theorem witness_StoresAreLittleEndian : wit.mem.wf = true ∧ (4 : Nat) ≤ 4 ∧ (∀ i, i < 4 → wit.busKind (0x500 + i) = .ram) ∧
    witBus.mem.wf = true ∧ witBus.busKind 0x600 ≠ .ram ∧ witBus.busKind 0x7FF = .hole 0xFF ∧ witBus.busKind 0x800 = .device ∧
    (witBus.pagingOn = false ∧ witBus.cfg.model.has386 = true ∧ wit86.cfg.model.has386 = false) :=
  ⟨by decide +kernel, by decide, by decide +kernel, by decide +kernel, by decide +kernel, by decide +kernel, by decide +kernel, by decide +kernel⟩

/-- The instruction pointer beyond a short code segment; an operand at the last byte of DS and of SS. -/
def witShort : State := { wit with cs := { wit.cs with limit := 0xFF } }
def witBpEdge : State := { wit with gpr := { wit.gpr with bp := 0xFFFF } }

theorem witness_RefusedAccessesFault :
    (fetches witShort ∧ ¬ accessFits witShort .cs witShort.pc.toNat 1 .execute) ∧
    ¬ accessFits wit (wit.resolve (.abs16 0xFFFF)).1 (wit.resolve (.abs16 0xFFFF)).2 2 .read ∧
    ¬ accessFits witBpEdge (witBpEdge.resolve (.base16 .bp (.d8 0))).1 (witBpEdge.resolve (.base16 .bp (.d8 0))).2 2 .write ∧
    ¬ accessFits { user with ds := { user.ds with acc := 0 } } .ds 0 1 .read ∧ ¬ accessFits user .cs 0 1 .write := by
  refine ⟨⟨⟨uncorrupted_of (by decide +kernel), by decide +kernel, by decide +kernel, by decide +kernel⟩, ?_⟩, ?_, ?_, ?_, ?_⟩ <;>
    unfold accessFits <;> decide +kernel

/-- Paging on at CPL 0: the directory at 0x2000, one table at 0x3000 mapping page 0. -/
def witPaged : State :=
  let s := place 0x3000 [7, 0x50, 0, 0] (place 0x2000 [7, 0x30, 0, 0] wit)
  { s with cr0 := 0xFFFFFFE1, cr3 := 0x2000, ds := flat 0x10 0x9300 0x1010 0 }

/-- The same at CPL 3 in pages of the supervisor. -/
def witSupervisor : State := { place 0x3000 [3, 0x50, 0, 0] witPaged with cpl := 3 }

theorem witness_PagedAccesses : witPaged.mem.wf = true ∧ witPaged.pagingOn = true ∧
    accessFits witPaged .ds 0x200 2 .read ∧ accessFits witPaged .ds 0x200 2 .write ∧ mapped witPaged 0x200 ∧
    permitted witPaged 0x200 true ∧ ¬ 4096 < 0x200 % 4096 + 2 ∧ witSupervisor.pagingOn = true ∧
    accessFits witSupervisor .ds 0x200 1 .write ∧ ¬ (mapped witSupervisor 0x200 ∧ permitted witSupervisor 0x200 true) ∧
    (4096 < 0xFFF % 4096 + 2 ∧ accessFits witPaged .ds 0xFFF 2 .write ∧
      (walks true 2 0xFFF (place 0x3004 [7, 0x60, 0, 0] witPaged)).toOption.map (·.2) = some [0x5FFF, 0x6000] ∧
      (walks true 2 0xFFF witPaged).toOption.isNone) := by
  refine ⟨by decide +kernel, by decide +kernel, ?_, ?_, by decide +kernel, by decide +kernel, by decide +kernel, by decide +kernel,
    ?_, by decide +kernel, by decide +kernel, ?_, by decide +kernel, by decide +kernel⟩ <;> unfold accessFits <;> decide +kernel

/-- A request pending with IF set, and the halted state. -/
def witIntr : State := { setPs 0x202 wit with intFlags := ⟨true, true⟩, intAcks := [8] }
def witHalt : State := { wit with intFlags := ⟨false, true⟩ }

/-- A request pending at CPL 3 in protected mode. -/
def userIntr : State := { setPs 0x202 userMore with intFlags := ⟨true, false⟩, intAcks := [0x21] }

theorem witness_InterruptsAndHalt : witIntr.mem.wf = true ∧ uncorrupted witIntr ∧ witIntr.virtual = false ∧
    (userIntr.mem.wf = true ∧ uncorrupted userIntr ∧ userIntr.virtual = false ∧ userIntr.intFlags.intr = true ∧
      userIntr.direct psIF = true ∧ userIntr.opFlags.noIntr = false ∧ userIntr.intAcks = [0x21] ∧ readyProt userIntr ∧
      0x21 * 8 + 7 ≤ userIntr.idtr.limit.toNat ∧ (idtEntry userIntr 0x21).present = true) ∧
    ((idtEntry gateTask 0x21).type = 5 ∧ (idtEntry gateTask 0x21).isSegment = false) ∧
    (witIntr.intFlags.intr = true ∧ witIntr.direct psIF = true ∧ witIntr.opFlags.noIntr = false ∧ witIntr.intAcks = [8] ∧
      readyReal witIntr 8) ∧
    (witHalt.intFlags.halt = true ∧ witHalt.intFlags.intr = false) :=
  ⟨by decide +kernel, uncorrupted_of (by decide +kernel), by decide +kernel,
    ⟨by decide +kernel, uncorrupted_of (by decide +kernel), by decide +kernel, by decide +kernel, by decide +kernel,
      by decide +kernel, by decide +kernel, ⟨by decide +kernel, by decide +kernel⟩, by decide +kernel, by decide +kernel⟩,
    by decide +kernel, ⟨by decide +kernel, by decide +kernel, by decide +kernel, by decide +kernel,
    ⟨by decide +kernel, by decide +kernel, Or.inr (by decide +kernel), canPush_of (by decide +kernel)⟩⟩, by decide +kernel⟩

end Sys2Proof.Tests
end

section
/-! The part of the state that the invariant speaks of, its frame, and the operations that leave it alone: every access to memory
and every instruction that neither transfers control nor loads a segment register or CR0. -/

namespace Sys2Proof.Machine

/-- What the invariant of the machine speaks of, with opLIP, from which a repeated string instruction is taken up again (R523). -/
structure Frame where
  cfg    : Params
  memory : Bool       -- memory is in canonical form
  vm     : Bool       -- the bit VM of the stored PS word
  prot   : Bool       -- protected mode
  cpl    : BitVec 2
  es     : SegReg
  cs     : SegReg
  ss     : SegReg
  ds     : SegReg
  fs     : SegReg
  gs     : SegReg
  pc     : Word
  opLIP  : Word

def State.frame (s : State) : Frame :=
  ⟨s.cfg, s.mem.wf, s.flags.ps.getLsbD 17, s.protectedMode, s.cpl, s.es, s.cs, s.ss, s.ds, s.fs, s.gs, s.pc, s.opLIP⟩

/-- The state has a given frame, with memory in canonical form. -/
def Framed (f : Frame) (s : State) : Prop := s.frame = f ∧ f.memory = true

variable {f : Frame} {α : Type}

theorem keepsBy_framed {g : State → State} (h : ∀ s, (g s).frame = s.frame) : KeepsBy (Framed f) g :=
  fun s hs => ⟨(h s).trans hs.1, hs.2⟩

/-! ### The flags keep VM -/

/-- VM is none of the six cached flags (R46). -/
theorem Flag.vm_ne_place (g : Flag) : 17 ≠ g.place := by cases g <;> decide

/-- A change of the flag engine that keeps VM keeps the frame. -/
theorem State.frame_withFlags (s : State) {e : FlagEngine} (h : e.ps.getLsbD 17 = s.flags.ps.getLsbD 17) :
    State.frame { s with flags := e } = s.frame :=
  congrArg (fun v => { s.frame with vm := v }) h

@[simp] theorem State.frame_setFlag (s : State) (g : Flag) (v : Bool) : (s.setFlag g v).frame = s.frame :=
  s.frame_withFlags (s.flags.getLsbD_setFlag_ps g v (by decide) g.vm_ne_place)

@[simp] theorem State.frame_undefine (s : State) (site : UndefSite) (w : Width) (m old : Word) (ops : List Word) :
    (s.undefine site w m old ops).frame = s.frame := by
  unfold State.undefine
  split
  · rfl
  · exact s.frame_withFlags (s.flags.getLsbD_setFlags_ps _ m (by decide) Flag.vm_ne_place)

/-- PS written with a mask that spares VM. -/
theorem State.frame_setPS (s : State) (v : Word) {m : Word} (h : m.getLsbD 17 = false) : (s.setPS v m).frame = s.frame :=
  s.frame_withFlags (s.flags.getLsbD_setPS_other v m (by decide) Flag.vm_ne_place h)

/-- A direct flag other than VM. -/
theorem State.frame_setDirect (s : State) (v : Bool) {m : Word} (h : m.getLsbD 17 = false) : (s.setDirect m v).frame = s.frame :=
  s.frame_withFlags ((getLsbD_putMask _ m v (by decide)).trans (by rw [h]; rfl))

theorem State.frame_install (s : State) (n : CachedSet) (w : Width) (d x a l : Word) :
    State.frame { s with flags := s.flags.install n w d x a l } = s.frame :=
  s.frame_withFlags (s.flags.getLsbD_install_ps n w d x a l (by decide) Flag.vm_ne_place)

@[simp] theorem State.frame_flagsAdd (s : State) (w : Width) (d x a : Word) : (s.flagsAdd w d x a).frame = s.frame :=
  s.frame_install ..
@[simp] theorem State.frame_flagsSub (s : State) (w : Width) (d x a : Word) : (s.flagsSub w d x a).frame = s.frame :=
  s.frame_install ..
@[simp] theorem State.frame_flagsInc (s : State) (w : Width) (d a : Word) : (s.flagsInc w d a).frame = s.frame :=
  s.frame_install ..
@[simp] theorem State.frame_flagsDec (s : State) (w : Width) (d a : Word) : (s.flagsDec w d a).frame = s.frame :=
  s.frame_install ..
@[simp] theorem State.frame_flagsPZS (s : State) (w : Width) (a : Word) : (s.flagsPZS w a).frame = s.frame :=
  s.frame_install ..

@[simp] theorem State.frame_flagsLogic (s : State) (site : UndefSite) (w : Width) (d x l : Word) :
    (s.flagsLogic site w d x l).frame = s.frame := by
  have h := s.frame_install ⟨false, true, true, true, true, false⟩ w d x l l
  exact (State.frame_undefine ..).trans ((State.frame_setFlag _ .of false).trans ((State.frame_setFlag _ .cf false).trans h))

@[simp] theorem State.frame_flagsMul (s : State) (w : Width) (sgn big : Bool) (a b : Word) :
    (s.flagsMul w sgn big a b).frame = s.frame := by simp [State.flagsMul]

@[simp] theorem State.frame_flagsBit (s : State) (site : UndefSite) (w : Width) (v : Word) (n : Nat) :
    (s.flagsBit site w v n).frame = s.frame := by simp [State.flagsBit]

@[simp] theorem State.frame_flagsScan (s : State) (site : UndefSite) (w : Width) (v old : Word) :
    (s.flagsScan site w v old).frame = s.frame := by simp [State.flagsScan]

@[simp] theorem State.frame_flagsDecimal (s : State) (site : UndefSite) (old al : Word) (cf af : Bool) :
    (s.flagsDecimal site old al cf af).frame = s.frame := by simp [State.flagsDecimal]

@[simp] theorem State.frame_flagsAscii (s : State) (site : UndefSite) (v : Bool) (ax : Word) :
    (s.flagsAscii site v ax).frame = s.frame := by simp [State.flagsAscii]

@[simp] theorem State.frame_flagsBase (s : State) (site : UndefSite) (ops : List Word) (al : Word) :
    (s.flagsBase site ops al).frame = s.frame := by simp [State.flagsBase]

@[simp] theorem State.frame_flagsDouble (s : State) (left : Bool) (w : Width) (d g l : Word) (cf : Bool) (c : Nat) :
    (s.flagsDouble left w d g l cf c).frame = s.frame := by simp [State.flagsDouble]

@[simp] theorem State.frame_flagsControl (s : State) (site : UndefSite) (n : BitVec 3) (v : Word) :
    (s.flagsControl site n v).frame = s.frame := by simp [State.flagsControl]

@[simp] theorem Alu.frame_flags (op : Alu) (w : Width) (d x a : Word) (s : State) : (op.flags w d x a s).frame = s.frame := by
  cases op <;> simp [Alu.flags]

@[simp] theorem Unary.frame_flags (op : Unary) (w : Width) (d a : Word) (s : State) : (op.flags w d a s).frame = s.frame := by
  cases op <;> simp [Unary.flags]

@[simp] theorem ShiftOp.frame_flags (op : ShiftOp) (w : Width) (d : Word) (c : Nat) (r : ShiftResult) (s : State) :
    (op.flags w d c r s).frame = s.frame := by
  unfold ShiftOp.flags
  split <;> simp

theorem bitsIf_vm (b : Bool) {m : Word} (h : m.getLsbD 17 = false) : (bitsIf b m).getLsbD 17 = false := by
  cases b
  · exact BitVec.getLsbD_zero
  · exact h

/-- The bits POPF and IRET may write leave VM out (R491). -/
theorem State.popfWritable_vm (s : State) : s.popfWritable.getLsbD 17 = false := by
  simp only [State.popfWritable, BitVec.getLsbD_or, bitsIf_vm _ (show psIF.getLsbD 17 = false by decide),
    bitsIf_vm _ (show psIOPL.getLsbD 17 = false by decide), bitsIf_vm _ (show psNT.getLsbD 17 = false by decide)]
  decide

theorem State.iretWritable_vm (s : State) : s.iretWritable.getLsbD 17 = false := by
  rw [State.iretWritable, BitVec.getLsbD_or, s.popfWritable_vm, bitsIf_vm _ (by decide)]
  rfl

/-! ### The other updates that need a case split -/

@[simp] theorem State.frame_setReg (s : State) (w : Width) (r : Reg) (v : Word) : (s.setReg w r v).frame = s.frame := rfl
@[simp] theorem State.frame_setReg8 (s : State) (r : Reg8) (v : Word) : (s.setReg8 r v).frame = s.frame := rfl
@[simp] theorem State.frame_advance (s : State) (r : Reg) (n : Nat) : (s.advance r n).frame = s.frame := rfl

@[simp] theorem State.frame_setPair (s : State) (w : Width) (hi lo : Word) : (s.setPair w hi lo).frame = s.frame := by
  cases w <;> rfl

@[simp] theorem State.frame_setDivision (s : State) (w : Width) (q r : Word) : (s.setDivision w q r).frame = s.frame := by
  cases w <;> rfl

@[simp] theorem State.frame_setDr (s : State) (n : BitVec 3) (v : Word) : (s.setDr n v).frame = s.frame := by
  unfold State.setDr
  split <;> rfl

@[simp] theorem State.frame_portAnswer (s : State) (port : Half) (w : Width) : (s.portAnswer port w).2.frame = s.frame := by
  unfold State.portAnswer
  split <;> rfl

@[simp] theorem State.frame_copDone (s : State) (a : CopReply) (ev : CopEvent) : (s.copDone a ev).frame = s.frame := by
  unfold State.copDone
  split <;> rfl

@[simp] theorem State.frame_intAck (s : State) : s.intAck.2.frame = s.frame := by
  unfold State.intAck
  split <;> rfl

/-! ### Accesses to memory -/

theorem State.frame_busStore {s : State} (h : s.mem.wf = true) (ops : BusOps) (bs : List Byte) :
    (s.busStore ops bs).frame = s.frame := by
  simp only [State.frame, State.busStore_wf ops bs h, h, State.protectedMode, State.busStore_cfg, State.busStore_cr0, State.busStore_flags,
    State.busStore_cpl, State.busStore_es, State.busStore_cs, State.busStore_ss, State.busStore_ds, State.busStore_fs,
    State.busStore_gs, State.busStore_pc, State.busStore_opLIP]

/-- No access to memory changes the frame. -/
theorem stable_framed : Stable (Framed f) where
  store ops bs s hs := ⟨(State.frame_busStore (hs.1 ▸ hs.2 : s.frame.memory = true) ops bs).trans hs.1, hs.2⟩
  noted _ _ h := h
  cr2 _ _ h := h
  refused _ h := h

/-! ### Operands and the stack -/

theorem framed_setReg {w : Width} {r : Reg} {v : Word} : Keeps (Framed f) (modify (State.setReg w r v)) :=
  keeps_modify fun _ h => h

theorem framed_commit {k : Stack} : Keeps (Framed f) k.commit := framed_setReg

theorem framed_peek {k : Stack} {i n : Nat} : Keeps (Framed f) (k.peek i n) := keeps_stack_peek stable_framed _ _ _

theorem framed_push {w : Width} {v : Word} : Keeps (Framed f) (push w v) :=
  keeps_bind (keeps_read _) fun k => keeps_bind (keeps_stack_push stable_framed k w v) fun _ => framed_commit

theorem framed_pop {w : Width} : Keeps (Framed f) (pop w) :=
  keeps_bind (keeps_read _) fun _ => keeps_bind framed_peek fun _ =>
    keeps_bind framed_commit fun _ => keeps_pure _

theorem framed_capture {l : Loc} : Keeps (Framed f) (capture l) := keeps_bind (keeps_modify fun _ h => h) fun _ => keeps_pure _

theorem framed_locM {m : MemOp} : Keeps (Framed f) (locM m) := keeps_bind keeps_get fun _ => framed_capture
theorem framed_locE {e : RM} : Keeps (Framed f) (locE e) := keeps_bind keeps_get fun _ => framed_capture
theorem framed_locE8 {e : RM8} : Keeps (Framed f) (locE8 e) := keeps_bind keeps_get fun _ => framed_capture
theorem framed_locO {off : Word} : Keeps (Framed f) (locO off) := keeps_bind keeps_get fun _ => framed_capture
theorem framed_noWrite : Keeps (Framed f) noWrite := keeps_modify fun _ h => h

theorem framed_readLoc {w : Width} {l : Loc} : Keeps (Framed f) (readLoc w l) := by
  cases l with
  | byteReg r => exact keeps_read _
  | reg r => exact keeps_read _
  | mem seg off => exact keeps_segRead stable_framed _ _ _

theorem framed_writeLoc {w : Width} {l : Loc} {v : Word} : Keeps (Framed f) (writeLoc w l v) := by
  cases l with
  | byteReg r => exact keeps_modify fun _ h => h
  | reg r => exact framed_setReg
  | mem seg off => exact keeps_bind (keeps_modify fun _ h => h) fun _ => keeps_segWrite stable_framed _ _ _ _

theorem framed_checkLoc {w : Width} {l : Loc} : Keeps (Framed f) (checkLoc w l) := by
  cases l with
  | byteReg r => exact keeps_pure _
  | reg r => exact keeps_pure _
  | mem seg off => exact keeps_bind (keeps_modify fun _ h => h) fun _ => keeps_bind (keeps_read _) fun _ =>
      keeps_view_checkWrite stable_framed _ _ _

theorem framed_readModifyWrite {w : Width} {l : Loc} {g : State → Word → Word × (State → State)}
    (hg : ∀ s d t, ((g s d).2 t).frame = t.frame) : Keeps (Framed f) (readModifyWrite w l g) :=
  keeps_bind framed_checkLoc fun _ => keeps_bind framed_readLoc fun d => keeps_bind keeps_get fun s =>
    keeps_bind framed_writeLoc fun _ => keeps_modify (keepsBy_framed (hg s d))

theorem framed_readFar {m : MemOp} : Keeps (Framed f) (readFar m) :=
  keeps_bind keeps_get fun _ => keeps_bind framed_locM fun _ => keeps_bind (keeps_segRead stable_framed _ _ _) fun _ =>
    keeps_bind (keeps_segRead stable_framed _ _ _) fun _ => keeps_pure _

theorem framed_storeHalfAt {l : Loc} {v : Half} : Keeps (Framed f) (storeHalfAt l v) :=
  keeps_bind keeps_get fun _ => by cases l <;> exact framed_writeLoc

theorem framed_storeHalf {e : RM} {v : Half} : Keeps (Framed f) (storeHalf e v) :=
  keeps_bind framed_locE fun _ => framed_storeHalfAt

/-! ### Arithmetic, logic and shifts -/

theorem framed_alu {op : Alu} {w : Width} {dst : Loc} {src : M Word} (hs : Keeps (Framed f) src) :
    Keeps (Framed f) (alu op w dst src) :=
  keeps_bind (keeps_ite framed_checkLoc framed_noWrite) fun _ => keeps_bind framed_readLoc fun _ =>
    keeps_bind hs fun _ => keeps_bind keeps_get fun _ => keeps_bind (keeps_whenM framed_writeLoc) fun _ =>
      keeps_modify (keepsBy_framed (op.frame_flags _ _ _ _))

theorem framed_aluEbGb {op : Alu} {e : RM8} {g : Reg8} : Keeps (Framed f) (aluEbGb op e g) :=
  keeps_bind framed_locE8 fun _ => framed_alu framed_readLoc
theorem framed_aluGbEb {op : Alu} {g : Reg8} {e : RM8} : Keeps (Framed f) (aluGbEb op g e) :=
  keeps_bind framed_locE8 fun _ => framed_alu framed_readLoc
theorem framed_aluALIb {op : Alu} {ib : Byte} : Keeps (Framed f) (aluALIb op ib) := framed_alu (keeps_pure _)
theorem framed_aluEbIb {op : Alu} {e : RM8} {ib : Byte} : Keeps (Framed f) (aluEbIb op e ib) :=
  keeps_bind framed_locE8 fun _ => framed_alu (keeps_pure _)
theorem framed_aluEvGv {op : Alu} {e : RM} {g : Reg} : Keeps (Framed f) (aluEvGv op e g) :=
  keeps_bind keeps_get fun _ => keeps_bind framed_locE fun _ => framed_alu framed_readLoc
theorem framed_aluGvEv {op : Alu} {g : Reg} {e : RM} : Keeps (Framed f) (aluGvEv op g e) :=
  keeps_bind keeps_get fun _ => keeps_bind framed_locE fun _ => framed_alu framed_readLoc
theorem framed_aluEAXIv {op : Alu} {iv : Word} : Keeps (Framed f) (aluEAXIv op iv) :=
  keeps_bind keeps_get fun _ => framed_alu (keeps_pure _)
theorem framed_aluEvIv {op : Alu} {e : RM} {iv : Word} : Keeps (Framed f) (aluEvIv op e iv) :=
  keeps_bind keeps_get fun _ => keeps_bind framed_locE fun _ => framed_alu (keeps_pure _)
theorem framed_aluEvIbs {op : Alu} {e : RM} {ib : Byte} : Keeps (Framed f) (aluEvIbs op e ib) :=
  keeps_bind keeps_get fun _ => keeps_bind framed_locE fun _ => framed_alu (keeps_pure _)

theorem framed_unary {op : Unary} {w : Width} {l : Loc} : Keeps (Framed f) (unary op w l) :=
  framed_readModifyWrite fun _ _ _ => op.frame_flags ..
theorem framed_unaryEb {op : Unary} {e : RM8} : Keeps (Framed f) (unaryEb op e) :=
  keeps_bind framed_locE8 fun _ => framed_unary
theorem framed_unaryEv {op : Unary} {e : RM} : Keeps (Framed f) (unaryEv op e) :=
  keeps_bind keeps_get fun _ => keeps_bind framed_locE fun _ => framed_unary
theorem framed_unaryR {op : Unary} {r : Reg} : Keeps (Framed f) (unaryR op r) := keeps_bind keeps_get fun _ => framed_unary

theorem framed_mul {w : Width} {sgn : Bool} {l : Loc} : Keeps (Framed f) (mul w sgn l) :=
  keeps_bind framed_readLoc fun _ => keeps_modify (keepsBy_framed fun s => by simp)
theorem framed_mulEb {sgn : Bool} {e : RM8} : Keeps (Framed f) (mulEb sgn e) :=
  keeps_bind framed_locE8 fun _ => framed_mul
theorem framed_mulEv {sgn : Bool} {e : RM} : Keeps (Framed f) (mulEv sgn e) :=
  keeps_bind keeps_get fun _ => keeps_bind framed_locE fun _ => framed_mul
theorem framed_imulTo {g : Reg} {e : RM} {m : State → Word} : Keeps (Framed f) (imulTo g e m) :=
  keeps_bind keeps_get fun _ => keeps_bind framed_locE fun _ => keeps_bind framed_readLoc fun _ =>
    keeps_modify (keepsBy_framed fun s => by simp)

theorem framed_divide {w : Width} {sgn : Bool} {l : Loc} : Keeps (Framed f) (divide w sgn l) := by
  refine keeps_bind framed_readLoc fun d => keeps_bind keeps_get fun s => ?_
  dsimp only
  split
  · exact keeps_raise' stable_framed _
  · exact keeps_modify (keepsBy_framed fun s => by simp)
theorem framed_divideEb {sgn : Bool} {e : RM8} : Keeps (Framed f) (divideEb sgn e) :=
  keeps_bind framed_locE8 fun _ => framed_divide
theorem framed_divideEv {sgn : Bool} {e : RM} : Keeps (Framed f) (divideEv sgn e) :=
  keeps_bind keeps_get fun _ => keeps_bind framed_locE fun _ => framed_divide

theorem frame_daa (s : State) : (daa s).frame = s.frame := by simp [daa]
theorem frame_das (s : State) : (das s).frame = s.frame := by simp [das]
theorem frame_aad (ib : Byte) (s : State) : (aad ib s).frame = s.frame := by simp [aad]
theorem frame_asciiAdjust (site : UndefSite) (d6 d1 d16 : Word) (s : State) : (asciiAdjust site d6 d1 d16 s).frame = s.frame := by
  unfold asciiAdjust
  simp only [State.frame_flagsAscii, State.frame_setReg8]
  split
  · rfl
  · split <;> rfl
theorem framed_aam {ib : Byte} : Keeps (Framed f) (aam ib) :=
  keeps_bind (keeps_ensure' stable_framed _ _) fun _ => keeps_modify (keepsBy_framed fun s => by simp)

theorem framed_shift {op : ShiftOp} {w : Width} {l : Loc} {c : Nat} : Keeps (Framed f) (shift op w l c) :=
  framed_readModifyWrite fun s d t => by split <;> simp
theorem framed_shiftEb {op : ShiftOp} {k : ShiftBy} {e : RM8} : Keeps (Framed f) (shiftEb op k e) :=
  keeps_bind keeps_get fun _ => keeps_bind framed_locE8 fun _ => framed_shift
theorem framed_shiftEv {op : ShiftOp} {k : ShiftBy} {e : RM} : Keeps (Framed f) (shiftEv op k e) :=
  keeps_bind keeps_get fun _ => keeps_bind framed_locE fun _ => framed_shift
theorem framed_shiftDst {op : ShiftOp} {k : ShiftBy} {d : ShiftDst} : Keeps (Framed f) (shiftDst op k d) := by
  cases d with
  | eb e => exact framed_shiftEb
  | ev e => exact framed_shiftEv
theorem framed_doubleShift {left : Bool} {e : RM} {g : Reg} {k : ShiftBy} : Keeps (Framed f) (doubleShift left e g k) :=
  keeps_bind keeps_get fun _ => keeps_bind framed_locE fun _ => framed_readModifyWrite fun s d t => by split <;> simp

/-! ### Bits -/

theorem framed_bitAt {op : BitOp} {w : Width} {l : Loc} {n : Nat} : Keeps (Framed f) (bitAt op w l n) :=
  keeps_ite
    (keeps_bind framed_noWrite fun _ => keeps_bind framed_readLoc fun _ => keeps_modify (keepsBy_framed fun s => by simp))
    (framed_readModifyWrite fun s d t => by simp)
theorem framed_bitIb {op : BitOp} {e : RM} {ib : Byte} : Keeps (Framed f) (bitIb op e ib) :=
  keeps_bind keeps_get fun _ => keeps_bind framed_locE fun _ => framed_bitAt
theorem framed_bitGv {op : BitOp} {e : RM} {g : Reg} : Keeps (Framed f) (bitGv op e g) :=
  keeps_bind keeps_get fun _ => keeps_bind framed_capture fun _ => framed_bitAt
theorem framed_bitScan {up : Bool} {g : Reg} {e : RM} : Keeps (Framed f) (bitScan up g e) :=
  keeps_bind keeps_get fun _ => keeps_bind framed_locE fun _ => keeps_bind framed_readLoc fun _ =>
    keeps_modify (keepsBy_framed fun s => by simp)
theorem framed_setcc {c : Cond} {e : RM8} : Keeps (Framed f) (setcc c e) :=
  keeps_bind keeps_get fun _ => keeps_bind framed_locE8 fun _ => framed_writeLoc

/-! ### Moves -/

theorem framed_move {w : Width} {dst src : Loc} : Keeps (Framed f) (move w dst src) :=
  keeps_bind framed_readLoc fun _ => framed_writeLoc
theorem framed_moveToE8 {e : RM8} {src : Loc} : Keeps (Framed f) (moveToE8 e src) :=
  keeps_bind framed_locE8 fun _ => framed_move
theorem framed_moveFromE8 {dst : Loc} {e : RM8} : Keeps (Framed f) (moveFromE8 dst e) :=
  keeps_bind framed_locE8 fun _ => framed_move
theorem framed_moveToE {e : RM} {g : Reg} : Keeps (Framed f) (moveToE e g) :=
  keeps_bind keeps_get fun _ => keeps_bind framed_locE fun _ => framed_move
theorem framed_moveFromE {g : Reg} {e : RM} : Keeps (Framed f) (moveFromE g e) :=
  keeps_bind keeps_get fun _ => keeps_bind framed_locE fun _ => framed_move
theorem framed_moveOffset {w : Width} {acc : Loc} {off : Word} {store : Bool} : Keeps (Framed f) (moveOffset w acc off store) :=
  keeps_bind framed_locO fun _ => keeps_ite framed_move framed_move
theorem framed_moveImmE8 {e : RM8} {v : Word} : Keeps (Framed f) (moveImmE8 e v) :=
  keeps_bind framed_locE8 fun _ => framed_writeLoc
theorem framed_moveImmE {e : RM} {v : Word} : Keeps (Framed f) (moveImmE e v) :=
  keeps_bind keeps_get fun _ => keeps_bind framed_locE fun _ => framed_writeLoc
theorem framed_moveFromSeg {e : RM} {r : SReg} : Keeps (Framed f) (moveFromSeg e r) :=
  keeps_bind keeps_get fun _ => framed_storeHalf

theorem framed_exchange {w : Width} {l g : Loc} : Keeps (Framed f) (exchange w l g) :=
  keeps_bind framed_checkLoc fun _ => keeps_bind framed_readLoc fun _ => keeps_bind framed_readLoc fun _ =>
    keeps_bind framed_writeLoc fun _ => framed_writeLoc
theorem framed_exchangeE8 {e : RM8} {g : Reg8} : Keeps (Framed f) (exchangeE8 e g) :=
  keeps_bind framed_locE8 fun _ => framed_exchange
theorem framed_exchangeE {e : RM} {g : Reg} : Keeps (Framed f) (exchangeE e g) :=
  keeps_bind keeps_get fun _ => keeps_bind framed_locE fun _ => framed_exchange
theorem framed_exchangeAcc {r : Reg} : Keeps (Framed f) (exchangeAcc r) := keeps_bind keeps_get fun _ => framed_exchange

theorem framed_lea {g : Reg} {e : RM} : Keeps (Framed f) (lea g e) := by
  cases e with
  | reg r => exact keeps_bind keeps_get fun _ => keeps_ite (keeps_raise' stable_framed _) (keeps_refuse _)
  | mem m => exact keeps_bind keeps_get fun _ => keeps_bind framed_capture fun _ => framed_setReg

theorem framed_xlat : Keeps (Framed f) xlat :=
  keeps_bind keeps_get fun _ => keeps_bind framed_capture fun _ => keeps_bind framed_readLoc fun _ =>
    keeps_modify fun _ h => h

theorem frame_convertAcc (s : State) : (convertAcc s).frame = s.frame := by unfold convertAcc; split <;> rfl

theorem framed_extendByte {sgn : Bool} {g : Reg} {e : RM8} : Keeps (Framed f) (extendByte sgn g e) :=
  keeps_bind keeps_get fun _ => keeps_bind framed_locE8 fun _ => keeps_bind framed_readLoc fun _ => framed_setReg
theorem framed_extendWord {sgn : Bool} {g : Reg} {e : RM} : Keeps (Framed f) (extendWord sgn g e) :=
  keeps_bind keeps_get fun _ => keeps_bind framed_locE fun _ => keeps_bind framed_readLoc fun _ => framed_setReg

/-! ### The stack instructions -/

theorem framed_pushReg {r : Reg} : Keeps (Framed f) (pushReg r) := keeps_bind keeps_get fun _ => framed_push
theorem framed_pushE {e : RM} : Keeps (Framed f) (pushE e) := by
  cases e with
  | reg r => exact keeps_bind framed_locE fun _ => framed_pushReg
  | mem m => exact keeps_bind keeps_get fun _ => keeps_bind framed_locM fun _ => keeps_bind framed_readLoc fun _ =>
      framed_push
theorem framed_pushImm {v : State → Word} : Keeps (Framed f) (pushImm v) := keeps_bind keeps_get fun _ => framed_push
theorem framed_pushSeg {r : SReg} : Keeps (Framed f) (pushSeg r) := keeps_bind keeps_get fun _ => framed_push
theorem framed_popReg {r : Reg} : Keeps (Framed f) (popReg r) :=
  keeps_bind keeps_get fun _ => keeps_bind framed_pop fun _ => framed_setReg
theorem framed_popE {e : RM} : Keeps (Framed f) (popE e) := by
  cases e with
  | reg r => exact keeps_bind framed_locE fun _ => framed_popReg
  | mem m => exact keeps_bind keeps_get fun _ => keeps_bind framed_peek fun _ =>
      keeps_bind framed_capture fun _ => keeps_bind framed_writeLoc fun _ => framed_commit

theorem framed_pushAllRegs : Keeps (Framed f) pushAllRegs :=
  keeps_bind keeps_get fun _ => keeps_bind (keeps_stack_pushAll stable_framed _ _ _) fun _ => framed_commit

theorem framed_popAllRegs : Keeps (Framed f) popAllRegs :=
  keeps_bind keeps_get fun _ => keeps_bind framed_peek fun _ => keeps_bind framed_peek fun _ => keeps_bind framed_peek fun _ =>
    keeps_bind framed_peek fun _ => keeps_bind framed_peek fun _ => keeps_bind framed_peek fun _ => keeps_bind framed_peek fun _ =>
      keeps_bind framed_peek fun _ => keeps_bind framed_commit fun _ => keeps_modify (keepsBy_framed fun s => by simp)

theorem framed_copyFrames {w : Width} : ∀ {n : Nat} {bp : Word} {k : Stack}, Keeps (Framed f) (copyFrames w n bp k)
  | 0, _, _ => keeps_pure _
  | _ + 1, _, _ => keeps_bind (keeps_view_read stable_framed _ _ _ _) fun _ =>
      keeps_bind (keeps_stack_push stable_framed _ _ _) fun _ => framed_copyFrames

theorem framed_enterLevels {w : Width} {level : Nat} {bp frame : Word} {k : Stack} :
    Keeps (Framed f) (enterLevels w level bp frame k) := by
  cases level with
  | zero => exact keeps_pure _
  | succ n => exact keeps_bind framed_copyFrames fun _ => keeps_stack_push stable_framed _ _ _

theorem framed_enter {iw : Half} {ib : Byte} : Keeps (Framed f) (enter iw ib) :=
  keeps_bind keeps_get fun _ => keeps_bind (keeps_stack_push stable_framed _ _ _) fun _ => keeps_bind framed_enterLevels fun _ =>
    keeps_bind (keeps_modify fun _ h => h) fun _ => framed_commit

theorem framed_leave : Keeps (Framed f) leave :=
  keeps_bind keeps_get fun _ => keeps_bind framed_peek fun _ => keeps_bind framed_commit fun _ =>
    framed_setReg

/-! ### Ports and string elements -/

theorem framed_ioRead {port : Half} {w : Width} : Keeps (Framed f) (ioRead port w) := fun s h =>
  ⟨(s.frame_portAnswer port w).trans h.1, h.2⟩
theorem framed_ioWrite {port : Half} {w : Width} {v : Word} : Keeps (Framed f) (ioWrite port w v) := keeps_modify fun _ h => h
theorem framed_input {w : Width} {port : Half} {dst : Loc} : Keeps (Framed f) (input w port dst) :=
  keeps_bind (keeps_ioCheck stable_framed _ _) fun _ => keeps_bind framed_ioRead fun _ => framed_writeLoc
theorem framed_output {w : Width} {port : Half} {src : Loc} : Keeps (Framed f) (output w port src) :=
  keeps_bind (keeps_ioCheck stable_framed _ _) fun _ => keeps_bind framed_readLoc fun _ => framed_ioWrite

theorem framed_readSource {w : Width} : Keeps (Framed f) (readSource w) :=
  keeps_bind keeps_get fun _ => keeps_bind framed_capture fun _ => framed_readLoc
theorem framed_readDest {w : Width} : Keeps (Framed f) (readDest w) :=
  keeps_bind keeps_get fun _ => keeps_bind framed_capture fun _ => framed_readLoc
theorem framed_writeDest {w : Width} {v : Word} : Keeps (Framed f) (writeDest w v) :=
  keeps_bind keeps_get fun _ => keeps_bind framed_capture fun _ => framed_writeLoc

theorem framed_movsElement {w : Width} : Keeps (Framed f) (movsElement w) :=
  keeps_bind framed_readSource fun _ => keeps_bind framed_writeDest fun _ => keeps_modify fun _ h => h
theorem framed_cmpsElement {w : Width} : Keeps (Framed f) (cmpsElement w) :=
  keeps_bind framed_readSource fun _ => keeps_bind framed_readDest fun _ =>
    keeps_modify (keepsBy_framed fun s => by simp)
theorem framed_scasElement {w : Width} : Keeps (Framed f) (scasElement w) :=
  keeps_bind framed_readDest fun _ => keeps_modify (keepsBy_framed fun s => by simp)
theorem framed_lodsElement {w : Width} : Keeps (Framed f) (lodsElement w) :=
  keeps_bind framed_readSource fun _ => keeps_modify fun _ h => h
theorem framed_stosElement {w : Width} : Keeps (Framed f) (stosElement w) :=
  keeps_bind keeps_get fun _ => keeps_bind framed_writeDest fun _ => keeps_modify fun _ h => h
theorem framed_insElement {w : Width} : Keeps (Framed f) (insElement w) :=
  keeps_bind keeps_get fun _ => keeps_bind (keeps_ioCheck stable_framed _ _) fun _ =>
    keeps_bind (keeps_view_probe stable_framed _ _ _) fun _ => keeps_bind framed_ioRead fun _ =>
      keeps_bind framed_writeDest fun _ => keeps_modify fun _ h => h
theorem framed_outsElement {w : Width} : Keeps (Framed f) (outsElement w) :=
  keeps_bind keeps_get fun _ => keeps_bind (keeps_ioCheck stable_framed _ _) fun _ => keeps_bind framed_readSource fun _ =>
    keeps_bind framed_ioWrite fun _ => keeps_modify fun _ h => h

/-! ### PS, privilege and the system registers -/

theorem framed_pushFlags : Keeps (Framed f) pushFlags := keeps_bind keeps_get fun _ => framed_push
theorem framed_popFlags : Keeps (Framed f) popFlags :=
  keeps_bind keeps_get fun s => keeps_bind framed_pop fun v =>
    keeps_modify (keepsBy_framed fun t => t.frame_setPS v s.popfWritable_vm)
theorem frame_sahf (s : State) : (sahf s).frame = s.frame := s.frame_setPS _ (by decide)

theorem framed_ioplCheck : Keeps (Framed f) ioplCheck := keeps_bind keeps_get fun _ => keeps_ensure' stable_framed _ _
theorem framed_privileged : Keeps (Framed f) privileged := keeps_bind keeps_get fun _ => keeps_ensure' stable_framed _ _
theorem framed_protectedOnly : Keeps (Framed f) protectedOnly := keeps_bind keeps_get fun _ => keeps_ensure' stable_framed _ _

theorem framed_setDirect {v : Bool} {m : Word} (h : m.getLsbD 17 = false) : Keeps (Framed f) (modify (State.setDirect m v)) :=
  keeps_modify (keepsBy_framed fun s => s.frame_setDirect v h)
theorem framed_cli : Keeps (Framed f) cli := keeps_bind framed_ioplCheck fun _ => framed_setDirect (by decide)
theorem framed_sti : Keeps (Framed f) sti :=
  keeps_bind framed_ioplCheck fun _ => keeps_modify (keepsBy_framed fun s => s.frame_setDirect true (by decide))

theorem framed_readTable {m : MemOp} : Keeps (Framed f) (readTable m) :=
  keeps_bind keeps_get fun _ => keeps_bind framed_locM fun _ => keeps_bind framed_privileged fun _ =>
    keeps_bind (keeps_segRead stable_framed _ _ _) fun _ => keeps_bind (keeps_segRead stable_framed _ _ _) fun _ => keeps_pure _
theorem framed_lgdt {m : MemOp} : Keeps (Framed f) (lgdt m) :=
  keeps_bind framed_readTable fun _ => keeps_modify fun _ h => h
theorem framed_lidt {m : MemOp} : Keeps (Framed f) (lidt m) :=
  keeps_bind framed_readTable fun _ => keeps_modify fun _ h => h
theorem framed_storeTable {m : MemOp} {t : State → TableReg} : Keeps (Framed f) (storeTable m t) :=
  keeps_bind keeps_get fun _ => keeps_bind framed_locM fun _ => keeps_bind (keeps_view_probe stable_framed _ _ _) fun _ =>
    keeps_bind (keeps_view_probe stable_framed _ _ _) fun _ => keeps_bind (keeps_modify fun _ h => h) fun _ =>
      keeps_bind (keeps_view_write stable_framed _ _ _ _) fun _ => keeps_view_write stable_framed _ _ _ _

theorem framed_loadLdt {x : SelFault → Exn} {sel : Half} : Keeps (Framed f) (loadLdt x sel) :=
  keeps_ite (keeps_modify fun _ h => h) (keeps_ite (keeps_raise' stable_framed _)
    (keeps_bind (keeps_testSel stable_framed _ _) fun _ => keeps_bind (keeps_orRaise stable_framed _ _) fun _ =>
      keeps_modify fun _ h => h))
theorem framed_lldt {e : RM} : Keeps (Framed f) (lldt e) :=
  keeps_bind framed_locE fun _ => keeps_bind framed_protectedOnly fun _ => keeps_bind framed_privileged fun _ =>
    keeps_bind keeps_get fun _ => keeps_bind framed_readLoc fun _ => framed_loadLdt
theorem framed_storeSel {e : RM} {sel : State → Half} : Keeps (Framed f) (storeSel e sel) :=
  keeps_bind framed_locE fun _ => keeps_bind framed_protectedOnly fun _ => keeps_bind keeps_get fun _ => framed_storeHalfAt
theorem framed_ltr {e : RM} : Keeps (Framed f) (ltr e) :=
  keeps_bind framed_locE fun _ => keeps_bind framed_protectedOnly fun _ => keeps_bind framed_privileged fun _ =>
    keeps_bind keeps_get fun _ => keeps_bind framed_readLoc fun _ => keeps_bind (keeps_ensure' stable_framed _ _) fun _ =>
      keeps_bind (keeps_testSel stable_framed _ _) fun _ => keeps_bind (keeps_orRaise stable_framed _ _) fun _ =>
        keeps_bind (keeps_sysWrite stable_framed _ _ _) fun _ => keeps_modify fun _ h => h

theorem framed_smsw {e : RM} : Keeps (Framed f) (smsw e) := keeps_bind keeps_get fun _ => framed_storeHalf

theorem framed_moveFromCr {r : Reg} {n : BitVec 3} : Keeps (Framed f) (moveFromCr r n) := by
  refine keeps_bind framed_privileged fun _ => keeps_bind keeps_get fun s => ?_
  split
  · exact keeps_raise' stable_framed _
  · exact keeps_modify (keepsBy_framed fun s => by simp)
theorem framed_moveFromDr {r : Reg} {n : BitVec 3} : Keeps (Framed f) (moveFromDr r n) :=
  keeps_bind framed_privileged fun _ => keeps_modify (keepsBy_framed fun s => by simp)
theorem framed_moveToDr {n : BitVec 3} {r : Reg} : Keeps (Framed f) (moveToDr n r) :=
  keeps_bind framed_privileged fun _ => keeps_modify (keepsBy_framed fun s => by simp)

/-! ### Protection queries -/

theorem framed_loadVer {sel : Half} : Keeps (Framed f) (loadVer sel) := keeps_ite (keeps_pure _) (keeps_fetchDesc stable_framed _)

theorem framed_setZf {v : Bool} : Keeps (Framed f) (modify (State.setFlag .zf v)) :=
  keeps_modify (keepsBy_framed fun s => s.frame_setFlag .zf v)

theorem framed_queryLoad {g : Reg} {e : RM} {types : Model → Nat → Bool} {value : Width → Desc → Word} :
    Keeps (Framed f) (queryLoad g e types value) := by
  refine keeps_bind framed_locE fun _ => keeps_bind framed_protectedOnly fun _ => keeps_bind keeps_get fun _ =>
    keeps_bind framed_readLoc fun _ => keeps_bind framed_loadVer fun d => ?_
  cases d with
  | none => exact framed_setZf
  | some d => exact keeps_ite (keeps_modify (keepsBy_framed fun s => by simp)) framed_setZf

theorem framed_verify {e : RM} {ok : State → Half → Desc → Bool} : Keeps (Framed f) (verify e ok) := by
  refine keeps_bind framed_locE fun _ => keeps_bind framed_protectedOnly fun _ => keeps_bind keeps_get fun _ =>
    keeps_bind framed_readLoc fun _ => keeps_bind framed_loadVer fun d => ?_
  cases d <;> exact framed_setZf

theorem framed_arpl {e : RM} {g : Reg} : Keeps (Framed f) (arpl e g) :=
  keeps_bind framed_locE fun _ => keeps_bind framed_protectedOnly fun _ => keeps_bind keeps_get fun _ =>
    keeps_bind framed_checkLoc fun _ => keeps_bind framed_readLoc fun _ =>
      keeps_ite (keeps_bind framed_writeLoc fun _ => framed_setZf) framed_setZf

/-! ### HLT, WAIT, ESC, undefined encodings, BOUND -/

theorem framed_halt : Keeps (Framed f) halt := keeps_bind framed_privileged fun _ => keeps_modify fun _ h => h
theorem framed_waitCoprocessor : Keeps (Framed f) waitCoprocessor := keeps_bind keeps_get fun _ => keeps_ensure' stable_framed _ _

theorem framed_copRead {l : Loc} {n : Nat} : Keeps (Framed f) (copRead l n) := by
  unfold copRead
  split
  · exact keeps_bind (keeps_read _) fun _ => keeps_view_readBytes stable_framed _ _ _ _
  · exact keeps_pure _

theorem framed_copWrite {l : Loc} {bs : List Byte} : Keeps (Framed f) (copWrite l bs) := by
  cases bs with
  | nil => exact keeps_pure _
  | cons b bs =>
    cases l with
    | mem seg off => exact keeps_bind (keeps_modify fun _ h => h) fun _ => keeps_bind (keeps_read _) fun _ =>
        keeps_view_writeBytes stable_framed _ _ _
    | byteReg r => exact keeps_pure _
    | reg r => exact keeps_pure _

theorem framed_coprocess {n reg : BitVec 3} {o : CopOperand} {l : Loc} : Keeps (Framed f) (coprocess n reg o l) :=
  keeps_bind keeps_get fun _ => keeps_ite
    (keeps_bind (keeps_modify fun _ h => h) fun _ => keeps_raise' stable_framed _)
    (keeps_bind framed_copRead fun _ => keeps_bind framed_copWrite fun _ =>
      keeps_modify (keepsBy_framed fun s => by simp))

theorem framed_escape {n reg : BitVec 3} {e : RM} : Keeps (Framed f) (Machine.escape n reg e) := by
  refine keeps_bind keeps_get fun s => keeps_bind framed_locE fun l => keeps_bind (keeps_ensure' stable_framed _ _) fun _ => ?_
  cases s.cfg.coprocessor with
  | none => exact keeps_pure _
  | attached => exact framed_coprocess

theorem framed_undefinedOpcode : Keeps (Framed f) undefinedOpcode :=
  keeps_bind keeps_get fun _ => keeps_ite (keeps_raise' stable_framed _) (keeps_refuse _)

theorem framed_bound {g : Reg} {m : MemOp} : Keeps (Framed f) (bound g m) :=
  keeps_bind keeps_get fun _ => keeps_bind framed_locM fun _ => keeps_bind (keeps_segRead stable_framed _ _ _) fun _ =>
    keeps_bind (keeps_segRead stable_framed _ _ _) fun _ => keeps_ensure' stable_framed _ _

end Sys2Proof.Machine
end

section
/-! The invariant of the machine on frames, in the three strengths that hold within an instruction, and how operations that change
the frame keep it. -/

namespace Sys2Proof.Machine

/-! ### The invariant on frames -/

/-- A shadow record as R38 says: its DPL is that of its access word, its extension word 0 before the 80386. -/
def SegReg.Fits (m : Model) (r : SegReg) : Prop := r.dpl = r.acc.extractLsb 14 13 ∧ (m.has386 = false → r.ext = 0)

/-- A descriptor that a shadow record may be loaded from: its fourth word is 0 before the 80386 (R149). -/
def Desc.Fits (m : Model) (d : Desc) : Prop := m.has386 = false → d.w3 = 0

namespace Frame

/-- The D bit of the code segment. -/
def code32 (f : Frame) : Bool := f.cfg.model.has386 && f.cs.ext.getLsbD 6

/-- A segment register replaced. -/
def setSeg (r : SReg) (v : SegReg) (f : Frame) : Frame :=
  match r with
  | .es => { f with es := v } | .cs => { f with cs := v } | .ss => { f with ss := v }
  | .ds => { f with ds := v } | .fs => { f with fs := v } | .gs => { f with gs := v }

/-- What holds at every moment of a step, for the parameters `c`: the invariant but for the instruction pointer and the trap
bookkeeping. An instruction pointer of the wrong size can stand only in an operation that will raise an exception, whose delivery
loads a new one. -/
structure Core (c : Params) (f : Frame) : Prop where
  cfg     : f.cfg = c
  memory  : f.memory = true
  vm      : f.vm = false
  level   : f.prot = false → f.cpl = 0
  records : ∀ r ∈ [f.es, f.cs, f.ss, f.ds, f.fs, f.gs], r.Fits c.model

/-- What holds where an instruction or a delivery ends: the instruction pointer has the size of the code segment (R41). -/
structure Settled (c : Params) (f : Frame) : Prop extends Core c f where
  pc : f.code32 = false → f.pc.toNat < 65536

/-- What holds while an instruction runs that stays in its code segment: opLIP is an offset of it, so that a repetition can go back
there (R523). -/
structure Running (c : Params) (f : Frame) : Prop extends Settled c f where
  restart : f.code32 = false → (f.opLIP - f.cs.base).toNat < 65536

/-- What holds while a transfer in protected mode is under way. -/
structure Protected (c : Params) (f : Frame) : Prop extends Core c f where
  prot : f.prot = true

variable {c : Params} {f : Frame}

theorem Core.setSeg (h : Core c f) {v : SegReg} (hv : v.Fits c.model) (r : SReg) : Core c (f.setSeg r v) := by
  obtain ⟨hc, hm, hvm, hl, hr⟩ := h
  simp only [List.forall_mem_cons] at hr
  obtain ⟨hes, hcs, hss, hds, hfs, hgs, hnil⟩ := hr
  cases r <;> refine ⟨hc, hm, hvm, hl, ?_⟩ <;> simp only [Frame.setSeg, List.forall_mem_cons] <;>
    exact ⟨‹_›, ‹_›, ‹_›, ‹_›, ‹_›, ‹_›, hnil⟩

theorem Core.seg_fits {s : State} (h : s.frame.Core c) (r : SReg) : (s.seg r).Fits c.model :=
  h.records _ (by cases r <;> simp [State.frame, State.seg])

theorem Settled.setSeg (h : Settled c f) {v : SegReg} (hv : v.Fits c.model) {r : SReg} (hr : r ≠ .cs) :
    Settled c (f.setSeg r v) :=
  ⟨h.toCore.setSeg hv r, by cases r <;> first | exact absurd rfl hr | exact h.pc⟩

theorem Running.setSeg (h : Running c f) {v : SegReg} (hv : v.Fits c.model) {r : SReg} (hr : r ≠ .cs) :
    Running c (f.setSeg r v) :=
  ⟨h.toSettled.setSeg hv hr, by cases r <;> first | exact absurd rfl hr | exact h.restart⟩

theorem Protected.setSeg (h : Protected c f) {v : SegReg} (hv : v.Fits c.model) (r : SReg) : Protected c (f.setSeg r v) :=
  ⟨h.toCore.setSeg hv r, by cases r <;> exact h.prot⟩

/-- A property of frames that is at least `Core` and survives the loads of segment registers other than CS. -/
structure Loadable (c : Params) (p : Frame → Prop) : Prop where
  core : ∀ {f}, p f → Core c f
  seg  : ∀ {f v r}, p f → v.Fits c.model → r ≠ .cs → p (f.setSeg r v)

theorem loadable_core : Loadable c (Core c) := ⟨id, fun h hv _ => h.setSeg hv _⟩
theorem loadable_settled : Loadable c (Settled c) := ⟨fun h => h.toCore, fun h hv hr => h.setSeg hv hr⟩
theorem loadable_running : Loadable c (Running c) := ⟨fun h => h.toCore, fun h hv hr => h.setSeg hv hr⟩
theorem loadable_protected : Loadable c (Protected c) := ⟨fun h => h.toCore, fun h hv _ => h.setSeg hv _⟩

/-- So does such a property in real mode. -/
theorem Loadable.real {p : Frame → Prop} (h : Loadable c p) : Loadable c fun f => p f ∧ f.prot = false where
  core hf := h.core hf.1
  seg {f v r} hf hv hr := ⟨h.seg hf.1 hv hr, by cases r <;> exact hf.2⟩

/-- So does such a property at CPL 0. -/
theorem Loadable.cpl0 {p : Frame → Prop} (h : Loadable c p) : Loadable c fun f => p f ∧ f.cpl = 0 where
  core hf := h.core hf.1
  seg {f v r} hf hv hr := ⟨h.seg hf.1 hv hr, by cases r <;> exact hf.2⟩

end Frame

variable {c : Params}

theorem State.frame_setSeg (s : State) (r : SReg) (v : SegReg) : (s.setSeg r v).frame = s.frame.setSeg r v := by
  cases r <;> rfl

/-- The invariant of the machine, on the frame. -/
theorem State.inv_iff (s : State) : s.Inv ↔ s.noTrap = false ∧ s.frame.Settled s.cfg := by
  have hvm : s.flags.ps &&& psVM = 0 ↔ s.flags.ps.getLsbD 17 = false := by
    rw [← and_twoPow_ne_zero s.flags.ps (by decide), bne_eq_false_iff_eq]
    rfl
  constructor
  · rintro ⟨hm, hv, ht, hl, hr, hp⟩
    exact ⟨ht, ⟨rfl, hm, hvm.mp hv, hl, hr⟩, hp⟩
  · rintro ⟨ht, ⟨-, hm, hv, hl, hr⟩, hp⟩
    exact ⟨hm, hvm.mpr hv, ht, hl, hr, hp⟩

/-! ### Shadow records -/

theorem Desc.record_fits {d : Desc} (h : d.Fits c.model) (sel : Half) : (d.record sel).Fits c.model := by
  refine ⟨?_, h⟩
  show d.w2.extractLsb 14 13 = (d.w2 ||| 0x0100).extractLsb 14 13
  rw [BitVec.extractLsb_or]
  exact BitVec.or_zero.symm

theorem SegReg.invalid_fits {r : SegReg} (h : r.Fits c.model) (sel : Half) : (r.invalid sel).Fits c.model := by
  refine ⟨?_, h.2⟩
  show (0 : BitVec 2) = (0 : Half).extractLsb 14 13
  decide

theorem SegReg.realLoad_fits {r : SegReg} (h : r.Fits c.model) (sel : Half) : (r.realLoad sel).Fits c.model := h

theorem SegReg.nullOuter_fits {r : SegReg} (h : r.Fits c.model) (cpl : BitVec 2) : (r.nullOuter cpl).Fits c.model := by
  unfold SegReg.nullOuter
  split
  · exact SegReg.invalid_fits h _
  · exact h

/-! ### Changes of state -/

/-- Wherever an operation goes on, the instruction pointer has the size of the code segment (R41; log 10). -/
theorem settled_jumpTo {s : State} (h : s.frame.Core c) (v : Word) : (s.jumpTo v).frame.Settled c := by
  refine ⟨⟨h.cfg, h.memory, h.vm, h.level, h.records⟩, fun hc => ?_⟩
  have hc : s.code32 = false := hc
  show (s.truncPc v).toNat < 65536
  rw [State.truncPc, hc, if_neg Bool.false_ne_true, BitVec.toNat_and]
  exact Nat.lt_of_le_of_lt Nat.and_le_right (by decide)

/-- The commit of a code segment that passed its tests (R152, R468). -/
theorem settled_commit {s : State} (h : s.frame.Protected c) {n : NewCode} (hn : n.desc.Fits c.model) (off : Word) :
    ((n.commit s).jumpTo off).frame.Settled c := by
  refine settled_jumpTo ?_ off
  have hs := h.setSeg (n.desc.record_fits hn ((n.sel &&& 0xFFFC) ||| n.cpl.setWidth 16)) .cs
  exact ⟨hs.cfg, hs.memory, hs.vm, fun hp => absurd (hp.symm.trans h.prot) Bool.false_ne_true, hs.records⟩

/-- A real-mode load keeps `Core`; that of CS makes CPL 0 (R141). -/
theorem core_realLoad {s : State} (h : s.frame.Core c) (r : SReg) (sel : Half) : (s.realLoad r sel).frame.Core c := by
  have hs : (s.setSeg r ((s.seg r).realLoad sel)).frame.Core c :=
    s.frame_setSeg r _ ▸ h.setSeg (SegReg.realLoad_fits (h.seg_fits r) sel) r
  unfold State.realLoad
  dsimp only
  split
  · exact ⟨hs.cfg, hs.memory, hs.vm, fun _ => rfl, hs.records⟩
  · exact hs

theorem settled_realLoad {s : State} (h : s.frame.Settled c) (r : SReg) (sel : Half) : (s.realLoad r sel).frame.Settled c := by
  refine ⟨core_realLoad h.toCore r sel, ?_⟩
  cases r <;> exact h.pc

/-! ### Operations that change the frame -/

variable {α β : Type}

/-- From a state whose frame is as `p` says, the operation leads to an answer and a frame as `q` says, or it stops in a state of
which `Core` holds. -/
def Reaches (c : Params) (p : Frame → Prop) (m : M α) (q : α → Frame → Prop) : Prop :=
  ∀ s : State, p s.frame → match m s with
    | .ok a t => q a t.frame
    | .error _ t => t.frame.Core c

/-- The same, where the operation ends an instruction or a delivery. -/
abbrev Settles (c : Params) (p : Frame → Prop) (m : M α) : Prop := Reaches c p m fun _ => Frame.Settled c

variable {p p' : Frame → Prop} {q q' : α → Frame → Prop}

theorem Reaches.pre {m : M α} (h : Reaches c p m q) (hp : ∀ f, p' f → p f) : Reaches c p' m q := fun s hs => h s (hp _ hs)

theorem Reaches.post {m : M α} (h : Reaches c p m q) (hq : ∀ a f, q a f → q' a f) : Reaches c p m q' := by
  intro s hs
  have := h s hs
  cases e : m s <;> rw [e] at this
  · exact hq _ _ this
  · exact this

theorem reaches_pure {a : α} (h : ∀ f, p f → q a f) : Reaches c p (pure a) q := fun _ hs => h _ hs

theorem reaches_modify {g : State → State} {q : PUnit → Frame → Prop} (h : ∀ s : State, p s.frame → q ⟨⟩ (g s).frame) :
    Reaches c p (modify g) q := fun s hs => h s hs

theorem reaches_bind {m : M α} {k : α → M β} {r : β → Frame → Prop} (hm : Reaches c p m q) (hk : ∀ a, Reaches c (q a) (k a) r) :
    Reaches c p (m >>= k) r := by
  intro s hs
  have h := hm s hs
  rw [run_bind]
  cases e : m s <;> rw [e] at h
  · exact hk _ _ h
  · exact h

/-- A first part that keeps `p` and whose answer is as `φ` says. -/
theorem reaches_bind_fact {m : M α} {k : α → M β} {φ : α → Prop} {r : β → Frame → Prop}
    (hm : Reaches c p m fun a f => p f ∧ φ a) (hk : ∀ a, φ a → Reaches c p (k a) r) : Reaches c p (m >>= k) r :=
  reaches_bind hm fun a s hs => hk a hs.2 s hs.1

theorem reaches_modify_bind {g : State → State} {k : PUnit → M β} {r : β → Frame → Prop}
    (hg : ∀ s : State, p s.frame → p' (g s).frame) (hk : Reaches c p' (k ⟨⟩) r) : Reaches c p (modify g >>= k) r :=
  fun s hs => hk _ (hg s hs)

/-- What is read of the state may be used together with what `p` says of it. -/
theorem reaches_get_bind {k : State → M β} {r : β → Frame → Prop} (hk : ∀ s : State, p s.frame → Reaches c p (k s) r) :
    Reaches c p (get >>= k) r := fun s hs => hk s hs s hs

theorem reaches_read_bind {g : State → α} {k : α → M β} {r : β → Frame → Prop}
    (hk : ∀ s : State, p s.frame → Reaches c p (k (g s)) r) : Reaches c p (Machine.read g >>= k) r := fun s hs => hk s hs s hs

theorem reaches_ite {b : Prop} [Decidable b] {m n : M α} (hm : Reaches c p m q) (hn : Reaches c p n q) :
    Reaches c p (if b then m else n) q := by
  split
  · exact hm
  · exact hn

section
variable (h : Frame.Loadable c p)
include h

/-- An operation that leaves the frame alone keeps whatever is said of the frame. -/
theorem reaches_framed {m : M α} (hm : ∀ {f}, Keeps (Framed f) m) : Reaches c p m fun _ => p := by
  intro s hs
  have hk := hm s ⟨rfl, (h.core hs).memory⟩
  cases e : m s <;> rw [e] at hk
  · exact (congrArg p hk.1).mpr hs
  · exact (congrArg (Frame.Core c) hk.1).mpr (h.core hs)

theorem reaches_framed_bind {m : M α} {k : α → M β} {r : β → Frame → Prop} (hm : ∀ {f}, Keeps (Framed f) m)
    (hk : ∀ a, Reaches c p (k a) r) : Reaches c p (m >>= k) r := reaches_bind (reaches_framed h hm) hk

theorem reaches_raise {x : Exn} : Reaches c p (raise x : M α) q := fun _ hs => h.core hs
theorem reaches_refuse {r : Refusal} : Reaches c p (refuse r : M α) q := fun _ hs => h.core hs

/-! ### Descriptors -/

/-- The fourth word of a descriptor is read on the 80386 only (R149). -/
theorem reaches_readDesc {a : Word} : Reaches c p (readDesc a) fun d f => p f ∧ d.Fits c.model := by
  refine reaches_framed_bind h (keeps_sysRead stable_framed _ _) fun w0 => reaches_framed_bind h (keeps_sysRead stable_framed _ _) fun w1 =>
    reaches_framed_bind h (keeps_sysRead stable_framed _ _) fun w2 => reaches_read_bind fun s hs => ?_
  have hc : s.cfg = c := (h.core hs).cfg
  rw [hc]
  cases hm : c.model.has386
  · exact fun t ht => ⟨ht, fun _ => rfl⟩
  · exact reaches_framed_bind h (keeps_sysRead stable_framed _ _) fun w3 => reaches_pure fun f hf => ⟨hf, fun h0 => nomatch hm.symm.trans h0⟩

theorem reaches_fetchDesc {sel : Half} : Reaches c p (fetchDesc sel) fun o f => p f ∧ ∀ d, o = some d → d.Fits c.model := by
  refine reaches_get_bind fun s _ => reaches_ite (reaches_pure fun f hf => ⟨hf, nofun⟩) ?_
  exact reaches_bind_fact (reaches_readDesc h) fun d hd => reaches_pure fun f hf => ⟨hf, fun _ e => Option.some.inj e ▸ hd⟩

theorem reaches_testSel {sel : Half} {rule : Desc → Except SelFault α} :
    Reaches c p (testSel sel rule) fun r f => p f ∧ ∀ x, r = .ok x → x.1.Fits c.model := by
  refine reaches_ite (reaches_pure fun f hf => ⟨hf, nofun⟩) (reaches_bind_fact (reaches_fetchDesc h) fun o ho => ?_)
  cases o with
  | none => exact reaches_pure fun f hf => ⟨hf, nofun⟩
  | some d =>
    refine reaches_pure fun f hf => ⟨hf, fun x hx => ?_⟩
    cases hr : rule d <;> rw [hr] at hx <;> cases hx
    exact ho d rfl

/-- A descriptor that passed a rule may be loaded into a shadow record. -/
theorem reaches_tested {sel : Half} {rule : Desc → Except SelFault α} {x : SelFault → Exn} {k : Desc × α → M β}
    {r : β → Frame → Prop} (hk : ∀ a, a.1.Fits c.model → Reaches c p (k a) r) :
    Reaches c p (testSel sel rule >>= fun e => orRaise x e >>= k) r := by
  refine reaches_bind_fact (reaches_testSel h) fun e he => ?_
  cases e with
  | ok a => exact hk a (he a rfl)
  | error y => exact reaches_raise h

theorem reaches_testCode {ext sel : Half} {rule : Desc → Except SelFault (BitVec 2)} :
    Reaches c p (testCode ext sel rule) fun n f => p f ∧ n.desc.Fits c.model :=
  reaches_tested h fun _ ha => reaches_pure fun _ hf => ⟨hf, ha⟩

theorem reaches_testOuterSs {sel : Half} {lvl : BitVec 2} :
    Reaches c p (testOuterSs sel lvl) fun d f => p f ∧ d.Fits c.model :=
  reaches_read_bind fun _ _ => reaches_tested h fun _ ha => reaches_pure fun _ hf => ⟨hf, ha⟩

/-! ### Loads of segment registers other than CS -/

theorem reaches_setSeg {r : SReg} (hr : r ≠ .cs) {v : SegReg} (hv : v.Fits c.model) :
    Reaches c p (modify (State.setSeg r v)) fun _ => p :=
  reaches_modify fun s hs => s.frame_setSeg r v ▸ h.seg hs hv hr

theorem reaches_loadSs {sel : Half} : Reaches c p (loadSs sel) fun _ => p :=
  reaches_get_bind fun _ _ => reaches_tested h fun a ha => reaches_framed_bind h (keeps_markAccessed stable_framed _) fun _ =>
    reaches_setSeg h (by decide) (a.1.record_fits ha sel)

theorem reaches_loadData {r : SReg} (hr : r ≠ .cs) {sel : Half} : Reaches c p (loadData r sel) fun _ => p :=
  reaches_get_bind fun _ hs => reaches_ite
    (reaches_setSeg h hr (SegReg.invalid_fits ((h.core hs).seg_fits r) sel))
    (reaches_tested h fun a ha => reaches_framed_bind h (keeps_markAccessed stable_framed _) fun _ =>
      reaches_setSeg h hr (a.1.record_fits ha sel))

theorem reaches_loadSeg {r : SReg} (hr : r ≠ .cs) {sel : Half} : Reaches c p (loadSeg r sel) fun _ => p := by
  refine reaches_get_bind fun s _ => reaches_ite (reaches_modify fun t ht => ?_)
    (reaches_ite (reaches_loadSs h) (reaches_loadData h hr))
  rw [State.realLoad, if_neg hr, State.frame_setSeg]
  exact h.seg ht (SegReg.realLoad_fits ((h.core ht).seg_fits r) sel) hr

/-- Commit of the stack of an outer level (R474, R492). -/
theorem reaches_commitOuterStack {d : Desc} (hd : d.Fits c.model) {sel : Half} {w : Width} {sp : Word} :
    Reaches c p (commitOuterStack d sel w sp) fun _ => p :=
  reaches_bind (reaches_setSeg h (by decide) (d.record_fits hd sel)) fun _ => reaches_read_bind fun _ _ =>
    reaches_framed h framed_setReg

/-- The data registers an outer level may not keep (R162). -/
theorem holds_nullOuter {s : State} (hs : p s.frame) : p s.nullOuter.frame := by
  have step {t : State} (ht : p t.frame) {r : SReg} (hr : r ≠ .cs) : p (t.setSeg r ((t.seg r).nullOuter s.cpl)).frame :=
    t.frame_setSeg r _ ▸ h.seg ht (SegReg.nullOuter_fits ((h.core ht).seg_fits r) s.cpl) hr
  have hde := step (step hs (r := .ds) (by decide)) (r := .es) (by decide)
  unfold State.nullOuter
  dsimp only
  split
  · exact step (step hde (r := .fs) (by decide)) (r := .gs) (by decide)
  · exact hde

end

/-! ### The task switch (47_task_and_mode.md) -/

/-- An operation that keeps `p` wherever it ends. -/
theorem reaches_of_keeps {m : M α} (hp : ∀ f, p f → f.Core c) (hm : Keeps (fun s => p s.frame) m) : Reaches c p m fun _ => p := by
  intro s hs
  have h := hm s hs
  cases e : m s <;> rw [e] at h
  · exact h
  · exact hp _ h

theorem keeps_protected {m : M α} (hm : ∀ {f}, Keeps (Framed f) m) : Keeps (fun s => s.frame.Protected c) m := by
  intro s hs
  have h := hm s ⟨rfl, hs.memory⟩
  cases e : m s <;> rw [e] at h <;> exact (congrArg (Frame.Protected c) h.1).mpr hs

theorem protected_enterAt {s : State} (h : s.frame.Protected c) (pc : Word) (cs : Half) : (s.enterAt pc cs).frame.Protected c := by
  obtain ⟨hcore, hp⟩ := h.setSeg (SegReg.invalid_fits (h.toCore.seg_fits .cs) cs) .cs
  exact ⟨⟨hcore.cfg, hcore.memory, hcore.vm, fun h0 => absurd (h0.symm.trans hp) Bool.false_ne_true, hcore.records⟩, hp⟩

theorem framed_tssSel {off : Nat} {f : Frame} : Keeps (Framed f) (tssSel off) :=
  keeps_bind (keeps_tssField stable_framed _ _) fun _ => keeps_pure _

/-- The entry point of the new task, also where it could not be read (R625, R630). -/
theorem keeps_enterEntry : Keeps (fun s => s.frame.Protected c) enterEntry := by
  refine keeps_bind (keeps_read _) fun k => ?_
  dsimp only
  refine keeps_bind (keeps_onStop (fun s hs => ?_) (keeps_protected (keeps_tssField stable_framed _ _))) fun pc =>
    keeps_bind (keeps_onStop (fun s hs => ?_) (keeps_protected framed_tssSel)) fun cs =>
      keeps_bind (keeps_modify fun s hs => ?_) fun _ => keeps_pure _
  · exact protected_enterAt (s := { s with oracleCount := s.oracleCount + 1 }) hs _ _
  · exact protected_enterAt (s := { s with oracleCount := s.oracleCount + 1 }) hs _ _
  · exact protected_enterAt hs _ _

theorem framed_readTask {f : Frame} : Keeps (Framed f) readTask := by
  have field (n off : Nat) : Keeps (Framed f) (tssField n off) := keeps_tssField stable_framed n off
  refine keeps_bind keeps_get fun s => ?_
  cases s.tr.kind with
  | tss286 =>
    iterate 9 refine keeps_bind (field _ _) fun _ => ?_
    iterate 4 refine keeps_bind framed_tssSel fun _ => ?_
    exact keeps_pure _
  | tss386 =>
    iterate 10 refine keeps_bind (field _ _) fun _ => ?_
    iterate 6 refine keeps_bind framed_tssSel fun _ => ?_
    exact keeps_pure _

/-- PS of the new task is loaded with VM 0 (R625). -/
theorem setPS_withoutVm (s : State) (v m : Word) (h : s.frame.vm = false) : (s.setPS (v &&& ~~~psVM) m).frame.vm = false := by
  show (s.flags.setPS (v &&& ~~~psVM) m).ps.getLsbD 17 = false
  cases hm : m.getLsbD 17
  · exact (s.flags.getLsbD_setPS_other _ m (by decide) Flag.vm_ne_place hm).trans h
  · rw [FlagEngine.getLsbD_setPS_ps _ _ _ (by decide), if_pos hm, BitVec.getLsbD_and, show (~~~psVM).getLsbD 17 = false by decide,
      Bool.and_false]

theorem protected_enterImage {s : State} (h : s.frame.Protected c) (i : TaskImage) : (s.enterImage i).frame.Protected c := by
  have keep (r : SReg) : (s.seg r).Fits c.model := h.toCore.seg_fits r
  have clear (r : SReg) (sel : Half) : ((s.seg r).invalid sel).Fits c.model := SegReg.invalid_fits (keep r) sel
  have either (b : Bool) (r : SReg) (sel : Half) : (if b then (s.seg r).invalid sel else s.seg r).Fits c.model := by
    cases b
    · exact keep r
    · exact clear r sel
  refine ⟨⟨h.cfg, h.memory, setPS_withoutVm _ _ _ h.vm, h.level, ?_⟩, h.prot⟩
  simp only [List.forall_mem_cons]
  exact ⟨clear .es _, keep .cs, clear .ss _, clear .ds _, either _ .fs _, either _ .gs _, nofun⟩

theorem reaches_loadTaskSeg (h : Frame.Loadable c p) {r : SReg} (hr : ∀ f v, p f → v.Fits c.model → p (f.setSeg r v)) {sel : Half}
    {x : SelFault → Exn} {rule : Desc → Except SelFault Unit} : Reaches c p (loadTaskSeg r sel x rule) fun _ => p :=
  reaches_tested h fun a ha => reaches_framed_bind h (keeps_markAccessed stable_framed _) fun _ =>
    reaches_modify fun s hs => s.frame_setSeg r _ ▸ hr _ _ hs (a.1.record_fits ha sel)

theorem reaches_loadTaskData (h : Frame.Loadable c p) {r : SReg} (hr : r ≠ .cs) {sel ext : Half} :
    Reaches c p (loadTaskData r sel ext) fun _ => p :=
  reaches_get_bind fun _ hs => reaches_ite (reaches_setSeg h hr (SegReg.invalid_fits ((h.core hs).seg_fits r) sel))
    (reaches_loadTaskSeg h (fun _ _ hf hv => h.seg hf hv hr))

/-- CS is loaded first, and with it the instruction pointer gets its size (R625, R627). -/
theorem reaches_loadTaskSegs {cs : Half} {i : TaskImage} {ext : Half} :
    Settles c (Frame.Protected c) (loadTaskSegs cs i ext) := by
  have data {r : SReg} (hr : r ≠ .cs) (sel : Half) : Settles c (Frame.Settled c) (loadTaskData r sel ext) :=
    reaches_loadTaskData Frame.loadable_settled hr
  refine reaches_bind (reaches_loadTaskSeg Frame.loadable_protected (fun _ _ hf hv => hf.setSeg hv _)) fun _ =>
    reaches_modify_bind (p := Frame.Protected c) (fun s hs => settled_jumpTo hs.toCore s.pc) ?_
  refine reaches_modify_bind (p' := Frame.Settled c) (fun s hs => ⟨⟨hs.cfg, hs.memory, hs.vm, hs.level, hs.records⟩, hs.pc⟩)
    (reaches_get_bind fun s _ => ?_)
  refine reaches_bind (reaches_loadTaskSeg Frame.loadable_settled (fun _ _ hf hv => hf.setSeg hv (by decide))) fun _ => ?_
  refine reaches_bind (data (by decide) _) fun _ => reaches_bind (data (by decide) _) fun _ => reaches_ite ?_ (reaches_pure fun _ hf => hf)
  exact reaches_bind (data (by decide) _) fun _ => data (by decide) _

theorem framed_nestTask {back : Half} {f : Frame} : Keeps (Framed f) (nestTask back) :=
  keeps_bind (framed_setDirect (by decide)) fun _ => keeps_bind (keeps_read _) fun _ => keeps_sysWrite stable_framed _ _ _

theorem reaches_loadTask {k : SwitchKind} {ext back : Half} :
    Settles c (Frame.Protected c) (loadTask k ext back) := by
  have h := Frame.loadable_protected (c := c)
  refine reaches_bind (reaches_of_keeps (fun _ hf => hf.toCore) keeps_enterEntry) fun cs => reaches_framed_bind h framed_readTask fun i =>
    reaches_modify_bind (fun s hs => protected_enterImage hs i) (reaches_framed_bind h framed_loadLdt fun _ => ?_)
  refine reaches_ite (reaches_refuse h) (reaches_framed_bind h (keeps_modify fun _ hf => hf) fun _ => ?_)
  exact reaches_framed_bind h (keeps_whenM framed_nestTask) fun _ => reaches_loadTaskSegs

/-- CR0.TS is set; PE stays (R624). -/
theorem framed_enterTask {n : NewTask} {b : Bool} {f : Frame} : Keeps (Framed f) (enterTask n b) := by
  refine keeps_bind (keeps_whenM (keeps_sysWrite stable_framed _ _ _)) fun _ => keeps_bind (keeps_modify fun _ hf => hf) fun _ =>
    keeps_modify (keepsBy_framed fun s => ?_)
  have hpe : bit (s.cr0 ||| 8) 0 = bit s.cr0 0 := by rw [bit, BitVec.getLsbD_or]; exact Bool.or_false _
  exact congrArg (fun b => { s.frame with prot := s.cfg.model.has286 && b }) hpe

theorem reaches_taskSwitch {sel : Half} {k : SwitchKind} {retpc : Word} {ext : Half} :
    Settles c (Frame.Protected c) (taskSwitch sel k retpc ext) := by
  have h := Frame.loadable_protected (c := c)
  exact reaches_framed_bind h (keeps_testTask stable_framed _ _ _) fun n => reaches_get_bind fun s _ =>
    reaches_framed_bind h (keeps_saveTask stable_framed _ _) fun _ =>
      reaches_framed_bind h (keeps_whenM (keeps_clearBusy stable_framed)) fun _ =>
        reaches_framed_bind h framed_enterTask fun _ => reaches_loadTask

/-! ### Delivery (60_exceptions.md) -/

theorem frame_gateFlags (s : State) (b : Bool) : (s.gateFlags b).frame = s.frame := by
  have clear (t : State) {m : Word} (h : m.getLsbD 17 = false) : (t.setDirect m false).frame = t.frame := t.frame_setDirect false h
  have h2 := (clear (s.setDirect psTF false) (m := psNT) (by decide)).trans (clear s (by decide))
  unfold State.gateFlags
  dsimp only
  split <;> split <;> simp only [clear _ (show psRF.getLsbD 17 = false by decide), clear _ (show psIF.getLsbD 17 = false by decide), h2]

theorem reaches_commitGate {n : NewCode} (hn : n.desc.Fits c.model) {off : Word} {b : Bool} :
    Settles c (Frame.Protected c) (commitGate n off b) :=
  reaches_modify fun _ hs => (congrArg (Frame.Settled c) (frame_gateFlags _ b)).mpr (settled_commit hs hn off)

theorem reaches_deliverReal {n : Byte} {retpc : Word} : Settles c (Frame.Core c) (deliverReal n retpc) := by
  have h := Frame.loadable_core (c := c)
  refine reaches_get_bind fun s _ => reaches_framed_bind h (keeps_ensure' stable_framed _ _) fun _ =>
    reaches_framed_bind h (keeps_sysRead stable_framed _ _) fun off => reaches_framed_bind h (keeps_sysRead stable_framed _ _) fun seg =>
      reaches_framed_bind h (keeps_stack_pushAll stable_framed _ _ _) fun k => reaches_framed_bind h framed_commit fun _ => ?_
  refine reaches_framed_bind h (framed_setDirect (by decide)) fun _ => reaches_framed_bind h (framed_setDirect (by decide)) fun _ => ?_
  exact reaches_modify_bind (fun t ht => core_realLoad ht .cs _) (reaches_modify fun t ht => settled_jumpTo ht off)

theorem reaches_deliverGate {g : Desc} {w : Width} {b : Bool} {kind : DeliveryKind} {e : Option Half} {retpc : Word} :
    Settles c (Frame.Protected c) (deliverGate g w b kind e retpc) := by
  have h := Frame.loadable_protected (c := c)
  refine reaches_get_bind fun s _ => reaches_bind_fact (reaches_testCode h) fun n hn => reaches_ite ?inner ?same
  case inner =>
    refine reaches_framed_bind h (keeps_tssStack stable_framed _ _) fun st => reaches_tested h fun a ha =>
      reaches_framed_bind h (keeps_stack_pushAll stable_framed _ _ _) fun k => ?_
    exact reaches_framed_bind h (keeps_markStackAndCode stable_framed _ _) fun _ =>
      reaches_bind (reaches_setSeg h (by decide) (a.1.record_fits ha _)) fun _ =>
        reaches_framed_bind h framed_commit fun _ => reaches_commitGate hn
  case same =>
    exact reaches_framed_bind h (keeps_stack_pushAll stable_framed _ _ _) fun k =>
      reaches_framed_bind h (keeps_markAccessed stable_framed _) fun _ => reaches_framed_bind h framed_commit fun _ =>
        reaches_commitGate hn

theorem reaches_deliverTask {sel : Half} {kind : DeliveryKind} {e : Option Half} {retpc : Word} :
    Settles c (Frame.Protected c) (deliverTask sel kind e retpc) := by
  have h := Frame.loadable_settled (c := c)
  exact reaches_bind reaches_taskSwitch fun _ => reaches_get_bind fun s _ =>
    reaches_framed_bind h (keeps_stack_pushAll stable_framed _ _ _) fun k => reaches_framed h framed_commit

theorem reaches_deliverProt {n : Byte} {kind : DeliveryKind} {e : Option Half} {retpc : Word} :
    Settles c (Frame.Protected c) (deliverProt n kind e retpc) := by
  have h := Frame.loadable_protected (c := c)
  refine reaches_get_bind fun s _ => reaches_framed_bind h (keeps_ensure' stable_framed _ _) fun _ =>
    reaches_framed_bind h (keeps_readDesc stable_framed _) fun g => ?_
  cases idtGate s.cfg.model g.type with
  | none => exact reaches_raise h
  | some gate =>
    refine reaches_framed_bind h (keeps_ensure' stable_framed _ _) fun _ => reaches_framed_bind h (keeps_ensure' stable_framed _ _) fun _ =>
      reaches_framed_bind h (keeps_ensure' stable_framed _ _) fun _ => ?_
    cases gate with
    | task => exact reaches_deliverTask
    | code w b => exact reaches_deliverGate

/-- An operation by mode: from a state of which `p` holds, the protected one runs in protected mode. -/
theorem reaches_byMode {m n : M α} (hp : ∀ f, p f → f.Core c) (hm : Reaches c (Frame.Protected c) m q)
    (hn : Reaches c p n q) {b : State → Bool} (hb : ∀ s, b s = s.protectedMode) :
    Reaches c p (get >>= fun s => if b s then m else n) q := by
  intro s hs
  rw [run_get_bind, hb]
  cases e : s.protectedMode
  · exact hn s hs
  · exact hm s ⟨hp _ hs, e⟩

theorem reaches_deliver {n : Byte} {kind : DeliveryKind} {e : Option Half} {retpc : Word} :
    Settles c (Frame.Core c) (deliver n kind e retpc) :=
  reaches_byMode (fun _ hf => hf) reaches_deliverProt reaches_deliverReal fun _ => rfl

/-! ### Taking an exception -/

/-- The outcome, if it is a next state, is one of which `Settled` holds. -/
def Lands (c : Params) (o : Host.Outcome State Fault Refusal) : Prop := ∀ t, o = .next t → t.frame.Settled c

theorem lands_next {t : State} (h : t.frame.Settled c) : Lands c (.next t) := fun _ e => Host.Outcome.next.inj e ▸ h

theorem lands_fault {x : Fault} : Lands c (.fault x) := fun _ e => by cases e
theorem lands_refused {x : Refusal} : Lands c (.refused x) := fun _ e => by cases e

theorem settled_resetRegs {s : State} (h : s.frame.Core c) : s.resetRegs.frame.Settled c := by
  have hreset (m : Model) : m.psSet.getLsbD 17 = false ∧ (m.has286 && bit m.cr0On 0) = false ∧ m.resetIp.toNat < 65536 := by
    cases m <;> decide
  have hdata : SegReg.resetData.Fits c.model := ⟨by decide, fun _ => rfl⟩
  have hcode : (SegReg.resetCode s.cfg).Fits c.model :=
    ⟨show (0 : BitVec 2) = (0x9B00 : Half).extractLsb 14 13 by decide, fun _ => rfl⟩
  obtain ⟨hvm, hprot, hip⟩ := hreset s.cfg.model
  refine ⟨⟨h.cfg, h.memory, hvm, fun _ => rfl, ?_⟩, fun _ => hip⟩
  simp only [List.forall_mem_cons]
  exact ⟨hdata, hcode, hdata, hdata, hdata, hdata, nofun⟩

theorem lands_tripleFault {s : State} (h : s.frame.Core c) : Lands c (tripleFault s) := lands_next (settled_resetRegs h)

theorem core_abandon {s : State} (h : s.frame.Core c) (n : Byte) : (s.abandon n).frame.Core c :=
  ⟨h.cfg, h.memory, h.vm, h.level, h.records⟩

theorem lands_afterDelivery {again : State → Host.Outcome State Fault Refusal} (ha : ∀ t : State, t.frame.Core c → Lands c (again t))
    {m : M Unit} (hm : Settles c (Frame.Core c) m) {s : State} (hs : s.frame.Core c) :
    Lands c (afterDelivery again (m s)) := by
  have h := hm s hs
  cases e : m s with
  | ok a t => rw [e] at h; exact lands_next h
  | error x t =>
    rw [e] at h
    cases x with
    | exn x => exact ha t h
    | fault x => exact lands_fault
    | refused x => exact lands_refused

theorem lands_doubleFault {s : State} (h : s.frame.Core c) : Lands c (doubleFault s) :=
  lands_afterDelivery (fun _ => lands_tripleFault) reaches_deliver (core_abandon h _)

theorem lands_raiseExn (x : Exn) {s : State} (h : s.frame.Core c) : Lands c (raiseExn x s) := by
  unfold raiseExn
  split
  · exact lands_afterDelivery (fun _ => lands_doubleFault) reaches_deliver (core_abandon h _)
  · split
    · exact lands_doubleFault h
    · exact lands_tripleFault h

theorem lands_finish {m : M Unit} (hm : Settles c p m) {s : State} (hs : p s.frame) :
    Lands c (finish m s) := by
  have h := hm s hs
  unfold finish
  cases e : m s with
  | ok a t => rw [e] at h; exact lands_next h
  | error x t =>
    rw [e] at h
    cases x with
    | exn x => exact lands_raiseExn x h
    | fault x => exact lands_fault
    | refused x => exact lands_refused

/-! ### The return from an exception -/

theorem reaches_iretReal {w : Width} : Settles c (Frame.Core c) (iretReal w) := by
  have h := Frame.loadable_core (c := c)
  refine reaches_get_bind fun s _ => reaches_framed_bind h framed_peek fun off => reaches_framed_bind h framed_peek fun sel =>
    reaches_framed_bind h framed_peek fun fl => reaches_framed_bind h framed_commit fun _ => ?_
  refine reaches_modify_bind (fun t ht => core_realLoad ht .cs _) (reaches_modify_bind (fun t ht => settled_jumpTo ht off) ?_)
  exact reaches_modify fun t ht => (congrArg (Frame.Settled c) (t.frame_setPS fl s.iretWritable_vm)).mpr ht

theorem reaches_iretProt {w : Width} : Settles c (Frame.Protected c) (iretProt w) := by
  have h := Frame.loadable_protected (c := c)
  have h' := Frame.loadable_settled (c := c)
  refine reaches_get_bind fun s _ => reaches_framed_bind h framed_peek fun off => reaches_framed_bind h framed_peek fun sel =>
    reaches_framed_bind h framed_peek fun fl => reaches_ite (reaches_refuse h)
      (reaches_bind_fact (reaches_testCode h) fun n hn => ?_)
  have commit (t : State) (ht : t.frame.Protected c) : (((n.commit t).jumpTo off).setPS fl s.iretWritable).frame.Settled c :=
    (congrArg (Frame.Settled c) (State.frame_setPS _ fl s.iretWritable_vm)).mpr (settled_commit ht hn off)
  refine reaches_ite ?same ?outer
  case same =>
    exact reaches_framed_bind h (keeps_markAccessed stable_framed _) fun _ => reaches_framed_bind h framed_commit fun _ =>
      reaches_modify commit
  case outer =>
    refine reaches_framed_bind h framed_peek fun newSp => reaches_framed_bind h framed_peek fun newSs =>
      reaches_bind_fact (reaches_testOuterSs h) fun d hd =>
        reaches_framed_bind h (keeps_markStackAndCode stable_framed _ _) fun _ => reaches_modify_bind commit ?_
    exact reaches_bind (reaches_commitOuterStack h' hd) fun _ => reaches_modify fun t ht => holds_nullOuter h' ht

theorem reaches_iretTask : Settles c (Frame.Protected c) iretTask :=
  reaches_get_bind fun _ _ => reaches_framed_bind Frame.loadable_protected (keeps_sysRead stable_framed _ _) fun _ =>
    reaches_taskSwitch

theorem reaches_iretBody : Settles c (Frame.Core c) iretBody := by
  intro s hs
  unfold iretBody
  rw [run_get_bind]
  cases e : s.protectedMode
  · exact reaches_iretReal s hs
  · exact reaches_ite reaches_iretTask reaches_iretProt s ⟨hs, e⟩

theorem reaches_interruptReturn : Settles c (Frame.Core c) interruptReturn :=
  reaches_bind reaches_iretBody fun _ => reaches_framed Frame.loadable_settled (keeps_modify fun _ hf => hf)

/-! ### Near and far transfers (43_control_flow.md) -/

theorem settled_jumpIf {s : State} (h : s.frame.Settled c) (b : Bool) (disp : Word) : (s.jumpIf b disp).frame.Settled c := by
  unfold State.jumpIf
  split
  · exact settled_jumpTo h.toCore _
  · exact h

theorem reaches_jumpTo {v : Word} : Settles c (Frame.Core c) (modify (State.jumpTo v)) :=
  reaches_modify fun _ hs => settled_jumpTo hs v

theorem reaches_jumpE {e : RM} : Settles c (Frame.Core c) (jumpE e) := by
  have h := Frame.loadable_core (c := c)
  exact reaches_get_bind fun _ _ => reaches_framed_bind h framed_locE fun _ => reaches_framed_bind h framed_readLoc fun t =>
    reaches_jumpTo

theorem reaches_callRel {jv : Word} : Settles c (Frame.Core c) (callRel jv) :=
  reaches_get_bind fun _ _ => reaches_framed_bind Frame.loadable_core framed_push fun _ => reaches_jumpTo

theorem reaches_callE {e : RM} : Settles c (Frame.Core c) (callE e) := by
  have h := Frame.loadable_core (c := c)
  exact reaches_get_bind fun _ _ => reaches_framed_bind h framed_locE fun _ => reaches_framed_bind h framed_readLoc fun t =>
    reaches_framed_bind h framed_push fun _ => reaches_jumpTo

theorem reaches_retNear {iw : Half} : Settles c (Frame.Core c) (retNear iw) := by
  have h := Frame.loadable_core (c := c)
  exact reaches_get_bind fun _ _ => reaches_framed_bind h framed_pop fun t => reaches_read_bind fun _ _ =>
    reaches_framed_bind h framed_commit fun _ => reaches_jumpTo

theorem reaches_farReal {isCall : Bool} {off : Word} {sel : Half} :
    Settles c (Frame.Core c) (farReal isCall off sel) :=
  reaches_get_bind fun _ _ => reaches_framed_bind Frame.loadable_core
    (keeps_whenM (keeps_bind (keeps_stack_pushAll stable_framed _ _ _) fun _ => framed_commit)) fun _ =>
      reaches_modify fun _ ht => settled_jumpTo (core_realLoad ht .cs sel) off

theorem reaches_farCode {isCall : Bool} {off : Word} {sel : Half} {d : Desc} (hd : d.Fits c.model) :
    Settles c (Frame.Protected c) (farCode isCall off sel d) := by
  have h := Frame.loadable_protected (c := c)
  exact reaches_get_bind fun _ _ => reaches_framed_bind h (keeps_orRaise stable_framed _ _) fun cpl =>
    reaches_framed_bind h (keeps_stack_pushAll stable_framed _ _ _) fun _ =>
      reaches_framed_bind h (keeps_markAccessed stable_framed _) fun _ => reaches_framed_bind h framed_commit fun _ =>
        reaches_modify fun _ ht => settled_commit (n := ⟨sel, d, cpl⟩) ht hd off

theorem framed_readParams {w : Width} {k : Stack} {f : Frame} : ∀ {n i : Nat}, Keeps (Framed f) (readParams k w i n)
  | 0, _ => keeps_pure _
  | _ + 1, _ => keeps_bind (keeps_view_read stable_framed _ _ _ _) fun _ => keeps_bind framed_readParams fun _ => keeps_pure _

theorem reaches_callInner {g : Desc} {w : Width} {n : NewCode} (hn : n.desc.Fits c.model) :
    Settles c (Frame.Protected c) (callInner g w n) := by
  have h := Frame.loadable_protected (c := c)
  refine reaches_get_bind fun _ _ => reaches_framed_bind h (keeps_tssStack stable_framed _ _) fun st => reaches_tested h fun a ha =>
    reaches_framed_bind h framed_readParams fun ps => reaches_framed_bind h (keeps_stack_pushAll stable_framed _ _ _) fun k => ?_
  exact reaches_framed_bind h (keeps_markStackAndCode stable_framed _ _) fun _ =>
    reaches_bind (reaches_setSeg h (by decide) (a.1.record_fits ha _)) fun _ => reaches_framed_bind h framed_commit fun _ =>
      reaches_modify fun _ ht => settled_commit ht hn _

theorem framed_gateCheck {sel : Half} {g : Desc} {f : Frame} : Keeps (Framed f) (gateCheck sel g) :=
  keeps_bind keeps_get fun _ => keeps_bind (keeps_ensure' stable_framed _ _) fun _ => keeps_ensure' stable_framed _ _

theorem reaches_farGate {isCall : Bool} {sel : Half} {g : Desc} {w : Width} :
    Settles c (Frame.Protected c) (farGate isCall sel g w) := by
  have h := Frame.loadable_protected (c := c)
  refine reaches_framed_bind h framed_gateCheck fun _ => reaches_get_bind fun _ _ =>
    reaches_bind_fact (reaches_testCode h) fun n hn => reaches_ite (reaches_callInner hn) ?_
  exact reaches_framed_bind h (keeps_stack_pushAll stable_framed _ _ _) fun _ =>
    reaches_framed_bind h (keeps_markAccessed stable_framed _) fun _ => reaches_framed_bind h framed_commit fun _ =>
      reaches_modify fun _ ht => settled_commit ht hn _

theorem reaches_farTss {isCall : Bool} {sel : Half} {d : Desc} :
    Settles c (Frame.Protected c) (farTss isCall sel d) :=
  reaches_get_bind fun _ _ => reaches_framed_bind Frame.loadable_protected (keeps_ensure' stable_framed _ _) fun _ =>
    reaches_taskSwitch

theorem reaches_farTaskGate {isCall : Bool} {sel : Half} {g : Desc} :
    Settles c (Frame.Protected c) (farTaskGate isCall sel g) :=
  reaches_framed_bind Frame.loadable_protected framed_gateCheck fun _ => reaches_get_bind fun _ _ => reaches_taskSwitch

theorem reaches_farProt {isCall : Bool} {off : Word} {sel : Half} :
    Settles c (Frame.Protected c) (farProt isCall off sel) := by
  have h := Frame.loadable_protected (c := c)
  refine reaches_get_bind fun s _ => reaches_framed_bind h (keeps_ensure' stable_framed _ _) fun _ =>
    reaches_bind_fact (reaches_fetchDesc h) fun o ho => ?_
  cases o with
  | none => exact reaches_raise h
  | some d =>
    refine reaches_ite (reaches_farCode (ho d rfl)) ?_
    cases farSystem s.cfg.model d.type with
    | none => exact reaches_raise h
    | some k =>
      cases k with
      | gate w => exact reaches_farGate
      | taskGate => exact reaches_farTaskGate
      | tss => exact reaches_farTss

theorem reaches_farTransfer {isCall : Bool} {off : Word} {sel : Half} :
    Settles c (Frame.Core c) (farTransfer isCall off sel) :=
  reaches_byMode (fun _ hf => hf) reaches_farProt reaches_farReal fun _ => rfl

theorem reaches_farMem {isCall : Bool} {m : MemOp} : Settles c (Frame.Core c) (farMem isCall m) :=
  reaches_framed_bind Frame.loadable_core framed_readFar fun _ => reaches_farTransfer

theorem reaches_retFarReal {iw : Half} : Settles c (Frame.Core c) (retFarReal iw) := by
  have h := Frame.loadable_core (c := c)
  exact reaches_get_bind fun _ _ => reaches_framed_bind h framed_peek fun off => reaches_framed_bind h framed_peek fun sel =>
    reaches_framed_bind h framed_commit fun _ => reaches_modify fun _ ht => settled_jumpTo (core_realLoad ht .cs _) off

theorem reaches_retFarProt {iw : Half} : Settles c (Frame.Protected c) (retFarProt iw) := by
  have h := Frame.loadable_protected (c := c)
  have h' := Frame.loadable_settled (c := c)
  refine reaches_get_bind fun s _ => reaches_framed_bind h framed_peek fun off => reaches_framed_bind h framed_peek fun sel =>
    reaches_bind_fact (reaches_testCode h) fun n hn => reaches_ite ?same ?outer
  case same =>
    exact reaches_framed_bind h (keeps_markAccessed stable_framed _) fun _ => reaches_framed_bind h framed_commit fun _ =>
      reaches_modify fun _ ht => settled_commit ht hn off
  case outer =>
    refine reaches_framed_bind h framed_peek fun newSp => reaches_framed_bind h framed_peek fun newSs =>
      reaches_bind_fact (reaches_testOuterSs h) fun d hd => reaches_framed_bind h (keeps_markStackAndCode stable_framed _ _) fun _ =>
        reaches_modify_bind (fun _ ht => settled_commit ht hn off) ?_
    exact reaches_bind (reaches_commitOuterStack h' hd) fun _ => reaches_modify fun t ht => holds_nullOuter h' ht

theorem reaches_retFar {iw : Half} : Settles c (Frame.Core c) (retFar iw) :=
  reaches_byMode (fun _ hf => hf) reaches_retFarProt reaches_retFarReal fun _ => rfl

theorem reaches_softInt {n : Byte} : Settles c (Frame.Core c) (softInt n) :=
  reaches_get_bind fun _ _ => reaches_bind reaches_deliver fun _ =>
    reaches_framed Frame.loadable_settled (keeps_modify fun _ hf => hf)

theorem reaches_intOnOverflow : Settles c (Frame.Settled c) intOnOverflow :=
  reaches_get_bind fun _ _ => reaches_ite (reaches_softInt.pre fun _ hf => hf.toCore) (reaches_pure fun _ hf => hf)

end Sys2Proof.Machine
end

section
/-! Every step keeps the invariant of the machine: the instructions that load segment registers or CR0, the string instructions, the
fetch, and the step around them. -/

namespace Sys2Proof.Machine

variable {c : Params} {p : Frame → Prop}

/-! ### CR0 and the segment registers -/

theorem settled_setCr0 {s : State} (h : s.frame.Settled c) {v : Word} (hl : (s.setCr0 v).protectedMode = false → s.cpl = 0) :
    (s.setCr0 v).frame.Settled c := ⟨⟨h.cfg, h.memory, h.vm, hl, h.records⟩, h.pc⟩

/-- LMSW cannot leave protected mode (R571). -/
theorem reaches_lmsw {e : RM} : Settles c (Frame.Settled c) (lmsw e) := by
  have h := Frame.loadable_settled (c := c)
  refine reaches_framed_bind h framed_locE fun _ => reaches_framed_bind h framed_privileged fun _ =>
    reaches_framed_bind h framed_readLoc fun v => reaches_modify fun s hs => settled_setCr0 hs fun hp => hs.level ?_
  have hpe : bit ((s.cr0 &&& ~~~0x0E) ||| (v &&& 0x0F)) 0 = (bit s.cr0 0 || bit v 0) := by simp [bit]
  simp only [State.protectedMode, State.setCr0_cfg, State.setCr0_cr0, hpe, Bool.and_or_distrib_left, Bool.or_eq_false_iff] at hp
  exact hp.1

theorem framed_clts {f : Frame} : Keeps (Framed f) clts := by
  refine keeps_bind framed_privileged fun _ => keeps_modify (keepsBy_framed fun s => ?_)
  have hpe : bit (s.cr0 &&& ~~~0x08) 0 = bit s.cr0 0 := by simp [bit]
  exact congrArg (fun b => { s.frame with prot := s.cfg.model.has286 && b }) hpe

/-- Whoever passes the privilege test is at CPL 0, in real mode too (R45, R550). -/
theorem reaches_privileged (h : Frame.Loadable c p) : Reaches c p privileged fun _ f => p f ∧ f.cpl = 0 := by
  intro s hs
  by_cases hl : s.cpl = 0
  · exact reaches_framed h.cpl0 framed_privileged s ⟨hs, hl⟩
  · have hp : s.protectedMode = true := Bool.of_not_eq_false fun hp => hl ((h.core hs).level hp)
    have hrun : privileged s = raise (.gp 0) s := by simp [privileged, hp, show (s.cpl == 0#2) = false from beq_false_of_ne hl]
    rw [hrun]
    exact h.core hs

theorem reaches_moveToCr {n : BitVec 3} {r : Reg} : Settles c (Frame.Settled c) (moveToCr n r) := by
  have h := (Frame.loadable_settled (c := c)).cpl0
  refine reaches_bind (reaches_privileged Frame.loadable_settled) fun _ => reaches_get_bind fun s _ => ?_
  dsimp only
  split
  · refine reaches_framed_bind h (keeps_ensure' stable_framed _ _) fun _ => reaches_modify fun t ht => ?_
    rw [State.frame_flagsControl]
    exact settled_setCr0 ht.1 fun _ => ht.2
  · exact reaches_modify fun t ht => by rw [State.frame_flagsControl]; exact ht.1
  · exact reaches_modify fun t ht => by rw [State.frame_flagsControl]; exact ht.1
  · exact reaches_raise h

theorem framed_ssShadow {r : SReg} {f : Frame} : Keeps (Framed f) (ssShadow r) := keeps_whenM (keeps_modify fun _ hf => hf)

theorem reaches_moveToSeg (h : Frame.Loadable c p) {r : SReg} (hr : r ≠ .cs) {e : RM} : Reaches c p (moveToSeg r e) fun _ => p :=
  reaches_framed_bind h framed_locE fun _ => reaches_framed_bind h framed_readLoc fun _ =>
    reaches_bind (reaches_loadSeg h hr) fun _ => reaches_framed h framed_ssShadow

theorem reaches_loadFar (h : Frame.Loadable c p) {r : SReg} (hr : r ≠ .cs) {g : Reg} {m : MemOp} :
    Reaches c p (loadFar r g m) fun _ => p :=
  reaches_get_bind fun _ _ => reaches_framed_bind h framed_readFar fun _ => reaches_bind (reaches_loadSeg h hr) fun _ =>
    reaches_framed h framed_setReg

/-- A pop into a segment register, by what its load does (R324). -/
theorem reaches_popSeg (h : Frame.Loadable c p) {r : SReg} (hl : ∀ sel, Settles c p (loadSeg r sel)) : Settles c p (popSeg r) :=
  reaches_get_bind fun _ _ => reaches_framed_bind h framed_peek fun _ => reaches_bind (hl _) fun _ =>
    reaches_framed_bind Frame.loadable_settled framed_commit fun _ => reaches_framed Frame.loadable_settled framed_ssShadow

theorem reaches_popData {r : SReg} (hr : r ≠ .cs) : Settles c (Frame.Settled c) (popSeg r) :=
  reaches_popSeg Frame.loadable_settled fun _ => reaches_loadSeg Frame.loadable_settled hr

/-- POP CS in real mode, the only mode of the models that have it (R324). -/
theorem reaches_popCs : Settles c (fun f => f.Settled c ∧ f.prot = false) (popSeg .cs) := by
  refine reaches_popSeg Frame.loadable_settled.real fun sel s hs => ?_
  have hp : s.protectedMode = false := hs.2
  have hrun : loadSeg .cs sel s = .ok ⟨⟩ (s.realLoad .cs sel) := by simp [loadSeg, hp]
  rw [hrun]
  exact settled_realLoad hs.1 .cs sel

/-! ### String instructions -/

/-- While the repetition goes on the instruction pointer goes back to opLIP (R523). -/
theorem settled_repNext {s : State} (h : s.frame.Running c) (compares : Bool) : (s.repNext compares).frame.Settled c := by
  unfold State.repNext
  dsimp only
  split
  · exact ⟨⟨h.cfg, h.memory, h.vm, h.level, h.records⟩, h.restart⟩
  · exact h.toSettled

theorem reaches_stringStep {compares : Bool} {element : M Unit} (he : ∀ {f}, Keeps (Framed f) element) :
    Settles c (Frame.Running c) (stringStep compares element) := by
  have h := Frame.loadable_running (c := c)
  have hend {m : M Unit} (hm : ∀ {f}, Keeps (Framed f) m) : Settles c (Frame.Running c) m :=
    (reaches_framed h hm).post fun _ _ hf => hf.toSettled
  exact reaches_get_bind fun _ _ => reaches_ite (hend he) (reaches_ite (hend (keeps_pure _))
    (reaches_framed_bind h he fun _ => reaches_modify fun _ hs => settled_repNext hs compares))

theorem reaches_stringStepV {compares : Bool} {element : Width → M Unit} (he : ∀ {w f}, Keeps (Framed f) (element w)) :
    Settles c (Frame.Running c) (stringStepV compares element) := reaches_get_bind fun _ _ => reaches_stringStep he

end Sys2Proof.Machine

namespace Sys2Proof

/-! ### Which instructions load CS -/

/-- The instruction loads CS only where POP CS exists, before the 80186 (R252, R324); MOV names another register (R254). -/
def Instr.sparesCs (m : Model) : Instr → Bool
  | .popCS => !m.has286
  | .movSwEw sr _ => sr != .cs
  | _ => true

/-- What was decoded, if anything, spares CS. -/
def Decoded.SparesCs (m : Model) : Decoded → Prop
  | none => True
  | some x => x.1.sparesCs m = true

variable {m : Model} {c : DecCtx} {bs : List Byte}

theorem sparesCs_some {i : Instr} (h : i.sparesCs m = true) : Decoded.SparesCs m (some (i, bs)) := h

/-- A decoder that reads something first. -/
theorem sparesCs_bind {α : Type} {o : Option α} {k : α → Decoded} (h : ∀ a, Decoded.SparesCs m (k a)) :
    Decoded.SparesCs m (o >>= k) := by
  cases o with
  | none => exact trivial
  | some a => exact h a

theorem sparesCs_ite {b : Prop} [Decidable b] {d e : Decoded} (hd : Decoded.SparesCs m d) (he : Decoded.SparesCs m e) :
    Decoded.SparesCs m (if b then d else e) := by
  split
  · exact hd
  · exact he

theorem sparesCs_plain {i : Instr} (h : i.sparesCs m = true) : Decoded.SparesCs m (plain i bs) := sparesCs_some h
theorem sparesCs_undefSub {i : Instr} (h : i.sparesCs m = true) : Decoded.SparesCs m (undefSub i bs) := by
  cases bs with
  | nil => exact trivial
  | cons b r => exact sparesCs_some h
theorem sparesCs_gate {b : Bool} {d : List Byte → Decoded} (h : Decoded.SparesCs m (d bs)) : Decoded.SparesCs m (gate b d bs) :=
  sparesCs_ite h (sparesCs_some rfl)
theorem sparesCs_group {k : Nat → List Byte → Decoded} (h : ∀ n, Decoded.SparesCs m (k n bs)) :
    Decoded.SparesCs m (group k bs) := by
  cases bs with
  | nil => exact trivial
  | cons b r => exact h _
theorem sparesCs_shIb {k : Byte → Instr} (h : ∀ v, (k v).sparesCs m = true) : Decoded.SparesCs m (shIb k bs) :=
  sparesCs_bind fun _ => sparesCs_some (h _)
theorem sparesCs_shIw {k : Half → Instr} (h : ∀ v, (k v).sparesCs m = true) : Decoded.SparesCs m (shIw k bs) :=
  sparesCs_bind fun _ => sparesCs_some (h _)
theorem sparesCs_shIwIb {k : Half → Byte → Instr} (h : ∀ v w, (k v w).sparesCs m = true) : Decoded.SparesCs m (shIwIb k bs) :=
  sparesCs_bind fun _ => sparesCs_bind fun _ => sparesCs_some (h _ _)
theorem sparesCs_shV {b : Bool} {k : Word → Instr} (h : ∀ v, (k v).sparesCs m = true) : Decoded.SparesCs m (shV b k bs) :=
  sparesCs_bind fun _ => sparesCs_some (h _)
theorem sparesCs_shAp {k : Word → Half → Instr} (h : ∀ o s, (k o s).sparesCs m = true) : Decoded.SparesCs m (shAp c k bs) :=
  sparesCs_bind fun _ => sparesCs_bind fun _ => sparesCs_some (h _ _)
theorem sparesCs_shE {k : BitVec 3 → RawE → Instr} (h : ∀ g e, (k g e).sparesCs m = true) : Decoded.SparesCs m (shE c k bs) :=
  sparesCs_bind fun _ => sparesCs_bind fun _ => sparesCs_some (h _ _)
theorem sparesCs_shEIb {k : BitVec 3 → RawE → Byte → Instr} (h : ∀ g e v, (k g e v).sparesCs m = true) :
    Decoded.SparesCs m (shEIb c k bs) :=
  sparesCs_bind fun _ => sparesCs_bind fun _ => sparesCs_bind fun _ => sparesCs_some (h _ _ _)
theorem sparesCs_shEIv {k : BitVec 3 → RawE → Word → Instr} (h : ∀ g e v, (k g e v).sparesCs m = true) :
    Decoded.SparesCs m (shEIv c k bs) :=
  sparesCs_bind fun _ => sparesCs_bind fun _ => sparesCs_bind fun _ => sparesCs_some (h _ _ _)
theorem sparesCs_shM {k : BitVec 3 → MemOp → Instr} (h : ∀ g e, (k g e).sparesCs m = true) : Decoded.SparesCs m (shM c k bs) :=
  sparesCs_bind fun _ => sparesCs_ite (sparesCs_some rfl) (sparesCs_bind fun _ => sparesCs_some (h _ _))
theorem sparesCs_shCtl {k : BitVec 3 → Reg → Instr} (h : ∀ n r, (k n r).sparesCs m = true) : Decoded.SparesCs m (shCtl k bs) :=
  sparesCs_bind fun _ => sparesCs_some (h _ _)
theorem sparesCs_shSreg {ok : SReg → Bool} {k : RM → SReg → Instr} (h : ∀ e sr, ok sr = true → (k e sr).sparesCs m = true) :
    Decoded.SparesCs m (shSreg c ok k bs) := by
  refine sparesCs_bind fun x => ?_
  dsimp only
  split
  · split
    · exact sparesCs_bind fun _ => sparesCs_some (h _ _ ‹_›)
    · exact sparesCs_some rfl
  · exact sparesCs_some rfl
theorem sparesCs_escape (h : ∀ op bs, (decode0F c op bs).SparesCs m) : (escape c bs).SparesCs m := by
  cases bs with
  | nil => exact trivial
  | cons b r => exact h _ _

/-- No instruction loads CS but POP CS, before the 80186. The proof walks the opcode maps: each entry is one of the shapes above. -/
theorem sparesCs_decode : (decode c bs).SparesCs c.model := by
  cases bs with
  | nil => exact trivial
  | cons b bs =>
    rw [decode]
    unfold decodeOp0 decodeOp1 decodeOp2 decodeOp3
    repeat' with_reducible first
      | refine sparesCs_plain ?_
      | refine sparesCs_shE fun _ _ => ?_
      | refine sparesCs_shIb fun _ => ?_
      | refine sparesCs_shEIb fun _ _ _ => ?_
      | refine sparesCs_shV fun _ => ?_
      | refine sparesCs_group fun _ => ?_
      | refine sparesCs_gate ?_
      | refine sparesCs_shEIv fun _ _ _ => ?_
      | refine sparesCs_shM fun _ _ => ?_
      | refine sparesCs_undefSub ?_
      | refine sparesCs_shIw fun _ => ?_
      | refine sparesCs_shIwIb fun _ _ => ?_
      | refine sparesCs_shAp fun _ _ => ?_
      | refine sparesCs_shSreg fun _ _ hsr => ?_
      | refine sparesCs_shCtl fun _ _ => ?_
      | refine sparesCs_escape fun _ _ => ?_
      | split
      | unfold decode0F
    any_goals rfl
    case h_16.isFalse.isFalse h286 _ => simp [Instr.sparesCs, h286]
    case h_15 hsr => exact (Bool.and_eq_true_iff.mp hsr).1

end Sys2Proof

namespace Sys2Proof.Machine

variable {c : Params}

/-! ### The meanings of the instructions -/

theorem lands_framed {m : M Unit} (hm : ∀ {f}, Keeps (Framed f) m) {s : State} (hs : s.frame.Running c) : Lands c (finish m s) :=
  lands_finish (reaches_framed Frame.loadable_settled hm) hs.toSettled

theorem lands_still {s t : State} (h : t.frame = s.frame) (hs : s.frame.Running c) : Lands c (.next t) :=
  lands_next ((congrArg (Frame.Settled c) h).mpr hs.toSettled)

theorem settled_loopRel {s : State} (h : s.frame.Settled c) (z : Option Bool) (jb : Byte) : (loopRel z jb s).frame.Settled c :=
  settled_jumpIf (s := s.setReg s.adW .cx _) h _ _

/-- POP CS stands before the 80286 only, so in real mode. -/
theorem lands_popCs {s : State} (h286 : s.cfg.model.has286 = false) (hs : s.frame.Running c) : Lands c (finish (popSeg .cs) s) :=
  lands_finish reaches_popCs ⟨hs.toSettled, show s.protectedMode = false by simp [State.protectedMode, h286]⟩

/-- Every meaning leads where `Settled` holds: those that leave the frame alone, those that change no more than the flags or the
instruction pointer, and those that load segment registers, CR0 or a new task. -/
theorem lands_exec {i : Instr} {s : State} (hi : i.sparesCs s.cfg.model = true) (hs : s.frame.Running c) : Lands c (exec i s) := by
  unfold exec
  cases i with
  | addEbGb | orEbGb | adcEbGb | sbbEbGb | andEbGb | subEbGb | xorEbGb | cmpEbGb | testEbGb => exact lands_framed framed_aluEbGb hs
  | addEvGv | orEvGv | adcEvGv | sbbEvGv | andEvGv | subEvGv | xorEvGv | cmpEvGv | testEvGv => exact lands_framed framed_aluEvGv hs
  | addGbEb | orGbEb | adcGbEb | sbbGbEb | andGbEb | subGbEb | xorGbEb | cmpGbEb => exact lands_framed framed_aluGbEb hs
  | addGvEv | orGvEv | adcGvEv | sbbGvEv | andGvEv | subGvEv | xorGvEv | cmpGvEv => exact lands_framed framed_aluGvEv hs
  | addALIb | orALIb | adcALIb | sbbALIb | andALIb | subALIb | xorALIb | cmpALIb | testALIb => exact lands_framed framed_aluALIb hs
  | addEAXIv | orEAXIv | adcEAXIv | sbbEAXIv | andEAXIv | subEAXIv | xorEAXIv | cmpEAXIv | testEAXIv =>
    exact lands_framed framed_aluEAXIv hs
  | addEbIb | addEbIb82 | orEbIb | orEbIb82 | adcEbIb | adcEbIb82 | sbbEbIb | sbbEbIb82 | andEbIb | andEbIb82 | subEbIb |
    subEbIb82 | xorEbIb | xorEbIb82 | cmpEbIb | cmpEbIb82 | testEbIb =>
    exact lands_framed framed_aluEbIb hs
  | addEvIv | orEvIv | adcEvIv | sbbEvIv | andEvIv | subEvIv | xorEvIv | cmpEvIv | testEvIv => exact lands_framed framed_aluEvIv hs
  | addEvIbs | orEvIbs | adcEvIbs | sbbEvIbs | andEvIbs | subEvIbs | xorEvIbs | cmpEvIbs => exact lands_framed framed_aluEvIbs hs
  | incR | decR => exact lands_framed framed_unaryR hs
  | pushR => exact lands_framed framed_pushReg hs
  | popR => exact lands_framed framed_popReg hs
  | boundGvMa => exact lands_framed framed_bound hs
  | arplEwGw => exact lands_framed framed_arpl hs
  | pushIv | pushIbs => exact lands_framed framed_pushImm hs
  | imulGvEvIv | imulGvEvIbs | imulGvEv => exact lands_framed framed_imulTo hs
  | xchgEbGb => exact lands_framed framed_exchangeE8 hs
  | xchgEvGv => exact lands_framed framed_exchangeE hs
  | movEbGb => exact lands_framed framed_moveToE8 hs
  | movEvGv => exact lands_framed framed_moveToE hs
  | movGbEb => exact lands_framed framed_moveFromE8 hs
  | movGvEv => exact lands_framed framed_moveFromE hs
  | movEwSw => exact lands_framed framed_moveFromSeg hs
  | leaGvM => exact lands_framed framed_lea hs
  | popEv => exact lands_framed framed_popE hs
  | xchgEAXR => exact lands_framed framed_exchangeAcc hs
  | movALOb | movEAXOv | movObAL | movOvEAX => exact lands_framed framed_moveOffset hs
  | movR8Ib | movRIv => exact lands_framed framed_writeLoc hs
  | rolEbIb | rolEbOne | rolEbCL | rorEbIb | rorEbOne | rorEbCL | rclEbIb | rclEbOne | rclEbCL | rcrEbIb | rcrEbOne | rcrEbCL |
    shlEbIb | shlEbOne | shlEbCL | shrEbIb | shrEbOne | shrEbCL | sarEbIb | sarEbOne | sarEbCL =>
    exact lands_framed framed_shiftEb hs
  | rolEvIb | rolEvOne | rolEvCL | rorEvIb | rorEvOne | rorEvCL | rclEvIb | rclEvOne | rclEvCL | rcrEvIb | rcrEvOne | rcrEvCL |
    shlEvIb | shlEvOne | shlEvCL | shrEvIb | shrEvOne | shrEvCL | sarEvIb | sarEvOne | sarEvCL =>
    exact lands_framed framed_shiftEv hs
  | shl6 => exact lands_framed framed_shiftDst hs
  | movEbIb => exact lands_framed framed_moveImmE8 hs
  | movEvIv => exact lands_framed framed_moveImmE hs
  | enterIwIb => exact lands_framed framed_enter hs
  | aamIb => exact lands_framed framed_aam hs
  | esc => exact lands_framed framed_escape hs
  | inALIb | inEAXIb | inALDX | inEAXDX => exact lands_framed framed_input hs
  | outIbAL | outIbEAX | outDXAL | outDXEAX => exact lands_framed framed_output hs
  | notEb | negEb | incEb | decEb => exact lands_framed framed_unaryEb hs
  | notEv | negEv | incEv | decEv => exact lands_framed framed_unaryEv hs
  | mulEb | imulEb => exact lands_framed framed_mulEb hs
  | mulEv | imulEv => exact lands_framed framed_mulEv hs
  | divEb | idivEb => exact lands_framed framed_divideEb hs
  | divEv | idivEv => exact lands_framed framed_divideEv hs
  | pushEv => exact lands_framed framed_pushE hs
  | sldtEw | strEw => exact lands_framed framed_storeSel hs
  | lldtEw => exact lands_framed framed_lldt hs
  | ltrEw => exact lands_framed framed_ltr hs
  | verrEw | verwEw => exact lands_framed framed_verify hs
  | sgdtMs | sidtMs => exact lands_framed framed_storeTable hs
  | lgdtMs => exact lands_framed framed_lgdt hs
  | lidtMs => exact lands_framed framed_lidt hs
  | smswEw => exact lands_framed framed_smsw hs
  | larGvEw | lslGvEw => exact lands_framed framed_queryLoad hs
  | movRdCd => exact lands_framed framed_moveFromCr hs
  | movRdDd => exact lands_framed framed_moveFromDr hs
  | movDdRd => exact lands_framed framed_moveToDr hs
  | setccEb => exact lands_framed framed_setcc hs
  | btEvGv | btsEvGv | btrEvGv | btcEvGv => exact lands_framed framed_bitGv hs
  | shldEvGvIb | shldEvGvCL | shrdEvGvIb | shrdEvGvCL => exact lands_framed framed_doubleShift hs
  | movzxGvEb | movsxGvEb => exact lands_framed framed_extendByte hs
  | movzxGvEw | movsxGvEw => exact lands_framed framed_extendWord hs
  | btEvIb | btsEvIb | btrEvIb | btcEvIb => exact lands_framed framed_bitIb hs
  | bsfGvEv | bsrGvEv => exact lands_framed framed_bitScan hs
  | pushES | pushCS | pushSS | pushDS | pushFS | pushGS => exact lands_framed framed_pushSeg hs
  | pusha => exact lands_framed framed_pushAllRegs hs
  | popa => exact lands_framed framed_popAllRegs hs
  | wait => exact lands_framed framed_waitCoprocessor hs
  | pushf => exact lands_framed framed_pushFlags hs
  | popf => exact lands_framed framed_popFlags hs
  | leave => exact lands_framed framed_leave hs
  | undefD6 | undefF1 | undefF6r1 | undefFFr7 | undefOther => exact lands_framed framed_undefinedOpcode hs
  | xlat => exact lands_framed framed_xlat hs
  | hlt => exact lands_framed framed_halt hs
  | cli => exact lands_framed framed_cli hs
  | sti => exact lands_framed framed_sti hs
  | clts => exact lands_framed framed_clts hs
  | prefixES | prefixCS | prefixSS | prefixDS | prefixFS | prefixGS | prefixOpSize | prefixAdSize | prefixLock | prefixRepNZ |
    prefixRepZ | nop | cwd | lahf =>
    exact lands_still rfl hs
  | daa => exact lands_still (frame_daa s) hs
  | das => exact lands_still (frame_das s) hs
  | aaa | aas => exact lands_still (frame_asciiAdjust _ _ _ _ s) hs
  | aadIb => exact lands_still (frame_aad _ s) hs
  | cbw => exact lands_still (frame_convertAcc s) hs
  | sahf => exact lands_still (frame_sahf s) hs
  | clc | stc | cmc => exact lands_still (s.frame_setFlag .cf _) hs
  | cld | std => exact lands_still (s.frame_setDirect _ (by decide)) hs
  | jmpJb | jmpJv | jccJb | jccJv | jcxzJb => exact lands_next (settled_jumpIf hs.toSettled _ _)
  | loopJb | loopzJb | loopnzJb => exact lands_next (settled_loopRel hs.toSettled _ _)
  | callFarAp | jmpFarAp => exact lands_finish reaches_farTransfer hs.toCore
  | retIw | ret => exact lands_finish reaches_retNear hs.toCore
  | lesGvMp | ldsGvMp | lssGvMp | lfsGvMp | lgsGvMp =>
    exact lands_finish (reaches_loadFar Frame.loadable_settled (by decide)) hs.toSettled
  | retfIw | retf => exact lands_finish reaches_retFar hs.toCore
  | intIb | int3 => exact lands_finish reaches_softInt hs.toCore
  | callJv => exact lands_finish reaches_callRel hs.toCore
  | callEv => exact lands_finish reaches_callE hs.toCore
  | callFarMp | jmpFarMp => exact lands_finish reaches_farMem hs.toCore
  | jmpEv => exact lands_finish reaches_jumpE hs.toCore
  | lmswEw => exact lands_finish reaches_lmsw hs.toSettled
  | movCdRd => exact lands_finish reaches_moveToCr hs.toSettled
  | popES | popSS | popDS | popFS | popGS => exact lands_finish (reaches_popData (by decide)) hs.toSettled
  | into => exact lands_finish reaches_intOnOverflow hs.toSettled
  | iret => exact lands_finish reaches_interruptReturn hs.toCore
  | insb => exact lands_finish (reaches_stringStep framed_insElement) hs
  | outsb => exact lands_finish (reaches_stringStep framed_outsElement) hs
  | movsb => exact lands_finish (reaches_stringStep framed_movsElement) hs
  | cmpsb => exact lands_finish (reaches_stringStep framed_cmpsElement) hs
  | stosb => exact lands_finish (reaches_stringStep framed_stosElement) hs
  | lodsb => exact lands_finish (reaches_stringStep framed_lodsElement) hs
  | scasb => exact lands_finish (reaches_stringStep framed_scasElement) hs
  | insv => exact lands_finish (reaches_stringStepV framed_insElement) hs
  | outsv => exact lands_finish (reaches_stringStepV framed_outsElement) hs
  | movsv => exact lands_finish (reaches_stringStepV framed_movsElement) hs
  | cmpsv => exact lands_finish (reaches_stringStepV framed_cmpsElement) hs
  | stosv => exact lands_finish (reaches_stringStepV framed_stosElement) hs
  | lodsv => exact lands_finish (reaches_stringStepV framed_lodsElement) hs
  | scasv => exact lands_finish (reaches_stringStepV framed_scasElement) hs
  | movSwEw sr e => exact lands_finish (reaches_moveToSeg Frame.loadable_settled (bne_iff_ne.mp hi)) hs.toSettled
  | popCS => exact lands_popCs (Bool.not_eq_true' _ ▸ hi) hs

/-! ### Fetch -/

theorem running_nextPc {s : State} (h : s.frame.Running c) : (s.setPc s.nextPc).frame.Running c :=
  ⟨settled_jumpTo h.toCore (s.pc + 1), h.restart⟩

theorem reaches_fetchByte : Reaches c (Frame.Running c) fetchByte fun _ => Frame.Running c :=
  reaches_get_bind fun _ _ => reaches_framed_bind Frame.loadable_running (keeps_view_read stable_framed _ _ _ _) fun _ =>
    reaches_modify_bind (fun _ => running_nextPc) (reaches_pure fun _ hf => hf)

theorem reaches_fetchInstr : ∀ {n : Nat} {acc : List Byte},
    Reaches c (Frame.Running c) (fetchInstr n acc) fun i f => f.Running c ∧ i.sparesCs c.model = true
  | 0, _ => fun _ hs => hs.toCore
  | n + 1, acc => by
    have h := Frame.loadable_running (c := c)
    refine reaches_bind reaches_fetchByte fun b => reaches_framed_bind h (keeps_whenM (keeps_modify fun _ hf => hf)) fun _ =>
      reaches_get_bind fun s hs => ?_
    have hd : (decode s.ctx (acc ++ [b])).SparesCs c.model := hs.cfg ▸ sparesCs_decode
    cases e : decode s.ctx (acc ++ [b]) with
    | none => exact reaches_fetchInstr
    | some x =>
      rw [e] at hd
      dsimp only
      split
      · exact reaches_framed_bind h (keeps_modify fun _ hf => hf) fun _ => reaches_fetchInstr
      · exact reaches_pure fun f hf => ⟨hf, hd⟩

/-! ### The step -/

/-- The outcome, if it is a next state, is one of which the invariant holds. -/
def Ends (c : Params) (o : Host.Outcome State Fault Refusal) : Prop := ∀ t, o = .next t → t.noTrap = false ∧ t.frame.Settled c

theorem ends_next {t : State} (hn : t.noTrap = false) (h : t.frame.Settled c) : Ends c (.next t) := fun _ e => by
  cases e
  exact ⟨hn, h⟩

theorem ends_endStep {o : Host.Outcome State Fault Refusal} (h : Lands c o) : Ends c (endStep o) := by
  cases o with
  | next s => exact ends_next rfl (h s rfl)
  | fault x => exact fun _ e => by cases e
  | refused x => exact fun _ e => by cases e

theorem ends_retire {tf : Bool} {s : State} (h : s.frame.Settled c) : Ends c (retire tf s) := by
  unfold retire
  split
  · exact ends_endStep (lands_finish reaches_deliver h.toCore)
  · exact ends_next rfl h

theorem ends_retireOutcome {tf : Bool} {o : Host.Outcome State Fault Refusal} (h : Lands c o) : Ends c (retireOutcome tf o) := by
  cases o with
  | next s => exact ends_retire (h s rfl)
  | fault x => exact fun _ e => by cases e
  | refused x => exact fun _ e => by cases e

theorem ends_acceptInterrupt {s : State} (h : s.frame.Settled c) : Ends c (acceptInterrupt s) :=
  ends_endStep (lands_finish reaches_deliver ((congrArg (Frame.Core c) s.frame_intAck).mpr h.toCore))

theorem running_begin {s : State} (h : s.frame.Settled c) : s.begin.frame.Running c := by
  refine ⟨⟨⟨h.cfg, h.memory, h.vm, h.level, h.records⟩, h.pc⟩, fun hc => ?_⟩
  show (s.cs.base + s.pc - s.cs.base).toNat < 65536
  rw [BitVec.add_comm, BitVec.add_sub_cancel]
  exact h.pc hc

theorem ends_runFetched {tf : Bool} {s : State} (h : s.frame.Settled c) :
    Ends c (runFetched exec tf (fetchInstr fetchFuel [] s.begin)) := by
  have hf := reaches_fetchInstr (n := fetchFuel) (acc := []) s.begin (running_begin h)
  cases e : fetchInstr fetchFuel [] s.begin with
  | ok i t =>
    rw [e] at hf
    obtain ⟨ht, hi⟩ := hf
    have hm : c = t.cfg := ht.cfg.symm
    exact ends_retireOutcome (lands_exec (s := t.setNoIntr false) (hm ▸ hi) ht)
  | error x t =>
    rw [e] at hf
    cases x with
    | exn x => exact ends_endStep (lands_raiseExn x hf)
    | fault x => exact fun _ e => by cases e
    | refused x => exact fun _ e => by cases e

theorem ends_step {s : State} (hn : s.noTrap = false) (h : s.frame.Settled c) : Ends c (step s) := by
  unfold step stepWith
  split
  · exact fun _ e => by cases e
  split
  · exact fun _ e => by cases e
  split
  · exact ends_acceptInterrupt h
  split
  · exact ends_next hn h
  · exact ends_runFetched h

/-- Settles O52, on the frame: a step that begins where the invariant holds ends where it holds. -/
theorem stepKeepsInvariant : Obligations.StepKeepsInvariant := by
  unfold Obligations.StepKeepsInvariant
  intro s t hs ht
  obtain ⟨hn, hf⟩ := s.inv_iff.mp hs
  obtain ⟨hn', hf'⟩ := ends_step hn hf t ht
  have hc : t.cfg = s.cfg := hf'.cfg
  exact t.inv_iff.mpr ⟨hn', hc ▸ hf'⟩

end Sys2Proof.Machine
end

section
/-! Widths as arithmetic: truncation is a remainder, `signed` takes off the weight of the sign bit, and the formulas of R47 are the
carries and the overflow of a sum with a carry in. -/

namespace Sys2Proof

theorem Width.bits_pos (w : Width) : 0 < w.bits := by cases w <;> decide

theorem Width.bits_le (w : Width) : w.bits ≤ 32 := by cases w <;> decide

theorem Width.sign_lt (w : Width) : w.bits - 1 < w.bits := Nat.sub_lt w.bits_pos Nat.one_pos

theorem toNat_trunc (w : Width) (v : Word) : (trunc w v).toNat = v.toNat % 2 ^ w.bits := by
  have hm : w.mask.toNat = 2 ^ w.bits - 1 := by cases w <;> rfl
  rw [trunc, BitVec.toNat_and, hm, Nat.and_two_pow_sub_one_eq_mod]

theorem toNat_lt_of_trunc {w : Width} {v : Word} (h : trunc w v = v) : v.toNat < 2 ^ w.bits := by
  rw [← h, toNat_trunc]
  exact Nat.mod_lt _ (Nat.two_pow_pos _)

theorem getLsbD_trunc (w : Width) (v : Word) (i : Nat) : (trunc w v).getLsbD i = (decide (i < w.bits) && v.getLsbD i) := by
  rw [← BitVec.testBit_toNat, toNat_trunc, Nat.testBit_mod_two_pow, BitVec.testBit_toNat]

theorem toNat_trunc_add (w : Width) (u v : Word) : (trunc w (u + v)).toNat = (u.toNat + v.toNat) % 2 ^ w.bits := by
  rw [toNat_trunc, BitVec.toNat_add, Nat.mod_mod_of_dvd _ (Nat.pow_dvd_pow 2 w.bits_le)]

theorem trunc_trunc_add (w : Width) (u v : Word) : trunc w (trunc w u + v) = trunc w (u + v) := by
  apply BitVec.eq_of_toNat_eq
  rw [toNat_trunc_add, toNat_trunc_add, toNat_trunc, Nat.mod_add_mod]

theorem toNat_ofBool (b : Bool) : (ofBool b).toNat = b.toNat := by cases b <;> rfl

/-- `signed_w` is the two's complement value of the low bits (R13). -/
theorem signed_eq_toInt (w : Width) (v : Word) : signed w v = (v.setWidth w.bits).toInt := by
  cases w with
  | w8 | w16 => exact BitVec.toInt_signExtend_of_le (by decide)
  | w32 => exact congrArg BitVec.toInt (BitVec.setWidth_eq v).symm

theorem signed_eq_ite {w : Width} {v : Word} (h : trunc w v = v) :
    signed w v = if bit v (w.bits - 1) then (v.toNat : Int) - (2 ^ w.bits : Nat) else v.toNat := by
  have hmsb : (v.setWidth w.bits).msb = bit v (w.bits - 1) := by
    rw [BitVec.msb_eq_getLsbD_last, BitVec.getLsbD_setWidth, decide_eq_true w.sign_lt, Bool.true_and, bit]
  rw [signed_eq_toInt, BitVec.toInt_eq_msb_cond, hmsb, BitVec.toNat_setWidth, Nat.mod_eq_of_lt (toNat_lt_of_trunc h)]

/-- The sign bit weighs `2 ^ bits` less in the signed value than in the unsigned one. -/
theorem signed_add_sign {w : Width} {v : Word} (h : trunc w v = v) :
    signed w v + (2 ^ w.bits * (bit v (w.bits - 1)).toNat : Nat) = v.toNat := by
  rw [signed_eq_ite h]
  cases bit v (w.bits - 1) with
  | true => rw [if_pos rfl, Bool.toNat_true, Nat.mul_one, Int.sub_add_cancel]
  | false => exact Int.add_zero _

theorem signed_neg_iff {w : Width} {v : Word} (h : trunc w v = v) : signed w v < 0 ↔ bit v (w.bits - 1) = true := by
  have hlt := toNat_lt_of_trunc h
  rw [signed_eq_ite h]
  cases bit v (w.bits - 1) with
  | true => rw [if_pos rfl]; exact iff_of_true (by omega) rfl
  | false => rw [if_neg Bool.false_ne_true]; exact iff_of_false (by omega) Bool.false_ne_true

namespace Machine

/-! ### A sum with a carry in -/

/-- A number below twice the modulus is its remainder and, if it reaches the modulus, the modulus once. -/
theorem mod_add_carry {m k : Nat} (h : m < 2 * k) : m % k + k * (decide (k ≤ m)).toNat = m := by
  by_cases hm : k ≤ m
  · rw [Nat.mod_eq_sub_mod hm, Nat.mod_eq_of_lt (by omega), decide_eq_true hm, Bool.toNat_true]
    omega
  · rw [Nat.mod_eq_of_lt (by omega), decide_eq_false hm]
    rfl

/-- The carry out is the majority of the sign bits and the carry into them. -/
theorem carry_bits (w : Width) (c : Bool) (d x : Word) : BitVec.carry w.bits d x c =
    Bool.atLeastTwo (d.getLsbD (w.bits - 1)) (x.getLsbD (w.bits - 1)) (BitVec.carry (w.bits - 1) d x c) := by
  rw [← BitVec.carry_succ, Nat.sub_add_cancel w.bits_pos]

section Sum

variable {w : Width} {c : Bool} {d x a : Word} (ha : a = trunc w (d + x + ofBool c))
include ha

/-- Each bit of a sum: the bits of the summands and the carry into it. -/
theorem getLsbD_sum {i : Nat} (hi : i < w.bits) : a.getLsbD i = (d.getLsbD i ^^ (x.getLsbD i ^^ BitVec.carry i d x c)) := by
  have hc : ofBool c = BitVec.setWidth 32 (BitVec.ofBool c) := by cases c <;> rfl
  rw [ha, getLsbD_trunc, hc, BitVec.getLsbD_add_add_bool (Nat.lt_of_lt_of_le hi w.bits_le), decide_eq_true hi, Bool.true_and]

/-- The low bits of a sum fall short of the sum of the low bits by the carry out of them. -/
theorem toNat_sum_mod {k : Nat} (hk : k ≤ w.bits) :
    d.toNat % 2 ^ k + x.toNat % 2 ^ k + c.toNat = a.toNat % 2 ^ k + 2 ^ k * (BitVec.carry k d x c).toNat := by
  have hmod : a.toNat % 2 ^ k = (d.toNat % 2 ^ k + x.toNat % 2 ^ k + c.toNat) % 2 ^ k := by
    have hdvd : 2 ^ k ∣ 2 ^ 32 := Nat.pow_dvd_pow 2 (Nat.le_trans hk w.bits_le)
    rw [ha, toNat_trunc_add, Nat.mod_mod_of_dvd _ (Nat.pow_dvd_pow 2 hk), BitVec.toNat_add, toNat_ofBool,
      Nat.add_mod, Nat.mod_mod_of_dvd _ hdvd, Nat.add_mod (d.toNat % 2 ^ k + x.toNat % 2 ^ k), ← Nat.add_mod d.toNat]
  have hd := Nat.mod_lt d.toNat (Nat.two_pow_pos k)
  have hx := Nat.mod_lt x.toNat (Nat.two_pow_pos k)
  have hc := c.toNat_le
  rw [hmod]
  exact (mod_add_carry (by omega)).symm

/-- The carry of a sum is the borrow of the difference that undoes it (R50). -/
theorem carry_eq_borrow {k : Nat} (hk : k ≤ w.bits) :
    BitVec.carry k d x c = decide (a.toNat % 2 ^ k < x.toNat % 2 ^ k + c.toNat) := by
  have h := toNat_sum_mod ha hk
  have hd := Nat.mod_lt d.toNat (Nat.two_pow_pos k)
  cases hb : BitVec.carry k d x c with
  | true =>
    rw [hb, Bool.toNat_true] at h
    exact (decide_eq_true (by omega)).symm
  | false =>
    rw [hb, Bool.toNat_false] at h
    exact (decide_eq_false (by omega)).symm

/-- CF of R47 is the carry out. -/
theorem cf_sum : bit (d ^^^ ((d ^^^ x) &&& (x ^^^ a))) (w.bits - 1) = BitVec.carry w.bits d x c := by
  simp only [bit, BitVec.getLsbD_xor, BitVec.getLsbD_and, getLsbD_sum ha w.sign_lt, carry_bits w]
  cases d.getLsbD (w.bits - 1) <;> cases x.getLsbD (w.bits - 1) <;> cases BitVec.carry (w.bits - 1) d x c <;> rfl

/-- AF of R47 is the carry out of the low four bits. -/
theorem af_sum : bit (a ^^^ (d ^^^ x)) 4 = BitVec.carry 4 d x c := by
  have h4 : 4 < w.bits := by cases w <;> decide
  simp only [bit, BitVec.getLsbD_xor, getLsbD_sum ha h4]
  cases d.getLsbD 4 <;> cases x.getLsbD 4 <;> cases BitVec.carry 4 d x c <;> rfl

/-- The exact sum of the signed values and the signed value of the sum differ by what the sign bits and the carry out weigh. -/
theorem signed_sum (hd : trunc w d = d) (hx : trunc w x = x) :
    signed w d + signed w x + c.toInt + (2 ^ w.bits * ((bit d (w.bits - 1)).toNat + (bit x (w.bits - 1)).toNat) : Nat) =
      signed w a + (2 ^ w.bits * ((BitVec.carry w.bits d x c).toNat + (bit a (w.bits - 1)).toNat) : Nat) := by
  have ha' : trunc w a = a := by rw [ha, trunc_trunc]
  have hsum := toNat_sum_mod ha (Nat.le_refl _)
  rw [Nat.mod_eq_of_lt (toNat_lt_of_trunc hd), Nat.mod_eq_of_lt (toNat_lt_of_trunc hx),
    Nat.mod_eq_of_lt (toNat_lt_of_trunc ha')] at hsum
  have hd := signed_add_sign hd
  have hx := signed_add_sign hx
  have ha' := signed_add_sign ha'
  have hc : c.toInt = (c.toNat : Int) := by cases c <;> rfl
  rw [Nat.mul_add, Nat.mul_add, hc]
  omega

/-- OF of R47: the exact sum of the signed values is not the signed value of the sum. -/
theorem of_sum (hd : trunc w d = d) (hx : trunc w x = x) :
    bit ((d ^^^ a) &&& (x ^^^ a)) (w.bits - 1) = decide (signed w d + signed w x + c.toInt ≠ signed w a) := by
  have hsigned : signed w d + signed w x + c.toInt = signed w a ↔
      (BitVec.carry w.bits d x c).toNat + (bit a (w.bits - 1)).toNat =
        (bit d (w.bits - 1)).toNat + (bit x (w.bits - 1)).toNat := by
    have h := signed_sum ha hd hx
    rw [← Nat.mul_left_cancel_iff (Nat.two_pow_pos w.bits)]
    omega
  rw [Bool.eq_iff_iff, decide_eq_true_iff, ne_eq, hsigned]
  simp only [bit, BitVec.getLsbD_xor, BitVec.getLsbD_and, getLsbD_sum ha w.sign_lt, carry_bits w]
  cases d.getLsbD (w.bits - 1) <;> cases x.getLsbD (w.bits - 1) <;> cases BitVec.carry (w.bits - 1) d x c <;> decide

end Sum

/-! ### What the flags mean -/

/-- The parity of R47 counts the 1 bits of the low byte. -/
theorem evenParity_eq_evenOnes (v : Word) : evenParity v = evenOnes v := by
  simp only [evenParity, evenOnes, bit, BitVec.testBit_toNat, List.range, List.range.loop, List.countP_cons, List.countP_nil]
  generalize v.getLsbD 0 = b0, v.getLsbD 1 = b1, v.getLsbD 2 = b2, v.getLsbD 3 = b3
  generalize v.getLsbD 4 = b4, v.getLsbD 5 = b5, v.getLsbD 6 = b6, v.getLsbD 7 = b7
  revert b0 b1 b2 b3 b4 b5 b6 b7
  decide

section Meaning

variable {w : Width} {c : Bool} {d x a l : Word} {t : State}

/-- PF, ZF and SF of a result of the width. -/
theorem FiveFlags.result_meaning (h : FiveFlags w d x a l t) (hl : trunc w l = l) :
    t.flag .pf = evenOnes l ∧ t.flag .zf = decide (l = 0) ∧ t.flag .sf = decide (signed w l < 0) := by
  refine ⟨h.pf.trans (evenParity_eq_evenOnes l), ?_, ?_⟩
  · rw [h.zf, hl]
  · rw [h.sf, Bool.eq_iff_iff, decide_eq_true_iff, signed_neg_iff hl]

/-- CF, AF and OF after an addition (R47). -/
theorem FlagsBy.sum_meaning (h : FlagsBy w d x a l t) (hd : trunc w d = d) (hx : trunc w x = x)
    (ha : a = trunc w (d + x + ofBool c)) :
    t.flag .cf = decide (2 ^ w.bits ≤ d.toNat + x.toNat + c.toNat) ∧
    t.flag .af = decide (16 ≤ d.toNat % 16 + x.toNat % 16 + c.toNat) ∧
    t.flag .of = decide (signed w d + signed w x + c.toInt ≠ signed w a) := by
  refine ⟨?_, h.af.trans (af_sum ha), h.of.trans (of_sum ha hd hx)⟩
  rw [h.cf, cf_sum ha, BitVec.carry, Nat.mod_eq_of_lt (toNat_lt_of_trunc hd), Nat.mod_eq_of_lt (toNat_lt_of_trunc hx)]

/-- CF, AF and OF after a subtraction, which installs the flags of the sum that undoes it (R50). -/
theorem FlagsBy.difference_meaning (h : FlagsBy w a x d l t) (hd : trunc w d = d) (hx : trunc w x = x)
    (ha : a = trunc w (d - x - ofBool c)) :
    t.flag .cf = decide (d.toNat < x.toNat + c.toNat) ∧ t.flag .af = decide (d.toNat % 16 < x.toNat % 16 + c.toNat) ∧
    t.flag .of = decide (signed w d - signed w x - c.toInt ≠ signed w a) := by
  have hd' : d = trunc w (a + x + ofBool c) := by
    rw [ha, BitVec.add_assoc, trunc_trunc_add, BitVec.add_comm x, ← BitVec.add_assoc, BitVec.sub_add_cancel,
      BitVec.sub_add_cancel, hd]
  have ha' : trunc w a = a := by rw [ha, trunc_trunc]
  have h4 : 4 ≤ w.bits := by cases w <;> decide
  refine ⟨?_, h.af.trans ((af_sum hd').trans (carry_eq_borrow hd' h4)), ?_⟩
  · rw [h.cf, cf_sum hd', carry_eq_borrow hd' (Nat.le_refl _), Nat.mod_eq_of_lt (toNat_lt_of_trunc hd),
      Nat.mod_eq_of_lt (toNat_lt_of_trunc hx)]
  · rw [h.of, of_sum hd' ha' hx, decide_eq_decide]
    omega

end Meaning

/-- Settles O3: an addition installs its carries and overflow, a subtraction those of the sum that undoes it. -/
theorem flagFormulasMeanArithmetic : Obligations.FlagFormulasMeanArithmetic := by
  unfold Obligations.FlagFormulasMeanArithmetic
  intro s w c d x hd hx
  constructor
  · intro a t
    have h := flagsBy_flagsAdd s w d x a
    obtain ⟨hcf, haf, hof⟩ := h.sum_meaning (c := c) hd hx rfl
    obtain ⟨hpf, hzf, hsf⟩ := h.toFiveFlags.result_meaning (trunc_trunc w _)
    exact ⟨hcf, hpf, haf, hof, hzf, hsf⟩
  · intro a t
    have h := flagsBy_flagsSub s w d x a
    obtain ⟨hcf, haf, hof⟩ := h.difference_meaning (c := c) hd hx rfl
    obtain ⟨hpf, hzf, hsf⟩ := h.toFiveFlags.result_meaning (trunc_trunc w _)
    exact ⟨hcf, hpf, haf, hof, hzf, hsf⟩

end Machine
end Sys2Proof
end

section
/-! What software reads of PS, the registers after reset, and the views of a general register. -/

namespace Sys2Proof.Machine

/-! ### PS as it is read (R49, R52, R53) -/

theorem getLsbD_getPS (s : State) (i : Nat) : s.getPS.getLsbD i =
    (s.flags.stored.getLsbD i && (psCached.getLsbD i || s.cfg.model.psDirect.getLsbD i) || s.cfg.model.psSet.getLsbD i) := by
  rw [State.getPS, BitVec.getLsbD_or, BitVec.getLsbD_and, BitVec.getLsbD_or]

/-- A flag's place reads as the flag's current value: no model forces it. -/
theorem bit_getPS_flag (s : State) (f : Flag) : bit s.getPS f.place = s.flag f := by
  have hc : psCached.getLsbD f.place = true := by cases f <;> decide
  have hs : s.cfg.model.psSet.getLsbD f.place = false := by cases s.cfg.model <;> cases f <;> decide
  rw [bit, getLsbD_getPS, s.flags.stored_flag, hc, hs, Bool.true_or, Bool.and_true, Bool.or_false, State.flag]

/-- Every other place reads the direct bits of the model and its forced bits. -/
theorem bit_getPS_direct (s : State) {n : Nat} (hn : n < 32)
    (hp : n ≠ 0 ∧ n ≠ 2 ∧ n ≠ 4 ∧ n ≠ 6 ∧ n ≠ 7 ∧ n ≠ 11) :
    bit s.getPS n = ((bit s.flags.ps n && bit s.cfg.model.psDirect n) || bit s.cfg.model.psSet n) := by
  have hc : ∀ n < 32, (n ≠ 0 ∧ n ≠ 2 ∧ n ≠ 4 ∧ n ≠ 6 ∧ n ≠ 7 ∧ n ≠ 11) → psCached.getLsbD n = false := by decide
  have hs : s.flags.stored.getLsbD n = s.flags.ps.getLsbD n := by
    simp only [s.flags.getLsbD_stored hn, hp, if_false]
  rw [bit, getLsbD_getPS, hc n hn hp, hs, Bool.false_or, bit, bit, bit]

/-- Settles O56: the six places of the flags and all the others. -/
theorem psReadsMaterialisedFlags : Obligations.PsReadsMaterialisedFlags := by
  unfold Obligations.PsReadsMaterialisedFlags
  intro s n hn
  split
  · exact bit_getPS_flag s .cf
  · exact bit_getPS_flag s .pf
  · exact bit_getPS_flag s .af
  · exact bit_getPS_flag s .zf
  · exact bit_getPS_flag s .sf
  · exact bit_getPS_flag s .of
  next h0 h2 h4 h6 h7 h11 => exact bit_getPS_direct s hn ⟨h0, h2, h4, h6, h7, h11⟩

/-! ### The registers after reset (R85 to R89) -/

/-- With no flag cached and none set, PS reads as the forced bits of the model. -/
theorem getPS_resetOn (p : Params) (m : Memory) : (State.resetOn p m).getPS = p.model.psSet := by
  show ((FlagEngine.reset p.model).stored &&& (psCached ||| p.model.psDirect)) ||| p.model.psSet = p.model.psSet
  cases p.model <;> decide

theorem debugReg_resetOn (p : Params) (m : Memory) (n : BitVec 3) : debugReg (State.resetOn p m) n = 0 := by
  unfold debugReg
  split <;> rfl

/-- CS, the instruction pointer and the forced bits of PS by the class of the model (R52, R86). -/
theorem resetFixed_of_has286 {k : Model} (h : k.has286 = true) : k.resetCs = 0xF000 ∧ k.resetIp = 0xFFF0 ∧ k.psSet = 0x0002 := by
  revert h; cases k <;> decide

theorem resetFixed_of_not_has286 {k : Model} (h : k.has286 = false) : k.resetCs = 0xFFFF ∧ k.resetIp = 0 ∧ k.psSet = 0xF002 := by
  revert h; cases k <;> decide

/-- Settles O54: each register by its field, CS, the instruction pointer, PS and CR0 by the model. -/
theorem resetValues : Obligations.ResetValues := by
  unfold Obligations.ResetValues
  intro p m t
  have hps : t.getPS = if p.model.has286 then 0x0002 else 0xF002 := by
    rw [getPS_resetOn]
    cases h : p.model.has286 with
    | true => exact (resetFixed_of_has286 h).2.2
    | false => exact (resetFixed_of_not_has286 h).2.2
  have hcr0 : t.cr0 = match p.model with | .i80286 => 0xFFF0 | .i80386 => 0x7FFFFFE0 | _ => 0 := by
    show p.model.cr0On = _
    cases p.model <;> rfl
  have hdata : ∀ r ∈ [t.ds, t.es, t.ss, t.fs, t.gs], r = ⟨0, 0, 0xFFFF, 0x9300, 0, 0, none⟩ := by
    simp only [List.forall_mem_cons]
    exact ⟨rfl, rfl, rfl, rfl, rfl, nofun⟩
  refine ⟨rfl, fun h => ?_, fun h => ?_, rfl, rfl, rfl, rfl, rfl, rfl, hdata, hps, hcr0, rfl, rfl, debugReg_resetOn p m,
    rfl, rfl, rfl, rfl, rfl, rfl, rfl, rfl, rfl⟩
  · obtain ⟨hcs, hip, -⟩ := resetFixed_of_has286 h
    exact ⟨hcs, hip⟩
  · obtain ⟨hcs, hip, -⟩ := resetFixed_of_not_has286 h
    exact ⟨hcs, hip⟩

/-! ### The views of a general register (R31 to R33) -/

/-- A write at a width replaces the low bits and keeps what lies above them (R32). -/
theorem toNat_merge (w : Width) (old v : Word) :
    (merge w old v).toNat = old.toNat / 2 ^ w.bits * 2 ^ w.bits + v.toNat % 2 ^ w.bits := by
  have hlow : (merge w old v).toNat % 2 ^ w.bits = v.toNat % 2 ^ w.bits := by
    rw [← toNat_trunc, ← toNat_trunc, trunc_merge]
  have hmask (y : Word) : y >>> w.bits = (y &&& ~~~w.mask) >>> w.bits := by
    have hz : (~~~w.mask) >>> w.bits = BitVec.allOnes 32 >>> w.bits := by cases w <;> decide
    rw [BitVec.ushiftRight_and_distrib, hz, ← BitVec.ushiftRight_and_distrib, BitVec.and_allOnes]
  have hhigh : (merge w old v).toNat / 2 ^ w.bits = old.toNat / 2 ^ w.bits := by
    have h : merge w old v >>> w.bits = old >>> w.bits := by rw [hmask, hmask old, merge_rest]
    rw [← Nat.shiftRight_eq_div_pow, ← Nat.shiftRight_eq_div_pow, ← BitVec.toNat_ushiftRight, h, BitVec.toNat_ushiftRight]
  rw [← hlow, ← hhigh, Nat.div_add_mod']

/-- A high byte is written by writing the word that has it above the old low byte. -/
theorem mergeByte_true_eq (old v : Word) : mergeByte true old v = merge .w16 old (merge .w8 (v <<< 8) old) := by
  have hv : (v &&& 0xFF) <<< 8 = v <<< 8 &&& 0xFF00 := BitVec.shiftLeft_and_distrib v 0xFF 8
  simp only [mergeByte, if_true, merge, Width.mask, hv, BitVec.and_or_distrib_right, BitVec.and_assoc]
  rw [BitVec.or_comm (_ &&& (~~~0xFF &&& _)), ← BitVec.or_assoc, ← BitVec.and_or_distrib_left]
  rfl

theorem toNat_mergeByte_high (old v : Word) : (mergeByte true old v).toNat =
    old.toNat / 65536 * 65536 + v.toNat % 256 * 256 + old.toNat % 256 := by
  rw [mergeByte_true_eq, toNat_merge, toNat_merge, BitVec.toNat_shiftLeft, Nat.shiftLeft_eq]
  simp only [Width.bits]
  omega

section ByteViews

variable (s : State) (v : Word) {b : Reg8} {r : Reg} (hr : home8 b = r)
include hr

theorem State.toNat_reg8_low (hb : high8 b = false) : (s.reg8 b).toNat = (s.gpr.get r).toNat % 256 := by
  subst hr
  rw [State.reg8, hb, toNat_trunc]
  rfl

theorem State.toNat_reg8_high (hb : high8 b = true) : (s.reg8 b).toNat = (s.gpr.get r).toNat / 256 % 256 := by
  subst hr
  rw [State.reg8, hb, toNat_trunc, if_pos rfl, BitVec.toNat_ushiftRight, Nat.shiftRight_eq_div_pow]
  rfl

theorem State.toNat_get_setReg8_low (hb : high8 b = false) :
    ((s.setReg8 b v).gpr.get r).toNat = (s.gpr.get r).toNat / 256 * 256 + v.toNat % 256 := by
  subst hr
  rw [State.setReg8_gpr, Gpr.get_set_same, hb]
  exact toNat_merge .w8 _ v

theorem State.toNat_get_setReg8_high (hb : high8 b = true) : ((s.setReg8 b v).gpr.get r).toNat =
    (s.gpr.get r).toNat / 65536 * 65536 + v.toNat % 256 * 256 + (s.gpr.get r).toNat % 256 := by
  subst hr
  rw [State.setReg8_gpr, Gpr.get_set_same, hb, toNat_mergeByte_high]

theorem State.get_setReg8_other {q : Reg} (hq : q ≠ r) : (s.setReg8 b v).gpr.get q = s.gpr.get q := by
  subst hr
  rw [State.setReg8_gpr, Gpr.get_set_other _ hq]

end ByteViews

/-- The low and the high byte of each of the first four registers (R33). -/
theorem home8_high8_of_pair : ∀ p ∈ [(Reg8.al, Reg8.ah, Reg.ax), (.cl, .ch, .cx), (.dl, .dh, .dx), (.bl, .bh, .bx)],
    home8 p.1 = p.2.2 ∧ home8 p.2.1 = p.2.2 ∧ high8 p.1 = false ∧ high8 p.2.1 = true := by decide

/-- The operand size is 32 bits on the 80386 only. -/
theorem State.model_of_opW {s : State} (h : s.opW = .w32) : s.cfg.model = .i80386 ∧ s.op32 = true := by
  have h32 : s.op32 = true := by
    cases e : s.op32 with
    | true => rfl
    | false =>
      rw [State.opW, e] at h
      exact absurd h (by decide)
  have h386 : s.cfg.model.has386 = true := (Bool.and_eq_true_iff.mp h32).1
  refine ⟨?_, h32⟩
  revert h386; cases s.cfg.model <;> decide

/-- Settles O55: the numbers, the operand size, the word and dword views, and the two bytes of each of the first four registers. -/
theorem registerViews : Obligations.RegisterViews := by
  unfold Obligations.RegisterViews
  intro s v r q
  refine ⟨by decide, by decide, State.model_of_opW, toNat_trunc .w16 _, trunc_of_w32 _, ?_, ?_, fun hq w => ?_, fun p hp => ?_⟩
  · rw [State.setReg_gpr, Gpr.get_set_same]
    exact toNat_merge .w16 _ v
  · rw [State.setReg_gpr, Gpr.get_set_same, merge_w32]
  · rw [State.setReg_gpr, Gpr.get_set_other _ hq]
  · obtain ⟨hlo, hhi, hl, hh⟩ := home8_high8_of_pair p hp
    exact ⟨s.toNat_reg8_low hlo hl, s.toNat_reg8_high hhi hh, s.toNat_get_setReg8_low v hlo hl,
      s.toNat_get_setReg8_high v hhi hh, fun hq => ⟨s.get_setReg8_other v hlo hq, s.get_setReg8_other v hhi hq⟩⟩

end Sys2Proof.Machine
end

section
/-! One Bus operation (20_memory.md R103, R110, R113): the bytes it moves, the trace it leaves with devices, and an access at a
linear address while paging is off. -/

namespace Sys2Proof.Machine

/-! ### Byte order (R110) -/

/-- The i-th byte of a value is its digit to the base 256. -/
theorem leBytes_eq_map (n : Nat) (v : Word) :
    leBytes n v = (List.range n).map fun i => BitVec.ofNat 8 (v.toNat / 256 ^ i % 256) := by
  induction n generalizing v with
  | zero => rfl
  | succ n ih =>
    have hhead : v.setWidth 8 = BitVec.ofNat 8 (v.toNat / 256 ^ 0 % 256) := by
      apply BitVec.eq_of_toNat_eq
      simp
    have htail (i : Nat) : (v >>> 8).toNat / 256 ^ i = v.toNat / 256 ^ (i + 1) := by
      have hpow : 256 ^ (i + 1) = 2 ^ 8 * 256 ^ i := Nat.pow_succ'
      rw [BitVec.toNat_ushiftRight, Nat.shiftRight_eq_div_pow, Nat.div_div_eq_div_mul, hpow]
    rw [leBytes, ih, List.range_succ_eq_map, List.map_cons, List.map_map, hhead]
    simp only [htail, Function.comp_def]

/-- The number in the low half and in the high half of a dword. -/
theorem toNat_ofLe_halves (v : Word) :
    (ofLe (leBytes 2 v)).toNat = v.toNat % 65536 ∧ (ofLe (leBytes 2 (v >>> 8 >>> 8))).toNat = v.toNat / 65536 := by
  have hlow (u : Word) : (ofLe (leBytes 2 u)).toNat = u.toNat % 65536 := by
    rw [ofLe_leBytes_w16]
    exact toNat_trunc .w16 u
  refine ⟨hlow v, ?_⟩
  rw [hlow, BitVec.toNat_ushiftRight, BitVec.toNat_ushiftRight, Nat.shiftRight_eq_div_pow, Nat.shiftRight_eq_div_pow]
  omega

/-! ### Consecutive addresses -/

theorem addrs_eq_map (a n : Nat) : addrs a n = (List.range n).map (a + ·) := by
  induction n generalizing a with
  | zero => rfl
  | succ n ih =>
    rw [addrs, ih, List.range_succ_eq_map, List.map_cons, List.map_map]
    simp only [Function.comp_def, Nat.add_comm 1, Nat.add_assoc, Nat.add_zero, Nat.succ_eq_add_one]

theorem among_addrs {m : Model} {a n b : Nat} :
    busAddr m b ∈ (addrs a n).map (busAddr m) ↔ ∃ i, i < n ∧ busAddr m b = busAddr m (a + i) := by
  simp [addrs_eq_map, eq_comm]

/-! ### What a write leaves (R103) -/

/-- Of bytes written to different Bus addresses each one with RAM behind it is read back, whatever stands behind the others. -/
theorem State.busByte_busWrite_ram (as : List Nat) (bs : List Byte) {s : State} (h : s.mem.wf = true)
    (hn : (as.map (busAddr s.cfg.model)).Nodup) {i : Nat} (ha : i < as.length) (hb : i < bs.length) (hr : s.busKind as[i] = .ram) :
    (s.busWrite as bs).busByte as[i] = bs[i] := by
  induction as generalizing bs s i with
  | nil => exact absurd ha (Nat.not_lt_zero i)
  | cons a as ih => cases bs with
    | nil => exact absurd hb (Nat.not_lt_zero i)
    | cons b bs =>
      rw [List.map_cons, List.nodup_cons] at hn
      have hw := State.setBusByte_wf h a b
      rw [State.busWrite]
      cases i with
      | zero =>
        have hother := State.busByte_busWrite_other as bs hw (c := a) (by simpa using hn.1)
        exact hother.trans ((State.busByte_setBusByte h a a b).trans (if_pos ⟨rfl, hr⟩))
      | succ i =>
        exact ih bs hw (by simpa using hn.2) (Nat.lt_of_succ_lt_succ ha) (Nat.lt_of_succ_lt_succ hb)
          ((State.setBusByte_busKind s a b _).trans hr)

theorem State.busByte_hole {s : State} {b : Nat} {k : Byte} (h : s.busKind b = .hole k) : s.busByte b = k := by
  simp only [State.busByte, h]

theorem nodup_addrs_four {m : Model} (a : Nat) {n : Nat} (hn : n ≤ 4) : ((addrs a n).map (busAddr m)).Nodup :=
  nodup_addrs a (Nat.le_trans (by omega : n ≤ 2 ^ 20) (Nat.pow_le_pow_right (by decide) (paBits_ge m)))

/-- A stored dword lies in memory as two words, the low one first. -/
theorem State.words_of_stored_dword {s : State} (h : s.mem.wf = true) (a : Nat) (v : Word) (hr : ∀ i, i < 4 → s.busKind (a + i) = .ram) :
    let t := s.busWrite (addrs a 4) (leBytes 4 v)
    (t.busRead (addrs a 2)).toNat = v.toNat % 65536 ∧ (t.busRead (addrs (a + 2) 2)).toNat = v.toNat / 65536 := by
  intro t
  have hram : ∀ b ∈ addrs a 4, s.busKind b = .ram := by
    intro b hb
    obtain ⟨hle, hlt⟩ := mem_addrs.mp hb
    rw [← Nat.add_sub_cancel' hle]
    exact hr _ (by omega)
  have hback := State.busRead_busWrite (addrs a 4) (leBytes 4 v) h rfl (nodup_addrs_four a (Nat.le_refl 4)) hram
  obtain ⟨hlow, hhigh⟩ : (addrs a 2).map t.busByte = leBytes 2 v ∧ (addrs (a + 2) 2).map t.busByte = leBytes 2 (v >>> 8 >>> 8) :=
    List.append_inj hback rfl
  rw [State.busRead, State.busRead, hlow, hhigh]
  exact toNat_ofLe_halves v

/-! ### One operation, and what devices see of it (R103) -/

theorem State.reachesDevice_addrs (s : State) (a n : Nat) :
    s.reachesDevice (addrs a n) = (List.range n).any fun i => decide (s.busKind (a + i) = .device) := by
  rw [State.reachesDevice, addrs_eq_map, List.any_map]
  rfl

theorem State.map_busByte_range (s : State) (a n : Nat) :
    ((List.range n).map fun i => s.busByte (a + i)) = (addrs a n).map s.busByte := by
  rw [addrs_eq_map, List.map_map]
  rfl

/-- An operation that reaches a device begins at its first byte. -/
theorem headD_addrs {a n : Nat} (hn : n ≠ 0) : (addrs a n).headD 0 = a := by
  obtain ⟨n, rfl⟩ := Nat.exists_eq_succ_of_ne_zero hn
  rfl

theorem State.readEvents_one (s : State) (a n : Nat) : s.readEvents [addrs a n] =
    if s.reachesDevice (addrs a n) then [.read (busAddr s.cfg.model a) ((addrs a n).map s.busByte)] else [] := by
  cases n with
  | zero => rfl
  | succ n =>
    rw [State.readEvents, List.filter_cons, List.filter_nil]
    cases s.reachesDevice (addrs a (n + 1)) <;> rfl

theorem State.writeEvents_one (s : State) (a n : Nat) {bs : List Byte} (hl : bs.length = n) : s.writeEvents [addrs a n] bs =
    if s.reachesDevice (addrs a n) then [.write (busAddr s.cfg.model a) bs] else [] := by
  cases n with
  | zero => rfl
  | succ n =>
    rw [State.writeEvents, State.writeEvents, List.append_nil, length_addrs, ← hl, List.take_length, headD_addrs (by omega)]

/-- A store of one operation: memory takes the bytes, and the devices see it if it reaches one. -/
theorem State.busStore_one (s : State) (a n : Nat) {bs : List Byte} (hl : bs.length = n) :
    s.busStore [addrs a n] bs = { s with
      mem := (s.busStore [addrs a n] bs).mem
      busLog := if s.reachesDevice (addrs a n) then .write (busAddr s.cfg.model a) bs :: s.busLog else s.busLog } := by
  rw [State.busStore, State.writeEvents_one s a n hl, State.busWrite_eq]
  cases s.reachesDevice (addrs a n) <;> rfl

theorem busFetch_run (ops : BusOps) (s : State) :
    busFetch ops s = .ok (ops.flatten.map s.busByte) (s.logBus (s.readEvents ops)) := rfl

/-- A fetch of one operation: memory gives the bytes, and the devices see it if it reaches one. -/
theorem busFetch_one (s : State) (a n : Nat) : busFetch [addrs a n] s = .ok ((addrs a n).map s.busByte) { s with
    busLog := if s.reachesDevice (addrs a n) then .read (busAddr s.cfg.model a) ((addrs a n).map s.busByte) :: s.busLog
      else s.busLog } := by
  rw [busFetch_run, List.flatten_singleton, State.readEvents_one]
  cases s.reachesDevice (addrs a n) <;> rfl

/-! ### An access at a linear address while paging is off (R104) -/

/-- Four bytes on the models without `HAS_386` are two words, any other access of one, two or four bytes is one operation (R113). -/
theorem busOps_addrs (m : Model) (a : Nat) {n : Nat} (hn : n ∈ [1, 2, 4]) :
    busOps m (addrs a n) = if n = 4 ∧ m.has386 = false then [addrs a 2, addrs (a + 2) 2] else [addrs a n] := by
  simp only [List.mem_cons, List.not_mem_nil, or_false] at hn
  rcases hn with rfl | rfl | rfl
  · rfl
  · rfl
  · cases h : m.has386 <;> simp [busOps, addrs, h]

theorem memRead_flat {s : State} (h : s.pagingOn = false) (la : Word) (n : Nat) (user : Bool) :
    memRead la n user s = .ok (s.busRead (addrs la.toNat n)) (s.logBus (s.readEvents (busOps s.cfg.model (addrs la.toNat n)))) := by
  rw [memRead, run_bind_ok (physOf_flat h la n false user), run_bind_ok (busFetch_run _ s), flatten_busOps]
  rfl

theorem memWrite_flat {s : State} (h : s.pagingOn = false) (la : Word) (n : Nat) (v : Word) (user : Bool) :
    memWrite la n v user s = .ok () (s.busStore (busOps s.cfg.model (addrs la.toNat n)) (leBytes n v)) := by
  rw [memWrite, run_bind_ok (physOf_flat h la n true user), run_modify]

/-- Settles O57: bytes are read back one by one, one operation is seen by the devices it reaches, and an access is made of such
operations. -/
theorem storesAreLittleEndian : Obligations.StoresAreLittleEndian := by
  unfold Obligations.StoresAreLittleEndian
  intro s a n v hwf hn t ram byte seen at_ ops
  have hlen : (leBytes n v).length = n := length_leBytes v n
  have hstore : t = { s with mem := t.mem, busLog := seen (.write at_ ((List.range n).map byte)) } := by
    rw [show (List.range n).map byte = leBytes n v from (leBytes_eq_map n v).symm]
    have h := s.busStore_one a n hlen
    rwa [State.reachesDevice_addrs] at h
  have hbytes (b : Nat) : t.busByte b = (s.busWrite (addrs a n) (leBytes n v)).busByte b := by
    show (s.busStore [addrs a n] (leBytes n v)).busByte b = _
    rw [State.busStore, State.logBus_busByte, List.flatten_singleton]
  refine ⟨State.busStore_wf _ _ hwf, fun i hi hr => ?_, fun b hb => ?_, fun b k => State.busByte_hole, fun h4 hr => ?_, hstore, ?_,
    fun hp ha hmem user => ?_⟩
  · have h := State.busByte_busWrite_ram (addrs a n) (leBytes n v) hwf (nodup_addrs_four a hn) (i := i)
      (by rwa [length_addrs]) (by rwa [hlen])
    simp only [addrs_eq_map, leBytes_eq_map, List.getElem_map, List.getElem_range] at h hbytes
    exact (hbytes _).trans (h hr)
  · rw [hbytes]
    rcases hb with hb | hb
    · exact State.busByte_busWrite_kept _ _ hwf hb
    · refine State.busByte_busWrite_other _ _ hwf fun hmem => ?_
      obtain ⟨i, hi, heq⟩ := among_addrs.mp hmem
      exact hb i hi heq
  · subst h4
    have h := State.words_of_stored_dword hwf a v hr
    simp only [State.busRead, funext hbytes]
    exact h
  · rw [s.map_busByte_range a n]
    have h := busFetch_one s a n
    rwa [State.reachesDevice_addrs] at h
  · have hla : (BitVec.ofNat 32 a).toNat = a := Nat.mod_eq_of_lt ha
    have hops : busOps s.cfg.model (addrs a n) = ops := busOps_addrs s.cfg.model a hmem
    rw [memRead_flat hp, memWrite_flat hp, hla, hops]
    exact ⟨rfl, rfl⟩

end Sys2Proof.Machine
end

section
/-! The I/O privilege check while paging is off (20_memory.md R107, 47_task_and_mode.md R616), and IN and OUT (40_data_movement.md
R345, R346). -/

namespace Sys2Proof.Machine

/-! ### Operations that only read memory -/

/-- Nothing changed but the record of device accesses, and that only if there is a device behind the Bus. -/
def ReadsOnly (s t : State) : Prop := ∃ l, t = { s with busLog := l } ∧ ((∀ a, s.busKind a ≠ .device) → l = s.busLog)

theorem ReadsOnly.refl (s : State) : ReadsOnly s s := ⟨s.busLog, rfl, fun _ => rfl⟩

theorem ReadsOnly.trans {s t u : State} (h : ReadsOnly s t) (k : ReadsOnly t u) : ReadsOnly s u := by
  obtain ⟨l, rfl, hl⟩ := h
  obtain ⟨m, rfl, hm⟩ := k
  exact ⟨m, rfl, fun hd => (hm hd).trans (hl hd)⟩

theorem readsOnly_logBus (s : State) (ops : BusOps) : ReadsOnly s (s.logBus (s.readEvents ops)) :=
  ⟨_, rfl, fun hd => by rw [State.readEvents_quiet fun a _ => hd a]; rfl⟩

/-- The operation reads memory and decides: where c holds it goes on, where not it asks for GP(0). -/
def Decides (c : Prop) (m : M Unit) (s : State) : Prop :=
  ∃ u, ReadsOnly s u ∧ (c → m s = .ok () u) ∧ (¬ c → m s = .error (.exn (.gp 0)) u.setNoReadWrite)

theorem decides_pure {c : Prop} (h : c) (s : State) : Decides c (pure ()) s :=
  ⟨s, .refl s, fun _ => rfl, fun hc => absurd h hc⟩

theorem decides_raise {c : Prop} (h : ¬ c) (s : State) : Decides c (raise (.gp 0)) s :=
  ⟨s, .refl s, fun hc => absurd hc h, fun _ => rfl⟩

theorem decides_ensure {c : Prop} {b : Bool} (h : b = true ↔ c) (s : State) : Decides c (ensure b (.gp 0)) s := by
  cases b with
  | true => exact decides_pure (h.mp rfl) s
  | false => exact decides_raise (fun hc => Bool.false_ne_true (h.mpr hc)) s

/-- A decision by a field of the state. -/
theorem decides_read {α : Type} {c : Prop} {g : State → α} {f : α → M Unit} {s : State} (h : Decides c (f (g s)) s) :
    Decides c (Machine.read g >>= f) s := h

/-- Two decisions in sequence. -/
theorem decides_and {c d : Prop} {m n : M Unit} {s : State} (hm : Decides c m s) (hn : ∀ u, ReadsOnly s u → Decides d n u) :
    Decides (c ∧ d) (m >>= fun _ => n) s := by
  obtain ⟨u, hu, hyes, hno⟩ := hm
  obtain ⟨v, hv, kyes, kno⟩ := hn u hu
  by_cases hc : c
  · refine ⟨v, hu.trans hv, fun h => ?_, fun h => ?_⟩ <;> rw [run_bind_ok (hyes hc)]
    · exact kyes h.2
    · exact kno fun hd => h ⟨hc, hd⟩
  · exact ⟨u, hu, fun h => absurd h.1 hc, fun _ => run_bind_error (hno hc) _⟩

theorem sysRead_flat {s : State} (h : s.pagingOn = false) (la : Word) (n : Nat) :
    sysRead la n s = .ok (s.busRead (addrs la.toNat n)) (s.logBus (s.readEvents (busOps s.cfg.model (addrs la.toNat n)))) :=
  memRead_flat h la n false

/-- A decision by a value read from memory. -/
theorem decides_sysRead {c : Prop} {la : Word} {n : Nat} {f : Word → M Unit} {s : State} (hp : s.pagingOn = false)
    (h : ∀ u, ReadsOnly s u → Decides c (f (s.busRead (addrs la.toNat n))) u) : Decides c (sysRead la n >>= f) s := by
  have hlook := readsOnly_logBus s (busOps s.cfg.model (addrs la.toNat n))
  obtain ⟨u, hu, hyes, hno⟩ := h _ hlook
  refine ⟨u, hlook.trans hu, fun hc => ?_, fun hc => ?_⟩ <;> rw [run_bind_ok (sysRead_flat hp la n)]
  · exact hyes hc
  · exact hno hc

/-! ### The privilege check -/

/-- One port's bit lies within the TSS and is clear (R616). -/
def portClear (s : State) (map p : Nat) : Prop :=
  map + p / 8 ≤ s.tr.limit.toNat ∧ bit (s.busRead (addrs (s.tr.base + BitVec.ofNat 32 (map + p / 8)).toNat 1)) (p % 8) = false

theorem ReadsOnly.portClear_eq {s u : State} (h : ReadsOnly s u) : portClear u = portClear s := by
  obtain ⟨l, rfl, -⟩ := h
  rfl

theorem ReadsOnly.busRead_eq {s u : State} (h : ReadsOnly s u) : u.busRead = s.busRead := by
  obtain ⟨l, rfl, -⟩ := h
  rfl

theorem ReadsOnly.pagingOn_eq {s u : State} (h : ReadsOnly s u) : u.pagingOn = s.pagingOn := by
  obtain ⟨l, rfl, -⟩ := h
  rfl

/-- The check of the bitmap decides by the bits of all its ports. -/
theorem decides_bitmapAllows (map n : Nat) {p : Nat} {s : State} (hp : s.pagingOn = false) :
    Decides (∀ i, i < n → portClear s map (p + i)) (bitmapAllows map p n) s := by
  induction n generalizing p s with
  | zero => exact decides_pure (fun i hi => absurd hi (Nat.not_lt_zero i)) s
  | succ n ih =>
    have hsplit : (∀ i, i < n + 1 → portClear s map (p + i)) ↔ portClear s map p ∧ ∀ i, i < n → portClear s map (p + 1 + i) :=
      Nat.forall_lt_succ_left.trans (and_congr_right' (forall₂_congr fun i _ => by rw [Nat.add_assoc p, Nat.add_comm 1]))
    rw [hsplit, portClear, and_assoc, bitmapAllows]
    refine decides_read (decides_and (decides_ensure decide_eq_true_iff s) fun u hu => ?_)
    rw [← hu.busRead_eq]
    refine decides_sysRead (hu.pagingOn_eq.trans hp) fun v hv => decides_and (decides_ensure (Bool.not_eq_true' _).to_iff v) fun x hx => ?_
    have hsx := hu.trans (hv.trans hx)
    rw [← hsx.portClear_eq]
    exact ih (hsx.pagingOn_eq.trans hp)

/-- Real mode, or a CPL that IOPL admits. -/
theorem ioCheck_privileged {s : State} (h : s.protectedMode = false ∨ s.cpl ≤ s.iopl) (p : Half) (n : Nat) :
    ioCheck p n s = .ok () s := by
  have hc : (s.protectedMode && decide (s.iopl < s.cpl)) = false := by
    rcases h with h | h
    · rw [h, Bool.false_and]
    · rw [decide_eq_false (BitVec.not_lt.mpr h), Bool.and_false]
  rw [ioCheck, run_get_bind, hc]
  rfl

/-- The check decides as R107 says. -/
theorem decides_ioCheck {s : State} (hp : s.pagingOn = false) (p : Half) (n : Nat) : Decides (ioAllowed s p n) (ioCheck p n) s := by
  by_cases hpriv : s.protectedMode = false ∨ s.cpl ≤ s.iopl
  · exact ⟨s, .refl s, fun _ => ioCheck_privileged hpriv p n, fun h => absurd (or_assoc.mp (.inl hpriv)) h⟩
  obtain ⟨hprot, hcpl⟩ := not_or.mp hpriv
  have hrun : ioCheck p n s = (if s.cfg.model.has386 && s.tr.kind == .tss386 then do
      let mb ← sysRead (s.tr.base + 0x66) 2
      bitmapAllows mb.toNat p.toNat n
    else raise (.gp 0)) s := by
    rw [ioCheck, run_get_bind, eq_true_of_ne_false hprot, decide_eq_true (BitVec.not_le.mp hcpl)]
    rfl
  have hiff : ioAllowed s p n ↔ (s.cfg.model.has386 = true ∧ s.tr.kind = .tss386) ∧ bitmapClear s p n := by
    simp only [ioAllowed, or_iff_right hprot, or_iff_right hcpl, hp, true_and, and_assoc]
  unfold Decides
  rw [hrun, hiff]
  by_cases htss : s.cfg.model.has386 = true ∧ s.tr.kind = .tss386
  · rw [if_pos (by simpa using htss)]
    simp only [htss, true_and]
    refine decides_sysRead hp fun u hu => ?_
    have hbits := decides_bitmapAllows (s.busRead (addrs (s.tr.base + 0x66).toNat 2)).toNat n (p := p.toNat) (hu.pagingOn_eq.trans hp)
    rwa [hu.portClear_eq] at hbits
  · rw [if_neg (by simpa using htss)]
    exact decides_raise (fun h => htss h.1) s

/-- Where the ports may be used the check goes on, with paging on too (R107). -/
theorem ioCheck_allowed {s : State} {p : Half} {n : Nat} (h : ioAllowed s p n) : ∃ u, ReadsOnly s u ∧ ioCheck p n s = .ok () u := by
  rcases or_assoc.mpr h with hpriv | ⟨-, -, hp, -⟩
  · exact ⟨s, .refl s, ioCheck_privileged hpriv p n⟩
  · obtain ⟨u, hu, hyes, -⟩ := decides_ioCheck hp p n
    exact ⟨u, hu, hyes h⟩

theorem ioCheck_refused {s : State} {p : Half} {n : Nat} (hp : s.pagingOn = false) (h : ¬ ioAllowed s p n) :
    ∃ u, ReadsOnly s u ∧ ioCheck p n s = .error (.exn (.gp 0)) u.setNoReadWrite := by
  obtain ⟨u, hu, -, hno⟩ := decides_ioCheck hp p n
  exact ⟨u, hu, hno h⟩

/-- A refused instruction has changed nothing but the record of device accesses. -/
theorem traps_of_ioCheck {s : State} {p : Half} {n : Nat} {i : Instr} {m : M Unit}
    (hi : exec i s = finish (ioCheck p n >>= fun _ => m) s) (hp : s.pagingOn = false) (h : ¬ ioAllowed s p n) :
    Traps s (.gp 0) i := by
  obtain ⟨u, ⟨l, rfl, -⟩, hrun⟩ := ioCheck_refused hp h
  exact ⟨_, hi.trans (finish_exn (run_bind_error hrun _)), rfl, rfl, rfl, rfl, rfl,
    ⟨rfl, rfl, rfl, rfl, rfl, rfl, rfl, rfl, rfl, rfl, rfl, rfl, rfl, rfl, rfl, rfl, rfl, rfl, rfl, rfl⟩,
    ⟨rfl, rfl, rfl, rfl, rfl, rfl, rfl⟩, rfl, rfl⟩

/-! ### The port space (R106) -/

/-- A port read answers with a value of the width, the first listed answer if one is listed; it changes the oracle and the
record. -/
theorem ioRead_run (p : Half) (w : Width) (s : State) : ∃ v xs c,
    ioRead p w s = .ok v { s with portAnswers := xs, oracleCount := c, portLog := .read p w.bytes v :: s.portLog } ∧
    trunc w v = v ∧ ∀ x r, s.portAnswers = x :: r → v = trunc w x ∧ xs = r := by
  cases h : s.portAnswers with
  | nil =>
    refine ⟨trunc w (Config.portAnswer s.oracleCount p w.bytes), s.portAnswers, s.oracleCount + 1, ?_, trunc_trunc w _, nofun⟩
    simp only [ioRead, run_get_bind, State.portAnswer, h]
    rfl
  | cons x r =>
    refine ⟨trunc w x, r, s.oracleCount, ?_, trunc_trunc w x, fun y q hy => ?_⟩
    · simp only [ioRead, run_get_bind, State.portAnswer, h]
      rfl
    · obtain ⟨rfl, rfl⟩ := List.cons.inj hy
      exact ⟨rfl, rfl⟩

theorem ioWrite_run (p : Half) (w : Width) (v : Word) (s : State) :
    ioWrite p w v s = .ok () (s.logPort (.write p w.bytes (trunc w v))) := rfl

/-- A change of the general registers, the oracle and the two records is no other change. -/
theorem onlyPorts_of_eq {s t : State} {g : Gpr} {xs : List Word} {c : Nat} {es : List PortEvent} {l : List BusEvent}
    (h : t = { s with gpr := g, portAnswers := xs, oracleCount := c, portLog := es, busLog := l })
    (hl : (∀ a, s.busKind a ≠ .device) → l = s.busLog) : SameMemory s t ∧ OnlyPorts s t := by
  subst h
  exact ⟨fun _ => rfl, ⟨fun _ => rfl, rfl⟩, rfl,
    ⟨rfl, rfl, rfl, rfl, rfl, rfl, rfl, rfl, rfl, rfl, rfl, rfl, rfl, rfl, rfl, rfl, rfl, rfl, rfl, rfl⟩,
    ⟨rfl, rfl, rfl, rfl, rfl, rfl, rfl⟩, rfl, rfl, rfl, hl⟩

/-! ### IN and OUT (R345, R346) -/

/-- A register operand of its width. -/
def RegisterOf (w : Width) : Loc → Prop
  | .byteReg _ => w = .w8
  | .reg _ => True
  | .mem _ _ => False

theorem RegisterOf.trunc_valueAt {w : Width} {l : Loc} (h : RegisterOf w l) (s : State) : trunc w (s.valueAt w l) = s.valueAt w l := by
  cases l with
  | byteReg r => subst h; exact trunc_trunc .w8 _
  | reg r => exact trunc_trunc w _
  | mem seg off => exact h.elim

theorem RegisterOf.valueAt_putAt {w : Width} {l : Loc} (h : RegisterOf w l) {v : Word} (hv : trunc w v = v) (s : State) :
    (s.putAt w l v).valueAt w l = v := by
  cases l with
  | byteReg r => subst h; exact (s.reg8_setReg8_same r v).trans hv
  | reg r => exact (s.reg_setReg_same w r v).trans hv
  | mem seg off => exact h.elim

theorem RegisterOf.readLoc {w : Width} {l : Loc} (h : RegisterOf w l) (s : State) : readLoc w l s = .ok (s.valueAt w l) s := by
  cases l with
  | byteReg r => rfl
  | reg r => rfl
  | mem seg off => exact h.elim

theorem RegisterOf.writeLoc {w : Width} {l : Loc} (h : RegisterOf w l) (v : Word) (s : State) :
    writeLoc w l v s = .ok () (s.putAt w l v) := by
  cases l with
  | byteReg r => rfl
  | reg r => rfl
  | mem seg off => exact h.elim

theorem inForm_of_input {s : State} {w : Width} {p : Half} {l : Loc} {i : Instr} (hl : RegisterOf w l)
    (hi : exec i s = finish (input w p l) s) : InForm s w p l i := by
  refine ⟨fun h => ?_, traps_of_ioCheck hi⟩
  obtain ⟨u, ⟨log, rfl, hlog⟩, hcheck⟩ := ioCheck_allowed h
  obtain ⟨v, xs, c, hread, hv, hlisted⟩ := ioRead_run p w { s with busLog := log }
  refine ⟨_, hi.trans (finish_ok ((run_bind_ok hcheck _).trans ((run_bind_ok hread _).trans (hl.writeLoc v _)))), ?_⟩
  simp only [hl.valueAt_putAt hv]
  cases l with
  | byteReg r => exact ⟨rfl, ⟨rfl, hlisted⟩, onlyPorts_of_eq rfl hlog⟩
  | reg r => exact ⟨rfl, ⟨rfl, hlisted⟩, onlyPorts_of_eq rfl hlog⟩
  | mem seg off => exact hl.elim

theorem outForm_of_output {s : State} {w : Width} {p : Half} {l : Loc} {i : Instr} (hl : RegisterOf w l)
    (hi : exec i s = finish (output w p l) s) : OutForm s w p (s.valueAt w l) i := by
  refine ⟨fun h => ?_, traps_of_ioCheck hi⟩
  obtain ⟨u, ⟨log, rfl, hlog⟩, hcheck⟩ := ioCheck_allowed h
  have hread := hl.readLoc { s with busLog := log }
  have hwrite := ioWrite_run p w (s.valueAt w l) { s with busLog := log }
  refine ⟨_, hi.trans (finish_ok ((run_bind_ok hcheck _).trans ((run_bind_ok hread _).trans hwrite))), ?_⟩
  simp only [hl.trunc_valueAt]
  obtain ⟨hmem, honly⟩ := onlyPorts_of_eq (s := s) rfl hlog
  exact ⟨⟨rfl, hmem⟩, rfl, honly⟩

theorem State.dxPort_eq (s : State) : s.dxPort = (s.gpr.get .dx).setWidth 16 := by
  apply BitVec.eq_of_toNat_eq
  rw [State.dxPort, State.reg, BitVec.toNat_setWidth, BitVec.toNat_setWidth, toNat_trunc]
  exact Nat.mod_mod _ _

/-- Settles O20: four forms of IN and four of OUT, the port an immediate byte or DX. -/
theorem portAccessesComplete : Obligations.PortAccessesComplete := by
  unfold Obligations.PortAccessesComplete
  intro s ib dx p
  have hdx : s.dxPort = dx := s.dxPort_eq
  refine ⟨inForm_of_input rfl rfl, inForm_of_input trivial rfl, inForm_of_input rfl ?_, inForm_of_input trivial ?_,
    outForm_of_output (l := .byteReg .al) rfl rfl, outForm_of_output (l := .reg .ax) trivial rfl,
    outForm_of_output (l := .byteReg .al) rfl ?_, outForm_of_output (l := .reg .ax) trivial ?_⟩ <;> rw [← hdx] <;> rfl

end Sys2Proof.Machine
end

section
/-! Accesses through the page tables (22_paging.md R200 to R208, 20_memory.md R104): the state that a sequence of walks leaves, one
walk, the walks of an access within or across a page, and MOV between a register and memory while paging is on. -/

namespace Sys2Proof.Machine

/-! ### The running state and the state the walks describe -/

/-- `u` is `s` with other memory, and `v` is `u` but for the noted operand addresses (R64) and the record of device accesses, the
latter as in `s` if no device stands behind the Bus. -/
def Accessing (s u v : State) : Prop :=
  ∃ m e w l, u = { s with mem := m } ∧ v = { s with mem := m, regEA := e, regEAWrite := w, busLog := l } ∧
    ((∀ a, s.busKind a ≠ .device) → l = s.busLog)

section
variable {s u v : State}

theorem Accessing.refl (s : State) : Accessing s s s := ⟨s.mem, s.regEA, s.regEAWrite, s.busLog, rfl, rfl, fun _ => rfl⟩

theorem Accessing.captureEA (h : Accessing s u v) (l : Loc) : Accessing s u (v.captureEA l) := by
  obtain ⟨m, e, w, b, rfl, rfl, hb⟩ := h
  exact ⟨m, _, w, b, rfl, rfl, hb⟩

theorem Accessing.captureWrite (h : Accessing s u v) (l : Loc) : Accessing s u (v.captureWrite l) := by
  obtain ⟨m, e, w, b, rfl, rfl, hb⟩ := h
  exact ⟨m, e, _, b, rfl, rfl, hb⟩

/-! What the three states share. -/

theorem Accessing.busKind_eq (h : Accessing s u v) : v.busKind = s.busKind := by
  obtain ⟨m, e, w, b, rfl, rfl, -⟩ := h
  rfl

theorem Accessing.busByte_eq (h : Accessing s u v) : v.busByte = u.busByte := by
  obtain ⟨m, e, w, b, rfl, rfl, -⟩ := h
  rfl

theorem Accessing.user_eq (h : Accessing s u v) : u.user = s.user := by
  obtain ⟨m, e, w, b, rfl, rfl, -⟩ := h
  rfl

theorem Accessing.pagingOn_eq (h : Accessing s u v) : v.pagingOn = s.pagingOn := by
  obtain ⟨m, e, w, b, rfl, rfl, -⟩ := h
  rfl

theorem Accessing.view_eq (h : Accessing s u v) (q : SReg) : v.view q = s.view q := by
  obtain ⟨m, e, w, b, rfl, rfl, -⟩ := h
  rfl

theorem Accessing.gprWith_eq (h : Accessing s u v) (w : Width) (l : Loc) (x : Word) : v.gprWith w l x = s.gprWith w l x := by
  obtain ⟨m, e, w, b, rfl, rfl, -⟩ := h
  rfl

theorem Accessing.gpr_eq (h : Accessing s u v) : v.gpr = s.gpr := by
  obtain ⟨m, e, w, b, rfl, rfl, -⟩ := h
  rfl

theorem Accessing.busWrite (as : List Nat) (bs : List Byte) (h : Accessing s u v) :
    Accessing s (u.busWrite as bs) (v.busWrite as bs) := by
  induction as generalizing u v bs with
  | nil => exact h
  | cons a as ih =>
    cases bs with
    | nil => exact h
    | cons b bs =>
      refine ih bs ?_
      obtain ⟨m, e, w, l, rfl, rfl, hl⟩ := h
      rw [State.setBusByte_eq, State.setBusByte_eq]
      exact ⟨_, e, w, l, rfl, rfl, hl⟩

theorem Accessing.logBus {es : List BusEvent} (h : Accessing s u v) (hq : (∀ a, s.busKind a ≠ .device) → es = []) :
    Accessing s u (v.logBus es) := by
  obtain ⟨m, e, w, l, rfl, rfl, hl⟩ := h
  refine ⟨m, e, w, _, rfl, rfl, fun hd => ?_⟩
  rw [hq hd, hl hd]
  rfl

theorem Accessing.fetch (h : Accessing s u v) (ops : BusOps) :
    ∃ t, busFetch ops v = .ok (ops.flatten.map u.busByte) t ∧ Accessing s u t := by
  refine ⟨v.logBus (v.readEvents ops), ?_, h.logBus fun hd => State.readEvents_quiet fun a _ => ?_⟩
  · rw [busFetch_run, h.busByte_eq]
  · rw [h.busKind_eq]; exact hd a

theorem Accessing.busStore (h : Accessing s u v) (ops : BusOps) (bs : List Byte) :
    Accessing s (u.busWrite ops.flatten bs) (v.busStore ops bs) :=
  (h.busWrite ops.flatten bs).logBus fun hd => State.writeEvents_quiet fun a _ => by rw [h.busKind_eq]; exact hd a

/-! ### Stores one after the other -/

theorem written_append (ws xs : List (List Nat × Word)) : written s (ws ++ xs) = written (written s ws) xs := by
  induction ws generalizing s with
  | nil => rfl
  | cons p ws ih => exact ih

/-- Stores leave every byte alone that is none of theirs. -/
theorem sameMemoryBut_written (ws : List (List Nat × Word)) (h : s.mem.wf = true) :
    SameMemoryBut s (written s ws) fun a => ∃ p, p ∈ ws ∧ s.among p.1 a := by
  intro a ha
  induction ws generalizing s with
  | nil => rfl
  | cons p ws ih =>
    have hhead : ¬ s.among p.1 a := fun hp => ha ⟨p, List.mem_cons_self, hp⟩
    have htail : ¬ ∃ x, x ∈ ws ∧ (s.busWrite p.1 (leBytes p.1.length p.2)).among x.1 a := by
      rintro ⟨x, hx, hax⟩
      rw [State.among, State.busWrite_cfg] at hax
      exact ha ⟨x, List.mem_cons_of_mem p hx, hax⟩
    rw [written, ih (State.busWrite_wf _ _ h) htail, State.busByte_busWrite_other _ _ h hhead]

theorem stored_of_sameMemory {ws : List (List Nat × Word)} {t : State} (h : s.mem.wf = true) (ht : SameMemory (written s ws) t) :
    Stored ws s t :=
  ⟨ht, fun a ha => (ht a).trans (sameMemoryBut_written ws h a ha)⟩

/-- A mark that is set where it changes anything. -/
theorem Accessing.mark (h : Accessing s u v) (c : Prop) [Decidable c] (a : Nat) (x : Word) :
    Accessing s (written u (if c then [] else [(addrs a 4, x)])) (if c then v else v.busStore [addrs a 4] (leBytes 4 x)) := by
  by_cases hc : c
  · rwa [if_pos hc, if_pos hc]
  · rw [if_neg hc, if_neg hc]
    exact h.busStore [addrs a 4] (leBytes 4 x)

/-! ### One walk (R203, R204) -/

theorem State.user_iff : u.user = true ↔ u.cpl = 3 := beq_iff_eq

/-- The code of R204, with P clear where the walk stops at an absent entry. -/
theorem pageCode_eq (u : State) (la : Word) (wr : Bool) : pageCode u la wr =
    (if (bit (pdeOf u la) 0 && bit (pteOf u la) 0) then 1 else 0) ||| (if wr then 2 else 0) ||| (if u.user then 4 else 0) := by
  have hbits : ∀ p w k : Bool, BitVec.ofNat 16 ((if p then 1 else 0) + (if w then 2 else 0) + (if k then 4 else 0)) =
      (if p then 1 else 0) ||| (if w then 2 else 0) ||| (if k then 4 else 0) := by decide
  simp only [pageCode, ← State.user_iff, hbits]

/-- Both levels permit the access exactly where neither test of R203 refuses it. -/
theorem permitted_iff {la : Word} {wr : Bool} : permitted u la wr ↔
    (u.user && (!bit (pdeOf u la) 2 || !bit (pteOf u la) 2)) = false ∧
      (u.user && wr && (!bit (pdeOf u la) 1 || !bit (pteOf u la) 1)) = false := by
  rw [permitted, ← State.user_iff]
  cases u.user <;> cases wr <;> simp [and_assoc]

/-- The place of the directory entry, as `translate` writes it. -/
theorem Accessing.pdeAt_eq (h : Accessing s u v) (la : Word) : addrs (v.pdeAddr la).toNat 4 = pdeAt u la := by
  obtain ⟨m, e, w, b, rfl, rfl, -⟩ := h
  rfl

theorem pteAt_eq (u : State) (la : Word) : addrs (pteAddr (pdeOf u la) la).toNat 4 = pteAt u la := rfl

/-- Both entries are read; only the record of device accesses changes. -/
theorem Accessing.fetchEntries (h : Accessing s u v) (la : Word) : ∃ bs v₁ cs v₂,
    (busFetch [pdeAt u la] v = .ok bs v₁ ∧ ofLe bs = pdeOf u la ∧ Accessing s u v₁) ∧
    (busFetch [pteAt u la] v₁ = .ok cs v₂ ∧ ofLe cs = pteOf u la ∧ Accessing s u v₂) := by
  obtain ⟨v₁, hfetch₁, h₁⟩ := h.fetch [pdeAt u la]
  obtain ⟨v₂, hfetch₂, h₂⟩ := h₁.fetch [pteAt u la]
  rw [List.flatten_singleton] at hfetch₁ hfetch₂
  exact ⟨_, v₁, _, v₂, ⟨hfetch₁, rfl, h₁⟩, hfetch₂, rfl, h₂⟩

/-- A walk that finds an entry absent or not permitting the access changes nothing. -/
theorem Accessing.translate_fault {la : Word} {wr : Bool} (h : Accessing s u v) (hn : ¬ (mapped u la ∧ permitted u la wr)) :
    ∃ t, Accessing s u t ∧
      translate la wr s.user v = .error (.exn (.pg (pageCode u la wr))) ((t.setCr2 la).setNoReadWrite) := by
  obtain ⟨bs, v₁, cs, v₂, ⟨hfetch₁, hbs, h₁⟩, hfetch₂, hcs, h₂⟩ := h.fetchEntries la
  rw [pageCode_eq, h.user_eq]
  simp only [translate, run_get_bind, h.pdeAt_eq, run_bind_ok hfetch₁, hbs, pteAt_eq]
  cases hpde : bit (pdeOf u la) 0 with
  | false => exact ⟨v₁, h₁, rfl⟩
  | true =>
    refine ⟨v₂, h₂, (run_bind_ok hfetch₂ _).trans ?_⟩
    simp only [hcs]
    cases hpte : bit (pteOf u la) 0 with
    | false => rfl
    | true =>
      rw [permitted_iff, h.user_eq] at hn
      cases huser : s.user && (!bit (pdeOf u la) 2 || !bit (pteOf u la) 2) with
      | true => rfl
      | false =>
        cases hwrite : s.user && wr && (!bit (pdeOf u la) 1 || !bit (pteOf u la) 1) with
        | true => rfl
        | false => exact absurd ⟨⟨hpde, hpte⟩, huser, hwrite⟩ hn

/-- A walk through two present entries that permit the access gives the physical address and leaves its marks. -/
theorem Accessing.translate_ok {la : Word} {wr : Bool} (h : Accessing s u v) (hm : mapped u la) (hp : permitted u la wr) :
    ∃ pa t, translate la wr s.user v = .ok pa t ∧ pa.toNat = physical u la ∧
      Accessing s (written u (walkStores u la wr)) t := by
  obtain ⟨hpde, hpte⟩ := hm
  obtain ⟨huser, hwrite⟩ := permitted_iff.mp hp
  rw [h.user_eq] at huser hwrite
  obtain ⟨bs, v₁, cs, v₂, ⟨hfetch₁, hbs, h₁⟩, hfetch₂, hcs, h₂⟩ := h.fetchEntries la
  have hmarks := (h₂.mark (bit (pdeOf u la) 5 = true) (u.pdeAddr la).toNat (pdeOf u la ||| 0x20#32)).mark
    (pteOf u la ||| 0x20#32 ||| (if wr then 0x40#32 else 0) = pteOf u la) (pteAddr (pdeOf u la) la).toNat
    (pteOf u la ||| 0x20#32 ||| (if wr then 0x40#32 else 0))
  rw [← written_append] at hmarks
  refine ⟨_, _, ?_, rfl, hmarks⟩
  simp only [translate, run_get_bind, h.pdeAt_eq, run_bind_ok hfetch₁, hbs, pteAt_eq, hpde, run_bind_ok hfetch₂, hcs,
    hpte, huser, hwrite, Bool.not_true, Bool.false_eq_true, if_false, run_modify_bind, run_pure, beq_iff_eq]
  rfl

/-! ### The walks of an access (R104, R205) -/

/-- An operation answers as walks do: it completes as `done` says of the state after them, the physical addresses, its value and the
state it leaves, or asks for the page fault of the walk that failed. -/
def Walked {α : Type} (s : State) (wr : Bool) (done : State → List Nat → α → State → Prop) :
    EStateM.Result Stop State α → Except (State × Word) (State × List Nat) → Prop
  | .ok a t, .ok (u, as) => done u as a t
  | .error e t, .error (u, la) =>
    e = .exn (.pg (pageCode u la wr)) ∧ ∃ x, Accessing s u x ∧ t = (x.setCr2 la).setNoReadWrite
  | .ok _ _, .error _ | .error _ _, .ok _ => False

section
variable {α β : Type} {wr : Bool} {W : Except (State × Word) (State × List Nat)}
  {P : State → List Nat → α → State → Prop} {Q : State → List Nat → β → State → Prop}

/-- What follows the walks completes. -/
theorem Walked.bind {m : M α} {f : α → M β} (h : Walked s wr P (m v) W)
    (hf : ∀ u as a t, P u as a t → ∃ b t', f a t = .ok b t' ∧ Q u as b t') : Walked s wr Q ((m >>= f) v) W := by
  rw [run_bind]
  rcases hm : m v with ⟨a, t⟩ | ⟨e, t⟩ <;> rcases W with ⟨u, la⟩ | ⟨u, as⟩ <;> rw [hm] at h
  · exact h.elim
  · obtain ⟨b, t', hrun, hQ⟩ := hf u as a t h
    simp only [hrun]
    exact hQ
  · exact h
  · exact h

/-- Other addresses made of those of the walks. -/
theorem Walked.map {P' : State → List Nat → α → State → Prop} {r : EStateM.Result Stop State α} (h : Walked s wr P r W)
    (g : List Nat → List Nat) (hg : ∀ u as a t, P u as a t → P' u (g as) a t) :
    Walked s wr P' r (W.map fun p => (p.1, g p.2)) := by
  rcases r with ⟨a, t⟩ | ⟨e, t⟩ <;> rcases W with ⟨u, la⟩ | ⟨u, as⟩
  · exact h
  · exact hg u as a t h
  · exact h
  · exact h.elim

end

theorem Accessing.walked_translateEach (wr : Bool) (n : Nat) (la : Word) (h : Accessing s u v) :
    Walked s wr (fun u as bs t => bs = as ∧ Accessing s u t) (translateEach la wr s.user n v) (walks wr n la u) := by
  induction n generalizing la u v with
  | zero => exact ⟨rfl, h⟩
  | succ n ih =>
    rw [walks, translateEach]
    by_cases hw : mapped u la ∧ permitted u la wr
    · obtain ⟨pa, t, hrun, hpa, ht⟩ := h.translate_ok hw.1 hw.2
      rw [if_pos hw, run_bind_ok hrun, ← hpa]
      refine (Walked.bind (ih (la + 1) ht) ?_).map (pa.toNat :: ·) fun u as a t h => h
      rintro u as bs t ⟨rfl, ht⟩
      exact ⟨_, t, rfl, rfl, ht⟩
    · obtain ⟨x, hx, hrun⟩ := h.translate_fault hw
      rw [if_neg hw, run_bind_error hrun]
      exact ⟨rfl, x, hx, rfl⟩

/-- The walks of an access of n bytes from a linear address on: one within a page, one for each byte across a page. -/
def accessWalks (s : State) (la : Word) (n : Nat) (wr : Bool) : Except (State × Word) (State × List Nat) :=
  if 4096 < la.toNat % 4096 + n then walks wr n la s
  else if mapped s la ∧ permitted s la wr then .ok (written s (walkStores s la wr), addrs (physical s la) n)
  else .error (s, la)

/-- Within a page one walk decides. -/
theorem accessWalks_within {la : Word} {n : Nat} {wr : Bool} (h : ¬ 4096 < la.toNat % 4096 + n) : accessWalks s la n wr =
    if mapped s la ∧ permitted s la wr then .ok (written s (walkStores s la wr), addrs (physical s la) n) else .error (s, la) :=
  if_neg h

theorem toNat_pageOffset (la : Word) : (la &&& 0xFFF).toNat = la.toNat % 4096 := by
  rw [BitVec.toNat_and]
  exact Nat.and_two_pow_sub_one_eq_mod la.toNat 12

/-- The Bus operations of an access are those of the addresses its walks give. -/
theorem Accessing.walked_physOf (h : Accessing s u v) (hp : s.pagingOn = true) (la : Word) (n : Nat) (wr : Bool) :
    Walked s wr (fun u as ops t => ops.flatten = as ∧ Accessing s u t) (physOf la n wr s.user v) (accessWalks u la n wr) := by
  rw [physOf, run_get_bind, h.pagingOn_eq, hp, toNat_pageOffset, Bool.not_true, if_neg Bool.false_ne_true, accessWalks]
  by_cases hc : 4096 < la.toNat % 4096 + n
  · rw [if_pos hc, if_pos hc]
    refine Walked.bind (h.walked_translateEach wr n la) ?_
    rintro u as bs t ⟨rfl, ht⟩
    exact ⟨_, t, rfl, flatten_byteOps bs, ht⟩
  rw [if_neg hc, if_neg hc]
  by_cases hw : mapped u la ∧ permitted u la wr
  · obtain ⟨pa, t, htr, hpa, ht⟩ := h.translate_ok hw.1 hw.2
    rw [if_pos hw, run_bind_ok htr, ← hpa]
    exact ⟨flatten_busOps _ _, ht⟩
  · obtain ⟨x, hx, htr⟩ := h.translate_fault hw
    rw [if_neg hw, run_bind_error htr]
    exact ⟨rfl, x, hx, rfl⟩

/-! ### Through a segment (R170, R207) -/

theorem SegReg.rights_iff (r : SegReg) (k : Access) : r.rights k = true ↔
    (k = .write → r.acc.getLsbD 11 = false ∧ r.acc.getLsbD 9 = true) ∧
      (k = .read → r.acc.getLsbD 11 = true → r.acc.getLsbD 9 = true) := by
  cases k <;> cases h : r.acc.getLsbD 11 <;> simp [SegReg.rights, SegReg.isCode, h, -BitVec.getLsbD_eq_getElem]

theorem SegReg.inLimit_iff (r : SegReg) (prot : Bool) (off : Nat) {n : Nat} (hn : 0 < n) : r.inLimit prot off n = true ↔
    if prot = true ∧ r.acc.getLsbD 11 = false ∧ r.acc.getLsbD 10 = true
      then r.limit.toNat < off ∧ off + n - 1 ≤ (if r.ext.getLsbD 6 = true then 0xFFFFFFFF else 0xFFFF)
      else off + n - 1 ≤ r.limit.toNat := by
  have hlast (top : Nat) : off + n - 1 ≤ top ↔ off + n ≤ top + 1 := by omega
  have hdown : (prot && r.expandDown) = true ↔ prot = true ∧ r.acc.getLsbD 11 = false ∧ r.acc.getLsbD 10 = true := by
    simp [SegReg.expandDown, SegReg.isCode]
  simp only [SegReg.inLimit, hdown, hlast]
  split <;> simp

/-- The checks of R170 to R174 are what the model tests, for an access of at least one byte. -/
theorem accessFits_iff_admits (q : SReg) (off : Nat) {n : Nat} (k : Access) (hn : 0 < n) :
    accessFits s q off n k ↔ s.admits q off n k = true := by
  have hnull : (q ≠ .ss → q ≠ .cs → (s.seg q).acc ≠ 0) ↔ (!((s.view q).nullable && (s.seg q).acc == 0)) = true := by
    cases q <;> simp [State.view]
  unfold accessFits
  dsimp only
  rw [← SegReg.inLimit_iff _ _ _ hn, ← SegReg.rights_iff, hnull]
  simp only [State.admits, View.allows, Bool.or_eq_true, Bool.and_eq_true, State.view]
  cases s.protectedMode <;> simp

theorem Accessing.check (h : Accessing s u v) {q : SReg} {off n : Nat} {k : Access} (hn : 0 < n) (hfit : accessFits s q off n k) :
    (s.view q).check off n k v = .ok () v := by
  refine view_check_granted ?_
  obtain ⟨m, e, w, b, rfl, rfl, -⟩ := h
  exact (accessFits_iff_admits q off k hn).mp hfit

/-- Paging belongs to the 80386, which makes no access of the 8086 class (R200). -/
theorem class8086_of_pagingOn (h : s.pagingOn = true) : s.cfg.model.class8086 = false := by
  have hmodel : ∀ m : Model, m.has386 = true → m.class8086 = false := fun m => by cases m <;> decide
  exact hmodel _ (Bool.and_eq_true_iff.mp h).1

theorem Accessing.walked_phys (h : Accessing s u v) (hp : s.pagingOn = true) (q : SReg) (off n : Nat) (wr : Bool) :
    Walked s wr (fun u as ops t => ops.flatten = as ∧ Accessing s u t) ((s.view q).phys off n wr v)
      (accessWalks u ((s.seg q).linear off) n wr) := by
  rw [View.phys, run_get_bind, class8086_of_pagingOn (h.pagingOn_eq.trans hp)]
  exact h.walked_physOf hp _ n wr

/-- A load reads the bytes at the addresses of its walks. -/
theorem Accessing.walked_segRead (h : Accessing s u v) (hp : s.pagingOn = true) {q : SReg} {off n : Nat} (hn : 0 < n)
    (hfit : accessFits s q off n .read) : Walked s false (fun u as x t => x = u.busRead as ∧ Accessing s u t) (segRead q off n v)
      (accessWalks u ((s.seg q).linear off) n false) := by
  rw [segRead, run_read_bind, h.view_eq, View.read, View.readBytes, bind_assoc, run_bind_ok (h.check hn hfit), bind_assoc]
  refine (h.walked_phys hp q off n false).bind ?_
  rintro u as ops t ⟨rfl, ht⟩
  obtain ⟨t', hfetch, ht'⟩ := ht.fetch ops
  exact ⟨_, t', run_bind_ok hfetch _, rfl, ht'⟩

/-- A store writes its bytes there, after all the walks. -/
theorem Accessing.walked_segWrite (h : Accessing s u v) (hp : s.pagingOn = true) {q : SReg} {off n : Nat} (hn : 0 < n)
    (hfit : accessFits s q off n .write) (x : Word) : Walked s true (fun u as _ t => Accessing s (u.busWrite as (leBytes n x)) t)
      (segWrite q off n x v) (accessWalks u ((s.seg q).linear off) n true) := by
  rw [segWrite, run_read_bind, h.view_eq, View.write, View.writeBytes, length_leBytes, run_bind_ok (h.check hn hfit)]
  refine (h.walked_phys hp q off n true).bind ?_
  rintro u as ops t ⟨rfl, ht⟩
  exact ⟨_, _, rfl, ht.busStore ops _⟩

/-! ### MOV between a register and memory (R311) -/

theorem bytes_pos (w : Width) : 0 < w.bytes := by cases w <;> decide

/-- The instruction answers as the walks do: it completes as `done` says, all else but the operand addresses noted and the record of
device accesses as before, or raises the page fault of the walk that failed. -/
def AnswersWalks (s : State) (wr : Bool) (done : State → List Nat → State → Prop) (i : Instr) :
    Except (State × Word) (State × List Nat) → Prop
  | .ok (u, as) => Next (exec i s) fun t => done u as t ∧ PlainButDevices s t
  | .error (u, a) => ∃ x, exec i s = raiseExn (.pg (pageCode u a wr)) x ∧ x.cr2 = a ∧ x.gpr = s.gpr ∧ x.flags = s.flags ∧
      x.mem = u.mem ∧ SameMemory u x ∧ x.pc = s.pc ∧ x.opLIP = s.opLIP

section
variable {wr : Bool} {done : State → List Nat → State → Prop} {i : Instr} {la : Word} {n : Nat}

theorem answersWalks_of_walked {m : M Unit} {W : Except (State × Word) (State × List Nat)}
    {P : State → List Nat → Unit → State → Prop} (hi : exec i s = finish m v) (h : Walked s wr P (m v) W)
    (hP : ∀ u as t, P u as () t → done u as t ∧ PlainButDevices s t) : AnswersWalks s wr done i W := by
  rcases hm : m v with ⟨⟨⟩, t⟩ | ⟨e, t⟩ <;> rcases W with ⟨u, la⟩ | ⟨u, as⟩ <;> rw [hm] at h
  · exact h.elim
  · exact ⟨t, hi.trans (finish_ok hm), hP u as t h⟩
  · obtain ⟨rfl, x, ⟨m', e, w, l, rfl, rfl, -⟩, rfl⟩ := h
    exact ⟨_, hi.trans (finish_exn hm), rfl, rfl, rfl, rfl, fun _ => rfl, rfl, rfl⟩
  · exact h.elim

theorem AnswersWalks.completes (h : AnswersWalks s wr done i (accessWalks s la n wr)) (hc : ¬ 4096 < la.toNat % 4096 + n)
    (hm : mapped s la) (hp : permitted s la wr) :
    Next (exec i s) fun t => done (written s (walkStores s la wr)) (addrs (physical s la) n) t ∧ PlainButDevices s t := by
  rwa [accessWalks_within hc, if_pos ⟨hm, hp⟩] at h

theorem AnswersWalks.faults (h : AnswersWalks s wr done i (accessWalks s la n wr)) (hc : ¬ 4096 < la.toNat % 4096 + n)
    (hn : ¬ (mapped s la ∧ permitted s la wr)) : PageFaults s la wr i := by
  rw [accessWalks_within hc, if_neg hn] at h
  obtain ⟨x, hx, hcr2, hgpr, hflags, hmem, -, hpc, hlip⟩ := h
  exact ⟨x, hx, hcr2, hgpr, hflags, hmem, hpc, hlip⟩

theorem AnswersWalks.crosses (h : AnswersWalks s wr done i (accessWalks s la n wr)) (hc : 4096 < la.toNat % 4096 + n) :
    CrossesPage s la n wr done i := by
  rw [accessWalks, if_pos hc] at h
  unfold CrossesPage
  generalize walks wr n la s = W at h ⊢
  rcases W with ⟨u, a⟩ | ⟨u, as⟩
  · obtain ⟨x, hx, hcr2, hgpr, hflags, -, hsame, hpc, hlip⟩ := h
    exact ⟨x, hx, hcr2, hgpr, hflags, hsame, hpc, hlip⟩
  · exact h

end

/-- A change of the general registers alone after an access. -/
theorem Accessing.plainButDevices (h : Accessing s u v) (g : Gpr) : PlainButDevices s { v with gpr := g } := by
  obtain ⟨m, e, w, l, rfl, rfl, hl⟩ := h
  exact ⟨⟨fun _ => rfl, rfl⟩, rfl, hl,
    ⟨rfl, rfl, rfl, rfl, rfl, rfl, rfl, rfl, rfl, rfl, rfl, rfl, rfl, rfl, rfl, rfl, rfl, rfl, rfl, rfl⟩,
    ⟨rfl, rfl, rfl, rfl, rfl, rfl, rfl⟩, rfl, rfl, rfl, rfl, rfl⟩

theorem Accessing.sameMemory (h : Accessing s u v) (g : Gpr) : SameMemory u { v with gpr := g } := by
  obtain ⟨m, e, w, l, rfl, rfl, -⟩ := h
  exact fun _ => rfl

/-- A value written to a register changes the general registers only. -/
theorem RegisterOf.putAt_eq {w : Width} {l : Loc} (h : RegisterOf w l) (s : State) (x : Word) :
    s.putAt w l x = { s with gpr := s.gprWith w l x } := by
  cases l with
  | byteReg r => rfl
  | reg r => rfl
  | mem seg off => exact h.elim

theorem load_answersWalks {w : Width} {l : Loc} {i : Instr} {q : SReg} {off : Nat} (hp : s.pagingOn = true) (hl : RegisterOf w l)
    (hi : exec i s = finish (move w l (.mem q off)) (s.captureEA (.mem q off))) (hfit : accessFits s q off w.bytes .read) :
    AnswersWalks s false (fun u as t => SameMemory u t ∧ t.gpr = s.gprWith w l (u.busRead as)) i
      (accessWalks s ((s.seg q).linear off) w.bytes false) := by
  have hread := ((Accessing.refl s).captureEA (.mem q off)).walked_segRead hp (bytes_pos w) hfit
  have hmove : Walked s false (fun u as _ r => ∃ t, Accessing s u t ∧ r = t.putAt w l (u.busRead as))
      (move w l (.mem q off) (s.captureEA (.mem q off))) (accessWalks s ((s.seg q).linear off) w.bytes false) :=
    hread.bind fun u as x t ⟨hx, ht⟩ => ⟨(), _, hl.writeLoc x t, t, ht, by rw [hx]⟩
  refine answersWalks_of_walked hi hmove ?_
  rintro u as _ ⟨t, ht, rfl⟩
  rw [hl.putAt_eq, ht.gprWith_eq]
  exact ⟨⟨ht.sameMemory _, rfl⟩, ht.plainButDevices _⟩

theorem store_answersWalks {w : Width} {l : Loc} {i : Instr} {q : SReg} {off : Nat} (hp : s.pagingOn = true) (hl : RegisterOf w l)
    (hi : exec i s = finish (move w (.mem q off) l) (s.captureEA (.mem q off))) (hfit : accessFits s q off w.bytes .write) :
    AnswersWalks s true (fun u as t => SameMemory (u.busWrite as (leBytes w.bytes (s.valueAt w l))) t ∧ t.gpr = s.gpr) i
      (accessWalks s ((s.seg q).linear off) w.bytes true) := by
  have hrun : move w (.mem q off) l (s.captureEA (.mem q off)) =
      segWrite q off w.bytes (s.valueAt w l) ((s.captureEA (.mem q off)).captureWrite (.mem q off)) := by
    rw [move, run_bind_ok (hl.readLoc _)]
    rfl
  have hwrite := (((Accessing.refl s).captureEA (.mem q off)).captureWrite (.mem q off)).walked_segWrite hp (bytes_pos w) hfit
    (s.valueAt w l)
  rw [← hrun] at hwrite
  exact answersWalks_of_walked hi hwrite fun u as t ht => ⟨⟨ht.sameMemory t.gpr, ht.gpr_eq⟩, ht.plainButDevices t.gpr⟩

end

/-- Settles O59: a load and a store of a width answer as the walks of their bytes do, within a page and across one. -/
theorem pagedAccesses : Obligations.PagedAccesses := by
  unfold Obligations.PagedAccesses
  intro s m g8 g hwf hp q off la crosses p hmem
  have hforms : RegisterOf p.1 p.2.1 ∧
      exec p.2.2.1 s = finish (move p.1 p.2.1 (.mem q off)) (s.captureEA (.mem q off)) ∧
      exec p.2.2.2 s = finish (move p.1 (.mem q off) p.2.1) (s.captureEA (.mem q off)) := by
    simp only [List.mem_cons, List.not_mem_nil, or_false] at hmem
    rcases hmem with rfl | rfl
    · exact ⟨rfl, rfl, rfl⟩
    · exact ⟨trivial, rfl, rfl⟩
  obtain ⟨hl, hload, hstore⟩ := hforms
  refine ⟨fun hc hfit => ⟨fun hm ha => ?_, (load_answersWalks hp hl hload hfit).faults hc⟩,
    fun hc hfit => ⟨fun hm ha => ?_, (store_answersWalks hp hl hstore hfit).faults hc⟩,
    fun hc hfit => (load_answersWalks hp hl hload hfit).crosses hc,
    fun hc hfit => (store_answersWalks hp hl hstore hfit).crosses hc⟩
  · obtain ⟨t, ht, ⟨hsame, hgpr⟩, hplain⟩ := (load_answersWalks hp hl hload hfit).completes hc hm ha
    exact ⟨t, ht, stored_of_sameMemory hwf hsame, hgpr, hplain⟩
  · obtain ⟨t, ht, ⟨hsame, hgpr⟩, hplain⟩ := (store_answersWalks hp hl hstore hfit).completes hc hm ha
    refine ⟨t, ht, stored_of_sameMemory hwf ?_, hgpr, hplain⟩
    rw [written_append, written, length_addrs]
    exact hsame

end Sys2Proof.Machine
end

section
/-! The encodings of 30_encoding.md: undefined opcodes and prefixes, words written out, and the step over the instruction that is
decoded at the instruction pointer. -/

namespace Sys2Proof.Machine

/-! ### Undefined encodings (R251, R252) -/

/-- An instruction that asks for an exception before it does anything else. -/
theorem traps_of_raise {s : State} {x : Exn} {i : Instr} {m : M Unit} (hi : exec i s = finish m s) (hm : m s = raise x s) :
    Traps s x i :=
  ⟨s.setNoReadWrite, hi.trans (finish_exn hm), rfl, rfl, rfl, rfl, rfl,
    ⟨rfl, rfl, rfl, rfl, rfl, rfl, rfl, rfl, rfl, rfl, rfl, rfl, rfl, rfl, rfl, rfl, rfl, rfl, rfl, rfl⟩,
    ⟨rfl, rfl, rfl, rfl, rfl, rfl, rfl⟩, rfl, rfl⟩

theorem undefinedOpcode_of_has186 {s : State} (h : s.cfg.model.has186 = true) : undefinedOpcode s = raise .ud s := by
  rw [undefinedOpcode, run_get_bind, if_pos h]

theorem undefinedOpcode_of_not_has186 {s : State} (h : s.cfg.model.has186 = false) :
    undefinedOpcode s = .error (.refused .undefinedEncoding8086) s := by
  rw [undefinedOpcode, run_get_bind, h, if_neg Bool.false_ne_true, run_refuse]

/-- The five undefined encodings have one meaning. -/
theorem exec_undefined (s : State) :
    ∀ i ∈ [Instr.undefD6, .undefF1, .undefF6r1, .undefFFr7, .undefOther], exec i s = finish undefinedOpcode s := by
  simp only [List.forall_mem_cons]
  exact ⟨rfl, rfl, rfl, rfl, rfl, List.forall_mem_nil _⟩

/-- Settles O47: an undefined encoding does nothing but `undefinedOpcode`, and a prefix instruction is one note of its prefix. -/
theorem prefixesAndUndefinedEncodings : Obligations.PrefixesAndUndefinedEncodings := by
  unfold Obligations.PrefixesAndUndefinedEncodings
  refine ⟨fun s i hi => ⟨fun h => ?_, fun h => ?_⟩, fun s => ?_⟩
  · exact traps_of_raise (exec_undefined s i hi) (undefinedOpcode_of_has186 h)
  · exact (exec_undefined s i hi).trans (finish_refused (undefinedOpcode_of_not_has186 h))
  · simp only [List.forall_mem_cons]
    exact ⟨rfl, rfl, rfl, rfl, rfl, rfl, rfl, rfl, rfl, rfl, rfl, List.forall_mem_nil _⟩

/-! ### Words written out (R242, R248, R282 to R284) -/

/-- Settles O48: the decoder run on each word. -/
theorem wordsDecode : Obligations.WordsDecode := by
  unfold Obligations.WordsDecode
  exact ⟨rfl, rfl, rfl, rfl, rfl, rfl, rfl, rfl, rfl, rfl, rfl⟩

/-! ### A step over memory that is not in canonical form -/

/-- An 80386 in real mode before a NOP at 0:0x100, with TF set, SS:SP at 0:0x8000 and CS 0. Its memory is not in canonical form: two
cells, both 1, stand for the byte at 0x7FFC, where the single-step trap pushes the low byte of CS. -/
def doubledCell : State :=
  let s := State.resetFor (.defaults .i80386)
  { s with
    pc := 0x100, cs := { s.cs with sel := 0, base := 0 }, gpr := { s.gpr with sp := 0x8000 }
    flags := { s.flags with ps := 0x102 }, mem := [(0x100, 0x90), (0x7FFC, 1), (0x7FFC, 1)] }

/-- The NOP has run and its single-step trap is to be delivered. -/
def doubledCellRun : State := fetched doubledCell [] [0x90]

theorem fetches_doubledCell : fetches doubledCell := by
  unfold fetches uncorrupted
  decide +kernel

theorem codeAt_doubledCell : codeAt doubledCell [0x90] := by
  unfold codeAt State.grants
  decide +kernel

theorem atPc_doubledCell : atPc doubledCell [] [0x90] .nop :=
  ⟨fun _ h => absurd h List.not_mem_nil, rfl, rfl, rfl, by decide, codeAt_doubledCell⟩

theorem readyReal_doubledCellRun : readyReal doubledCellRun 1 := by
  unfold readyReal vectorInLimit State.canPush State.grants
  decide +kernel

/-- The pushed CS is 0: its low byte removes one of the two cells, and the other one is then read. -/
theorem selector_read_after_step {t : State} (ht : step doubledCell = .next t) :
    t.busRead (doubledCellRun.spread .ss (doubledCellRun.below 4) 2) = 1 := by
  have hstep : (match step doubledCell with
      | .next t => some (t.busRead (doubledCellRun.spread .ss (doubledCellRun.below 4) 2))
      | _ => none) = some 1 := by decide +kernel
  rw [ht] at hstep
  exact Option.some.inj hstep

/-- Refutes O50: the statement does not ask for memory in canonical form, and without it a zero byte pushed by the single-step trap
need not read back. From `doubledCell` the step over the NOP pushes CS = 0, and the selector on the stack then reads as 1. -/
theorem not_stepRunsDecodedInstruction : ¬ Obligations.StepRunsDecodedInstruction := by
  unfold Obligations.StepRunsDecodedInstruction
  intro h
  obtain ⟨-, htrap⟩ := h.1 doubledCell [] [0x90] .nop fetches_doubledCell atPc_doubledCell
  obtain ⟨-, hreal, -⟩ := htrap rfl doubledCellRun rfl
  obtain ⟨t, ht, ⟨-, hpushed, -⟩, -⟩ := hreal rfl readyReal_doubledCellRun
  have hzero : t.busRead (doubledCellRun.spread .ss (doubledCellRun.below 4) 2) = 0 := hpushed 1 (by decide)
  exact absurd ((selector_read_after_step ht).symm.trans hzero) (by decide)

end Sys2Proof.Machine
end

section
/-! Effective addresses (31_modrm_resolver.md): the offset of a memory operand as a sum of registers and displacement, and the
segment it is taken in. -/

namespace Sys2Proof.Machine

/-! ### Sums of a base and a displacement (R285) -/

section Displacement
variable {u : Word} {n : Nat}

theorem toNat_signExtend_byte (b : Byte) : ((b.signExtend 32).toNat : Int) = b.toInt % 2 ^ 32 := by
  rw [BitVec.signExtend, BitVec.toNat_ofInt]
  exact Int.toNat_of_nonneg (Int.emod_nonneg _ (by decide))

theorem toNat_add_word (h : u.toNat = n % 2 ^ 32) (d : Word) : (u + d).toNat = (n + d.toNat) % 2 ^ 32 := by
  rw [BitVec.toNat_add, h, Nat.mod_add_mod]

theorem toNat_add_byte (h : u.toNat = n % 2 ^ 32) (b : Byte) :
    ((u + b.signExtend 32).toNat : Int) = (n + b.toInt) % 2 ^ 32 := by
  rw [toNat_add_word h, Int.natCast_emod, Int.natCast_add, toNat_signExtend_byte]
  exact Int.add_emod_emod _ _ _

end Displacement

/-! ### The offset (R281 to R284) -/

section Offset
variable (s : State)

theorem State.toNat_reg_w16 (r : Reg) : (s.reg .w16 r).toNat = (s.gpr.get r).toNat % 65536 := toNat_trunc .w16 _

/-- Two halves add up without a carry out of 32 bits. -/
theorem State.toNat_reg_w16_add (q r : Reg) : (s.reg .w16 q + s.reg .w16 r).toNat =
    (s.gpr.get q).toNat % 65536 + (s.gpr.get r).toNat % 65536 := by
  rw [BitVec.toNat_add, s.toNat_reg_w16, s.toNat_reg_w16]
  omega

variable {s}

/-- The three 16-bit displacements, on a base whose registers add up to `n`. -/
theorem State.toNat_offset_base16 {base : Base16} {n : Nat} (h : (s.sum16 base).toNat = n) (d8 : Byte) (d16 : Half) :
    (s.offset (.base16 base .none)).toNat = n % 65536 ∧
    ((s.offset (.base16 base (.d8 d8))).toNat : Int) = (n + d8.toInt) % 65536 ∧
    (s.offset (.base16 base (.d16 d16))).toNat = (n + d16.toNat) % 65536 := by
  have hsum (d : Disp16) :
      (s.offset (.base16 base d)).toNat = (s.sum16 base + dispValue16 d).toNat % 65536 := toNat_trunc .w16 _
  have hn : (s.sum16 base).toNat = n % 2 ^ 32 := by omega
  refine ⟨?_, ?_, ?_⟩
  · rw [hsum, show s.sum16 base + dispValue16 .none = s.sum16 base from BitVec.add_zero _, h]
  · rw [hsum, dispValue16, Int.natCast_emod, toNat_add_byte hn]
    exact Int.emod_emod_of_dvd _ (by decide)
  · rw [hsum, dispValue16, toNat_add_word hn, BitVec.toNat_setWidth_of_le (by decide)]
    exact Nat.mod_mod_of_dvd _ (by decide)

theorem State.toNat_index (sc : BitVec 2) (i : Reg) :
    (s.index sc (some i)).toNat = (s.gpr.get i).toNat * 2 ^ sc.toNat % 2 ^ 32 := by
  rw [State.index, BitVec.toNat_shiftLeft, Nat.shiftLeft_eq]

/-- Base and scaled index of a SIB byte. -/
theorem State.toNat_base_add_index (sc : BitVec 2) (i r : Reg) : (s.gpr.get r + s.index sc (some i)).toNat =
    ((s.gpr.get r).toNat + (s.gpr.get i).toNat * 2 ^ sc.toNat) % 2 ^ 32 := by
  rw [BitVec.toNat_add, s.toNat_index, Nat.add_mod_mod]

theorem State.offset_base32_none (r : Reg) : s.offset (.base32 r .none) = s.gpr.get r := BitVec.add_zero _

theorem State.offset_sib_none (sc : BitVec 2) (i r : Reg) :
    s.offset (.sib sc (some i) r .none) = s.gpr.get r + s.index sc (some i) := BitVec.add_zero _

theorem State.offset_sib_noIndex (sc : BitVec 2) (r : Reg) (d : Disp32) :
    s.offset (.sib sc none r d) = s.offset (.base32 r d) := by
  simp only [State.offset, State.index, BitVec.ofNat_eq_ofNat, BitVec.add_zero]

theorem State.offset_sibNoBase (sc : BitVec 2) (i : Option Reg) (d : Word) :
    s.offset (.sibNoBase sc i d) = s.index sc i + d := BitVec.add_comm _ _

end Offset

/-! ### The segment (R286, R287) -/

theorem State.resolve_seg_of_prefix {s : State} {q : SReg} (h : s.opPrefixes.seg = some q) (m : MemOp) :
    (s.resolve m).1 = q := by
  rw [State.resolve, State.effSeg, h, Option.getD_some]

theorem State.resolve_seg_of_noPrefix {s : State} (h : s.opPrefixes.seg = none) (m : MemOp) :
    (s.resolve m).1 = defaultSeg m := by
  rw [State.resolve, State.effSeg, h, Option.getD_none]

/-- Settles O13: each offset is a base plus a displacement, and the default segment is that of the base. -/
theorem effectiveAddresses : Obligations.EffectiveAddresses := by
  unfold Obligations.EffectiveAddresses
  refine ⟨fun s r i sc b d8 d16 d => ?offsets, fun s m =>
    ⟨fun _ h => s.resolve_seg_of_prefix h m, fun h => (s.resolve_seg_of_noPrefix h m).trans ?segment⟩⟩
  case offsets =>
    have pair (q p : Reg) := s.toNat_reg_w16_add q p
    have one (q : Reg) := s.toNat_reg_w16 q
    have sums {base : Base16} {n : Nat} (h : (s.sum16 base).toNat = n) := State.toNat_offset_base16 h d8 d16
    have hbase : (s.gpr.get r).toNat = (s.gpr.get r).toNat % 2 ^ 32 := (BitVec.toNat_mod_cancel _).symm
    have hbare : (s.offset (.base32 r .none)).toNat = _ := congrArg BitVec.toNat (s.offset_base32_none r)
    have hindexed := s.toNat_base_add_index sc i r
    simp only [List.forall_mem_cons, s.offset_sib_noIndex, s.offset_sibNoBase, s.offset_sib_none]
    refine ⟨⟨sums (pair .bx .si), sums (pair .bx .di), sums (pair .bp .si), sums (pair .bp .di),
        sums (one .si), sums (one .di), sums (one .bp), sums (one .bx), List.forall_mem_nil _⟩,
      ?abs16, rfl, hbare, toNat_add_byte hbase b, toNat_add_word hbase d,
      ?sibByte, hindexed, toNat_add_word hindexed d, hbare, toNat_add_byte hbase b, toNat_add_word hbase d,
      toNat_add_word (s.toNat_index sc i) d, ?noBaseNoIndex⟩
    case abs16 => exact BitVec.toNat_setWidth_of_le (by decide)
    case sibByte => exact_mod_cast toNat_add_byte hindexed b
    case noBaseNoIndex => exact congrArg BitVec.toNat (BitVec.zero_add d)
  case segment =>
    cases m with
    | base16 base _ => cases base <;> rfl
    | base32 r _ => cases r <;> rfl
    | sib _ _ r _ => cases r <;> rfl
    | abs16 _ => rfl
    | abs32 _ => rfl
    | sibNoBase _ _ _ => rfl

end Sys2Proof.Machine
end

section
/-! MOV, XCHG and NOP (40_data_movement.md R311, R313, R340): an instruction that writes registers, memory and the noted operand
addresses and nothing else, and what a read of an operand gives after writes. -/

namespace Sys2Proof.Machine

/-! ### Instructions that change registers and memory only -/

/-- `t` is `s` but for the general registers, memory and the noted operand addresses (R64). -/
def Moved (s t : State) : Prop := ∃ g m e w, t = { s with gpr := g, mem := m, regEA := e, regEAWrite := w }

theorem Moved.refl (s : State) : Moved s s := ⟨s.gpr, s.mem, s.regEA, s.regEAWrite, rfl⟩

theorem Moved.trans {s t u : State} (h : Moved s t) (k : Moved t u) : Moved s u := by
  obtain ⟨g, m, e, w, rfl⟩ := h
  obtain ⟨g', m', e', w', rfl⟩ := k
  exact ⟨g', m', e', w', rfl⟩

theorem moved_withEA (s : State) (e : Option Word) : Moved s { s with regEA := e } := ⟨s.gpr, s.mem, e, s.regEAWrite, rfl⟩

theorem moved_withGpr (s : State) (g : Gpr) : Moved s { s with gpr := g } := ⟨g, s.mem, s.regEA, s.regEAWrite, rfl⟩

theorem moved_busWrite (s : State) (as : List Nat) (bs : List Byte) : Moved s (s.busWrite as bs) :=
  ⟨s.gpr, _, s.regEA, s.regEAWrite, s.busWrite_eq as bs⟩

theorem moved_checkedAt (s : State) (l : Loc) : Moved s (s.checkedAt l) := by
  cases l with
  | byteReg r => exact .refl s
  | reg r => exact .refl s
  | mem seg off => exact ⟨s.gpr, s.mem, s.regEA, _, rfl⟩

theorem moved_putAt (s : State) (w : Width) (l : Loc) (v : Word) : Moved s (s.putAt w l v) := by
  cases l with
  | byteReg r => exact moved_withGpr s _
  | reg r => exact moved_withGpr s _
  | mem seg off => exact (moved_checkedAt s (.mem seg off)).trans (moved_busWrite _ _ _)

theorem Moved.plain {s t : State} (h : Moved s t) : Plain s t := by
  obtain ⟨g, m, e, w, rfl⟩ := h
  exact ⟨⟨fun _ => rfl, rfl⟩, rfl,
    ⟨⟨rfl, rfl, rfl, rfl, rfl, rfl, rfl, rfl, rfl, rfl, rfl, rfl, rfl, rfl, rfl, rfl, rfl, rfl, rfl, rfl⟩,
      ⟨rfl, rfl, rfl, rfl, rfl, rfl, rfl⟩, rfl, rfl, rfl, rfl, rfl⟩⟩

/-- What may be accessed depends on no field that these instructions write. -/
theorem Moved.grants_eq {s t : State} (h : Moved s t) : t.grants = s.grants := by
  obtain ⟨g, m, e, w, rfl⟩ := h
  rfl

theorem Moved.view_eq {s t : State} (h : Moved s t) : t.view = s.view := by
  obtain ⟨g, m, e, w, rfl⟩ := h
  rfl

theorem Moved.spread_eq {s t : State} (h : Moved s t) : t.spread = s.spread := by
  obtain ⟨g, m, e, w, rfl⟩ := h
  rfl

/-! ### Values of a width -/

theorem merge_trunc (w : Width) (old v : Word) : merge w old (trunc w v) = merge w old v := by
  rw [merge, trunc, BitVec.and_assoc, BitVec.and_self, merge]

theorem mergeByte_trunc (high : Bool) (old v : Word) : mergeByte high old (trunc .w8 v) = mergeByte high old v := by
  cases high with
  | false => exact merge_trunc .w8 old v
  | true =>
    have hv : trunc .w8 v &&& 0xFF = v &&& 0xFF := trunc_trunc .w8 v
    simp only [mergeByte, hv, if_true]

theorem State.setReg_trunc (s : State) (w : Width) (r : Reg) (v : Word) : s.setReg w r (trunc w v) = s.setReg w r v := by
  rw [State.setReg, merge_trunc, State.setReg]

theorem toNat_ofLe_lt (bs : List Byte) : (ofLe bs).toNat < 256 ^ bs.length := by
  induction bs with
  | nil => exact Nat.one_pos
  | cons b bs ih =>
    have hb : (b.setWidth 32).toNat < 2 ^ 8 := by
      rw [BitVec.toNat_setWidth_of_le (by decide)]
      exact b.isLt
    have hpow : 256 ^ (bs.length + 1) = 2 ^ (8 * (bs.length + 1)) := by rw [Nat.pow_mul]
    have hpow' : 256 ^ bs.length = 2 ^ (8 * bs.length) := by rw [Nat.pow_mul]
    rw [ofLe, BitVec.toNat_or, List.length_cons, hpow]
    refine Nat.or_lt_two_pow (Nat.lt_of_lt_of_le hb (Nat.pow_le_pow_right (by decide) (by omega))) ?_
    have hshift : (ofLe bs <<< 8).toNat ≤ (ofLe bs).toNat * 2 ^ 8 := by
      rw [BitVec.toNat_shiftLeft, Nat.shiftLeft_eq]
      exact Nat.mod_le _ _
    rw [Nat.mul_succ, Nat.pow_add, ← hpow']
    omega

/-- Bytes of a width make a value of the width. -/
theorem State.trunc_busRead (s : State) {w : Width} {as : List Nat} (h : as.length = w.bytes) : trunc w (s.busRead as) = s.busRead as := by
  have hlt := toNat_ofLe_lt (as.map s.busByte)
  have hpow : 256 ^ w.bytes = 2 ^ w.bits := by cases w <;> rfl
  rw [List.length_map, h, hpow] at hlt
  apply BitVec.eq_of_toNat_eq
  rw [toNat_trunc, State.busRead, Nat.mod_eq_of_lt hlt]

/-- An operand of a width: only byte operands lie in byte registers. -/
def Loc.Fits (w : Width) : Loc → Prop
  | .byteReg _ => w = .w8
  | .reg _ | .mem _ _ => True

theorem State.fits_rm8Loc (s : State) (e : RM8) : (s.rm8Loc e).Fits .w8 := by cases e <;> trivial

theorem State.fits_rmLoc (s : State) (w : Width) (e : RM) : (s.rmLoc e).Fits w := by cases e <;> trivial

theorem Loc.Fits.trunc_valueAt {w : Width} {l : Loc} (h : l.Fits w) (s : State) : trunc w (s.valueAt w l) = s.valueAt w l := by
  cases l with
  | byteReg r => subst h; exact trunc_trunc .w8 _
  | reg r => exact trunc_trunc w _
  | mem seg off => exact s.trunc_busRead (s.length_spread seg off w.bytes)

/-- A value written to an operand is cut to its width. -/
theorem Loc.Fits.gprWith_trunc {w : Width} {l : Loc} (h : l.Fits w) (s : State) (v : Word) :
    s.gprWith w l (trunc w v) = s.gprWith w l v := by
  cases l with
  | byteReg r => subst h; simp only [State.gprWith, State.setReg8_gpr, mergeByte_trunc]
  | reg r => simp only [State.gprWith, s.setReg_trunc]
  | mem seg off => rfl

theorem Loc.Fits.valueAt_putAt {w : Width} {l : Loc} (h : l.Fits w) {s : State} (hm : s.mem.wf = true) (hw : s.canWrite w l)
    (v : Word) : (s.putAt w l v).valueAt w l = trunc w v := by
  rw [State.valueAt_putAt hm hw]
  cases l with
  | byteReg r => subst h; rfl
  | reg r => rfl
  | mem seg off => rfl

/-- A write to an operand that may be written. -/
theorem wrote_putAt {w : Width} {l : Loc} (hl : l.Fits w) {s : State} (hm : s.mem.wf = true) (hw : s.canWrite w l) (v : Word) :
    Wrote w l (trunc w v) s (s.putAt w l v) where
  value := hl.valueAt_putAt hm hw v
  gpr := by rw [State.putAt_gpr, hl.gprWith_trunc]
  memory := State.putAt_memory hm w l v

/-! ### MOV (R311) -/

/-- The write of a value, with an operand address noted before, is a form of MOV. -/
theorem movForm_of_write {s : State} {w : Width} {dst : Loc} {src : Prop} {v : Word} {i : Instr} {e : Option Word}
    (hm : s.mem.wf = true) (hl : dst.Fits w) (hi : src → exec i s = finish (writeLoc w dst v) { s with regEA := e }) :
    MovForm s w dst src (trunc w v) i := by
  intro hw hsrc
  obtain ⟨hvalue, hgpr, hmem⟩ := wrote_putAt hl (s := { s with regEA := e }) hm hw v
  exact ⟨_, (hi hsrc).trans (finish_ok (writeLoc_flat (s := { s with regEA := e }) hw v)), ⟨hvalue, hgpr, hmem⟩,
    ((moved_withEA s e).trans (moved_putAt _ w dst v)).plain⟩

/-- MOV from an operand to an operand. -/
theorem movForm_of_move {s : State} {w : Width} {dst src : Loc} {i : Instr} {e : Option Word} (hm : s.mem.wf = true)
    (hl : dst.Fits w) (hs : src.Fits w) (hi : exec i s = finish (move w dst src) { s with regEA := e }) :
    MovForm s w dst (s.canRead w src) (s.valueAt w src) i := by
  rw [← hs.trunc_valueAt s]
  refine movForm_of_write hm hl (e := e) fun hread => ?_
  rw [hi, finish, move, run_bind_ok (readLoc_flat (s := { s with regEA := e }) hread)]
  rfl

/-! ### XCHG (R313) -/

theorem State.toNat_reg8 (s : State) (b : Reg8) :
    (s.reg8 b).toNat = (s.gpr.get (home8 b)).toNat / (if high8 b then 256 else 1) % 256 := by
  cases h : high8 b with
  | true => exact s.toNat_reg8_high rfl h
  | false => rw [s.toNat_reg8_low rfl h, if_neg Bool.false_ne_true, Nat.div_one]

/-- A write to a byte register leaves the other byte registers. -/
theorem State.reg8_setReg8_other (s : State) {b c : Reg8} (hne : c ≠ b) (v : Word) : (s.setReg8 b v).reg8 c = s.reg8 c := by
  apply BitVec.eq_of_toNat_eq
  rw [State.toNat_reg8, State.toNat_reg8]
  by_cases hhome : home8 c = home8 b
  · have hpart : high8 c = !high8 b := by
      revert hne hhome
      cases b <;> cases c <;> decide
    rw [hhome, hpart]
    cases hb : high8 b with
    | true =>
      have hword := s.toNat_get_setReg8_high v (r := home8 b) rfl hb
      simp only [hword, Bool.not_true, Bool.false_eq_true, if_false]
      omega
    | false =>
      have hword := s.toNat_get_setReg8_low v (r := home8 b) rfl hb
      simp only [hword, Bool.not_false, if_true]
      omega
  · rw [s.get_setReg8_other v rfl hhome]

/-- A place and a register that do not overlap. -/
def Loc.Apart : Loc → Loc → Prop
  | .byteReg b, .byteReg c => b ≠ c
  | .reg q, .reg r => q ≠ r
  | .mem _ _, .byteReg _ | .mem _ _, .reg _ => True
  | _, _ => False

/-- What an operand holds after a write to a register apart from it. -/
theorem Loc.Apart.valueAt_putAt {l g : Loc} (h : l.Apart g) (s : State) (w : Width) (v : Word) :
    (s.putAt w g v).valueAt w l = s.valueAt w l := by
  cases l with
  | byteReg b => cases g with
    | byteReg c => exact s.reg8_setReg8_other h v
    | reg r => exact h.elim
    | mem seg off => exact h.elim
  | reg q => cases g with
    | byteReg c => exact h.elim
    | reg r => exact s.reg_setReg_other w w h v
    | mem seg off => exact h.elim
  | mem seg off => cases g with
    | byteReg c => rfl
    | reg r => rfl
    | mem seg' off' => exact h.elim

theorem State.gprWith_congr {s t : State} (h : t.gpr = s.gpr) (w : Width) (l : Loc) (v : Word) : t.gprWith w l v = s.gprWith w l v := by
  cases l <;> simp [State.gprWith, h]

/-- `u` is `s` but for the noted operand addresses. -/
def Noted (s u : State) : Prop := ∃ e w, u = { s with regEA := e, regEAWrite := w }

theorem noted_checkedAt (s : State) (e : Option Word) (l : Loc) : Noted s (State.checkedAt l { s with regEA := e }) := by
  cases l <;> exact ⟨_, _, rfl⟩

/-- The run of XCHG. -/
theorem exchange_flat {s : State} {w : Width} {l g : Loc} (hr : s.canRead w l) (hw : s.canWrite w l) (hg : RegisterOf w g)
    (e : Option Word) : ∃ u, Noted s u ∧ exchange w l g { s with regEA := e } =
      .ok () ((u.putAt w l (s.valueAt w g)).putAt w g (s.valueAt w l)) := by
  have hnoted := noted_checkedAt s e l
  have hcheck := checkLoc_flat (s := { s with regEA := e }) hw
  refine ⟨_, hnoted, ?_⟩
  rw [exchange, run_bind_ok hcheck]
  generalize State.checkedAt l { s with regEA := e } = u at hnoted
  obtain ⟨e', w', rfl⟩ := hnoted
  rw [run_bind_ok (readLoc_flat (s := { s with regEA := e', regEAWrite := w' }) hr), run_bind_ok (hg.readLoc _),
    run_bind_ok (writeLoc_flat (s := { s with regEA := e', regEAWrite := w' }) hw _), hg.writeLoc]
  rfl

theorem xchgForm_of_exchange {s : State} {w : Width} {l g : Loc} {i : Instr} {e : Option Word} (hm : s.mem.wf = true)
    (hl : l.Fits w) (hg : RegisterOf w g) (hlg : l = g ∨ l.Apart g)
    (hi : exec i s = finish (exchange w l g) { s with regEA := e }) : XchgForm s w l g i := by
  intro hr hw
  obtain ⟨u, ⟨e', w', rfl⟩, hrun⟩ := exchange_flat hr hw hg e
  have hvg := hg.trunc_valueAt s
  have hvl := hl.trunc_valueAt s
  refine ⟨_, hi.trans (finish_ok hrun), ?gpr, ?first, hg.valueAt_putAt hvl _, ?memory, ?plain⟩
  case gpr =>
    rw [State.putAt_gpr]
    exact State.gprWith_congr (State.putAt_gpr _ w l _) w g _
  case first =>
    rcases hlg with rfl | hapart
    · exact hg.valueAt_putAt hvl _
    · rw [hapart.valueAt_putAt, hl.valueAt_putAt (s := { s with regEA := e', regEAWrite := w' }) hm hw, hvg]
  case memory =>
    rw [hg.putAt_eq]
    exact State.putAt_memory (s := { s with regEA := e', regEAWrite := w' }) hm w l _
  case plain =>
    have hmoved : Moved s { s with regEA := e', regEAWrite := w' } := ⟨_, _, _, _, rfl⟩
    exact (hmoved.trans ((moved_putAt _ w l _).trans (moved_putAt _ w g _))).plain

theorem apart_reg (q r : Reg) : Loc.reg q = .reg r ∨ (Loc.reg q).Apart (.reg r) :=
  (Decidable.em (q = r)).imp (congrArg Loc.reg) id

/-- Settles O12: each MOV is one read and one write, each XCHG a read, a read and two writes, and NOP is no operation at all. -/
theorem movAndExchangeComplete : Obligations.MovAndExchangeComplete := by
  unfold Obligations.MovAndExchangeComplete
  refine ⟨fun s e8 g8 e g ib iv off hm => ?_, fun s e8 g8 e g hm => ?_⟩
  · have f8 := s.fits_rm8Loc e8
    have fv := s.fits_rmLoc s.opW e
    intro w o
    have byte : trunc .w8 (ib.setWidth 32) = ib.setWidth 32 := by
      apply BitVec.eq_of_toNat_eq
      rw [toNat_trunc, BitVec.toNat_setWidth_of_le (by decide)]
      exact Nat.mod_eq_of_lt ib.isLt
    rw [← byte]
    exact ⟨movForm_of_move (src := .byteReg g8) hm f8 rfl rfl, movForm_of_move (src := .reg g) hm fv trivial rfl,
      movForm_of_move hm rfl f8 rfl, movForm_of_move hm trivial fv rfl,
      movForm_of_move hm rfl trivial rfl, movForm_of_move hm trivial trivial rfl,
      movForm_of_move (src := .byteReg .al) hm trivial rfl rfl, movForm_of_move (src := .reg .ax) hm trivial trivial rfl,
      movForm_of_write (e := s.regEA) hm rfl fun _ => rfl, movForm_of_write (e := s.regEA) hm trivial fun _ => rfl,
      movForm_of_write hm f8 fun _ => rfl, movForm_of_write hm fv fun _ => rfl⟩
  · have hbyte : s.rm8Loc e8 = .byteReg g8 ∨ (s.rm8Loc e8).Apart (.byteReg g8) := by
      cases e8 with
      | reg r => exact (Decidable.em (r = g8)).imp (congrArg Loc.byteReg) id
      | mem m => exact .inr trivial
    have hword : s.rmLoc e = .reg g ∨ (s.rmLoc e).Apart (.reg g) := by
      cases e with
      | reg r => exact apart_reg r g
      | mem m => exact .inr trivial
    exact ⟨xchgForm_of_exchange hm (s.fits_rm8Loc e8) rfl hbyte rfl, xchgForm_of_exchange hm (s.fits_rmLoc _ e) trivial hword rfl,
      xchgForm_of_exchange (e := s.regEA) hm trivial trivial (apart_reg .ax g) rfl, rfl, fun _ => rfl⟩

end Sys2Proof.Machine
end

section
/-! LEA, XLAT and the conversions of width (40_data_movement.md R314, R316, R330 to R333). -/

namespace Sys2Proof.Machine

/-- A register written at a width takes a number modulo the width. -/
theorem State.setReg_truncInt_signed (s : State) (w k : Width) (r : Reg) (v : Word) :
    s.setReg w r (truncInt w (signed k v)) = s.setReg w r (sext k v) := by
  rw [truncInt, signed, BitVec.ofInt_toInt, s.setReg_trunc]

/-- An instruction that changes the general registers only. -/
theorem next_withGpr {s : State} {i : Instr} {g : Gpr} {e : Option Word} (hi : exec i s = .next { s with regEA := e, gpr := g }) :
    Next (exec i s) fun t => t.gpr = g ∧ SameMemory s t ∧ Plain s t :=
  ⟨_, hi, rfl, fun _ => rfl, ((moved_withEA s e).trans (moved_withGpr _ g)).plain⟩

/-- A read of an operand, then a write of registers by its value. -/
theorem next_of_read {s : State} {i : Instr} {w : Width} {l : Loc} {e : Option Word} {f : Word → State → State} {g : Gpr}
    (hr : s.canRead w l) (hi : exec i s = finish (readLoc w l >>= fun v => modify (f v)) { s with regEA := e })
    (hf : f (s.valueAt w l) { s with regEA := e } = { s with regEA := e, gpr := g }) :
    Next (exec i s) fun t => t.gpr = g ∧ SameMemory s t ∧ Plain s t := by
  refine next_withGpr (e := e) ?_
  rw [← hf]
  exact hi.trans (finish_ok (run_bind_ok (readLoc_flat (s := { s with regEA := e }) hr) _))

/-- MOVZX and MOVSX: the value read, extended, goes to a register. -/
theorem loadForm_of_extend {s : State} {w : Width} {l : Loc} {g : Reg} {i : Instr} {e : Option Word} {f : Word → Word}
    (hi : exec i s = finish (readLoc w l >>= fun v => modify (State.setReg s.opW g (f v))) { s with regEA := e }) :
    LoadForm s w l g (f (s.valueAt w l)) i := fun hr => next_of_read hr hi rfl

/-- The sign bit decides what CWD and CDQ write. -/
theorem sign_eq_zero_iff {w : Width} {v : Word} (h : trunc w v = v) : v &&& w.msb = 0 ↔ ¬ signed w v < 0 := by
  rw [signed_neg_iff h, bit, ← and_twoPow_ne_zero v (Width.bits_lt w), ← Width.msb_eq w, bne_iff_ne, ne_eq, Decidable.not_not]

/-- The offset of XLAT (R316). -/
theorem State.toNat_xlatOffset (s : State) : (trunc s.adW (s.reg s.adW .bx + s.reg8 .al)).toNat =
    ((s.gpr.get .bx).toNat + (s.reg8 .al).toNat) % 2 ^ s.adW.bits := by
  rw [State.reg, trunc_trunc_add, toNat_trunc_add]

/-- CBW and CWDE write the accumulator's lower half, sign-extended (R330). -/
theorem convertAcc_eq (s : State) : convertAcc s =
    s.setReg s.opW .ax (truncInt s.opW (signed (if s.op32 then .w16 else .w8) (s.reg (if s.op32 then .w16 else .w8) .ax))) := by
  rw [s.setReg_truncInt_signed, convertAcc, State.opW]
  cases s.op32 <;> rfl

/-- CWD and CDQ fill (E)DX with the accumulator's sign (R331). -/
theorem convertDouble_eq (s : State) : convertDouble s =
    s.setReg s.opW .dx (if signed s.opW (s.reg s.opW .ax) < 0 then 0xFFFFFFFF else 0) := by
  have hsign := sign_eq_zero_iff (w := s.opW) (v := s.reg s.opW .ax) (trunc_trunc _ _)
  rw [convertDouble]
  by_cases h : signed s.opW (s.reg s.opW .ax) < 0
  · rw [if_pos h, if_neg fun hz => hsign.mp hz h]
  · rw [if_neg h, if_pos (hsign.mpr h)]

/-- Settles O14: LEA resolves and writes a register, XLAT, MOVZX and MOVSX read once, the others are changes of a register. -/
theorem leaAndConversionsComplete : Obligations.LeaAndConversionsComplete := by
  unfold Obligations.LeaAndConversionsComplete
  refine ⟨fun s g r m => ⟨next_withGpr rfl, fun h => traps_of_raise rfl ?raises, fun h => finish_refused (t := s) ?refuses⟩,
    fun s g e8 e => ?_⟩
  case raises => rw [lea, run_get_bind, if_pos h]
  case refuses => rw [lea, run_get_bind, h, if_neg Bool.false_ne_true, run_refuse]
  intro o half
  refine ⟨fun hr => ?xlat, ?cbw, ?cwd, loadForm_of_extend (f := id) rfl, loadForm_of_extend (f := id) rfl, ?movsxByte, ?movsxWord,
    fun _ => ⟨rfl, rfl⟩⟩
  case xlat =>
    have ho : o = .mem (s.effSeg .ds) (trunc s.adW (s.reg s.adW .bx + s.reg8 .al)).toNat := by rw [s.toNat_xlatOffset]; rfl
    rw [ho] at hr ⊢
    exact next_of_read hr (f := State.setReg8 .al) rfl rfl
  case cbw => exact next_withGpr (e := s.regEA) (congrArg _ (convertAcc_eq s))
  case cwd => exact next_withGpr (e := s.regEA) (congrArg _ (convertDouble_eq s))
  case movsxByte =>
    have h := loadForm_of_extend (s := s) (g := g) (f := sext .w8) (i := .movsxGvEb g e8) rfl
    rwa [LoadForm, ← s.setReg_truncInt_signed] at h
  case movsxWord =>
    have h := loadForm_of_extend (s := s) (g := g) (f := sext .w16) (i := .movsxGvEw g e) rfl
    rwa [LoadForm, ← s.setReg_truncInt_signed] at h

end Sys2Proof.Machine
end

section
/-! Pushes (40_data_movement.md R317, R318): the stack and memory after a list of pushes, the bytes of different pushes are different,
and each pushed value reads back. -/

namespace Sys2Proof.Machine

/-! ### Stores one after the other -/

theorem written_eq (ws : List (List Nat × Word)) (s : State) : written s ws = { s with mem := (written s ws).mem } := by
  induction ws generalizing s with
  | nil => rfl
  | cons p ws ih =>
    rw [written, ih, State.busWrite_eq]

theorem moved_written (s : State) (ws : List (List Nat × Word)) : Moved s (written s ws) :=
  ⟨s.gpr, _, s.regEA, s.regEAWrite, written_eq ws s⟩

/-- Two lists of addresses have no Bus address in common. -/
def ApartOnBus (m : Model) (as bs : List Nat) : Prop := ∀ a ∈ as, ∀ b ∈ bs, busAddr m a ≠ busAddr m b

theorem busRead_of_unstored {s t : State} {stored : Nat → Prop} {as : List Nat} (h : SameMemoryBut s t stored)
    (ha : ∀ a ∈ as, ¬ stored a) : t.busRead as = s.busRead as :=
  congrArg ofLe (List.map_congr_left fun a hm => h a (ha a hm))

/-- A store whose bytes lie in RAM at different Bus addresses, none of them stored to later, reads back. -/
theorem busRead_written {s : State} (h : s.mem.wf = true) (ws : List (List Nat × Word)) {i : Nat} {w : Width} {p : List Nat × Word}
    (hp : ws[i]? = some p) (hlen : p.1.length = w.bytes) (hnodup : (p.1.map (busAddr s.cfg.model)).Nodup)
    (hram : ∀ a ∈ p.1, s.busKind a = .ram)
    (hlater : ∀ j q, i < j → ws[j]? = some q → ApartOnBus s.cfg.model p.1 q.1) : (written s ws).busRead p.1 = trunc w p.2 := by
  induction ws generalizing s i with
  | nil => exact nomatch hp
  | cons x ws ih =>
    have hw := State.busWrite_wf x.1 (leBytes x.1.length x.2) h
    cases i with
    | zero =>
      obtain rfl : x = p := Option.some.inj hp
      have hback := State.busRead_busWrite x.1 (leBytes x.1.length x.2) h (length_leBytes _ _).symm hnodup hram
      rw [written, busRead_of_unstored (sameMemoryBut_written ws hw), State.busRead, hback, hlen, ofLe_leBytes]
      rintro a ha ⟨q, hq, hbyte⟩
      obtain ⟨j, hj⟩ := List.getElem?_of_mem hq
      rw [State.among, State.busWrite_cfg, List.mem_map] at hbyte
      obtain ⟨b, hb, heq⟩ := hbyte
      exact hlater (j + 1) q (Nat.succ_pos j) hj a ha b hb heq.symm
    | succ i =>
      refine ih hw hp (by rwa [State.busWrite_cfg]) (fun a ha => ?_) fun j q hij hq => ?_
      · rw [State.busWrite_busKind]; exact hram a ha
      · rw [State.busWrite_cfg]; exact hlater (j + 1) q (Nat.succ_lt_succ hij) hq

/-! ### The places of pushes -/

/-- The bytes the i-th push of a width writes. -/
def State.slot (s : State) (w : Width) (i : Nat) : List Nat := s.spread .ss (s.below ((i + 1) * w.bytes)) w.bytes

/-- The stack with its pointer n bytes below. -/
def State.stackBelow (s : State) (n : Nat) : Stack := { s.stack with sp := trunc s.stack.w (s.stack.sp - BitVec.ofNat 32 n) }

theorem trunc_trunc_sub (w : Width) (u v : Word) : trunc w (trunc w u - v) = trunc w (u - v) := by
  rw [BitVec.sub_eq_add_neg, trunc_trunc_add, ← BitVec.sub_eq_add_neg]

theorem sub_ofNat_sub_ofNat (v : Word) (n k : Nat) : v - BitVec.ofNat 32 n - BitVec.ofNat 32 k = v - BitVec.ofNat 32 (n + k) := by
  apply BitVec.eq_of_toNat_eq
  simp only [BitVec.toNat_sub, BitVec.toNat_ofNat]
  omega

theorem State.stackBelow_zero (s : State) : s.stackBelow 0 = s.stack := by
  have hsp : trunc s.stack.w (s.stack.sp - BitVec.ofNat 32 0) = s.stack.sp := by
    rw [BitVec.sub_zero]
    exact trunc_trunc _ _
  rw [State.stackBelow, hsp]

theorem State.stackBelow_sp_sub (s : State) (n k : Nat) :
    trunc s.stack.w ((s.stackBelow n).sp - BitVec.ofNat 32 k) = (s.stackBelow (n + k)).sp := by
  rw [State.stackBelow, trunc_trunc_sub, sub_ofNat_sub_ofNat, State.stackBelow]

/-- A stack offset, as a number below the stack's size. -/
theorem State.below_lt (s : State) (n : Nat) : s.below n < 2 ^ s.stack.w.bits := by
  rw [State.below, toNat_trunc]
  exact Nat.mod_lt _ (Nat.two_pow_pos _)

/-- The offset and the bytes pushed add up to the stack pointer modulo the stack's size. -/
theorem State.below_add (s : State) (n : Nat) : (s.below n + n) % 2 ^ s.stack.w.bits = s.stack.sp.toNat % 2 ^ s.stack.w.bits := by
  have hdvd : 2 ^ s.stack.w.bits ∣ 2 ^ 32 := Nat.pow_dvd_pow 2 s.stack.w.bits_le
  have hsum : ((s.stack.sp - BitVec.ofNat 32 n).toNat + n) % 2 ^ 32 = s.stack.sp.toNat := by
    have h := congrArg BitVec.toNat (BitVec.sub_add_cancel s.stack.sp (BitVec.ofNat 32 n))
    rwa [BitVec.toNat_add, BitVec.toNat_ofNat, Nat.add_mod_mod] at h
  rw [State.below, toNat_trunc, Nat.mod_add_mod, ← hsum, Nat.mod_mod_of_dvd _ hdvd]

/-! ### The bytes of different pushes -/

theorem mem_spread {s : State} {q : SReg} {off n a : Nat} (h : a ∈ s.spread q off n) :
    ∃ k, k < n ∧ a = if s.cfg.model.class8086 then ((s.seg q).linear ((off + k) % 0x10000)).toNat else ((s.seg q).linear off).toNat + k := by
  cases hc : s.cfg.model.class8086 with
  | true =>
    rw [State.spread, if_pos hc] at h
    exact mem_wrapAddrs h
  | false =>
    rw [State.spread, hc, if_neg Bool.false_ne_true, mem_addrs] at h
    exact ⟨a - ((s.seg q).linear off).toNat, by omega, by rw [if_neg Bool.false_ne_true]; omega⟩

/-- A Bus address keeps at least the low twenty bits (R102). -/
theorem busAddr_mod (m : Model) (a : Nat) : busAddr m a % 2 ^ 20 = a % 2 ^ 20 :=
  Nat.mod_mod_of_dvd _ (Nat.pow_dvd_pow 2 (paBits_ge m))

theorem SegReg.toNat_linear (r : SegReg) (off : Nat) : (r.linear off).toNat = (r.base.toNat + off) % 2 ^ 32 := by
  rw [SegReg.linear, BitVec.toNat_add, BitVec.toNat_ofNat, Nat.add_mod_mod]

/-- A 32-bit stack is one of the 80386 (R317), whose Bus has 32 address bits. -/
theorem State.model_of_stack {s : State} (h : s.stack.w = .w32) : s.cfg.model.class8086 = false ∧ s.cfg.model.paBits = 32 := by
  have h386 : s.cfg.model.has386 = true := by
    cases hmodel : s.cfg.model.has386 with
    | true => rfl
    | false =>
      rw [State.stack, stackWidth, hmodel, Bool.false_and, if_neg Bool.false_ne_true] at h
      exact nomatch h
  revert h386
  cases s.cfg.model <;> decide

theorem State.stack_w_ne_w8 (s : State) : s.stack.w ≠ .w8 := by
  show stackWidth s.cfg.model s.ss ≠ .w8
  unfold stackWidth
  split <;> decide

/-- The bytes of two pushes are different, as long as the pushes do not fill a stack of 64K. -/
theorem State.disjoint_slots (s : State) (w : Width) {i j : Nat} (hij : i < j) (hj : (j + 1) * w.bytes ≤ 65536) :
    ApartOnBus s.cfg.model (s.slot w i) (s.slot w j) := by
  intro a ha c hc heq
  obtain ⟨k, hk, rfl⟩ := mem_spread ha
  obtain ⟨l, hl, rfl⟩ := mem_spread hc
  have hgap : (i + 1) * w.bytes + w.bytes ≤ (j + 1) * w.bytes := by
    rw [← Nat.succ_mul]
    exact Nat.mul_le_mul_right _ (by omega)
  have hi := s.below_add ((i + 1) * w.bytes)
  rw [← s.below_add ((j + 1) * w.bytes)] at hi
  have hlt := s.below_lt ((i + 1) * w.bytes)
  have hlt' := s.below_lt ((j + 1) * w.bytes)
  have hfirst : w.bytes ≤ (i + 1) * w.bytes := Nat.le_mul_of_pos_left _ (Nat.succ_pos i)
  generalize s.below ((i + 1) * w.bytes) = o, s.below ((j + 1) * w.bytes) = o' at *
  generalize (i + 1) * w.bytes = x, (j + 1) * w.bytes = y at *
  cases hw : s.stack.w with
  | w8 => exact absurd hw s.stack_w_ne_w8
  | w16 =>
    rw [hw] at hi hlt hlt'
    replace heq := congrArg (· % 2 ^ 20) heq
    simp only [busAddr_mod, SegReg.toNat_linear] at heq
    simp only [Width.bits] at hi hlt hlt'
    split at heq <;> omega
  | w32 =>
    obtain ⟨hclass, hbits⟩ := State.model_of_stack hw
    rw [hw] at hi
    simp only [busAddr, hbits, hclass, Bool.false_eq_true, if_false, SegReg.toNat_linear, Width.bits] at heq hi
    omega

/-! ### The state after pushes -/

/-- The stores of a list of pushes, the first first. -/
def State.pushStores (s : State) (w : Width) (vs : List Word) : List (List Nat × Word) :=
  vs.mapIdx fun i v => (s.slot w i, trunc w v)

/-- Memory after a list of pushes. -/
def State.afterPushes (s : State) (w : Width) (vs : List Word) : State := written s (s.pushStores w vs)

theorem State.afterPushes_append (s : State) (w : Width) (vs : List Word) (v : Word) : s.afterPushes w (vs ++ [v]) =
    (s.afterPushes w vs).busWrite (s.slot w vs.length) (leBytes w.bytes (trunc w v)) := by
  rw [State.afterPushes, State.pushStores, List.mapIdx_concat, written_append, written, State.slot, State.length_spread]
  rfl

theorem State.moved_afterPushes (s : State) (w : Width) (vs : List Word) : Moved s (s.afterPushes w vs) := moved_written s _

/-- Pushes change no byte but their own. -/
theorem State.sameMemoryBut_afterPushes {s : State} (h : s.mem.wf = true) (w : Width) (vs : List Word) :
    SameMemoryBut s (s.afterPushes w vs) (s.pushedBytes w vs.length) := by
  refine fun a ha => sameMemoryBut_written _ h a ?_
  rintro ⟨p, hp, hbyte⟩
  obtain ⟨i, hi, rfl⟩ := List.mem_mapIdx.mp hp
  exact ha ⟨i, hi, hbyte⟩

/-- Each pushed value reads back. -/
theorem State.busRead_afterPushes {s : State} (h : s.mem.wf = true) {w : Width} {vs : List Word} (hpush : s.canPush w vs.length)
    (hfit : vs.length * w.bytes ≤ 65536) {i : Nat} (hi : i < vs.length) :
    (s.afterPushes w vs).busRead (s.slot w i) = trunc w (vs.getD i 0) := by
  have hget {j : Nat} (hj : j < vs.length) : (s.pushStores w vs)[j]? = some (s.slot w j, trunc w (vs.getD j 0)) := by
    rw [State.pushStores, List.getElem?_mapIdx, List.getElem?_eq_getElem hj, List.getD_eq_getElem?_getD, List.getElem?_eq_getElem hj]
    rfl
  rw [← trunc_trunc w (vs.getD i 0)]
  refine busRead_written h _ (hget hi) (s.length_spread _ _ _) (s.nodup_spread _ _ (by cases w <;> decide))
    (State.grants_ram (hpush i hi)) fun j q hij hq => ?_
  have hj : j < vs.length := by
    have := (List.getElem?_eq_some_iff.mp hq).1
    rwa [State.pushStores, List.length_mapIdx] at this
  rw [hget hj] at hq
  obtain rfl := Option.some.inj hq
  exact s.disjoint_slots w hij (Nat.le_trans (Nat.mul_le_mul_right _ hj) hfit)

/-- One more push. -/
theorem push_afterPushes {s : State} {w : Width} {n : Nat} {vs : List Word} (hpush : s.canPush w n) (hn : vs.length < n) (v : Word) :
    (s.stackBelow (vs.length * w.bytes)).push w v (s.afterPushes w vs) =
      .ok (s.stackBelow ((vs ++ [v]).length * w.bytes)) (s.afterPushes w (vs ++ [v])) := by
  have hsum : vs.length * w.bytes + w.bytes = (vs.length + 1) * w.bytes := (Nat.succ_mul _ _).symm
  have hsp : trunc s.stack.w ((s.stackBelow (vs.length * w.bytes)).sp - BitVec.ofNat 32 w.bytes) =
      (s.stackBelow ((vs.length + 1) * w.bytes)).sp := by rw [s.stackBelow_sp_sub, hsum]
  have hmoved := s.moved_afterPushes w vs
  have hgrant := hpush vs.length hn
  rw [s.afterPushes_append]
  generalize s.afterPushes w vs = u at hmoved
  obtain ⟨g, m, e, e', rfl⟩ := hmoved
  rw [stack_push_granted rfl (by rw [show (s.stackBelow (vs.length * w.bytes)).w = s.stack.w from rfl, hsp]; exact hgrant),
    show (s.stackBelow (vs.length * w.bytes)).w = s.stack.w from rfl, hsp, List.length_append]
  rfl

/-- A list of pushes. -/
theorem pushAll_afterPushes {s : State} {w : Width} {n : Nat} (hpush : s.canPush w n) (xs vs : List Word)
    (hn : vs.length + xs.length ≤ n) : (s.stackBelow (vs.length * w.bytes)).pushAll w xs (s.afterPushes w vs) =
      .ok (s.stackBelow ((vs ++ xs).length * w.bytes)) (s.afterPushes w (vs ++ xs)) := by
  induction xs generalizing vs with
  | nil => rw [List.append_nil]; rfl
  | cons x xs ih =>
    rw [List.length_cons] at hn
    rw [Stack.pushAll, run_bind_ok (push_afterPushes hpush (by omega) x), List.append_cons vs x xs,
      ih (vs ++ [x]) (by rw [List.length_append, List.length_singleton]; omega)]

/-- The state that a list of pushes and the commit of the stack pointer leave (R318). -/
def State.pushed (s : State) (w : Width) (vs : List Word) : State :=
  (s.afterPushes w vs).setReg s.stack.w .sp (s.stackBelow (vs.length * w.bytes)).sp

theorem pushAll_commit {s : State} {w : Width} {vs : List Word} (hpush : s.canPush w vs.length) :
    (s.stack.pushAll w vs >>= Stack.commit) s = .ok () (s.pushed w vs) := by
  have hrun := pushAll_afterPushes hpush vs [] (Nat.le_of_eq (Nat.zero_add _))
  rw [List.length_nil, Nat.zero_mul, s.stackBelow_zero] at hrun
  exact run_bind_ok hrun _

theorem State.moved_pushed (s : State) (w : Width) (vs : List Word) : Moved s (s.pushed w vs) :=
  (s.moved_afterPushes w vs).trans (moved_withGpr _ _)

/-- Pushes leave what R318 says. -/
theorem State.pushed_pushed {s : State} (h : s.mem.wf = true) {w : Width} {vs : List Word} (hpush : s.canPush w vs.length)
    (hfit : vs.length * w.bytes ≤ 65536) : Pushed w vs s (s.pushed w vs) := by
  refine ⟨?_, fun i hi => State.busRead_afterPushes h hpush hfit hi, State.sameMemoryBut_afterPushes h w vs⟩
  have hgpr : (s.afterPushes w vs).gpr = s.gpr := by rw [State.afterPushes, written_eq]
  rw [State.pushed, State.setReg_gpr, hgpr, spGpr, State.setReg_gpr, State.below, BitVec.ofNat_toNat, BitVec.setWidth_eq,
    State.stackBelow]

end Sys2Proof.Machine
end

section
/-! The stack instructions: PUSH and PUSHF, PUSHA and POPA, ENTER and LEAVE (40_data_movement.md R320 to R326, R347, R348,
45_system.md R552). -/

namespace Sys2Proof.Machine

/-! ### PUSH and PUSHF (R320 to R322, R552) -/

/-- The first push on the current stack. -/
theorem push_first {s : State} {w : Width} {n : Nat} (hpush : s.canPush w n) (hn : 0 < n) (v : Word) :
    s.stack.push w v s = .ok (s.stackBelow ([v].length * w.bytes)) (s.afterPushes w [v]) := by
  have h := push_afterPushes (vs := []) hpush hn v
  rwa [List.length_nil, Nat.zero_mul, s.stackBelow_zero] at h

theorem push_flat {s : State} {w : Width} (hpush : s.canPush w 1) (v : Word) : push w v s = .ok () (s.pushed w [v]) := by
  rw [push, run_read_bind, run_bind_ok (push_first hpush Nat.one_pos v)]
  rfl

/-- A push cuts its value to the width. -/
theorem push_trunc (w : Width) (v : Word) : push w (trunc w v) = push w v := by
  simp only [push, Stack.push, trunc_trunc]

/-- The bytes of a list of pushes, few against 64K. -/
theorem pushes_fit (w : Width) {n : Nat} (hn : n ≤ 16384) : n * w.bytes ≤ 65536 :=
  Nat.mul_le_mul hn (by cases w <;> decide : w.bytes ≤ 4)

theorem pushForm_of_push {s : State} {src : Prop} {v : Word} {i : Instr} {e : Option Word} (hm : s.mem.wf = true)
    (hi : src → exec i s = finish (push s.opW v) { s with regEA := e }) : PushForm s src v i := by
  intro hpush hsrc
  have hpushed := State.pushed_pushed (s := { s with regEA := e }) hm (vs := [v]) hpush (pushes_fit _ (Nat.le_of_ble_eq_true rfl))
  exact ⟨_, (hi hsrc).trans (finish_ok (push_flat (s := { s with regEA := e }) hpush v)), hpushed,
    ((moved_withEA s e).trans (State.moved_pushed _ _ _)).plain⟩

/-- Settles O16: every form is one push, of a register, a value read, an immediate, a selector or the image of PS. -/
theorem pushFormsComplete : Obligations.PushFormsComplete := by
  unfold Obligations.PushFormsComplete
  intro s r m iv ib hm
  have plain {v : Word} {i : Instr} (hi : exec i s = finish (push s.opW v) s) : PushForm s True v i :=
    pushForm_of_push (e := s.regEA) hm fun _ => hi
  simp only [List.forall_mem_cons]
  refine ⟨⟨plain rfl, pushForm_of_push hm fun _ => rfl, List.forall_mem_nil _⟩,
    pushForm_of_push (e := s.eaOf (s.memLoc m)) hm fun hr => ?memory, plain rfl, plain ?signed,
    ⟨plain rfl, plain rfl, plain rfl, plain rfl, plain rfl, plain rfl, List.forall_mem_nil _⟩, plain rfl⟩
  case memory =>
    have hread := readLoc_flat (s := s.captureEA (s.memLoc m)) (w := s.opW) (l := s.memLoc m) hr
    have hrun : pushE (.mem m) s = (readLoc s.opW (s.memLoc m) >>= push s.opW) (s.captureEA (s.memLoc m)) := rfl
    show finish (pushE (.mem m)) s = _
    rw [finish, hrun, run_bind_ok hread]
    rfl
  case signed =>
    rw [← push_trunc]
    rfl

/-! ### PUSHA and POPA (R325, R326) -/

/-- A value above the stack top. -/
theorem peek_flat {s : State} {n : Nat} {w : Width} (h : s.grants .ss (s.above n) w.bytes .read) :
    s.stack.peek n w.bytes s = .ok (s.stackValue w n) s := stack_peek_granted rfl h

/-- Writes to different registers, in the order of POPA and the other way round. -/
theorem setReg_popa_order (s : State) (w : Width) (ax cx dx bx bp si di : Word) :
    State.gpr (((((((s.setReg w .di di).setReg w .si si).setReg w .bp bp).setReg w .bx bx).setReg w .dx dx).setReg w .cx cx).setReg
      w .ax ax) =
    State.gpr (((((((s.setReg w .ax ax).setReg w .cx cx).setReg w .dx dx).setReg w .bx bx).setReg w .bp bp).setReg w .si si).setReg
      w .di di) := rfl

/-- The stack pointer after n bytes were popped (R319). -/
def State.popped (s : State) (n : Nat) : State := s.setReg s.stack.w .sp (s.stack.at n)

theorem State.gpr_popped (s : State) (n : Nat) : (s.popped n).gpr = popGpr s n := by
  rw [popGpr, State.above, BitVec.ofNat_toNat, BitVec.setWidth_eq]
  rfl

/-- A change of the general registers and nothing else. -/
def OnlyGpr (s t : State) : Prop := ∃ g, t = { s with gpr := g }

theorem OnlyGpr.setReg {s t : State} {w : Width} {r : Reg} {v : Word} (h : OnlyGpr s t) : OnlyGpr s (t.setReg w r v) := by
  obtain ⟨g, rfl⟩ := h
  exact ⟨_, rfl⟩

theorem OnlyGpr.plain {s t : State} (h : OnlyGpr s t) : SameMemory s t ∧ Plain s t := by
  obtain ⟨g, rfl⟩ := h
  exact ⟨fun _ => rfl, (moved_withGpr s g).plain⟩

theorem onlyGpr_popped (s : State) (n : Nat) : OnlyGpr s (s.popped n) := ⟨_, rfl⟩

theorem popAllRegs_flat {s : State} (h : s.canPop s.opW 8) : popAllRegs s = .ok ()
    (let v (i : Nat) := s.stackValue s.opW (i * s.opW.bytes)
     ((((((((s.popped (8 * s.opW.bytes)).setReg s.opW .di (v 0)).setReg s.opW .si (v 1)).setReg s.opW .bp (v 2)).setReg
      s.opW .bx (v 4)).setReg s.opW .dx (v 5)).setReg s.opW .cx (v 6)).setReg s.opW .ax (v 7))) := by
  have hpeek (i : Nat) (hi : i < 8) := peek_flat (h i hi)
  have h0 := hpeek 0 (by decide)
  have h1 := hpeek 1 (by decide)
  rw [Nat.zero_mul] at h0
  rw [Nat.one_mul] at h1
  rw [popAllRegs, run_get_bind, run_bind_ok h0, run_bind_ok h1, run_bind_ok (hpeek 2 (by decide)), run_bind_ok (hpeek 3 (by decide)),
    run_bind_ok (hpeek 4 (by decide)), run_bind_ok (hpeek 5 (by decide)), run_bind_ok (hpeek 6 (by decide)),
    run_bind_ok (hpeek 7 (by decide))]
  dsimp only
  rw [Nat.zero_mul, Nat.one_mul]
  rfl

/-- POPA restores the registers as R326 says. -/
theorem popa_next {s : State} (h : s.canPop s.opW 8) :
    Next (exec .popa s) fun t => t.gpr = popaGpr s s.opW ∧ SameMemory s t ∧ Plain s t := by
  refine ⟨_, finish_ok (popAllRegs_flat h), ?_, (onlyGpr_popped s _).setReg.setReg.setReg.setReg.setReg.setReg.setReg.plain⟩
  rw [setReg_popa_order, popaGpr]
  simp only [State.setReg_gpr, s.gpr_popped]

/-- PUSHA is a list of pushes. -/
theorem pusha_next {s : State} (hm : s.mem.wf = true) (h : s.canPush s.opW 8) :
    Next (exec .pusha s) fun t => Pushed s.opW (pushaValues s) s t ∧ Plain s t :=
  ⟨_, finish_ok (pushAll_commit (vs := pushaValues s) h),
    State.pushed_pushed hm h (pushes_fit _ (Nat.le_of_ble_eq_true rfl)), (s.moved_pushed _ _).plain⟩

/-! ### ENTER and LEAVE (R347, R348) -/

/-- The place k operands below rBP. -/
def State.frameBelow (s : State) (w : Width) (k : Nat) : Word :=
  trunc s.stack.w (s.reg s.stack.w .bp - BitVec.ofNat 32 (k * w.bytes))

theorem State.frameBelow_zero (s : State) (w : Width) : s.frameBelow w 0 = s.reg s.stack.w .bp := by
  rw [State.frameBelow, Nat.zero_mul, BitVec.sub_zero]
  exact trunc_trunc _ _

theorem State.frameBelow_succ (s : State) (w : Width) (k : Nat) :
    trunc s.stack.w (s.frameBelow w k - BitVec.ofNat 32 w.bytes) = s.frameBelow w (k + 1) := by
  rw [State.frameBelow, trunc_trunc_sub, sub_ofNat_sub_ofNat, ← Nat.succ_mul]
  rfl

/-- The bytes of the k-th frame pointer. -/
def State.frameAt (s : State) (w : Width) (k : Nat) : List Nat := s.spread .ss (frameOffset s w k) w.bytes

/-- None of the bytes is pushed over. -/
def State.Spared (s : State) (w : Width) (n : Nat) (as : List Nat) : Prop := ∀ a, s.among as a → ¬ s.pushedBytes w n a

theorem busRead_spared {s : State} (hm : s.mem.wf = true) {w : Width} {n : Nat} {vs : List Word} (hn : vs.length ≤ n) {as : List Nat}
    (h : s.Spared w n as) : (s.afterPushes w vs).busRead as = s.busRead as := by
  refine busRead_of_unstored (State.sameMemoryBut_afterPushes hm w vs) fun a ha hpushed => ?_
  obtain ⟨i, hi, hbyte⟩ := hpushed
  exact h a (List.mem_map_of_mem ha) ⟨i, by omega, hbyte⟩

/-- The frame pointers are pushed one after the other, each as memory held it before ENTER unless a push came over it. -/
theorem copyFrames_flat {s : State} (hm : s.mem.wf = true) {w : Width} {n : Nat} (hpush : s.canPush w n) (m j : Nat) (vs : List Word)
    (hn : vs.length + m ≤ n) (hread : ∀ k, k < m → s.grants .ss (frameOffset s w (j + k + 1)) w.bytes .read) :
    ∃ xs : List Word, xs.length = m ∧
      copyFrames w m (s.frameBelow w j) (s.stackBelow (vs.length * w.bytes)) (s.afterPushes w vs) =
        .ok (s.stackBelow ((vs ++ xs).length * w.bytes)) (s.afterPushes w (vs ++ xs)) ∧
      ∀ k, k < m → s.Spared w n (s.frameAt w (j + k + 1)) → xs.getD k 0 = s.busRead (s.frameAt w (j + k + 1)) := by
  induction m generalizing j vs with
  | zero => exact ⟨[], rfl, by rw [List.append_nil]; rfl, fun k hk => absurd hk (Nat.not_lt_zero k)⟩
  | succ m ih =>
    have hframe := hread 0 (Nat.succ_pos m)
    obtain ⟨xs, hlen, hrun, hval⟩ := ih (j + 1) (vs ++ [(s.afterPushes w vs).busRead (s.frameAt w (j + 1))])
      (by rw [List.length_append, List.length_singleton]; omega)
      (fun k hk => by have h := hread (k + 1) (Nat.succ_lt_succ hk); rwa [show j + (k + 1) + 1 = j + 1 + k + 1 by omega] at h)
    refine ⟨(s.afterPushes w vs).busRead (s.frameAt w (j + 1)) :: xs, congrArg Nat.succ hlen, ?_, fun k hk hsp => ?_⟩
    · have hpeek : (s.view .ss).read (s.frameBelow w (j + 1)).toNat w.bytes .read (s.afterPushes w vs) =
          .ok ((s.afterPushes w vs).busRead (s.frameAt w (j + 1))) (s.afterPushes w vs) := by
        have hmoved := s.moved_afterPushes w vs
        rw [← hmoved.grants_eq] at hframe
        have hread := view_read_granted hframe
        rwa [hmoved.view_eq, hmoved.spread_eq] at hread
      rw [copyFrames, show (s.stackBelow (vs.length * w.bytes)).w = s.stack.w from rfl, s.frameBelow_succ,
        show (s.stackBelow (vs.length * w.bytes)).view = s.view .ss from rfl, run_bind_ok hpeek,
        run_bind_ok (push_afterPushes hpush (by omega) _), List.append_cons vs _ xs, hrun]
    · cases k with
      | zero => exact busRead_spared hm (by omega) hsp
      | succ k =>
        have hplace : j + (k + 1) + 1 = j + 1 + k + 1 := by omega
        rw [hplace] at hsp ⊢
        exact hval k (Nat.lt_of_succ_lt_succ hk) hsp

theorem enterPushes_of_pos {level : Nat} (h : 0 < level) : enterPushes level = level + 1 := if_neg (Nat.ne_of_gt h)

theorem enterPushes_pos (level : Nat) : 0 < enterPushes level := by unfold enterPushes; split <;> omega

theorem enterPushes_le (level : Nat) : enterPushes level ≤ level + 1 := by unfold enterPushes; split <;> omega

/-- What ENTER pushes at a level: BP, then the frame pointers of the outer levels, then the new one. -/
structure EnterValues (s : State) (w : Width) (level : Nat) (vs : List Word) : Prop where
  length : vs.length = enterPushes level
  base   : vs.getD 0 0 = s.gpr.get .bp
  frame  : 0 < level → vs.getD level 0 = (s.stackBelow (1 * w.bytes)).sp
  copied : ∀ k, 0 < k → k < level → s.Spared w (enterPushes level) (s.frameAt w k) → vs.getD k 0 = s.busRead (s.frameAt w k)

/-- What memory holds after these pushes. -/
theorem EnterValues.memory {s : State} {w : Width} {level : Nat} {vs : List Word} (h : EnterValues s w level vs)
    (hm : s.mem.wf = true) (hpush : s.canPush w (enterPushes level)) (hlevel : level < 32) :
    (s.afterPushes w vs).busRead (s.slot w 0) = s.reg w .bp ∧
    (0 < level → (s.afterPushes w vs).busRead (s.slot w level) = trunc w (s.stackBelow (1 * w.bytes)).sp) ∧
    (∀ k, 0 < k → k < level → s.Spared w (enterPushes level) (s.frameAt w k) →
      (s.afterPushes w vs).busRead (s.slot w k) = s.busRead (s.frameAt w k)) ∧
    SameMemoryBut s (s.afterPushes w vs) (s.pushedBytes w (enterPushes level)) := by
  obtain ⟨hlen, hbase, hframe, hcopied⟩ := h
  have hle := enterPushes_le level
  have hslot (i : Nat) (hi : i < enterPushes level) : (s.afterPushes w vs).busRead (s.slot w i) = trunc w (vs.getD i 0) := by
    rw [← hlen] at hi hpush
    exact State.busRead_afterPushes hm hpush (pushes_fit w (by omega)) hi
  refine ⟨?_, fun hpos => ?_, fun k hk hkl hsp => ?_, ?_⟩
  · rw [hslot 0 (enterPushes_pos level), hbase, State.reg]
  · rw [hslot level (by rw [enterPushes_of_pos hpos]; exact Nat.lt_succ_self level), hframe hpos]
  · rw [hslot k (by rw [enterPushes_of_pos (by omega)]; omega), hcopied k hk hkl hsp]
    exact s.trunc_busRead (s.length_spread _ _ _)
  · rw [← hlen]
    exact State.sameMemoryBut_afterPushes hm w vs

/-- The pushes of ENTER after that of BP. -/
theorem enterLevels_flat {s : State} (hm : s.mem.wf = true) {w : Width} {level : Nat} (hpush : s.canPush w (enterPushes level))
    (hread : ∀ k, 0 < k → k < level → s.grants .ss (frameOffset s w k) w.bytes .read) : ∃ vs, EnterValues s w level vs ∧
      enterLevels w level (s.reg s.stack.w .bp) (s.stackBelow (1 * w.bytes)).sp (s.stackBelow (1 * w.bytes))
        (s.afterPushes w [s.gpr.get .bp]) = .ok (s.stackBelow (enterPushes level * w.bytes)) (s.afterPushes w vs) := by
  cases level with
  | zero => exact ⟨[s.gpr.get .bp], ⟨rfl, rfl, nofun, fun k _ hk => absurd hk (Nat.not_lt_zero k)⟩, rfl⟩
  | succ m =>
    have hn : enterPushes (m + 1) = m + 2 := rfl
    obtain ⟨xs, hlen, hrun, hval⟩ := copyFrames_flat hm hpush m 0 [s.gpr.get .bp] (by rw [List.length_singleton]; omega)
      (fun k hk => by rw [Nat.zero_add]; exact hread (k + 1) (Nat.succ_pos k) (by omega))
    rw [s.frameBelow_zero] at hrun
    have hlast := push_afterPushes (vs := [s.gpr.get .bp] ++ xs) hpush (by rw [List.length_append, List.length_singleton]; omega)
      (s.stackBelow (1 * w.bytes)).sp
    refine ⟨[s.gpr.get .bp] ++ xs ++ [(s.stackBelow (1 * w.bytes)).sp], ⟨?_, rfl, fun _ => ?_, fun k hk hkl hsp => ?_⟩, ?_⟩
    · simp [hlen, hn]
    · simp [List.getD_eq_getElem?_getD, hlen]
    · obtain ⟨k, rfl⟩ := Nat.exists_eq_succ_of_ne_zero (Nat.ne_of_gt hk)
      have h := hval k (by omega) (by rwa [Nat.zero_add])
      rw [Nat.zero_add] at h
      rw [← h]
      simp [List.getD_eq_getElem?_getD, List.getElem?_append, hlen, show k < m by omega]
    · have hlen' : ([s.gpr.get .bp] ++ xs ++ [(s.stackBelow (1 * w.bytes)).sp]).length = enterPushes (m + 1) := by simp [hlen, hn]
      rw [hlen'] at hlast
      exact (run_bind_ok hrun _).trans hlast

/-- The state that ENTER leaves: rBP as the loop lowers it, then the new frame pointer, then the stack pointer below the locals. -/
def State.entered (s u : State) (w : Width) (level : Nat) (iw : Half) : State :=
  (((u.setReg s.stack.w .bp (s.frameBelow w (level - 1))).setReg w .bp (s.stackBelow (1 * w.bytes)).sp).setReg s.stack.w .sp
    (trunc s.stack.w ((s.stackBelow (enterPushes level * w.bytes)).sp - iw.setWidth 32)))

theorem enter_flat {s : State} (hm : s.mem.wf = true) {ib : Byte} (iw : Half)
    (hpush : s.canPush s.opW (enterPushes (ib.toNat % 32)))
    (hread : ∀ k, 0 < k → k < ib.toNat % 32 → s.grants .ss (frameOffset s s.opW k) s.opW.bytes .read) :
    ∃ vs, EnterValues s s.opW (ib.toNat % 32) vs ∧
      enter iw ib s = .ok () (s.entered (s.afterPushes s.opW vs) s.opW (ib.toNat % 32) iw) := by
  obtain ⟨vs, hvs, hrun⟩ := enterLevels_flat hm hpush hread
  exact ⟨vs, hvs, by rw [enter, run_get_bind, run_bind_ok (push_first hpush (enterPushes_pos _) _)]; exact run_bind_ok hrun _⟩

theorem State.gpr_entered (s : State) (w : Width) (vs : List Word) (level : Nat) (iw : Half) :
    (s.entered (s.afterPushes w vs) w level iw).gpr =
      State.gpr (State.setReg s.stack.w .sp (BitVec.ofNat 32 (s.below (enterPushes level * w.bytes)) - iw.setWidth 32)
        (State.setReg w .bp (BitVec.ofNat 32 (s.below w.bytes))
          (s.setReg s.stack.w .bp (BitVec.ofNat 32 (frameOffset s w (level - 1)))))) := by
  have hgpr : (s.afterPushes w vs).gpr = s.gpr := by rw [State.afterPushes, written_eq]
  have hword (v : Word) : BitVec.ofNat 32 v.toNat = v := by rw [BitVec.ofNat_toNat, BitVec.setWidth_eq]
  rw [State.entered, State.setReg_trunc, Nat.one_mul]
  simp only [State.setReg_gpr, hgpr, State.below, frameOffset, hword]
  rfl

theorem State.moved_entered (s : State) (w : Width) (vs : List Word) (level : Nat) (iw : Half) :
    Moved s (s.entered (s.afterPushes w vs) w level iw) :=
  (s.moved_afterPushes w vs).trans ((moved_withGpr _ _).trans ((moved_withGpr _ _).trans (moved_withGpr _ _)))

/-- The stack as LEAVE takes it: its pointer at rBP. -/
def State.stackAtBp (s : State) : Stack := { s.stack with sp := s.reg s.stack.w .bp }

theorem State.stackAtBp_at_zero (s : State) : s.stackAtBp.at 0 = s.frameBelow s.opW 0 := by
  rw [s.frameBelow_zero, Stack.at, BitVec.add_zero]
  exact trunc_trunc _ _

/-- LEAVE reads the frame pointer at rBP and drops the frame. -/
theorem leave_next {s : State} (h : s.grants .ss (frameOffset s s.opW 0) s.opW.bytes .read) : Next (exec .leave s) fun t =>
    t.gpr = State.gpr (State.setReg s.opW .bp (s.busRead (s.frameAt s.opW 0))
      (s.setReg s.stack.w .sp (s.reg s.stack.w .bp + BitVec.ofNat 32 s.opW.bytes))) ∧ SameMemory s t ∧ Plain s t := by
  have hpeek := stack_peek_granted (s := s) (k := s.stackAtBp) (off := 0) rfl (by rw [s.stackAtBp_at_zero]; exact h)
  rw [s.stackAtBp_at_zero] at hpeek
  have honly : OnlyGpr s (s.setReg s.stack.w .sp (s.stackAtBp.at s.opW.bytes)) := ⟨_, rfl⟩
  refine ⟨_, finish_ok ((run_get_bind _ s).trans (run_bind_ok hpeek _)), ?_, honly.setReg.plain⟩
  have hdrop : s.setReg s.stack.w .sp (s.stackAtBp.at s.opW.bytes) =
      s.setReg s.stack.w .sp (s.reg s.stack.w .bp + BitVec.ofNat 32 s.opW.bytes) := s.setReg_trunc _ _ _
  rw [← hdrop]
  rfl

/-- Settles O18: PUSHA and ENTER are lists of pushes, POPA and LEAVE reads of the stack followed by writes of registers. -/
theorem stackFramesComplete : Obligations.StackFramesComplete := by
  unfold Obligations.StackFramesComplete
  refine ⟨fun s hm => ⟨pusha_next hm, popa_next⟩, fun s iw ib hm => ?_⟩
  intro w level n frame
  refine ⟨fun hpush hread => ?_, leave_next⟩
  obtain ⟨vs, hvs, hrun⟩ := enter_flat hm iw hpush hread
  obtain ⟨hbase, hframe, hcopied, hmem⟩ := hvs.memory hm hpush (Nat.mod_lt _ (by decide))
  have hsp : frame = (s.stackBelow (1 * w.bytes)).sp := by
    rw [Nat.one_mul]
    exact (BitVec.ofNat_toNat 32 _).trans (BitVec.setWidth_eq _)
  rw [State.slot, Nat.zero_add, Nat.one_mul] at hbase
  refine ⟨_, finish_ok hrun, s.gpr_entered w vs level iw, hbase, fun h => ?_, hcopied, hmem, (s.moved_entered w vs level iw).plain⟩
  rw [hsp, show n = level + 1 from enterPushes_of_pos h]
  exact hframe h

end Sys2Proof.Machine
end

section
/-! Loads of segment registers while paging is off (21_segmentation.md R141, R149 to R151, R154, R155, R160): the verdict on a selector
and what the load does. -/

namespace Sys2Proof.Machine

/-! ### Selectors (R40, R149, R163) -/

/-- A selector with its low k bits cleared. -/
theorem toNat_clearLow (sel : Half) (k : Nat) : (sel &&& BitVec.allOnes 16 <<< k).toNat = sel.toNat / 2 ^ k * 2 ^ k := by
  have hshift : sel &&& BitVec.allOnes 16 <<< k = sel >>> k <<< k := by
    apply BitVec.eq_of_getLsbD_eq
    intro i hi
    simp only [BitVec.getLsbD_and, BitVec.getLsbD_shiftLeft, BitVec.getLsbD_allOnes, BitVec.getLsbD_ushiftRight]
    by_cases hk : i < k
    · simp [hk]
    · simp [hk, hi, show i - k < 16 by omega, show k + (i - k) = i by omega]
  rw [hshift, BitVec.toNat_shiftLeft, BitVec.toNat_ushiftRight, Nat.shiftLeft_eq, Nat.shiftRight_eq_div_pow]
  exact Nat.mod_eq_of_lt (Nat.lt_of_le_of_lt (Nat.div_mul_le_self _ _) sel.isLt)

theorem toNat_tableOffset (sel : Half) : (sel &&& 0xFFF8).toNat = 8 * (sel.toNat / 8) :=
  (toNat_clearLow sel 3).trans (Nat.mul_comm _ _)

/-- The four null selectors (R151). -/
theorem selNull_eq (sel : Half) : selNull sel = decide (sel.toNat < 4) := by
  have hmask : (sel &&& 0xFFFC).toNat = sel.toNat / 4 * 4 := toNat_clearLow sel 2
  rw [selNull, Bool.eq_iff_iff, beq_iff_eq, decide_eq_true_iff, ← BitVec.toNat_inj, hmask]
  show sel.toNat / 4 * 4 = 0 ↔ _
  omega

theorem selErr_zero (sel : Half) : selErr 0 sel = selCode sel := BitVec.or_zero

/-- `FetchDesc` finds a descriptor exactly where the selector lies in its table (R149). -/
theorem inTable_iff (s : State) (sel : Half) : s.inTable sel = true ↔ ¬ (sel &&& 0xFFF8).toNat + 7 > (s.table sel).2 := by
  rw [State.inTable, toNat_tableOffset, decide_eq_true_iff, Nat.not_lt, State.table, selTI]
  cases sel.getLsbD 2 <;> rfl

/-! ### Reading a descriptor (R149) -/

section
variable {s u v : State}

theorem Accessing.fields_eq (h : Accessing s u v) : v.cfg = s.cfg ∧ v.cpl = s.cpl ∧ v.seg = s.seg ∧ v.table = s.table ∧
    v.descAddr = s.descAddr ∧ v.protectedMode = s.protectedMode := by
  obtain ⟨m, e, w, b, rfl, rfl, -⟩ := h
  exact ⟨rfl, rfl, rfl, rfl, rfl, rfl⟩

theorem Accessing.run_sysRead (h : Accessing s u v) (hp : s.pagingOn = false) (la : Word) (n : Nat) :
    ∃ t, sysRead la n v = .ok (u.busRead (addrs la.toNat n)) t ∧ Accessing s u t := by
  obtain ⟨t, hfetch, ht⟩ := h.fetch (busOps v.cfg.model (addrs la.toNat n))
  rw [flatten_busOps] at hfetch
  refine ⟨t, ?_, ht⟩
  rw [sysRead, memRead, run_bind_ok (physOf_flat (h.pagingOn_eq.trans hp) la n false false), run_bind_ok hfetch]
  rfl

theorem Accessing.run_sysWrite (h : Accessing s u v) (hp : s.pagingOn = false) (la : Word) (n : Nat) (x : Word) :
    ∃ t, sysWrite la n x v = .ok () t ∧ Accessing s (u.busWrite (addrs la.toNat n) (leBytes n x)) t := by
  have hstore := h.busStore (busOps v.cfg.model (addrs la.toNat n)) (leBytes n x)
  rw [flatten_busOps] at hstore
  exact ⟨_, memWrite_flat (h.pagingOn_eq.trans hp) la n x false, hstore⟩

/-- The four words of a descriptor are read one after the other. -/
theorem Accessing.run_readDesc (h : Accessing s s v) (hp : s.pagingOn = false) (a : Word) :
    ∃ t, readDesc a v = .ok (s.descAt a) t ∧ Accessing s s t := by
  obtain ⟨t₀, hrun₀, h₀⟩ := h.run_sysRead hp a 2
  obtain ⟨t₁, hrun₁, h₁⟩ := h₀.run_sysRead hp (a + 2) 2
  obtain ⟨t₂, hrun₂, h₂⟩ := h₁.run_sysRead hp (a + 4) 2
  obtain ⟨t₃, hrun₃, h₃⟩ := h₂.run_sysRead hp (a + 6) 2
  obtain ⟨hcfg, -⟩ := h₂.fields_eq
  have hfirst : a + 0 = a := BitVec.add_zero a
  rw [readDesc, run_bind_ok hrun₀, run_bind_ok hrun₁, run_bind_ok hrun₂, run_read_bind, hcfg]
  simp only [State.descAt, hfirst]
  cases s.cfg.model.has386 with
  | true => exact ⟨t₃, run_bind_ok hrun₃ _, h₃⟩
  | false => exact ⟨t₂, rfl, h₂⟩

/-- What the tests of a selector and of its descriptor by a rule come to. -/
def State.tested {α : Type} (s : State) (sel : Half) (rule : Desc → Except SelFault α) : Except SelFault (Desc × α) :=
  if sel.toNat < 4 then .error .null
  else if s.inTable sel then (rule (s.named sel)).map fun a => (s.named sel, a)
  else .error .limit

theorem State.tested_ok {α : Type} {s : State} {sel : Half} {rule : Desc → Except SelFault α} {d : Desc} {a : α}
    (h : s.tested sel rule = .ok (d, a)) : ¬ sel.toNat < 4 ∧ d = s.named sel := by
  unfold State.tested at h
  split at h
  · exact nomatch h
  split at h
  · refine ⟨‹_›, ?_⟩
    cases hrule : rule (s.named sel) with
    | error f => rw [hrule] at h; exact nomatch h
    | ok b => rw [hrule] at h; exact (congrArg Prod.fst (Except.ok.inj h)).symm
  · exact nomatch h

theorem Accessing.run_testSel {α : Type} (h : Accessing s s v) (hp : s.pagingOn = false) (sel : Half) (rule : Desc → Except SelFault α) :
    ∃ t, testSel sel rule v = .ok (s.tested sel rule) t ∧ Accessing s s t := by
  obtain ⟨-, -, -, htable, haddr, -⟩ := h.fields_eq
  rw [testSel, State.tested, selNull_eq]
  by_cases hnull : sel.toNat < 4
  · rw [if_pos (decide_eq_true hnull), if_pos hnull]
    exact ⟨v, rfl, h⟩
  rw [if_neg (by simpa using hnull), if_neg hnull, fetchDesc, bind_assoc, run_get_bind, htable]
  by_cases hin : s.inTable sel = true
  · obtain ⟨t, hrun, ht⟩ := h.run_readDesc hp (v.descAddr sel)
    rw [if_neg ((inTable_iff s sel).mp hin), if_pos hin]
    refine ⟨t, ?_, ht⟩
    rw [bind_assoc, run_bind_ok hrun, haddr]
    rfl
  · rw [if_pos (Decidable.not_not.mp fun hn => hin ((inTable_iff s sel).mpr hn)), if_neg hin]
    exact ⟨v, rfl, h⟩

/-! ### The verdict on a selector (R151, R154, R155) -/

/-- The record that a tested descriptor gives, or the exception of its failure. -/
def loadVerdict (x : SelFault → Exn) (sel : Half) : Except SelFault (Desc × Unit) → Except Exn SegReg
  | .error f => .error (x f)
  | .ok (d, _) => .ok (d.record sel)

theorem loadVerdict_ite (x : SelFault → Exn) (sel : Half) (c : Prop) [Decidable c] (a b : Except SelFault (Desc × Unit)) :
    loadVerdict x sel (if c then a else b) = if c then loadVerdict x sel a else loadVerdict x sel b := apply_ite _ c a b

theorem map_ite {α β : Type} (f : α → β) (c : Prop) [Decidable c] (a b : Except SelFault α) :
    (if c then a else b).map f = if c then a.map f else b.map f := apply_ite _ c a b

theorem stackVerdict_eq (s : State) (lvl : BitVec 2) (sel : Half) : stackVerdict s lvl sel =
    loadVerdict (SelFault.ssLoad s.cfg.loadFaults 0 sel) sel (s.tested sel (ruleSs lvl sel)) := by
  have hpriv (d : Desc) : (d.dpl != lvl || selRPL sel != lvl) = !(d.dpl == lvl && selRPL sel == lvl) := (Bool.not_and _ _).symm
  simp only [stackVerdict, State.tested, hpriv, ruleSs, loadVerdict_ite, map_ite, ← selErr_zero, decide_eq_true_iff]
  cases s.cfg.loadFaults <;> cases s.inTable sel <;> rfl

theorem dataVerdict_eq (s : State) {sel : Half} (h : ¬ sel.toNat < 4) : dataVerdict s sel =
    loadVerdict (SelFault.gpNp 0 sel) sel (s.tested sel (ruleData s.cpl sel)) := by
  have hconf (d : Desc) : (!d.isCode || !d.conforming) = !(d.isCode && d.conforming) := (Bool.not_and _ _).symm
  simp only [dataVerdict, State.tested, hconf, ruleData, if_neg h, loadVerdict_ite, map_ite, ← selErr_zero]
  cases s.inTable sel <;> rfl

/-! ### The load (R141, R150, R160) -/

/-- The store of the accessed bit by a load (R160). -/
def State.markStore (s : State) (sel : Half) : List (List Nat × Word) :=
  if s.protectedMode = true ∧ ¬ sel.toNat < 4 ∧ (s.named sel).w2.getLsbD 8 = false then
    [(addrs ((s.named sel).addr + 4).toNat 2, ((s.named sel).w2 ||| 0x0100).setWidth 32)]
  else []

theorem accessed_of_sameMemory {s t : State} {sel : Half} (hm : s.mem.wf = true) (h : SameMemory (written s (s.markStore sel)) t) :
    Accessed s sel t := by
  unfold State.markStore at h
  unfold Accessed
  split at h
  · rw [if_pos ‹_›]
    exact stored_of_sameMemory hm h
  · rw [if_neg ‹_›]
    exact h

theorem Accessing.run_markAccessed (h : Accessing s s v) (hp : s.pagingOn = false) (hprot : s.protectedMode = true) {sel : Half}
    (hsel : ¬ sel.toNat < 4) :
    ∃ t, markAccessed (s.named sel) v = .ok () t ∧ Accessing s (written s (s.markStore sel)) t := by
  rw [markAccessed, State.markStore]
  cases hbit : (s.named sel).w2.getLsbD 8 with
  | true => exact ⟨v, rfl, by rwa [if_neg fun hno => Bool.noConfusion hno.2.2]⟩
  | false =>
    rw [if_pos ⟨hprot, hsel, rfl⟩]
    exact h.run_sysWrite hp _ 2 _

/-- A load answers as its verdict says: with the new record, or with the exception and nothing changed. -/
def Loads (s : State) (r : SReg) (sel : Half) : EStateM.Result Stop State Unit → Except Exn SegReg → Prop
  | .ok _ t, .ok x => ∃ u, Accessing s (written s (s.markStore sel)) u ∧ t = u.setSeg r x
  | .error e t, .error x => e = .exn x ∧ ∃ u, Accessing s s u ∧ t = u.setNoReadWrite
  | .ok _ _, .error _ | .error _ _, .ok _ => False

/-- A load by a descriptor that a rule must accept, as `loadSs` and `loadData` do it. -/
def loadByRule (r : SReg) (sel : Half) (x : SelFault → Exn) (rule : Desc → Except SelFault Unit) : M Unit := do
  let p ← orRaise x (← testSel sel rule)
  markAccessed p.1
  modify (State.setSeg r (p.1.record sel))

theorem loadSs_run (sel : Half) (v : State) :
    loadSs sel v = loadByRule .ss sel (SelFault.ssLoad v.cfg.loadFaults 0 sel) (ruleSs v.cpl sel) v := rfl

theorem loadData_run {r : SReg} {sel : Half} (h : selNull sel = false) (v : State) :
    loadData r sel v = loadByRule r sel (SelFault.gpNp 0 sel) (ruleData v.cpl sel) v := by
  rw [loadData, run_get_bind, h]
  rfl

theorem Accessing.loads_byRule (h : Accessing s s v) (hp : s.pagingOn = false) (hprot : s.protectedMode = true) (r : SReg)
    (sel : Half) (x : SelFault → Exn) (rule : Desc → Except SelFault Unit) :
    Loads s r sel (loadByRule r sel x rule v) (loadVerdict x sel (s.tested sel rule)) := by
  obtain ⟨t, hrun, ht⟩ := h.run_testSel hp sel rule
  rw [loadByRule, run_bind_ok hrun]
  rcases htest : s.tested sel rule with f | ⟨d, y⟩
  · exact ⟨rfl, t, ht, rfl⟩
  · obtain ⟨hsel, rfl⟩ := State.tested_ok htest
    obtain ⟨u, hmark, hu⟩ := ht.run_markAccessed hp hprot hsel
    rw [orRaise, run_pure_bind, run_bind_ok hmark]
    exact ⟨u, hu, rfl⟩

/-- The base of a real-mode load (R141). -/
theorem realBase_eq (sel : Half) : sel.setWidth 32 <<< 4 = BitVec.ofNat 32 (sel.toNat * 16) := by
  apply BitVec.eq_of_toNat_eq
  rw [BitVec.toNat_shiftLeft, BitVec.toNat_setWidth_of_le (by decide), Nat.shiftLeft_eq, BitVec.toNat_ofNat]

/-- A load that marks nothing. -/
theorem Accessing.loads_unmarked (h : Accessing s s v) {r : SReg} {sel : Half} (hmark : s.markStore sel = []) (x : SegReg) :
    Loads s r sel ((modify (State.setSeg r x) : M Unit) v) (.ok x) := by
  refine ⟨v, ?_, rfl⟩
  rw [hmark]
  exact h

/-- A load of a register other than CS answers as the verdict of R141, R151, R154 and R155 says. -/
theorem Accessing.loads_loadSeg (h : Accessing s s v) (hp : s.pagingOn = false) {r : SReg} (hr : r ≠ .cs) (sel : Half) :
    Loads s r sel (loadSeg r sel v) (segVerdict s r sel) := by
  obtain ⟨hcfg, hcpl, hseg, -, -, hprot⟩ := h.fields_eq
  rw [loadSeg, run_get_bind, segVerdict, hprot]
  cases hmode : s.protectedMode with
  | false =>
    have hmark : s.markStore sel = [] := if_neg fun hno => Bool.noConfusion (hmode.symm.trans hno.1)
    have hreal : v.realLoad r sel = v.setSeg r { s.seg r with sel := sel, base := BitVec.ofNat 32 (sel.toNat * 16), addrDesc := none } := by
      simp only [State.realLoad, if_neg hr, SegReg.realLoad, hseg, realBase_eq]
    have hload := h.loads_unmarked (r := r) hmark { s.seg r with sel := sel, base := BitVec.ofNat 32 (sel.toNat * 16), addrDesc := none }
    rw [run_modify, ← hreal] at hload
    exact hload
  | true =>
    simp only [Bool.not_true, Bool.false_eq_true, if_false]
    by_cases hss : r = .ss
    · subst hss
      rw [if_pos rfl, if_pos rfl, loadSs_run, stackVerdict_eq, hcfg, hcpl]
      exact h.loads_byRule hp hmode .ss sel _ _
    · rw [if_neg hss, if_neg hss]
      by_cases hnull : sel.toNat < 4
      · have hmark : s.markStore sel = [] := if_neg fun hno => hno.2.1 hnull
        rw [if_pos (decide_eq_true hnull), loadData, run_get_bind, selNull_eq, if_pos (decide_eq_true hnull), hseg]
        exact h.loads_unmarked hmark _
      · rw [if_neg (by simpa using hnull), loadData_run (by rw [selNull_eq]; exact decide_eq_false hnull), dataVerdict_eq s hnull, hcpl]
        exact h.loads_byRule hp hmode r sel _ _

/-! ### Instructions that load a segment register (R161, R682) -/

theorem State.seg_setSeg (s : State) (r q : SReg) (x : SegReg) : (s.setSeg r x).seg q = if q = r then x else s.seg q := by
  cases r <;> cases q <;> rfl

theorem State.seg_setSeg_same (s : State) (r : SReg) (x : SegReg) : (s.setSeg r x).seg r = x := by rw [s.seg_setSeg, if_pos rfl]

theorem State.seg_setSeg_other (s : State) {r q : SReg} (h : q ≠ r) (x : SegReg) : (s.setSeg r x).seg q = s.seg q := by
  rw [s.seg_setSeg, if_neg h]

end

/-- The end of an instruction that loads a segment register: registers are written, and a load that holds interrupts off notes it. -/
def State.afterLoad (f : Gpr → Gpr) (b : Bool) (t : State) : State :=
  { t with gpr := f t.gpr, opFlags := { t.opFlags with noIntr := t.opFlags.noIntr || b }, noTrap := t.noTrap || b }

theorem segLoadForm_of_load {s v : State} {r : SReg} {sel : Half} {holds : Bool} {f : Gpr → Gpr} {g : Gpr} {i : Instr} {post : M Unit}
    (hm : s.mem.wf = true) (hp : s.pagingOn = false) (hr : r ≠ .cs) (h : Accessing s s v)
    (hi : exec i s = finish (loadSeg r sel >>= fun _ => post) v)
    (hpost : ∀ t, post t = .ok () (t.afterLoad f (holds && r == .ss))) (hg : f s.gpr = g) : SegLoadForm s r sel holds g i := by
  subst hg
  have hload := h.loads_loadSeg hp hr sel
  unfold SegLoadForm
  rcases hverdict : segVerdict s r sel with x | x <;> rcases hrun : loadSeg r sel v with ⟨⟨⟩, t⟩ | ⟨e, t⟩ <;>
    rw [hverdict, hrun] at hload
  · exact hload.elim
  · obtain ⟨rfl, u, ⟨m, e, w, l, hs, rfl, -⟩, rfl⟩ := hload
    obtain rfl : s.mem = m := congrArg State.mem hs
    exact ⟨_, hi.trans (finish_exn (run_bind_error hrun _)), rfl, rfl, rfl, rfl, rfl,
      ⟨rfl, rfl, rfl, rfl, rfl, rfl, rfl, rfl, rfl, rfl, rfl, rfl, rfl, rfl, rfl, rfl, rfl, rfl, rfl, rfl⟩,
      ⟨rfl, rfl, rfl, rfl, rfl, rfl, rfl⟩, rfl, rfl⟩
  · obtain ⟨u, ⟨m, e, w, l, hs, rfl, hl⟩, rfl⟩ := hload
    refine ⟨_, hi.trans (finish_ok ((run_bind_ok hrun _).trans (hpost _))), State.seg_setSeg_same _ r x, ?gpr, ?memory,
      ⟨fun q hq => State.seg_setSeg_other _ hq x, ?cpl, ?system, ?halted, ?ports, fun hd => ?devices⟩, ⟨fun g => ?flags, ?direct⟩,
      ?pc, ?noIntr, ?noTrap⟩
    case memory =>
      refine accessed_of_sameMemory hm ?_
      rw [hs]
      exact State.setSeg_busByte _ r x
    case system => simp [SameSystem, State.afterLoad]
    case devices => simpa [State.afterLoad] using hl hd
    case flags => exact State.setSeg_flag _ r x g
    case direct => simp [SameDirect, State.afterLoad]
    all_goals simp [State.afterLoad]
  · exact hload.elim

end Sys2Proof.Machine
end

section
/-! MOV to and from segment registers, the stores of 16-bit registers and the far-pointer loads (40_data_movement.md R312, R315,
45_system.md R566, R568, R570). -/

namespace Sys2Proof.Machine

/-! ### Stores of a 16-bit register (R312, R566, R570) -/

/-- Sixteen bits fit every width of an operand but a byte's. -/
theorem half_trunc (w : Width) (hw : w ≠ .w8) (v : Half) : trunc w (v.setWidth 32) = v.setWidth 32 := by
  have hv : (v.setWidth 32).toNat < 2 ^ 16 := by
    rw [BitVec.toNat_setWidth_of_le (by decide)]
    exact v.isLt
  apply BitVec.eq_of_toNat_eq
  rw [toNat_trunc]
  cases w with
  | w8 => exact absurd rfl hw
  | w16 => exact Nat.mod_eq_of_lt hv
  | w32 => exact Nat.mod_eq_of_lt (BitVec.isLt _)

theorem State.opW_ne_w8 (s : State) : s.opW ≠ .w8 := by
  unfold State.opW
  cases s.op32 <;> decide

theorem halfForm_of_store {s : State} {e : RM} {v : Half} {i : Instr} (hm : s.mem.wf = true)
    (hi : exec i s = finish (storeHalfAt (s.rmLoc e) v) (s.captureEA (s.rmLoc e))) : HalfForm s e v i := by
  intro hw
  cases e with
  | reg r =>
    have hmov := movForm_of_write (src := True) (w := s.opW) (dst := .reg r) (v := v.setWidth 32) (e := none) hm trivial fun _ => hi
    rw [half_trunc _ s.opW_ne_w8] at hmov
    exact hmov trivial trivial
  | mem m =>
    have hmov := movForm_of_write (src := True) (w := .w16) (dst := s.memLoc m) (v := v.setWidth 32) (e := s.eaOf (s.memLoc m)) hm
      trivial fun _ => hi
    rw [half_trunc _ (by decide)] at hmov
    exact hmov hw trivial

/-- The run of SLDT and STR. -/
theorem storeSel_run (s : State) (e : RM) (sel : State → Half) : storeSel e sel s =
    (ensure s.protectedMode .ud >>= fun _ => get >>= fun t => storeHalfAt (s.rmLoc e) (sel t)) (s.captureEA (s.rmLoc e)) := rfl

/-- SLDT and STR in protected mode store their register. -/
theorem halfForm_of_storeSel {s : State} (hm : s.mem.wf = true) (hprot : s.protectedMode = true) {e : RM} {sel : State → Half}
    {i : Instr} (hi : exec i s = finish (storeSel e sel) s) : HalfForm s e (sel (s.captureEA (s.rmLoc e))) i := by
  refine halfForm_of_store hm ?_
  rw [hi, finish, storeSel_run, ensure_of hprot]
  rfl

/-- SLDT and STR do not exist in real mode. -/
theorem traps_of_storeSel {s : State} (hprot : s.protectedMode = false) {e : RM} {sel : State → Half} {i : Instr}
    (hi : exec i s = finish (storeSel e sel) s) : Traps s .ud i := by
  have hrun : storeSel e sel s = .error (.exn .ud) (s.captureEA (s.rmLoc e)).setNoReadWrite := by
    rw [storeSel_run, hprot]
    rfl
  exact ⟨_, hi.trans (finish_exn hrun), rfl, rfl, rfl, rfl, rfl,
    ⟨rfl, rfl, rfl, rfl, rfl, rfl, rfl, rfl, rfl, rfl, rfl, rfl, rfl, rfl, rfl, rfl, rfl, rfl, rfl, rfl⟩,
    ⟨rfl, rfl, rfl, rfl, rfl, rfl, rfl⟩, rfl, rfl⟩

/-! ### MOV to a segment register and the far-pointer loads (R312, R315) -/

/-- What a load of SS by MOV or POP holds off (R682). -/
theorem ssShadow_run (r : SReg) (t : State) : ssShadow r t = .ok () (t.afterLoad id (true && r == .ss)) := by
  rw [ssShadow, Bool.true_and]
  cases r == SReg.ss with
  | true =>
    have hnoIntr : (t.opFlags.noIntr || true) = true := Bool.or_true _
    have hnoTrap : (t.noTrap || true) = true := Bool.or_true _
    rw [State.afterLoad, hnoIntr, hnoTrap]
    rfl
  | false => simp only [State.afterLoad, Bool.or_false]; rfl

theorem segLoadForm_movSw {s : State} (hm : s.mem.wf = true) (hp : s.pagingOn = false) {r : SReg} (hr : r ≠ .cs) {e : RM}
    (hread : s.canRead .w16 (s.rmLoc e)) :
    SegLoadForm s r ((s.valueAt .w16 (s.rmLoc e)).setWidth 16) true s.gpr (.movSwEw r e) := by
  refine segLoadForm_of_load (f := id) hm hp hr ((Accessing.refl s).captureEA (s.rmLoc e)) ?_ (ssShadow_run r) rfl
  have hloc := readLoc_flat (s := s.captureEA (s.rmLoc e)) (w := .w16) (l := s.rmLoc e) hread
  have hrun : moveToSeg r e s = (readLoc .w16 (s.rmLoc e) >>= fun v => loadSeg r (v.setWidth 16) >>= fun _ => ssShadow r)
      (s.captureEA (s.rmLoc e)) := rfl
  show finish (moveToSeg r e) s = _
  rw [finish, hrun, run_bind_ok hloc]
  rfl

theorem readFar_flat {s : State} {m : MemOp} (h : s.canReadFar m) :
    readFar m s = .ok (s.farOffset m, s.farSelector m) (s.captureEA (s.memLoc m)) := by
  obtain ⟨hoff, hsel⟩ := h
  have hrun : readFar m s = (segRead (s.resolve m).1 (s.resolve m).2 s.opW.bytes >>= fun o =>
      segRead (s.resolve m).1 ((s.resolve m).2 + s.opW.bytes) 2 >>= fun sel => pure (o, sel.setWidth 16))
      (s.captureEA (s.memLoc m)) := rfl
  rw [hrun, run_bind_ok (segRead_granted (s := s.captureEA (s.memLoc m)) hoff),
    run_bind_ok (segRead_granted (s := s.captureEA (s.memLoc m)) hsel)]
  rfl

theorem segLoadForm_loadFar {s : State} (hm : s.mem.wf = true) (hp : s.pagingOn = false) {m : MemOp} (hfar : s.canReadFar m)
    {r : SReg} (hr : r ≠ .cs) {g : Reg} {i : Instr} (hi : exec i s = finish (loadFar r g m) s) :
    SegLoadForm s r (s.farSelector m) false (s.setReg s.opW g (s.farOffset m)).gpr i := by
  refine segLoadForm_of_load (f := fun p => State.gpr (State.setReg s.opW g (s.farOffset m) { s with gpr := p })) hm hp hr
    ((Accessing.refl s).captureEA (s.memLoc m)) ?_ (post := modify (State.setReg s.opW g (s.farOffset m))) ?_ rfl
  · rw [hi, finish, loadFar, run_get_bind, run_bind_ok (readFar_flat hfar)]
    rfl
  · intro t
    simp only [Bool.false_and, State.afterLoad, Bool.or_false]
    rfl

/-- Settles O15: each load answers by its verdict, each store is one write, and SLDT and STR first ask for protected mode. -/
theorem segmentLoadsComplete : Obligations.SegmentLoadsComplete := by
  unfold Obligations.SegmentLoadsComplete
  refine ⟨fun s r e hm hp => ⟨fun hr => segLoadForm_movSw hm hp hr, halfForm_of_store hm rfl, halfForm_of_store hm rfl,
    fun hprot => halfForm_of_storeSel (sel := fun t => t.ldtr.sel) hm hprot rfl,
    fun hprot => halfForm_of_storeSel (sel := fun t => t.tr.sel) hm hprot rfl,
    fun hreal => ⟨traps_of_storeSel hreal rfl, traps_of_storeSel hreal rfl⟩⟩, fun s g m hm hp hfar => ?_⟩
  simp only [List.forall_mem_cons]
  exact ⟨segLoadForm_loadFar hm hp hfar (by decide) rfl, segLoadForm_loadFar hm hp hfar (by decide) rfl,
    segLoadForm_loadFar hm hp hfar (by decide) rfl, segLoadForm_loadFar hm hp hfar (by decide) rfl,
    segLoadForm_loadFar hm hp hfar (by decide) rfl, List.forall_mem_nil _⟩

end Sys2Proof.Machine
end

section
/-! POP (40_data_movement.md R323, R324). -/

namespace Sys2Proof.Machine

/-! ### POP to a register or memory (R323) -/

theorem State.canPop.top {s : State} {w : Width} (h : s.canPop w 1) : s.grants .ss (s.above 0) w.bytes .read := by
  have htop := h 0 Nat.one_pos
  rwa [Nat.zero_mul] at htop

theorem State.trunc_stackValue (s : State) (w : Width) (n : Nat) : trunc w (s.stackValue w n) = s.stackValue w n :=
  s.trunc_busRead (s.length_spread _ _ _)

/-- A pop moves the stack pointer and nothing else. -/
theorem State.popped_eq (s : State) (n : Nat) : s.popped n = { s with gpr := popGpr s n } := by
  rw [← s.gpr_popped]
  rfl

theorem popReg_flat {s : State} (h : s.canPop s.opW 1) (r : Reg) :
    popReg r s = .ok () ((s.popped s.opW.bytes).setReg s.opW r (s.stackValue s.opW 0)) := by
  rw [popReg, run_get_bind, run_bind_ok (pop_granted h.top)]
  rfl

/-- POP of a register, with an operand address noted before. -/
theorem popReg_next {s : State} (h : s.canPop s.opW 1) {r : Reg} {i : Instr} {e : Option Word}
    (hi : exec i s = finish (popReg r) { s with regEA := e }) : Next (exec i s) fun t =>
      t.gpr = ((s.popped s.opW.bytes).setReg s.opW r (s.stackValue s.opW 0)).gpr ∧ SameMemory s t ∧ Plain s t := by
  refine ⟨_, hi.trans (finish_ok (popReg_flat (s := { s with regEA := e }) h r)), rfl, fun _ => rfl, ?_⟩
  exact ((moved_withEA s e).trans ((moved_withGpr _ _).trans (moved_withGpr _ _))).plain

/-- The memory operand of POP is addressed with the stack pointer already moved. -/
theorem popE_mem_flat {s : State} {m : MemOp} (h : s.canPop s.opW 1) (hw : s.canWrite s.opW ((s.popped s.opW.bytes).memLoc m)) :
    popE (.mem m) s = .ok () (((s.captureEA ((s.popped s.opW.bytes).memLoc m)).putAt s.opW ((s.popped s.opW.bytes).memLoc m)
      (s.stackValue s.opW 0)).setReg s.stack.w .sp (s.stack.at s.opW.bytes)) := by
  have hwrite := writeLoc_flat (s := s.captureEA ((s.popped s.opW.bytes).memLoc m)) (w := s.opW) (l := (s.popped s.opW.bytes).memLoc m) hw
    (s.stackValue s.opW 0)
  rw [popE, run_get_bind, run_bind_ok (peek_flat h.top)]
  exact run_bind_ok hwrite _

theorem popE_mem_next {s : State} (hm : s.mem.wf = true) {m : MemOp} (h : s.canPop s.opW 1)
    (hw : s.canWrite s.opW ((s.popped s.opW.bytes).memLoc m)) : Next (exec (.popEv (.mem m)) s) fun t =>
      t.gpr = popGpr s s.opW.bytes ∧ t.valueAt s.opW ((s.popped s.opW.bytes).memLoc m) = s.stackValue s.opW 0 ∧
      SameMemoryBut s t (s.storedAt s.opW ((s.popped s.opW.bytes).memLoc m)) ∧ Plain s t := by
  refine ⟨_, finish_ok (popE_mem_flat h hw), ?gpr, ?value, ?memory, ?plain⟩
  case gpr =>
    rw [State.setReg_gpr, State.putAt_gpr, ← s.gpr_popped]
    rfl
  case value =>
    have hvalue := Loc.Fits.valueAt_putAt (l := (s.popped s.opW.bytes).memLoc m) (w := s.opW) trivial
      (s := s.captureEA ((s.popped s.opW.bytes).memLoc m)) hm hw (s.stackValue s.opW 0)
    rw [s.trunc_stackValue] at hvalue
    exact hvalue
  case memory =>
    exact State.putAt_memory (s := s.captureEA ((s.popped s.opW.bytes).memLoc m)) hm s.opW ((s.popped s.opW.bytes).memLoc m)
      (s.stackValue s.opW 0)
  case plain => exact ((moved_withEA s _).trans ((moved_putAt _ _ _ _).trans (moved_withGpr _ _))).plain

/-! ### POP of a segment register (R324) -/

/-- The end of a POP of a segment register: the stack pointer is committed. -/
theorem popSeg_end (s : State) (r : SReg) (n : Nat) (t : State) : ((s.stack.drop n).commit >>= fun _ => ssShadow r) t =
    .ok () (t.afterLoad (fun g => State.gpr (State.setReg s.stack.w .sp (s.stack.at n) { s with gpr := g })) (true && r == .ss)) :=
  ssShadow_run r (t.setReg s.stack.w .sp (s.stack.at n))

/-- A POP of a segment register reads the selector, loads it, and then commits the stack pointer. -/
theorem popSeg_run {s : State} (h : s.canPop s.opW 1) (r : SReg) : popSeg r s = (loadSeg r ((s.stackValue s.opW 0).setWidth 16) >>=
    fun _ => (s.stack.drop s.opW.bytes).commit >>= fun _ => ssShadow r) s := by
  rw [popSeg, run_get_bind, run_bind_ok (peek_flat h.top)]

theorem segLoadForm_popSeg {s : State} (hm : s.mem.wf = true) (hp : s.pagingOn = false) (h : s.canPop s.opW 1) {r : SReg}
    (hr : r ≠ .cs) {i : Instr} (hi : exec i s = finish (popSeg r) s) :
    SegLoadForm s r ((s.stackValue s.opW 0).setWidth 16) true (popGpr s s.opW.bytes) i := by
  refine segLoadForm_of_load hm hp hr (Accessing.refl s) ?_ (popSeg_end s r s.opW.bytes) (s.gpr_popped _)
  rw [hi, finish, popSeg_run h]
  rfl

/-- The 8086 and 8088 have 16-bit operands and real mode only. -/
theorem State.of_not_has186 {s : State} (h : s.cfg.model.has186 = false) : s.opW = .w16 ∧ s.protectedMode = false := by
  have hmodel : s.cfg.model.has286 = false ∧ s.cfg.model.has386 = false := by
    revert h
    cases s.cfg.model <;> decide
  obtain ⟨h286, h386⟩ := hmodel
  simp [State.opW, State.op32, State.protectedMode, h286, h386]

/-- The state after POP CS (R141, R324). -/
def State.poppedCs (s : State) : State :=
  { s with gpr := popGpr s 2, cs := s.cs.realLoad ((s.stackValue .w16 0).setWidth 16), cpl := 0 }

theorem popCs_flat {s : State} (h186 : s.cfg.model.has186 = false) (h : s.canPop s.opW 1) : popSeg .cs s = .ok () s.poppedCs := by
  obtain ⟨hw, hreal⟩ := State.of_not_has186 h186
  have hload (sel : Half) : loadSeg .cs sel s = .ok () (s.realLoad .cs sel) := by
    rw [loadSeg, run_get_bind, hreal]
    rfl
  rw [popSeg_run h, run_bind_ok (hload _), hw, State.poppedCs, ← s.gpr_popped]
  rfl

/-- The selector that a 16-bit pop reads, as the word read. -/
theorem State.stackValue_half (s : State) (n : Nat) : ((s.stackValue .w16 n).setWidth 16).setWidth 32 = s.stackValue .w16 n := by
  have hvalue := congrArg BitVec.toNat (s.trunc_stackValue .w16 n)
  rw [toNat_trunc] at hvalue
  apply BitVec.eq_of_toNat_eq
  rw [BitVec.toNat_setWidth_of_le (by decide), BitVec.toNat_setWidth]
  exact hvalue

/-- Settles O17: a POP reads the stack top; a register or memory takes it after the pointer moved, a segment register before. -/
theorem popFormsComplete : Obligations.PopFormsComplete := by
  unfold Obligations.PopFormsComplete
  refine ⟨fun s r m hm h => ?_, fun s hm hp h => ⟨?_, fun h186 => ?cs⟩⟩
  · simp only [List.forall_mem_cons, ← s.popped_eq]
    exact ⟨⟨popReg_next (e := s.regEA) h rfl, popReg_next h rfl, List.forall_mem_nil _⟩, popE_mem_next hm h⟩
  · simp only [List.forall_mem_cons]
    exact ⟨segLoadForm_popSeg hm hp h (by decide) rfl, segLoadForm_popSeg hm hp h (by decide) rfl,
      segLoadForm_popSeg hm hp h (by decide) rfl, segLoadForm_popSeg hm hp h (by decide) rfl,
      segLoadForm_popSeg hm hp h (by decide) rfl, List.forall_mem_nil _⟩
  case cs =>
    refine ⟨_, finish_ok (popCs_flat h186 h), ?_, rfl, rfl, fun _ => rfl, fun q hq => ?_,
      ⟨rfl, rfl, rfl, rfl, rfl, rfl, rfl, rfl, rfl, rfl, rfl, rfl, rfl, rfl, rfl, rfl, rfl, rfl, rfl, rfl⟩, ⟨fun _ => rfl, rfl⟩, rfl⟩
    · have hbase : ((s.stackValue .w16 0).setWidth 16).setWidth 32 <<< 4 = s.stackValue .w16 0 <<< 4 := by rw [s.stackValue_half]
      rw [← hbase]
      rfl
    · cases q with
      | cs => exact absurd rfl hq
      | _ => rfl

end Sys2Proof.Machine
end

section
/-! Instructions that note their operands, change registers and memory and then install flags (R46 to R50, R63, R64): what such an
instruction leaves alone. -/

namespace Sys2Proof.Machine

/-- `u` is `s` but for what an instruction notes of its operands: their addresses and NOWRITE (R63, R64). -/
def Prepared (s u : State) : Prop :=
  ∃ e w b, u = { s with regEA := e, regEAWrite := w, opFlags := { s.opFlags with noWrite := b } }

/-- `t` is `s` but for the cached flags. -/
def Reflagged (s t : State) : Prop := ∃ e, t = { s with flags := e } ∧ SameDirect s t

theorem prepared_refl (s : State) : Prepared s s := ⟨s.regEA, s.regEAWrite, s.opFlags.noWrite, rfl⟩

theorem prepared_withEA (s : State) (e : Option Word) : Prepared s { s with regEA := e } :=
  ⟨e, s.regEAWrite, s.opFlags.noWrite, rfl⟩

theorem Prepared.checkedAt {s u : State} (h : Prepared s u) (l : Loc) : Prepared s (u.checkedAt l) := by
  obtain ⟨e, k, b, rfl⟩ := h
  cases l <;> exact ⟨_, _, _, rfl⟩

theorem Prepared.setNoWrite {s u : State} (h : Prepared s u) (v : Bool) : Prepared s (u.setNoWrite v) := by
  obtain ⟨e, k, b, rfl⟩ := h
  exact ⟨e, k, v, rfl⟩

/-- What is noted of operands decides no access and no value. -/
theorem Prepared.canWrite {s u : State} (h : Prepared s u) {w : Width} {l : Loc} (hw : s.canWrite w l) : u.canWrite w l := by
  obtain ⟨e, k, b, rfl⟩ := h
  exact hw

theorem Prepared.wrote {s u t : State} (h : Prepared s u) {w : Width} {l : Loc} {v : Word} (hw : Wrote w l v u t) :
    Wrote w l v s t := by
  obtain ⟨e, k, b, rfl⟩ := h
  obtain ⟨hvalue, hgpr, hmem⟩ := hw
  exact ⟨hvalue, hgpr, hmem⟩

theorem Prepared.untouched {s u t : State} (h : Prepared s u) (ht : t.gpr = u.gpr ∧ SameMemory u t) : Untouched s t := by
  obtain ⟨e, k, b, rfl⟩ := h
  exact ht

theorem Prepared.fields {s u : State} (h : Prepared s u) :
    u.gpr = s.gpr ∧ u.mem = s.mem ∧ u.flag = s.flag ∧ u.cfg = s.cfg := by
  obtain ⟨e, k, b, rfl⟩ := h
  exact ⟨rfl, rfl, rfl, rfl⟩

theorem Reflagged.refl (s : State) : Reflagged s s := ⟨s.flags, rfl, rfl⟩

theorem Reflagged.trans {s t u : State} (h : Reflagged s t) (k : Reflagged t u) : Reflagged s u := by
  obtain ⟨e, rfl, hdirect⟩ := h
  obtain ⟨e', rfl, hdirect'⟩ := k
  exact ⟨e', rfl, sameDirect_trans hdirect hdirect'⟩

theorem reflagged_install (s : State) (n : CachedSet) (w : Width) (d x a l : Word) :
    Reflagged s { s with flags := s.flags.install n w d x a l } := ⟨_, rfl, sameDirect_install s n w d x a l⟩

theorem reflagged_setFlag (s : State) (f : Flag) (v : Bool) : Reflagged s (s.setFlag f v) := ⟨_, rfl, sameDirect_setFlag s f v⟩

theorem reflagged_undefine (s : State) (site : UndefSite) (w : Width) (m old : Word) (ops : List Word) :
    Reflagged s (s.undefine site w m old ops) := by
  have hdirect := sameDirect_undefine s site w m old ops
  unfold State.undefine at hdirect ⊢
  split at hdirect
  · exact .refl s
  · exact ⟨_, rfl, hdirect⟩

/-- Flags show nothing of the registers and of memory. -/
theorem Reflagged.gpr_memory {s t : State} (h : Reflagged s t) : t.gpr = s.gpr ∧ SameMemory s t := by
  obtain ⟨e, rfl, -⟩ := h
  exact ⟨rfl, fun _ => rfl⟩

theorem Reflagged.wrote {s u t : State} {w : Width} {l : Loc} {v : Word} (h : Reflagged u t) (hw : Wrote w l v s u) :
    Wrote w l v s t := by
  obtain ⟨e, rfl, -⟩ := h
  obtain ⟨hvalue, hgpr, hmem⟩ := hw
  exact ⟨hvalue, hgpr, hmem⟩

/-- Operands noted, registers and memory changed, flags installed: the rest is as before. -/
theorem rest_of_reflagged {s u v t : State} (hu : Prepared s u) (hv : Moved u v) (ht : Reflagged v t) : Rest s t := by
  obtain ⟨e, w, b, rfl⟩ := hu
  obtain ⟨g, m, e', w', rfl⟩ := hv
  obtain ⟨fl, rfl, hdirect⟩ := ht
  exact ⟨hdirect, rfl,
    ⟨⟨rfl, rfl, rfl, rfl, rfl, rfl, rfl, rfl, rfl, rfl, rfl, rfl, rfl, rfl, rfl, rfl, rfl, rfl, rfl, rfl⟩,
      ⟨rfl, rfl, rfl, rfl, rfl, rfl, rfl⟩, rfl, rfl, rfl, rfl, rfl⟩⟩

/-- A result written to an operand noted before, then flags installed. -/
theorem wrote_reflagged {s u t : State} {w : Width} {l : Loc} {a : Word} (hu : Prepared s u) (hm : s.mem.wf = true) (hl : l.Fits w)
    (hw : s.canWrite w l) (ha : trunc w a = a) (ht : Reflagged (u.putAt w l a) t) : Wrote w l a s t ∧ Rest s t := by
  obtain ⟨-, hmem, -⟩ := hu.fields
  have hput := wrote_putAt hl (hmem ▸ hm) (hu.canWrite hw) a
  rw [ha] at hput
  exact ⟨hu.wrote (ht.wrote hput), rest_of_reflagged hu (moved_putAt u w l a) ht⟩

theorem Prepared.putAt_fields {s u : State} (h : Prepared s u) (w : Width) (l : Loc) (v : Word) :
    (u.putAt w l v).flag = s.flag ∧ (u.putAt w l v).cfg = s.cfg := by
  obtain ⟨-, -, hflag, hcfg⟩ := h.fields
  obtain ⟨g, m, e, k, hput⟩ := moved_putAt u w l v
  rw [hput, ← hflag, ← hcfg]
  exact ⟨rfl, rfl⟩

/-- Instructions of one operand form, from what that form runs: the list pairs each instruction with what tells it apart. -/
theorem exec_eq_of_run {α : Type} {s u : State} {ps : List (α × Instr)} {run op : α → M Unit} (hrun : ∀ a, run a s = op a u)
    (hi : ps.map (fun p => exec p.2 s) = ps.map fun p => finish (run p.1) s) :
    ∀ p ∈ ps, exec p.2 s = finish (op p.1) u := by
  intro p hp
  rw [List.map_inj_left.mp hi p hp, finish, hrun, finish]

/-! ### Operands that are read -/

/-- The operation reads a value and does no more, whatever is noted of operands before. -/
def ReadsValue (s : State) (m : M Word) (x : Word) : Prop := ∀ u, Prepared s u → m u = .ok x u

theorem readsValue_pure (s : State) (x : Word) : ReadsValue s (pure x) x := fun _ _ => rfl

theorem readsValue_readLoc {s : State} {w : Width} {l : Loc} (h : s.canRead w l) : ReadsValue s (readLoc w l) (s.valueAt w l) := by
  rintro _ ⟨e, k, b, rfl⟩
  exact readLoc_flat (s := { s with regEA := e, regEAWrite := k, opFlags := { s.opFlags with noWrite := b } }) h

/-! ### The flags of logic operations (R405) -/

theorem reflagged_flagsLogic (s : State) (site : UndefSite) (w : Width) (d x l : Word) : Reflagged s (s.flagsLogic site w d x l) :=
  (reflagged_install s ⟨false, true, true, true, true, false⟩ w d x l l).trans
    ((reflagged_setFlag _ .cf false).trans ((reflagged_setFlag _ .of false).trans (reflagged_undefine ..)))

/-- CF and OF are cleared and the others have their formulas, but for a free AF. -/
theorem State.flag_flagsLogic (s : State) (site : UndefSite) (w : Width) (d x l : Word) {f : Flag}
    (h : s.cfg.undef = .blockDefault ∨ f ≠ .af) : (s.flagsLogic site w d x l).flag f =
      if f = .cf ∨ f = .of then false else (FlagEngine.mk 0 d x l l w ⟨false, true, true, true, true, false⟩).formula f := by
  have hfree : s.cfg.undef = .blockDefault ∨ Flag.af.mask.getLsbD f.place = false :=
    h.imp id fun hf => by revert hf; cases f <;> decide
  refine (State.flag_undefine _ _ _ _ _ _ f ?_).trans ?_
  · exact hfree
  simp only [State.flag, FlagEngine.flag_setFlag, FlagEngine.flag_install]
  cases f <;> rfl

end Sys2Proof.Machine
end

section
/-! The two-operand instructions (41_arithmetic.md R360 to R365, 42_logic_shift_bit.md R401 to R405): the run of one of them in any
of its forms, and the values of the nine operations. -/

namespace Sys2Proof.Machine

/-! ### Flags -/

theorem Alu.reflagged_flags (op : Alu) (w : Width) (d x a : Word) (s : State) : Reflagged s (op.flags w d x a s) := by
  cases op with
  | add | adc => exact reflagged_install ..
  | sub | sbb | cmp => exact reflagged_install ..
  | and | or | xor | test => exact reflagged_flagsLogic ..

/-- The flags of an operation, installed in any state of the same parameters. -/
theorem Alu.aluFlags (op : Alu) (w : Width) (d x a : Word) {s u : State} (h : u.cfg = s.cfg) :
    AluFlags op w d x a s (op.flags w d x a u) := by
  have hlogic (site : UndefSite) : let t := u.flagsLogic site w d x a
      t.flag .cf = false ∧ t.flag .of = false ∧ ResultFlags w a t ∧
        (s.cfg.undef = .blockDefault → t.flag .af = bit (a ^^^ (d ^^^ x)) 4) := by
    have hset (f : Flag) (hf : f ≠ .af) := u.flag_flagsLogic site w d x a (.inr hf)
    refine ⟨hset .cf (by decide), hset .of (by decide), ⟨hset .pf (by decide), ?_, ?_⟩, fun hundef => ?_⟩
    · exact (hset .zf (by decide)).trans (FlagEngine.formula_zf ..)
    · exact (hset .sf (by decide)).trans (FlagEngine.formula_sf ..)
    · exact (u.flag_flagsLogic site w d x a (.inl (h ▸ hundef))).trans (FlagEngine.formula_af ..)
  cases op with
  | add | adc => exact flagsBy_flagsAdd ..
  | sub | sbb | cmp => exact flagsBy_flagsSub ..
  | and | or | xor | test => exact hlogic _

/-! ### The run -/

theorem Alu.trunc_result (op : Alu) (w : Width) (c : Bool) (d x : Word) : trunc w (op.result w c d x) = op.result w c d x := by
  cases op <;> exact trunc_trunc w _

/-- Before the operands are read something is noted and no more (R290, R365, R404). -/
theorem Alu.prepare_flat (op : Alu) {s u : State} {w : Width} {l : Loc} (hu : Prepared s u)
    (hw : op.writes = true → s.canWrite w l) : ∃ v, Prepared s v ∧ op.prepare w l u = .ok () v := by
  rw [Alu.prepare]
  cases h : op.writes with
  | true => exact ⟨_, hu.checkedAt l, checkLoc_flat (hu.canWrite (hw h))⟩
  | false => exact ⟨_, hu.setNoWrite true, rfl⟩

/-- The run: the operands are noted and read, the result is written where it is to be, and the flags are installed. -/
theorem alu_flat (op : Alu) {s u : State} {w : Width} {dst : Loc} {x : Word} {m : M Word} (hu : Prepared s u) (hr : s.canRead w dst)
    (hw : op.writes = true → s.canWrite w dst) (hx : ReadsValue s m x) : ∃ v, Prepared s v ∧
      let a := op.result w (s.flag .cf) (s.valueAt w dst) x
      alu op w dst m u = .ok () (op.flags w (s.valueAt w dst) x a (if op.writes then v.putAt w dst a else v)) := by
  obtain ⟨v, hv, hprepare⟩ := op.prepare_flat hu hw
  obtain ⟨-, -, hflag, -⟩ := hv.fields
  refine ⟨v, hv, ?_⟩
  rw [alu, run_bind_ok hprepare, run_bind_ok (readsValue_readLoc hr v hv), run_bind_ok (hx v hv), run_get_bind, hflag]
  cases h : op.writes with
  | true => exact run_bind_ok (m := whenM true _) (writeLoc_flat (hv.canWrite (hw h)) _) _
  | false => rfl

/-- One form of an instruction, by its run. -/
theorem aluForm_of_alu {s u : State} {w : Width} {dst : Loc} {src : Prop} {x : Word} {p : Alu × Instr} {m : M Word}
    (hm : s.mem.wf = true) (hu : Prepared s u) (hl : dst.Fits w) (hsrc : src → ReadsValue s m x)
    (hi : exec p.2 s = finish (alu p.1 w dst m) u) : AluForm s w dst src x p := by
  intro hr hw hs
  obtain ⟨v, hv, hrun⟩ := alu_flat p.1 hu hr hw (hsrc hs)
  refine ⟨_, hi.trans (finish_ok hrun), ?_⟩
  have ha := p.1.trunc_result w (s.flag .cf) (s.valueAt w dst) x
  generalize p.1.result w (s.flag .cf) (s.valueAt w dst) x = a at ha
  have hflags (t : State) := p.1.reflagged_flags w (s.valueAt w dst) x a t
  cases h : p.1.writes with
  | true =>
    obtain ⟨hwrote, hrest⟩ := wrote_reflagged hv hm hl (hw h) ha (hflags _)
    obtain ⟨-, hcfg⟩ := hv.putAt_fields w dst a
    exact ⟨hwrote, p.1.aluFlags _ _ _ _ hcfg, hrest⟩
  | false =>
    obtain ⟨-, -, -, hcfg⟩ := hv.fields
    exact ⟨hv.untouched (hflags v).gpr_memory, p.1.aluFlags _ _ _ _ hcfg, rest_of_reflagged hv (.refl v) (hflags v)⟩

/-- The same operand form of several operations, by what the form does with any operation. -/
theorem aluForms_of_alu {s u : State} {w : Width} {dst : Loc} {src : Prop} {x : Word} {ps : List (Alu × Instr)} {m : M Word}
    (run : Alu → M Unit) (hm : s.mem.wf = true) (hu : Prepared s u) (hl : dst.Fits w) (hsrc : src → ReadsValue s m x)
    (hrun : ∀ op, run op s = alu op w dst m u)
    (hi : ps.map (fun p => exec p.2 s) = ps.map fun p => finish (run p.1) s) : ∀ p ∈ ps, AluForm s w dst src x p :=
  fun p hp => aluForm_of_alu hm hu hl hsrc (exec_eq_of_run hrun hi p hp)

/-- Settles O1: each form resolves its operands and is then the one run of its operation. -/
theorem aluFormsComplete : Obligations.AluFormsComplete := by
  unfold Obligations.AluFormsComplete
  refine ⟨fun s e g ib hm => ?bytes, fun s e g iv ib hm => ?words⟩
  case bytes =>
    have hu := prepared_withEA s (s.eaOf (s.rm8Loc e))
    have he := s.fits_rm8Loc e
    have hreg (_ : True) := readsValue_readLoc (s := s) (w := .w8) (l := .byteReg g) trivial
    have himm (_ : True) := readsValue_pure s (ib.setWidth 32)
    exact ⟨aluForms_of_alu (aluEbGb · e g) hm hu he hreg (fun _ => rfl) rfl,
      aluForms_of_alu (aluGbEb · g e) hm hu rfl readsValue_readLoc (fun _ => rfl) rfl,
      aluForms_of_alu (aluALIb · ib) hm (prepared_refl s) rfl himm (fun _ => rfl) rfl,
      aluForms_of_alu (aluEbIb · e ib) hm hu he himm (fun _ => rfl) rfl⟩
  case words =>
    have hu := prepared_withEA s (s.eaOf (s.rmLoc e))
    have he := s.fits_rmLoc s.opW e
    have hreg (_ : True) := readsValue_readLoc (s := s) (w := s.opW) (l := .reg g) trivial
    have himm (_ : True) := readsValue_pure s iv
    have hsext (_ : True) := readsValue_pure s (trunc s.opW (ib.signExtend 32))
    exact ⟨aluForms_of_alu (aluEvGv · e g) hm hu he hreg (fun _ => rfl) rfl,
      aluForms_of_alu (aluGvEv · g e) hm hu trivial readsValue_readLoc (fun _ => rfl) rfl,
      aluForms_of_alu (aluEAXIv · iv) hm (prepared_refl s) trivial himm (fun _ => rfl) rfl,
      aluForms_of_alu (aluEvIv · e iv) hm hu he himm (fun _ => rfl) rfl,
      aluForms_of_alu (aluEvIbs · e ib) hm hu he hsext (fun _ => rfl) rfl⟩

/-! ### The values of the nine operations -/

theorem toNat_trunc_add_add (w : Width) (u v z : Word) :
    (trunc w (u + v + z)).toNat = (u.toNat + v.toNat + z.toNat) % 2 ^ w.bits := by
  rw [← trunc_trunc_add, toNat_trunc_add, toNat_trunc_add, Nat.mod_add_mod]

theorem toNat_trunc_sub (w : Width) (u v : Word) (h : v.toNat < 2 ^ w.bits) :
    (trunc w (u - v)).toNat = (2 ^ w.bits + u.toNat - v.toNat) % 2 ^ w.bits := by
  rw [toNat_trunc, BitVec.toNat_sub]
  cases w <;> simp only [Width.bits] at h ⊢ <;> omega

theorem toNat_trunc_sub_sub (w : Width) (u v z : Word) (hv : v.toNat < 2 ^ w.bits) (hz : z.toNat < 2 ^ w.bits) :
    (trunc w (u - v - z)).toNat = (2 ^ w.bits + 2 ^ w.bits + u.toNat - v.toNat - z.toNat) % 2 ^ w.bits := by
  rw [toNat_trunc, BitVec.toNat_sub, BitVec.toNat_sub]
  cases w <;> simp only [Width.bits] at hv hz ⊢ <;> omega

/-- Settles O2: truncation is a remainder, which leaves the result of a logic operation as it is. -/
theorem aluResultValues : Obligations.AluResultValues := by
  unfold Obligations.AluResultValues
  intro w c d x hd hx
  have hd := toNat_lt_of_trunc hd
  have hx := toNat_lt_of_trunc hx
  have hc : (ofBool c).toNat < 2 ^ w.bits := by
    rw [toNat_ofBool]
    exact Nat.lt_of_le_of_lt c.toNat_le (Nat.one_lt_two_pow (Nat.ne_of_gt w.bits_pos))
  refine ⟨toNat_trunc_add w d x, ?adc, toNat_trunc_sub w d x hx, toNat_trunc_sub w d x hx, ?sbb, ?and, ?and, ?or, ?xor⟩
  case adc => exact toNat_ofBool c ▸ toNat_trunc_add_add w d x (ofBool c)
  case sbb => exact toNat_ofBool c ▸ toNat_trunc_sub_sub w d x (ofBool c) hx hc
  case and => exact (toNat_trunc w (d &&& x)).trans (Nat.mod_eq_of_lt (BitVec.toNat_and d x ▸ Nat.and_lt_two_pow _ hx))
  case or => exact (toNat_trunc w (d ||| x)).trans (Nat.mod_eq_of_lt (BitVec.toNat_or d x ▸ Nat.or_lt_two_pow hd hx))
  case xor => exact (toNat_trunc w (d ^^^ x)).trans (Nat.mod_eq_of_lt (BitVec.toNat_xor d x ▸ Nat.xor_lt_two_pow hd hx))

end Sys2Proof.Machine
end

section
/-! INC, DEC, NEG and NOT (41_arithmetic.md R366 to R368, 42_logic_shift_bit.md R406): the run of a read-modify-write instruction,
and the values and flags of the four. -/

namespace Sys2Proof.Machine

/-- A read-modify-write instruction whose operand may be read and written (R246, R290). -/
theorem readModifyWrite_flat {s u : State} {w : Width} {l : Loc} (f : State → Word → Word × (State → State))
    (hu : Prepared s u) (hr : s.canRead w l) (hw : s.canWrite w l) : ∃ v, Prepared s v ∧ readModifyWrite w l f u =
      .ok () ((f v (s.valueAt w l)).2 (v.putAt w l (f v (s.valueAt w l)).1)) := by
  have hv := hu.checkedAt l
  refine ⟨_, hv, ?_⟩
  rw [readModifyWrite, run_bind_ok (checkLoc_flat (hu.canWrite hw)), run_bind_ok (readsValue_readLoc hr _ hv), run_get_bind,
    run_bind_ok (writeLoc_flat (hv.canWrite hw) _), run_modify]

/-! ### The values -/

theorem trunc_eq_ofNat {w : Width} {v : Word} {n : Nat} (h : (trunc w v).toNat = n) : trunc w v = BitVec.ofNat 32 n := by
  rw [← h, BitVec.ofNat_toNat, BitVec.setWidth_eq]

/-- Flipping the bits of a width subtracts from the largest number of the width (R406). -/
theorem trunc_xor_mask {w : Width} {d : Word} (hd : d.toNat < 2 ^ w.bits) :
    trunc w (d ^^^ w.mask) = BitVec.ofNat 32 (2 ^ w.bits - 1 - d.toNat) := by
  have hmask : w.mask = trunc w (BitVec.allOnes 32) := by cases w <;> decide
  apply BitVec.eq_of_getLsbD_eq
  intro i hi
  rw [getLsbD_trunc, BitVec.getLsbD_xor, hmask, getLsbD_trunc, BitVec.getLsbD_allOnes, BitVec.getLsbD_ofNat, Nat.sub_sub,
    Nat.add_comm 1, Nat.testBit_two_pow_sub_succ hd, BitVec.testBit_toNat, decide_eq_true hi]
  cases decide (i < w.bits) <;> simp

theorem Unary.result_eq_value (op : Unary) {w : Width} {d : Word} (h : trunc w d = d) : op.result w d = unaryValue op w d := by
  have hd := toNat_lt_of_trunc h
  have hone : 1 < 2 ^ w.bits := Nat.one_lt_two_pow (Nat.ne_of_gt w.bits_pos)
  cases op with
  | inc => exact trunc_eq_ofNat (toNat_trunc_add w d 1)
  | dec => exact trunc_eq_ofNat (Nat.add_comm d.toNat _ ▸ toNat_trunc_sub w d 1 hone)
  | neg => exact trunc_eq_ofNat (toNat_trunc_sub w 0 d hd)
  | not => exact trunc_xor_mask hd

theorem Unary.trunc_result (op : Unary) (w : Width) (d : Word) : trunc w (op.result w d) = op.result w d := by
  cases op <;> exact trunc_trunc w _

/-! ### The flags and the forms -/

theorem Unary.reflagged_flags (op : Unary) (w : Width) (d a : Word) (s : State) : Reflagged s (op.flags w d a s) := by
  cases op with
  | inc | dec | neg => exact reflagged_install ..
  | not => exact .refl s

theorem Unary.unaryFlags (op : Unary) (w : Width) (d a : Word) {s u : State} (h : u.flag = s.flag) :
    UnaryFlags op w d a s (op.flags w d a u) := by
  cases op with
  | inc => exact ⟨fiveFlags_flagsInc .., h ▸ flagsInc_cf ..⟩
  | dec => exact ⟨fiveFlags_flagsDec .., h ▸ flagsDec_cf ..⟩
  | neg => exact flagsBy_flagsSub u w 0 d a
  | not => exact fun f => congrFun h f

theorem unaryForm_of_unary {s u : State} {w : Width} {l : Loc} {p : Unary × Instr} (hm : s.mem.wf = true) (hu : Prepared s u)
    (hl : l.Fits w) (hi : exec p.2 s = finish (unary p.1 w l) u) : UnaryForm s w l p := by
  intro hr hw
  obtain ⟨v, hv, hrun⟩ := readModifyWrite_flat (fun _ d => (p.1.result w d, p.1.flags w d (p.1.result w d))) hu hr hw
  refine ⟨_, hi.trans (finish_ok hrun), ?_⟩
  have ha := p.1.trunc_result w (s.valueAt w l)
  rw [p.1.result_eq_value (hl.trunc_valueAt s)] at ha ⊢
  obtain ⟨hwrote, hrest⟩ := wrote_reflagged hv hm hl hw ha (p.1.reflagged_flags w (s.valueAt w l) _ _)
  obtain ⟨hflag, -⟩ := hv.putAt_fields w l (unaryValue p.1 w (s.valueAt w l))
  exact ⟨hwrote, p.1.unaryFlags _ _ _ hflag, hrest⟩

/-- Settles O4: each form is one read-modify-write of its operand. -/
theorem unaryFormsComplete : Obligations.UnaryFormsComplete := by
  unfold Obligations.UnaryFormsComplete
  intro s e8 e r hm
  refine ⟨fun p hp => ?bytes, fun p hp => ?words, fun p hp => ?registers⟩
  case bytes =>
    exact unaryForm_of_unary hm (prepared_withEA s _) (s.fits_rm8Loc e8)
      (exec_eq_of_run (run := (unaryEb · e8)) (fun _ => rfl) rfl p hp)
  case words =>
    exact unaryForm_of_unary hm (prepared_withEA s _) (s.fits_rmLoc s.opW e)
      (exec_eq_of_run (run := (unaryEv · e)) (fun _ => rfl) rfl p hp)
  case registers =>
    exact unaryForm_of_unary hm (prepared_refl s) trivial (exec_eq_of_run (run := (unaryR · r)) (fun _ => rfl) rfl p hp)

end Sys2Proof.Machine
end

section
/-! Multiplication (41_arithmetic.md R369 to R371): the halves of the exact product as numbers, and the run of an instruction that
reads an operand, writes registers and installs flags. -/

namespace Sys2Proof.Machine

/-! ### A read, then registers and flags -/

/-- A readable operand is read and its value handed on. -/
theorem finish_read {s u : State} {w : Width} {l : Loc} (f : Word → State → State) (hu : Prepared s u) (hr : s.canRead w l) :
    finish (readLoc w l >>= fun v => modify (f v)) u = .next (f (s.valueAt w l) u) :=
  finish_ok ((run_bind_ok (readsValue_readLoc hr u hu) _).trans (run_modify _ _))

/-- Registers written after an operand was noted, then flags installed, of which some are free (R381). -/
theorem registers_reflagged {s u v t : State} {fs : List Flag} (hu : Prepared s u) (hv : OnlyGpr u v) (ht : Reflagged v t)
    (hfree : DefaultKeeps v t fs) : t.gpr = v.gpr ∧ SameMemory s t ∧ DefaultKeeps s t fs ∧ Rest s t := by
  have hmoved : Moved u v := by
    obtain ⟨g, rfl⟩ := hv
    exact moved_withGpr u g
  have hrest := rest_of_reflagged hu hmoved ht
  obtain ⟨e, k, b, rfl⟩ := hu
  obtain ⟨g, rfl⟩ := hv
  obtain ⟨fl, rfl, -⟩ := ht
  exact ⟨rfl, fun _ => rfl, hfree, hrest⟩

/-! ### The flags -/

theorem reflagged_flagsMul (s : State) (w : Width) (sgn big : Bool) (a b : Word) : Reflagged s (s.flagsMul w sgn big a b) :=
  (reflagged_setFlag s .cf big).trans ((reflagged_setFlag _ .of big).trans (reflagged_undefine ..))

/-- CF and OF are as given, the others are free (R369, R381). -/
theorem State.flag_flagsMul (s : State) (w : Width) (sgn big : Bool) (a b : Word) {f : Flag}
    (h : s.cfg.undef = .blockDefault ∨ f = .cf ∨ f = .of) :
    (s.flagsMul w sgn big a b).flag f = if f = .cf ∨ f = .of then big else s.flag f := by
  have hfree : s.cfg.undef = .blockDefault ∨ psPAZS.getLsbD f.place = false :=
    h.imp id fun hf => by rcases hf with rfl | rfl <;> decide
  refine (State.flag_undefine _ _ _ _ _ _ f ?_).trans ?_
  · exact hfree
  rw [State.flag_setFlag, State.flag_setFlag]
  cases f <;> rfl

theorem defaultKeeps_flagsMul (s : State) (w : Width) (sgn big : Bool) (a b : Word) :
    DefaultKeeps s (s.flagsMul w sgn big a b) [.pf, .af, .zf, .sf] := by
  intro hundef f hf
  refine (s.flag_flagsMul w sgn big a b (.inl hundef)).trans (if_neg ?_)
  rintro (rfl | rfl) <;> exact absurd hf (by decide)

/-- What multiplication leaves of the flags and the rest (R369 to R371, R381). -/
theorem multiplied {s u v : State} (hu : Prepared s u) (hv : OnlyGpr u v) (w : Width) (sgn big : Bool) (a b : Word) :
    let t := v.flagsMul w sgn big a b
    t.gpr = v.gpr ∧ SameMemory s t ∧ t.flag .cf = big ∧ t.flag .of = big ∧ DefaultKeeps s t [.pf, .af, .zf, .sf] ∧
      Rest s t := by
  obtain ⟨hgpr, hmem, hkeeps, hrest⟩ :=
    registers_reflagged hu hv (reflagged_flagsMul v w sgn big a b) (defaultKeeps_flagsMul v w sgn big a b)
  exact ⟨hgpr, hmem, v.flag_flagsMul w sgn big a b (f := .cf) (.inr (.inl rfl)),
    v.flag_flagsMul w sgn big a b (f := .of) (.inr (.inr rfl)), hkeeps, hrest⟩

/-! ### The product -/

theorem toNat_truncInt (w : Width) (i : Int) : (truncInt w i).toNat = (i % 2 ^ w.bits).toNat := by
  rw [truncInt, toNat_trunc, BitVec.toNat_ofInt]
  cases w <;> simp only [Width.bits] <;> omega

/-- The exact product of the two factors, signed or not. -/
def factorsProduct (w : Width) (sgn : Bool) (a b : Word) : Int := if sgn then signed w a * signed w b else a.toNat * b.toNat

/-- The product needs the upper half (R369, R370). -/
def needsUpperHalf (w : Width) (sgn : Bool) (n : Int) : Bool :=
  if sgn then decide (n ≠ signed w (truncInt w n)) else decide (2 ^ w.bits ≤ n)

theorem product_eq_ofInt (w : Width) (sgn : Bool) (a b : Word) :
    product w sgn a b = BitVec.ofInt 64 (factorsProduct w sgn a b) := by
  cases sgn with
  | true => exact (BitVec.ofInt_mul _ _).symm
  | false =>
    have hcast (v : Word) : v.setWidth 64 = BitVec.ofInt 64 v.toNat := by rw [BitVec.ofInt_natCast, BitVec.ofNat_toNat]
    rw [product, if_neg Bool.false_ne_true, hcast, hcast, ← BitVec.ofInt_mul, factorsProduct, if_neg Bool.false_ne_true]

theorem lowHalf_ofInt (w : Width) (n : Int) : lowHalf w (BitVec.ofInt 64 n) = truncInt w n := by
  apply BitVec.eq_of_toNat_eq
  rw [lowHalf, toNat_trunc, BitVec.toNat_setWidth, BitVec.toNat_ofInt, toNat_truncInt]
  cases w <;> simp only [Width.bits] <;> omega

theorem highHalf_ofInt (w : Width) (n : Int) : highHalf w (BitVec.ofInt 64 n) = truncInt w (n / 2 ^ w.bits) := by
  apply BitVec.eq_of_toNat_eq
  rw [highHalf, toNat_trunc, BitVec.toNat_setWidth, BitVec.toNat_ushiftRight, BitVec.toNat_ofInt, Nat.shiftRight_eq_div_pow,
    toNat_truncInt]
  cases w <;> simp only [Width.bits] <;> omega

/-- A signed product is far from the bounds of 64 bits. -/
theorem toInt_ofInt_signed_mul (w : Width) (a b : Word) :
    (BitVec.ofInt 64 (signed w a * signed w b)).toInt = signed w a * signed w b := by
  have hle : signed w a * signed w b ≤ 2 ^ (32 * 2 - 2) := BitVec.toInt_mul_toInt_le
  have hge : -2 ^ (32 * 2 - 2) ≤ signed w a * signed w b := BitVec.le_toInt_mul_toInt
  exact BitVec.toInt_ofInt_eq_self (by decide) (by omega) (by omega)

theorem overflows_product (w : Width) (sgn : Bool) {a b : Word} (hab : sgn = false → trunc w a = a ∧ trunc w b = b) :
    overflows w sgn (product w sgn a b) = needsUpperHalf w sgn (factorsProduct w sgn a b) := by
  rw [product_eq_ofInt]
  cases sgn with
  | true =>
    have hfar := toInt_ofInt_signed_mul w a b
    generalize hn : signed w a * signed w b = n at hfar
    have hlow : (BitVec.ofInt 64 (signed w (truncInt w n))).toInt = signed w (truncInt w n) :=
      BitVec.toInt_signExtend_of_le (by decide)
    have hiff : BitVec.ofInt 64 n = BitVec.ofInt 64 (signed w (truncInt w n)) ↔ n = signed w (truncInt w n) := by
      rw [← BitVec.toInt_inj, hfar, hlow]
    simp only [overflows, needsUpperHalf, factorsProduct, if_true, hn, lowHalf_ofInt]
    rw [Bool.eq_iff_iff, bne_iff_ne, decide_eq_true_iff]
    exact not_congr hiff
  | false =>
    obtain ⟨ha, hb⟩ := hab rfl
    have hlt : a.toNat * b.toNat < 2 ^ w.bits * 2 ^ w.bits :=
      Nat.mul_lt_mul'' (toNat_lt_of_trunc ha) (toNat_lt_of_trunc hb)
    simp only [overflows, needsUpperHalf, factorsProduct, Bool.false_eq_true, if_false, highHalf_ofInt]
    rw [Bool.eq_iff_iff, bne_iff_ne, decide_eq_true_iff, ne_eq, ← BitVec.toNat_inj, toNat_truncInt, ← Int.natCast_mul,
      show (0 : Word).toNat = 0 from rfl]
    generalize a.toNat * b.toNat = n at hlt
    cases w <;> simp only [Width.bits] at hlt ⊢ <;> omega

/-! ### The registers -/

/-- The product's bytes side by side are its low word. -/
theorem joined_bytes (n : Int) : (truncInt .w8 (n / 2 ^ 8) <<< 8) ||| truncInt .w8 n = truncInt .w16 n := by
  have hlow : (truncInt .w8 n).toNat = (n % 2 ^ 8).toNat := toNat_truncInt .w8 n
  have hhigh : (truncInt .w8 (n / 2 ^ 8)).toNat = (n / 2 ^ 8 % 2 ^ 8).toNat := toNat_truncInt .w8 _
  have hword : (truncInt .w16 n).toNat = (n % 2 ^ 16).toNat := toNat_truncInt .w16 n
  have hshift : (truncInt .w8 (n / 2 ^ 8) <<< 8).toNat = (n / 2 ^ 8 % 2 ^ 8).toNat <<< 8 := by
    rw [BitVec.toNat_shiftLeft, hhigh, Nat.shiftLeft_eq]
    omega
  apply BitVec.eq_of_toNat_eq
  rw [BitVec.toNat_or, hshift, hlow, hword, ← Nat.shiftLeft_add_eq_or_of_lt (by omega), Nat.shiftLeft_eq]
  omega

theorem setPair_truncInt {s u : State} (h : u.gpr = s.gpr) (w : Width) (n : Int) :
    (u.setPair w (truncInt w (n / 2 ^ w.bits)) (truncInt w n)).gpr = pairGpr s w n := by
  cases w with
  | w8 => simp only [State.setPair, pairGpr, State.setReg_gpr, h, joined_bytes n, Width.bits]
  | w16 | w32 => simp only [State.setPair, pairGpr, State.setReg_gpr, h]

theorem onlyGpr_setPair (s : State) (w : Width) (hi lo : Word) : OnlyGpr s (s.setPair w hi lo) := by
  cases w <;> exact ⟨_, rfl⟩

/-! ### The forms -/

/-- The run of MUL and one-operand IMUL, in numbers. -/
theorem mul_next {s u : State} {w : Width} {l : Loc} (sgn : Bool) (hu : Prepared s u) (hl : l.Fits w) (hr : s.canRead w l) :
    let a := s.reg w .ax
    let b := s.valueAt w l
    let n := factorsProduct w sgn a b
    finish (mul w sgn l) u = .next ((u.setPair w (truncInt w (n / 2 ^ w.bits)) (truncInt w n)).flagsMul w sgn
      (needsUpperHalf w sgn n) a b) := by
  intro a b n
  obtain ⟨hgpr, -⟩ := hu.fields
  have hax : u.reg w .ax = a := by rw [State.reg, hgpr, ← State.reg]
  have hover : overflows w sgn (product w sgn a b) = needsUpperHalf w sgn n :=
    overflows_product w sgn fun _ => ⟨trunc_trunc w _, hl.trunc_valueAt s⟩
  refine (finish_read _ hu hr).trans ?_
  simp only [hax]
  rw [hover, product_eq_ofInt, highHalf_ofInt, lowHalf_ofInt]

theorem mulForm_of_mul {s u : State} {w : Width} {l : Loc} {p : Bool × Instr} (hu : Prepared s u) (hl : l.Fits w)
    (hi : exec p.2 s = finish (mul w p.1 l) u) : MulForm s w l p := by
  intro hr
  obtain ⟨hgpr, -⟩ := hu.fields
  refine ⟨_, hi.trans (mul_next p.1 hu hl hr), ?_⟩
  obtain ⟨hregs, hdone⟩ := multiplied hu (onlyGpr_setPair u w _ _) w p.1 _ _ _
  exact ⟨hregs.trans (setPair_truncInt hgpr w _), hdone⟩

/-- IMUL with a destination register (R371). -/
theorem imulForm_of_imulTo {s : State} {g : Reg} {e : RM} {m : State → Word} {i : Instr}
    (hi : exec i s = finish (imulTo g e m) s) : ImulForm s g e (m s) i := by
  intro hr
  have hu := prepared_withEA s (s.eaOf (s.rmLoc e))
  have hover := overflows_product s.opW true (a := s.valueAt s.opW (s.rmLoc e)) (b := m s) nofun
  have hrun := finish_read (fun a u => (u.setReg s.opW g (lowHalf s.opW (product s.opW true a (m s)))).flagsMul s.opW true
    (overflows s.opW true (product s.opW true a (m s))) a (m s)) hu hr
  rw [hover, product_eq_ofInt, lowHalf_ofInt] at hrun
  exact ⟨_, hi.trans hrun, multiplied hu ⟨_, rfl⟩ s.opW true _ _ _⟩

/-- Settles O5: MUL and IMUL read a factor, write the numbers of the exact product and install CF and OF by them. -/
theorem multiplyCompletes : Obligations.MultiplyCompletes := by
  unfold Obligations.MultiplyCompletes
  refine ⟨fun s e8 e => ⟨fun p hp => ?bytes, fun p hp => ?words⟩, fun s g e iv ib => ⟨?_, ?_, ?_⟩⟩
  case bytes =>
    exact mulForm_of_mul (prepared_withEA s _) (s.fits_rm8Loc e8) (exec_eq_of_run (run := (mulEb · e8)) (fun _ => rfl) rfl p hp)
  case words =>
    exact mulForm_of_mul (prepared_withEA s _) (s.fits_rmLoc _ e) (exec_eq_of_run (run := (mulEv · e)) (fun _ => rfl) rfl p hp)
  · exact imulForm_of_imulTo (m := fun _ => iv) rfl
  · exact imulForm_of_imulTo (m := fun s => s.sextOp ib) rfl
  · exact imulForm_of_imulTo (m := fun s => s.reg s.opW g) rfl

end Sys2Proof.Machine
end

section
/-! Division (41_arithmetic.md R372, R373): the dividend as one number, where the quotient fits, and both outcomes. -/

namespace Sys2Proof.Machine

/-! ### The dividend and the divisor -/

theorem trunc_dividend (s : State) (w : Width) :
    trunc w (s.dividend w).1 = (s.dividend w).1 ∧ trunc w (s.dividend w).2 = (s.dividend w).2 := by
  cases w <;> exact ⟨trunc_trunc _ _, trunc_trunc _ _⟩

theorem Prepared.dividend_eq {s u : State} (h : Prepared s u) (w : Width) : u.dividend w = s.dividend w := by
  obtain ⟨e, k, b, rfl⟩ := h
  rfl

/-- The two halves are the digits of the dividend (R372). -/
theorem toNat_dividend (s : State) (w : Width) :
    (s.dividend w).1.toNat * 2 ^ w.bits + (s.dividend w).2.toNat = dividendOf s w := by
  cases w with
  | w8 =>
    have hah : (s.reg8 .ah).toNat = s.gpr.ax.toNat / 256 % 256 := s.toNat_reg8_high rfl rfl
    have hal : (s.reg8 .al).toNat = s.gpr.ax.toNat % 256 := s.toNat_reg8_low rfl rfl
    have hax : (s.reg .w16 .ax).toNat = s.gpr.ax.toNat % 65536 := s.toNat_reg_w16 .ax
    simp only [State.dividend, dividendOf, Width.bits, hah, hal, hax]
    omega
  | w16 | w32 => rfl

theorem signed_eq_cond {w : Width} {v : Word} (h : trunc w v = v) :
    signed w v = if 2 * v.toNat < 2 ^ w.bits then (v.toNat : Int) else v.toNat - (2 ^ w.bits : Nat) := by
  rw [signed_eq_toInt, BitVec.toInt_eq_toNat_cond, BitVec.toNat_setWidth, Nat.mod_eq_of_lt (toNat_lt_of_trunc h)]

/-- The sign is that of the upper half (R373). -/
theorem signed_dividend (s : State) (w : Width) :
    signed w (s.dividend w).1 * 2 ^ w.bits + (s.dividend w).2.toNat = signedDividend s w := by
  obtain ⟨hhi, hlo⟩ := trunc_dividend s w
  have hlo := toNat_lt_of_trunc hlo
  rw [signedDividend, ← toNat_dividend, signed_eq_cond hhi]
  generalize (s.dividend w).1.toNat = hi, (s.dividend w).2.toNat = lo at hlo
  have hsign : hi * 2 ^ w.bits + lo < 2 ^ (2 * w.bits - 1) ↔ 2 * hi < 2 ^ w.bits := by
    cases w <;> simp only [Width.bits] at hlo ⊢ <;> omega
  by_cases hneg : 2 * hi < 2 ^ w.bits
  · rw [if_pos hneg, if_pos (hsign.mpr hneg), Int.natCast_add, Int.natCast_mul, Int.natCast_pow]
    rfl
  · rw [if_neg hneg, if_neg (mt hsign.mp hneg)]
    cases w <;> simp only [Width.bits] <;> omega

theorem signed_eq_zero_iff {w : Width} {v : Word} (h : trunc w v = v) : signed w v = 0 ↔ v = 0 := by
  have hlt := toNat_lt_of_trunc h
  rw [signed_eq_cond h, ← BitVec.toNat_inj, show (0 : Word).toNat = 0 from rfl]
  split <;> omega

/-! ### Where the quotient fits -/

theorem toNat_mask (w : Width) : w.mask.toNat = 2 ^ w.bits - 1 := by cases w <;> rfl

section Fits

variable {s : State} {w : Width} {l : Loc}

theorem divUnsigned_of_fits (h : DivFits s w l) : divUnsigned w (s.dividend w).1 (s.dividend w).2 (s.valueAt w l) =
    some (BitVec.ofNat 32 (dividendOf s w / (s.valueAt w l).toNat), BitVec.ofNat 32 (dividendOf s w % (s.valueAt w l).toNat)) := by
  obtain ⟨hne, hlt⟩ := h
  have hmask := toNat_mask w
  rw [divUnsigned, if_neg hne, toNat_dividend, if_neg (by omega)]

theorem divUnsigned_of_not_fits (h : ¬ DivFits s w l) :
    divUnsigned w (s.dividend w).1 (s.dividend w).2 (s.valueAt w l) = none := by
  have hmask := toNat_mask w
  have hpos := Nat.two_pow_pos w.bits
  rw [divUnsigned, toNat_dividend]
  by_cases hd : s.valueAt w l = 0
  · exact if_pos hd
  · have hbig : ¬ dividendOf s w / (s.valueAt w l).toNat < 2 ^ w.bits := fun hlt => h ⟨hd, hlt⟩
    rw [if_neg hd, if_pos (by omega)]

theorem divSigned_of_fits (hl : l.Fits w) (h : IdivFits s w l) :
    divSigned w (s.dividend w).1 (s.dividend w).2 (s.valueAt w l) =
      some (truncInt w ((signedDividend s w).tdiv (signed w (s.valueAt w l))),
        truncInt w ((signedDividend s w).tmod (signed w (s.valueAt w l)))) := by
  obtain ⟨hne, hge, hlt⟩ := h
  have hdv := mt (signed_eq_zero_iff (hl.trunc_valueAt s)).mp hne
  simp only [divSigned, signed_dividend]
  rw [if_neg hdv, if_neg (by omega)]

theorem divSigned_of_not_fits (hl : l.Fits w) (h : ¬ IdivFits s w l) :
    divSigned w (s.dividend w).1 (s.dividend w).2 (s.valueAt w l) = none := by
  have hzero := signed_eq_zero_iff (hl.trunc_valueAt s)
  simp only [divSigned, signed_dividend]
  by_cases hd : s.valueAt w l = 0
  · exact if_pos (hzero.mpr hd)
  · rw [if_neg (mt hzero.mp hd), if_pos]
    refine Decidable.byContradiction fun hin => ?_
    exact h ⟨hd, by omega, by omega⟩

end Fits

/-! ### The two outcomes -/

/-- An instruction that asks for an exception once its operand is read. -/
theorem traps_of_prepared {s u : State} {x : Exn} {i : Instr} {m : M Unit} (hu : Prepared s u) (hi : exec i s = finish m u)
    (hm : m u = raise x u) : Traps s x i := by
  refine ⟨u.setNoReadWrite, hi.trans (finish_exn hm), ?_⟩
  obtain ⟨e, k, b, rfl⟩ := hu
  exact ⟨rfl, rfl, rfl, rfl, rfl,
    ⟨rfl, rfl, rfl, rfl, rfl, rfl, rfl, rfl, rfl, rfl, rfl, rfl, rfl, rfl, rfl, rfl, rfl, rfl, rfl, rfl⟩,
    ⟨rfl, rfl, rfl, rfl, rfl, rfl, rfl⟩, rfl, rfl⟩

theorem onlyGpr_setDivision (s : State) (w : Width) (q r : Word) : OnlyGpr s (s.setDivision w q r) := by
  cases w <;> exact ⟨_, rfl⟩

theorem setDivision_gpr {s u : State} (h : u.gpr = s.gpr) (w : Width) (q r : Word) :
    (u.setDivision w q r).gpr = quotientGpr s w q r := by
  cases w <;> simp only [State.setDivision, quotientGpr, State.setReg_gpr, State.setReg8_gpr, h]

section Outcomes

variable {s u : State} {w : Width} {sgn : Bool} {l : Loc} {i : Instr} (hu : Prepared s u)
  (hi : exec i s = finish (divide w sgn l) u) (hr : s.canRead w l)
include hu hi hr

/-- A quotient that fits is written with the remainder, and all flags are free (R372, R373, R381). -/
theorem divide_completes {q r : Word} (h : (if sgn then divSigned w (s.dividend w).1 (s.dividend w).2 (s.valueAt w l)
      else divUnsigned w (s.dividend w).1 (s.dividend w).2 (s.valueAt w l)) = some (q, r)) :
    Next (exec i s) fun t => t.gpr = quotientGpr s w q r ∧ SameMemory s t ∧ DefaultKeeps s t [.cf, .pf, .af, .zf, .sf, .of] ∧
      Rest s t := by
  obtain ⟨hgpr, -⟩ := hu.fields
  have hrun : divide w sgn l u = .ok () ((u.setDivision w q r).undefine (if sgn then .idiv else .div) w psSix u.getPS
      [(s.dividend w).1, (s.dividend w).2, s.valueAt w l]) := by
    rw [divide, run_bind_ok (readsValue_readLoc hr u hu), run_get_bind, hu.dividend_eq]
    simp only [h]
    rfl
  obtain ⟨hregs, hrest⟩ := registers_reflagged hu (onlyGpr_setDivision u w q r) (reflagged_undefine _ _ w psSix u.getPS _)
    fun hundef f _ => State.flag_undefine _ _ w psSix u.getPS _ f (.inl hundef)
  exact ⟨_, hi.trans (finish_ok hrun), hregs.trans (setDivision_gpr hgpr w q r), hrest⟩

theorem divide_traps (h : (if sgn then divSigned w (s.dividend w).1 (s.dividend w).2 (s.valueAt w l)
      else divUnsigned w (s.dividend w).1 (s.dividend w).2 (s.valueAt w l)) = none) : Traps s .de i := by
  refine traps_of_prepared hu hi ?_
  rw [divide, run_bind_ok (readsValue_readLoc hr u hu), run_get_bind, hu.dividend_eq]
  simp only [h]

end Outcomes

section Forms

variable {s u : State} {w : Width} {l : Loc} {i : Instr} (hu : Prepared s u)
include hu

theorem divForm_of_divide (hi : exec i s = finish (divide w false l) u) : DivForm s w l i := fun hr hfits =>
  divide_completes hu hi hr (divUnsigned_of_fits hfits)

theorem idivForm_of_divide (hl : l.Fits w) (hi : exec i s = finish (divide w true l) u) : IdivForm s w l i := fun hr hfits =>
  divide_completes hu hi hr (divSigned_of_fits hl hfits)

theorem div_traps_of_divide (hi : exec i s = finish (divide w false l) u) (hr : s.canRead w l) (h : ¬ DivFits s w l) :
    Traps s .de i := divide_traps hu hi hr (divUnsigned_of_not_fits h)

theorem idiv_traps_of_divide (hl : l.Fits w) (hi : exec i s = finish (divide w true l) u) (hr : s.canRead w l)
    (h : ¬ IdivFits s w l) : Traps s .de i := divide_traps hu hi hr (divSigned_of_not_fits hl h)

end Forms

/-- Settles O6: each form reads the divisor and divides the one dividend, which has a quotient exactly where it fits. -/
theorem divideCompletesOrTraps : Obligations.DivideCompletesOrTraps := by
  unfold Obligations.DivideCompletesOrTraps
  intro s e8 e
  have hu8 := prepared_withEA s (s.eaOf (s.rm8Loc e8))
  have hu := prepared_withEA s (s.eaOf (s.rmLoc e))
  have hl8 := s.fits_rm8Loc e8
  have hl := s.fits_rmLoc s.opW e
  exact ⟨divForm_of_divide hu8 rfl, divForm_of_divide hu rfl, idivForm_of_divide hu8 hl8 rfl, idivForm_of_divide hu hl rfl,
    div_traps_of_divide hu8 rfl, div_traps_of_divide hu rfl, idiv_traps_of_divide hu8 hl8 rfl, idiv_traps_of_divide hu hl rfl⟩

end Sys2Proof.Machine
end

section
/-! The decimal adjusts (41_arithmetic.md R374 to R379): their flags, what they write as numbers, and their encodings. -/

namespace Sys2Proof.Machine

/-! ### Flags after a change of the general registers -/

theorem ResultFlags.congr {w : Width} {l : Word} {s t : State} (h : ResultFlags w l s)
    (hf : ∀ f ∈ [Flag.pf, .zf, .sf], t.flag f = s.flag f) : ResultFlags w l t where
  pf := (hf .pf (by decide)).trans h.pf
  zf := (hf .zf (by decide)).trans h.zf
  sf := (hf .sf (by decide)).trans h.sf

theorem reflagged_flagsPZS (s : State) (w : Width) (a : Word) : Reflagged s (s.flagsPZS w a) := reflagged_install ..

theorem Reflagged.reg8_eq {s t : State} (h : Reflagged s t) (r : Reg8) : t.reg8 r = s.reg8 r := by
  obtain ⟨e, rfl, -⟩ := h
  rfl

/-- DAA and DAS: CF and AF as given, PF, ZF and SF of AL, OF free (R374, R375). -/
theorem State.flag_flagsDecimal (s : State) (site : UndefSite) (old al : Word) (cf af : Bool) {f : Flag}
    (h : s.cfg.undef = .blockDefault ∨ f ≠ .of) : (s.flagsDecimal site old al cf af).flag f =
      if f = .af then af else if f = .cf then cf else (s.flagsPZS .w8 al).flag f := by
  have hfree : s.cfg.undef = .blockDefault ∨ Flag.of.mask.getLsbD f.place = false :=
    h.imp id fun hf => by revert hf; cases f <;> decide
  refine (State.flag_undefine _ _ _ _ _ _ f ?_).trans ?_
  · exact hfree
  rw [State.flag_setFlag, State.flag_setFlag]

theorem reflagged_flagsDecimal (s : State) (site : UndefSite) (old al : Word) (cf af : Bool) :
    Reflagged s (s.flagsDecimal site old al cf af) :=
  (reflagged_flagsPZS s .w8 al).trans
    ((reflagged_setFlag _ .cf cf).trans ((reflagged_setFlag _ .af af).trans (reflagged_undefine ..)))

theorem resultFlags_flagsDecimal (s : State) (site : UndefSite) (old al : Word) (cf af : Bool) :
    ResultFlags .w8 al (s.flagsDecimal site old al cf af) := by
  refine (resultFlags_flagsPZS s .w8 al).congr fun f hf => ?_
  obtain ⟨haf, hcf, hof⟩ : f ≠ .af ∧ f ≠ .cf ∧ f ≠ .of := by revert hf; cases f <;> decide
  rw [s.flag_flagsDecimal site old al cf af (.inr hof), if_neg haf, if_neg hcf]

theorem defaultKeeps_flagsDecimal (s : State) (site : UndefSite) (old al : Word) (cf af : Bool) :
    DefaultKeeps s (s.flagsDecimal site old al cf af) [.of] := by
  intro hundef f hf
  obtain rfl := List.mem_singleton.mp hf
  exact (s.flag_flagsDecimal site old al cf af (.inl hundef)).trans (flagsPZS_other s .w8 al .of (.inr (.inr rfl)))

/-- AAA and AAS: CF and AF as given, the others free (R376, R377). -/
theorem State.flag_flagsAscii (s : State) (site : UndefSite) (v : Bool) (ax : Word) {f : Flag}
    (h : s.cfg.undef = .blockDefault ∨ f = .cf ∨ f = .af) :
    (s.flagsAscii site v ax).flag f = if f = .cf ∨ f = .af then v else s.flag f := by
  have hfree : s.cfg.undef = .blockDefault ∨
      (Flag.pf.mask ||| Flag.zf.mask ||| Flag.sf.mask ||| Flag.of.mask).getLsbD f.place = false :=
    h.imp id fun hf => by rcases hf with rfl | rfl <;> decide
  refine (State.flag_undefine _ _ _ _ _ _ f ?_).trans ?_
  · exact hfree
  rw [State.flag_setFlag, State.flag_setFlag]
  cases f <;> rfl

theorem defaultKeeps_flagsAscii (s : State) (site : UndefSite) (v : Bool) (ax : Word) :
    DefaultKeeps s (s.flagsAscii site v ax) [.pf, .zf, .sf, .of] := by
  intro hundef f hf
  refine (s.flag_flagsAscii site v ax (.inl hundef)).trans (if_neg ?_)
  rintro (rfl | rfl) <;> exact absurd hf (by decide)

theorem reflagged_flagsAscii (s : State) (site : UndefSite) (v : Bool) (ax : Word) : Reflagged s (s.flagsAscii site v ax) :=
  (reflagged_setFlag s .cf v).trans ((reflagged_setFlag _ .af v).trans (reflagged_undefine ..))

/-- AAM and AAD: PF, ZF and SF of AL, the others free (R378, R379). -/
theorem State.flag_flagsBase (s : State) (site : UndefSite) (ops : List Word) (al : Word) {f : Flag}
    (h : s.cfg.undef = .blockDefault ∨ f ∈ [Flag.pf, .zf, .sf]) :
    (s.flagsBase site ops al).flag f = (s.flagsPZS .w8 al).flag f :=
  State.flag_undefine _ _ _ _ _ _ f (h.imp id fun hf => by revert hf; cases f <;> decide)

theorem defaultKeeps_flagsBase (s : State) (site : UndefSite) (ops : List Word) (al : Word) :
    DefaultKeeps s (s.flagsBase site ops al) [.cf, .af, .of] := fun hundef f hf =>
  (s.flag_flagsBase site ops al (.inl hundef)).trans (flagsPZS_other s .w8 al f (by simpa using hf))

theorem reflagged_flagsBase (s : State) (site : UndefSite) (ops : List Word) (al : Word) : Reflagged s (s.flagsBase site ops al) :=
  (reflagged_flagsPZS s .w8 al).trans (reflagged_undefine ..)

/-! ### Registers written, then flags -/

theorem State.setReg8_trunc (s : State) (r : Reg8) (v : Word) : s.setReg8 r (trunc .w8 v) = s.setReg8 r v := by
  rw [State.setReg8, mergeByte_trunc, State.setReg8]

/-- DAA and DAS, by the number they write to AL. -/
theorem decimal_next {s : State} {i : Instr} {site : UndefSite} {old v : Word} {cf af : Bool}
    (hi : exec i s = .next ((s.setReg8 .al v).flagsDecimal site old (trunc .w8 v) cf af)) :
    Next (exec i s) fun t => t.gpr = (s.setReg8 .al v).gpr ∧ DecimalFlags s t cf af ∧ SameMemory s t ∧ Rest s t := by
  have ht := reflagged_flagsDecimal (s.setReg8 .al v) site old (trunc .w8 v) cf af
  have hset {f : Flag} := (s.setReg8 .al v).flag_flagsDecimal site old (trunc .w8 v) cf af (f := f)
  have hal := (ht.reg8_eq .al).trans (s.reg8_setReg8_same .al v)
  obtain ⟨hgpr, hmem, hkeeps, hrest⟩ :=
    registers_reflagged (prepared_refl s) ⟨_, rfl⟩ ht (defaultKeeps_flagsDecimal _ _ _ _ _ _)
  refine ⟨_, hi, hgpr, ⟨hset (.inr (by decide)), hset (.inr (by decide)), ?_, hkeeps⟩, hmem, hrest⟩
  rw [hal]
  exact resultFlags_flagsDecimal ..

/-- AAM and AAD, by the registers they write. -/
theorem base_next {s v : State} {i : Instr} {site : UndefSite} {ops : List Word} {al : Word} (hv : OnlyGpr s v)
    (hal : v.reg8 .al = al) (hi : exec i s = .next (v.flagsBase site ops al)) :
    Next (exec i s) fun t => t.gpr = v.gpr ∧ ResultFlags .w8 (t.reg8 .al) t ∧ DefaultKeeps s t [.cf, .af, .of] ∧
      SameMemory s t ∧ Rest s t := by
  have ht := reflagged_flagsBase v site ops al
  obtain ⟨hgpr, hmem, hkeeps, hrest⟩ := registers_reflagged (prepared_refl s) hv ht (defaultKeeps_flagsBase _ _ _ _)
  refine ⟨_, hi, hgpr, ?_, hkeeps, hmem, hrest⟩
  rw [(ht.reg8_eq .al).trans hal]
  exact (resultFlags_flagsPZS v .w8 al).congr fun f hf => v.flag_flagsBase site ops al (.inr hf)

/-! ### The numbers written -/

theorem State.lowAdjust_eq (s : State) : s.lowAdjust = lowDigit s := by
  have hlow : (s.reg8 .al &&& 0x0F).toNat = (s.reg8 .al).toNat % 16 := by
    rw [BitVec.toNat_and]
    exact Nat.and_two_pow_sub_one_eq_mod _ 4
  rw [State.lowAdjust, lowDigit, hlow]

theorem State.toNat_al_lt (s : State) : (s.reg8 .al).toNat < 256 := toNat_lt_of_trunc (w := .w8) (trunc_trunc .w8 _)

/-- AL after the correction of DAA's low digit (R374). -/
def daaLow (s : State) : Nat := if lowDigit s then (s.reg8 .al).toNat + 6 else (s.reg8 .al).toNat

/-- CF after DAA (R374). -/
def daaCarry (s : State) : Bool := decide (0x9F < daaLow s) || s.flag .cf

theorem daaLow_lt (s : State) : daaLow s < 262 := by
  have hal := s.toNat_al_lt
  unfold daaLow
  split <;> omega

theorem ite_add_ofNat (b : Bool) (n k : Nat) :
    (if b then BitVec.ofNat 32 n + BitVec.ofNat 32 k else BitVec.ofNat 32 n) = BitVec.ofNat 32 (if b then n + k else n) := by
  cases b
  · rfl
  · exact BitVec.ofNat_add_ofNat n k

/-- DAA's two corrections, as words and as numbers. -/
theorem daa_eq (s : State) : daa s =
    (s.setReg8 .al (BitVec.ofNat 32 (if daaCarry s then daaLow s + 0x60 else daaLow s))).flagsDecimal .daa (s.reg8 .al)
      (trunc .w8 (BitVec.ofNat 32 (if daaCarry s then daaLow s + 0x60 else daaLow s))) (daaCarry s) (lowDigit s) := by
  have hal : s.reg8 .al = BitVec.ofNat 32 (s.reg8 .al).toNat := by rw [BitVec.ofNat_toNat, BitVec.setWidth_eq]
  have hlow : (if lowDigit s then s.reg8 .al + 6 else s.reg8 .al) = BitVec.ofNat 32 (daaLow s) := by
    have h := ite_add_ofNat (lowDigit s) (s.reg8 .al).toNat 6
    rwa [← hal] at h
  have hnat : (BitVec.ofNat 32 (daaLow s)).toNat = daaLow s := by
    have hlt := daaLow_lt s
    rw [BitVec.toNat_ofNat]
    omega
  simp only [daa, s.lowAdjust_eq, hlow, hnat]
  rw [← ite_add_ofNat]
  rfl

/-- AL after the correction of DAS's low digit (R375). -/
def dasLow (s : State) : Nat := if lowDigit s then ((s.reg8 .al).toNat + 250) % 256 else (s.reg8 .al).toNat

/-- The high digit of DAS needs its correction (R375). -/
def dasHigh (s : State) : Bool := decide (0x99 < (s.reg8 .al).toNat) || s.flag .cf

/-- DAS's two corrections, as words and as numbers. -/
theorem das_eq (s : State) : das s =
    (s.setReg8 .al (BitVec.ofNat 32 (if dasHigh s then dasLow s + 160 else dasLow s))).flagsDecimal .das (s.reg8 .al)
      (trunc .w8 (BitVec.ofNat 32 (if dasHigh s then dasLow s + 160 else dasLow s)))
      (dasHigh s || (lowDigit s && (s.flag .cf || decide ((s.reg8 .al).toNat < 6)))) (lowDigit s) := by
  have hal := s.toNat_al_lt
  have hlow : (if lowDigit s then trunc .w8 (s.reg8 .al - 6) else s.reg8 .al) = BitVec.ofNat 32 (dasLow s) := by
    have hsub : (trunc .w8 (s.reg8 .al - 6)).toNat = (2 ^ 8 + (s.reg8 .al).toNat - 6) % 2 ^ 8 :=
      toNat_trunc_sub .w8 (s.reg8 .al) 6 (by decide)
    apply BitVec.eq_of_toNat_eq
    rw [BitVec.toNat_ofNat, dasLow]
    split <;> omega
  have hhigh : (if dasHigh s then trunc .w8 (BitVec.ofNat 32 (dasLow s) - 0x60) else BitVec.ofNat 32 (dasLow s)) =
      trunc .w8 (BitVec.ofNat 32 (if dasHigh s then dasLow s + 160 else dasLow s)) := by
    have hsub : (trunc .w8 (BitVec.ofNat 32 (dasLow s) - 0x60)).toNat =
        (2 ^ 8 + (BitVec.ofNat 32 (dasLow s)).toNat - 0x60) % 2 ^ 8 := toNat_trunc_sub .w8 _ 0x60 (by decide)
    have hlt : dasLow s < 256 := by
      unfold dasLow
      split <;> omega
    apply BitVec.eq_of_toNat_eq
    rw [BitVec.toNat_ofNat] at hsub
    rw [toNat_trunc, BitVec.toNat_ofNat]
    simp only [Width.bits]
    split
    · omega
    · rw [BitVec.toNat_ofNat]
      omega
  rw [← State.setReg8_trunc, ← hhigh, ← hlow, ← s.lowAdjust_eq]
  rfl

/-- A register's number and a correction, added as words. -/
theorem truncInt_toNat_add (w : Width) (v : Word) (k : Int) : truncInt w (v.toNat + k) = trunc w (v + BitVec.ofInt 32 k) := by
  rw [truncInt, BitVec.ofInt_add, BitVec.ofInt_natCast, BitVec.ofNat_toNat, BitVec.setWidth_eq]

/-- The digits after the corrections of AAA (k = 1) and AAS (k = −1), before the upper digit is cleared. -/
def asciiCorrected (s : State) (k : Int) : State :=
  if !lowDigit s then s
  else if s.cfg.aaaCarryIntoAh then s.setReg .w16 .ax (truncInt .w16 ((s.reg .w16 .ax).toNat + k * 0x106))
  else (s.setReg8 .al (truncInt .w8 ((s.reg8 .al).toNat + k * 6))).setReg8 .ah (truncInt .w8 ((s.reg8 .ah).toNat + k))

/-- AAA and AAS without their flags. -/
def asciiAdjusted (s : State) (k : Int) : State :=
  (asciiCorrected s k).setReg8 .al ((asciiCorrected s k).reg8 .al &&& 0x0F)

theorem asciiAdjusted_gpr (s : State) (k : Int) : (asciiAdjusted s k).gpr = asciiGpr s k := rfl

theorem onlyGpr_asciiAdjusted (s : State) (k : Int) : OnlyGpr s (asciiAdjusted s k) := by
  unfold asciiAdjusted asciiCorrected
  split
  · exact ⟨_, rfl⟩
  · split <;> exact ⟨_, rfl⟩

section Ascii

variable {k : Int} {d6 d1 d16 : Word} (h6 : d6 = BitVec.ofInt 32 (k * 6)) (h1 : d1 = BitVec.ofInt 32 k)
  (h16 : d16 = BitVec.ofInt 32 (k * 0x106))
include h6 h1 h16

theorem asciiAdjust_eq (site : UndefSite) (s : State) : asciiAdjust site d6 d1 d16 s =
    (asciiAdjusted s k).flagsAscii site (lowDigit s) (s.reg .w16 .ax) := by
  subst h6 h1 h16
  simp only [asciiAdjust, asciiAdjusted, asciiCorrected, s.lowAdjust_eq, truncInt_toNat_add, State.setReg_trunc,
    State.setReg8_trunc]

theorem ascii_next {s : State} {i : Instr} {site : UndefSite} (hi : exec i s = .next (asciiAdjust site d6 d1 d16 s)) :
    Next (exec i s) fun t => t.gpr = asciiGpr s k ∧ t.flag .cf = lowDigit s ∧ t.flag .af = lowDigit s ∧
      DefaultKeeps s t [.pf, .zf, .sf, .of] ∧ SameMemory s t ∧ Rest s t := by
  rw [asciiAdjust_eq h6 h1 h16] at hi
  have ht := reflagged_flagsAscii (asciiAdjusted s k) site (lowDigit s) (s.reg .w16 .ax)
  have hset {f : Flag} := (asciiAdjusted s k).flag_flagsAscii site (lowDigit s) (s.reg .w16 .ax) (f := f)
  obtain ⟨hgpr, hmem, hkeeps, hrest⟩ :=
    registers_reflagged (prepared_refl s) (onlyGpr_asciiAdjusted s k) ht (defaultKeeps_flagsAscii _ _ _ _)
  exact ⟨_, hi, hgpr.trans (asciiAdjusted_gpr s k), hset (.inr (.inl rfl)), hset (.inr (.inr rfl)), hkeeps, hmem, hrest⟩

end Ascii

theorem aam_run {ib : Byte} (h : ib ≠ 0) (s : State) : aam ib s =
    .ok () (((s.setReg8 .ah (BitVec.ofNat 32 ((s.reg8 .al).toNat / ib.toNat))).setReg8 .al
      (BitVec.ofNat 32 ((s.reg8 .al).toNat % ib.toNat))).flagsBase .aam [s.reg8 .al, ib.setWidth 32]
        (BitVec.ofNat 32 ((s.reg8 .al).toNat % ib.toNat))) := by
  have hib : (ib.setWidth 32).toNat = ib.toNat := BitVec.toNat_setWidth_of_le (by decide)
  have hquot : s.reg8 .al / ib.setWidth 32 = BitVec.ofNat 32 ((s.reg8 .al).toNat / ib.toNat) := by
    rw [← hib, ← BitVec.toNat_udiv, BitVec.ofNat_toNat, BitVec.setWidth_eq]
  have hrem : s.reg8 .al % ib.setWidth 32 = BitVec.ofNat 32 ((s.reg8 .al).toNat % ib.toNat) := by
    rw [← hib, ← BitVec.toNat_umod, BitVec.ofNat_toNat, BitVec.setWidth_eq]
  rw [aam, ensure_of (bne_iff_ne.mpr h), run_pure_bind, run_modify]
  simp only [hquot, hrem]

theorem aad_eq (ib : Byte) (s : State) : aad ib s =
    ((s.setReg8 .al (BitVec.ofNat 32 ((s.reg8 .al).toNat + (s.reg8 .ah).toNat * ib.toNat))).setReg8 .ah 0).flagsBase .aad
      [s.reg8 .al, s.reg8 .ah, ib.setWidth 32]
        (trunc .w8 (BitVec.ofNat 32 ((s.reg8 .al).toNat + (s.reg8 .ah).toNat * ib.toNat))) := by
  have hsum : s.reg8 .al + s.reg8 .ah * ib.setWidth 32 =
      BitVec.ofNat 32 ((s.reg8 .al).toNat + (s.reg8 .ah).toNat * ib.toNat) := by
    rw [BitVec.ofNat_add, BitVec.ofNat_mul, BitVec.ofNat_toNat, BitVec.ofNat_toNat, BitVec.ofNat_toNat, BitVec.setWidth_eq,
      BitVec.setWidth_eq]
  simp only [aad, hsum, State.setReg8_trunc]

/-- Settles O7: the digits corrected as numbers, CF and AF as given, and the six encodings. -/
theorem decimalAdjustsComplete : Obligations.DecimalAdjustsComplete := by
  unfold Obligations.DecimalAdjustsComplete
  intro s ib al
  refine ⟨decimal_next (congrArg Host.Outcome.next (daa_eq s)), decimal_next (congrArg Host.Outcome.next (das_eq s)), ?ascii,
    fun hib => ?aam, traps_of_raise rfl rfl, ?aad, fun c => ?encodings⟩
  case ascii =>
    have haaa := ascii_next (k := 1) (by decide) (by decide) (by decide) (i := .aaa) (s := s) rfl
    have haas := ascii_next (k := -1) (by decide) (by decide) (by decide) (i := .aas) (s := s) rfl
    simp only [List.forall_mem_cons]
    exact ⟨haaa, haas, List.forall_mem_nil _⟩
  case aam =>
    have hlt : (s.reg8 .al).toNat % ib.toNat < 256 := Nat.lt_of_le_of_lt (Nat.mod_le _ _) s.toNat_al_lt
    refine base_next ⟨_, rfl⟩ ?_ (finish_ok (aam_run hib s))
    rw [State.reg8_setReg8_same]
    apply BitVec.eq_of_toNat_eq
    rw [toNat_trunc, BitVec.toNat_ofNat]
    exact Nat.mod_eq_of_lt (Nat.lt_of_le_of_lt (Nat.mod_le _ _) hlt)
  case aad =>
    refine base_next ⟨_, rfl⟩ ?_ (congrArg Host.Outcome.next (aad_eq ib s))
    rw [State.reg8_setReg8_other _ (by decide), State.reg8_setReg8_same]
  case encodings =>
    simp only [List.forall_mem_cons]
    exact ⟨⟨rfl, rfl, rfl, rfl, List.forall_mem_nil _⟩, rfl, rfl⟩

end Sys2Proof.Machine
end

section
/-! Group 2 (42_logic_shift_bit.md R411 to R419): value, carry and overflow of each shift and rotate as arithmetic. A rotate turns a
ring of bits, an arithmetic shift divides the signed value. -/

namespace Sys2Proof

/-! ### Words laid over each other -/

/-- The low m bits of two words laid over each other, the second one short of the first one's shift. -/
theorem toNat_shiftLeft_or_mod {n m k : Nat} (a b : BitVec n) (hm : m ≤ n) (hb : b.toNat < 2 ^ k) :
    (a <<< k ||| b).toNat % 2 ^ m = (a.toNat * 2 ^ k + b.toNat) % 2 ^ m := by
  rw [BitVec.toNat_or, BitVec.toNat_shiftLeft, Nat.or_mod_two_pow, Nat.mod_mod_of_dvd _ (Nat.pow_dvd_pow 2 hm),
    ← Nat.or_mod_two_pow, ← Nat.shiftLeft_add_eq_or_of_lt hb, Nat.shiftLeft_eq]

/-- The same where nothing is lost. -/
theorem toNat_shiftLeft_or {n k : Nat} (a b : BitVec n) (hb : b.toNat < 2 ^ k) (h : a.toNat * 2 ^ k + b.toNat < 2 ^ n) :
    (a <<< k ||| b).toNat = a.toNat * 2 ^ k + b.toNat := by
  have hmod := toNat_shiftLeft_or_mod a b (Nat.le_refl n) hb
  rwa [Nat.mod_eq_of_lt (BitVec.isLt _), Nat.mod_eq_of_lt h] at hmod

theorem toNat_ushiftRight_lt {n m k : Nat} {a : BitVec n} (ha : a.toNat < 2 ^ m) (hk : k ≤ m) :
    (a >>> (m - k)).toNat < 2 ^ k := by
  rw [BitVec.toNat_ushiftRight, Nat.shiftRight_eq_div_pow, Nat.div_lt_iff_lt_mul (Nat.two_pow_pos _), ← Nat.pow_add,
    Nat.add_sub_cancel' hk]
  exact ha

theorem toNat_setWidth_64 (v : Word) : (v.setWidth 64).toNat = v.toNat := BitVec.toNat_setWidth_of_le (by decide)

/-- The low bits of a word of 64 bits, as a value of a width. -/
theorem toNat_trunc_setWidth (w : Width) (t : BitVec 64) : (trunc w (t.setWidth 32)).toNat = t.toNat % 2 ^ w.bits := by
  rw [toNat_trunc, BitVec.toNat_setWidth, Nat.mod_mod_of_dvd _ (Nat.pow_dvd_pow 2 w.bits_le)]

theorem Width.ring_le (w : Width) : w.bits + 1 ≤ 64 := by cases w <;> decide

namespace Machine

/-! ### Rings -/

section Ring

variable {n m k : Nat} {a : BitVec n} (hm : m ≤ n) (ha : a.toNat < 2 ^ m) (hk : k ≤ m)
include hm ha hk

theorem toNat_turnedLeft : (a <<< k ||| a >>> (m - k)).toNat % 2 ^ m = turnLeft m k a.toNat := by
  rw [toNat_shiftLeft_or_mod _ _ hm (toNat_ushiftRight_lt ha hk), BitVec.toNat_ushiftRight, Nat.shiftRight_eq_div_pow, turnLeft]

theorem toNat_turnedRight : (a >>> k ||| a <<< (m - k)).toNat % 2 ^ m = turnRight m k a.toNat := by
  have hlt : (a >>> k).toNat < 2 ^ (m - k) := by
    have h := toNat_ushiftRight_lt ha (Nat.sub_le m k)
    rwa [Nat.sub_sub_self hk] at h
  rw [BitVec.or_comm, toNat_shiftLeft_or_mod _ _ hm hlt, BitVec.toNat_ushiftRight, Nat.shiftRight_eq_div_pow, turnRight,
    Nat.add_comm]

end Ring

theorem toNat_ringMask (w : Width) (t : BitVec 64) :
    (t &&& ((1#64 <<< (w.bits + 1)) - 1)).toNat = t.toNat % 2 ^ (w.bits + 1) := by
  have hmask : ((1#64 <<< (w.bits + 1)) - 1).toNat = 2 ^ (w.bits + 1) - 1 := by cases w <;> rfl
  rw [BitVec.toNat_and, hmask, Nat.and_two_pow_sub_one_eq_mod]

/-! ### Arithmetic shifts -/

/-- Above its width a sign-extended value repeats its sign bit. -/
theorem getLsbD_sext (w : Width) (d : Word) {i : Nat} (hi : i < 32) :
    (sext w d).getLsbD i = if i < w.bits then bit d i else msbOf w d := by
  cases w with
  | w8 | w16 =>
    simp only [sext, Width.bits, msbOf, bit, BitVec.getLsbD_signExtend, BitVec.msb_eq_getLsbD_last, BitVec.getLsbD_setWidth,
      decide_eq_true hi, Bool.true_and]
    refine ite_congr rfl (fun h => ?_) fun _ => rfl
    rw [decide_eq_true h, Bool.true_and]
  | w32 => exact (if_pos hi).symm

theorem msb_sext (w : Width) (d : Word) : (sext w d).msb = msbOf w d := by
  rw [BitVec.msb_eq_getLsbD_last, getLsbD_sext w d (by decide)]
  cases w <;> rfl

theorem getLsbD_sshiftRight_sext (w : Width) (d : Word) (k : Nat) {i : Nat} (hi : i < 32) :
    ((sext w d).sshiftRight k).getLsbD i = if k + i < w.bits then bit d (k + i) else msbOf w d := by
  have hbits := w.bits_le
  rw [BitVec.getLsbD_sshiftRight, decide_eq_false (by omega), Bool.not_false, Bool.true_and]
  by_cases hk : k + i < 32
  · rw [if_pos hk, getLsbD_sext w d hk]
  · rw [if_neg hk, msb_sext, if_neg (show ¬ k + i < w.bits by omega)]

/-- A shift beyond the width fills it with the sign bit, as one by the width does. -/
theorem sshiftRight_sext_min (w : Width) (d : Word) (c : Nat) :
    (sext w d).sshiftRight (min c w.bits) = (sext w d).sshiftRight c := by
  apply BitVec.eq_of_getLsbD_eq
  intro i hi
  rw [getLsbD_sshiftRight_sext w d _ hi, getLsbD_sshiftRight_sext w d _ hi]
  by_cases hc : c ≤ w.bits
  · rw [Nat.min_eq_left hc]
  · rw [if_neg (by omega), if_neg (by omega)]

/-- An arithmetic shift divides the signed value (R413). -/
theorem toInt_sshiftRight_sext (w : Width) (d : Word) (c : Nat) : ((sext w d).sshiftRight c).toInt = signed w d / 2 ^ c := by
  rw [BitVec.toInt_sshiftRight, Int.shiftRight_eq_div_pow, signed, Int.natCast_pow]
  rfl

/-- A word is odd where its bit 0 is set, signed or not. -/
theorem toInt_odd (v : Word) : decide (v.toInt % 2 = 1) = v.getLsbD 0 := by
  rw [← BitVec.testBit_toNat, Nat.testBit_zero, decide_eq_decide, BitVec.toInt_eq_toNat_cond]
  omega

/-! ### What the operations compute -/

section Values

variable {w : Width} {d : Word} (hd : trunc w d = d)
include hd

/-- CF above the operand (R417). -/
theorem toNat_ring (cf : Bool) : (ring w cf d).toNat = ringNat w cf d := by
  have hlt := toNat_lt_of_trunc hd
  have hbits : 2 ^ w.bits + 2 ^ w.bits ≤ 2 ^ 64 := by cases w <;> decide
  have hone : (1#64).toNat = 1 := rfl
  rw [ring, ringNat]
  cases cf with
  | false =>
    rw [Bool.toNat_false, Nat.zero_mul, Nat.zero_add, ← toNat_setWidth_64 d]
    exact congrArg BitVec.toNat BitVec.zero_or
  | true =>
    rw [if_pos rfl, toNat_shiftLeft_or _ _ (by rwa [toNat_setWidth_64]) (by rw [toNat_setWidth_64, hone]; omega),
      toNat_setWidth_64, hone, Bool.toNat_true]

theorem toNat_ring_lt (cf : Bool) : (ring w cf d).toNat < 2 ^ (w.bits + 1) := by
  have hlt := toNat_lt_of_trunc hd
  rw [toNat_ring hd, ringNat, Nat.pow_succ]
  cases cf <;> simp only [Bool.toNat_false, Bool.toNat_true] <;> omega

/-- RCL turns the ring of CF and the operand left (R417). -/
theorem toNat_ringLeft (cf : Bool) (c : Nat) : (ringLeft w (c % (w.bits + 1)) (ring w cf d)).toNat =
    turnLeft (w.bits + 1) (c % (w.bits + 1)) (ringNat w cf d) := by
  have hk : c % (w.bits + 1) ≤ w.bits + 1 := Nat.le_of_lt (Nat.mod_lt _ (Nat.succ_pos _))
  rw [ringLeft, toNat_ringMask, toNat_turnedLeft (Width.ring_le w) (toNat_ring_lt hd cf) hk, toNat_ring hd]

/-- RCR turns it right (R418). -/
theorem toNat_ringRight (cf : Bool) (c : Nat) : (ringRight w (c % (w.bits + 1)) (ring w cf d)).toNat =
    turnRight (w.bits + 1) (c % (w.bits + 1)) (ringNat w cf d) := by
  have hk : c % (w.bits + 1) ≤ w.bits + 1 := Nat.le_of_lt (Nat.mod_lt _ (Nat.succ_pos _))
  rw [ringRight, toNat_ringMask, toNat_turnedRight (Width.ring_le w) (toNat_ring_lt hd cf) hk, toNat_ring hd]

/-- The value of each operation is that of the rules (R411 to R413, R415 to R418). -/
theorem ShiftOp.compute_value (op : ShiftOp) (cf : Bool) (c : Nat) : (op.compute w cf d c).value = shiftValue op w cf d c := by
  have hlt := toNat_lt_of_trunc hd
  have hk : c % w.bits ≤ w.bits := Nat.le_of_lt (Nat.mod_lt _ w.bits_pos)
  cases op with
  | shl =>
    refine trunc_eq_ofNat ?_
    rw [toNat_trunc, BitVec.toNat_shiftLeft, Nat.shiftLeft_eq, Nat.mod_mod_of_dvd _ (Nat.pow_dvd_pow 2 w.bits_le)]
  | shr =>
    apply BitVec.eq_of_toNat_eq
    rw [ShiftOp.compute, shiftValue, BitVec.toNat_ushiftRight, Nat.shiftRight_eq_div_pow, BitVec.toNat_ofNat,
      Nat.mod_eq_of_lt (Nat.lt_of_le_of_lt (Nat.div_le_self _ _) d.isLt)]
  | sar =>
    rw [ShiftOp.compute, shiftValue, sshiftRight_sext_min, truncInt, ← toInt_sshiftRight_sext, BitVec.ofInt_toInt]
  | rol => exact trunc_eq_ofNat ((toNat_trunc w _).trans (toNat_turnedLeft w.bits_le hlt hk))
  | ror => exact trunc_eq_ofNat ((toNat_trunc w _).trans (toNat_turnedRight w.bits_le hlt hk))
  | rcl => exact trunc_eq_ofNat (toNat_ringLeft hd cf c ▸ toNat_trunc_setWidth w _)
  | rcr => exact trunc_eq_ofNat (toNat_ringRight hd cf c ▸ toNat_trunc_setWidth w _)

/-- CF of each operation is the last bit moved out. -/
theorem ShiftOp.compute_cf (op : ShiftOp) (cf : Bool) (c : Nat) : (op.compute w cf d c).cf = shiftCarry op w cf d c := by
  have hlt := toNat_lt_of_trunc hd
  cases op with
  | shl =>
    rw [ShiftOp.compute, shiftCarry, Nat.testBit_mul_two_pow, BitVec.testBit_toNat, bit]
  | shr =>
    simp only [ShiftOp.compute, shiftCarry, bit, ← BitVec.testBit_toNat]
    by_cases hc : c ≤ w.bits
    · rw [decide_eq_true hc, Bool.true_and]
    · have hpow : 2 ^ w.bits ≤ 2 ^ (c - 1) := Nat.pow_le_pow_right (by decide) (by omega)
      rw [decide_eq_false hc, Bool.false_and, Nat.testBit_lt_two_pow (by omega)]
  | sar =>
    have hpos := w.bits_pos
    rw [ShiftOp.compute, shiftCarry, ← toInt_sshiftRight_sext, toInt_odd, getLsbD_sshiftRight_sext w d _ (by decide)]
    exact ite_congr (propext (by omega)) (fun _ => rfl) fun _ => rfl
  | rol => exact congrArg (bit · 0) (ShiftOp.compute_value hd .rol cf c)
  | ror => exact congrArg (msbOf w) (ShiftOp.compute_value hd .ror cf c)
  | rcl => rw [ShiftOp.compute, shiftCarry, ← toNat_ringLeft hd, BitVec.testBit_toNat]
  | rcr => rw [ShiftOp.compute, shiftCarry, ← toNat_ringRight hd, BitVec.testBit_toNat]

/-- Value, CF and OF of each operation are those of the rules. -/
theorem ShiftOp.compute_eq (op : ShiftOp) (cf : Bool) (c : Nat) :
    op.compute w cf d c = ⟨shiftValue op w cf d c, shiftCarry op w cf d c, shiftOverflow op w cf d c⟩ := by
  have hof : (op.compute w cf d c).of = shiftOverflow op w cf d c := by
    simp only [shiftOverflow, ← ShiftOp.compute_value hd, ← ShiftOp.compute_cf hd]
    cases op <;> rfl
  rw [← ShiftOp.compute_value hd, ← ShiftOp.compute_cf hd, ← hof]

theorem ShiftOp.trunc_shiftValue (op : ShiftOp) (cf : Bool) (c : Nat) :
    trunc w (shiftValue op w cf d c) = shiftValue op w cf d c := by
  rw [← ShiftOp.compute_value hd]
  cases op with
  | shl | sar | rol | ror | rcl | rcr => exact trunc_trunc w _
  | shr =>
    apply BitVec.eq_of_toNat_eq
    rw [ShiftOp.compute, toNat_trunc, BitVec.toNat_ushiftRight, Nat.shiftRight_eq_div_pow]
    exact Nat.mod_eq_of_lt (Nat.lt_of_le_of_lt (Nat.div_le_self _ _) (toNat_lt_of_trunc hd))

end Values

end Machine
end Sys2Proof
end

section
/-! The run of group 2 (42_logic_shift_bit.md R410, R414, R419): an operand written back, which is what a count of 0 does, the
flags of a count other than 0, and the forms. -/

namespace Sys2Proof.Machine

/-! ### An operand written back -/

theorem Gpr.set_get (g : Gpr) (r : Reg) : g.set r (g.get r) = g := by cases r <;> rfl

theorem merge_same (w : Width) (v : Word) : merge w v v = v := by
  apply BitVec.eq_of_toNat_eq
  rw [toNat_merge, Nat.div_add_mod']

theorem State.setReg_same (s : State) (w : Width) (r : Reg) : (s.setReg w r (s.reg w r)).gpr = s.gpr := by
  rw [State.reg, s.setReg_trunc, State.setReg_gpr, merge_same, Gpr.set_get]

theorem State.setReg8_same (s : State) (r : Reg8) : (s.setReg8 r (s.reg8 r)).gpr = s.gpr := by
  have hbyte : mergeByte (high8 r) (s.gpr.get (home8 r)) (s.reg8 r) = s.gpr.get (home8 r) := by
    cases h : high8 r with
    | true =>
      apply BitVec.eq_of_toNat_eq
      rw [toNat_mergeByte_high, s.toNat_reg8_high rfl h]
      omega
    | false =>
      rw [State.reg8, h, mergeByte_trunc]
      exact merge_same .w8 _
  rw [State.setReg8_gpr, hbyte, Gpr.set_get]

/-- The bytes a value is put together from (R110). -/
theorem leBytes_ofLe : ∀ {bs : List Byte}, bs.length ≤ 4 → leBytes bs.length (ofLe bs) = bs
  | [], _ => rfl
  | b :: bs, h => by
    have hlen : bs.length ≤ 3 := Nat.le_of_succ_le_succ h
    have hlt : (ofLe bs).toNat < 2 ^ 24 :=
      Nat.lt_of_lt_of_le (toNat_ofLe_lt bs) (show _ ≤ 256 ^ 3 from Nat.pow_le_pow_right (by decide) hlen)
    have hb : (b.setWidth 32).toNat = b.toNat := BitVec.toNat_setWidth_of_le (by decide)
    have hall : (ofLe (b :: bs)).toNat = (ofLe bs).toNat * 2 ^ 8 + b.toNat := by
      have hbyte := b.isLt
      rw [ofLe, BitVec.or_comm, toNat_shiftLeft_or _ _ (hb ▸ hbyte) (by omega), hb]
    have hhead : (ofLe (b :: bs)).setWidth 8 = b := by
      apply BitVec.eq_of_toNat_eq
      rw [BitVec.toNat_setWidth, hall]
      omega
    have htail : ofLe (b :: bs) >>> 8 = ofLe bs := by
      apply BitVec.eq_of_toNat_eq
      rw [BitVec.toNat_ushiftRight, hall, Nat.shiftRight_eq_div_pow]
      omega
    rw [List.length_cons, leBytes, hhead, htail, leBytes_ofLe (by omega)]

/-- Bytes written where they were read change nothing. -/
theorem State.busWrite_same {s : State} (h : s.mem.wf = true) (as : List Nat) :
    SameMemory s (s.busWrite as (as.map s.busByte)) := by
  induction as generalizing s with
  | nil => exact fun _ => rfl
  | cons a as ih =>
    have hsame : (s.setBusByte a (s.busByte a)).busByte = s.busByte := by
      funext b
      rw [State.busByte_setBusByte h]
      split
      · next hb => rw [State.busByte, State.busByte, s.busKind_congr hb.1, hb.1]
      · rfl
    have hrest := ih (State.setBusByte_wf h a (s.busByte a))
    rw [SameMemory, hsame] at hrest
    exact hrest

/-- An operand's value written back leaves registers and memory as they are. -/
theorem State.putAt_same {s : State} (h : s.mem.wf = true) (w : Width) (l : Loc) : Untouched s (s.putAt w l (s.valueAt w l)) := by
  cases l with
  | byteReg r => exact ⟨s.setReg8_same r, fun _ => rfl⟩
  | reg r => exact ⟨s.setReg_same w r, fun _ => rfl⟩
  | mem seg off =>
    have hlen : ((s.spread seg off w.bytes).map s.busByte).length = w.bytes := by rw [List.length_map, s.length_spread]
    have hbytes : leBytes w.bytes (s.valueAt w (.mem seg off)) = (s.spread seg off w.bytes).map s.busByte := by
      have h4 : w.bytes ≤ 4 := by cases w <;> decide
      have hback := leBytes_ofLe (hlen.symm ▸ h4)
      rwa [hlen] at hback
    refine ⟨State.putAt_gpr .., ?_⟩
    rw [State.putAt, hbytes]
    exact State.busWrite_same (s := s.captureWrite (.mem seg off)) h _

/-- The same where the operand was noted before. -/
theorem Prepared.putAt_same {s u : State} (hu : Prepared s u) (h : s.mem.wf = true) (w : Width) (l : Loc) :
    Untouched s (u.putAt w l (s.valueAt w l)) ∧ SameFlags s (u.putAt w l (s.valueAt w l)) ∧
      Rest s (u.putAt w l (s.valueAt w l)) := by
  have hrest := rest_of_reflagged hu (moved_putAt u w l (s.valueAt w l)) (.refl _)
  obtain ⟨e, k, b, rfl⟩ := hu
  obtain ⟨hflags, -⟩ := (moved_putAt { s with regEA := e, regEAWrite := k, opFlags := { s.opFlags with noWrite := b } } w l
    (s.valueAt w l)).plain
  exact ⟨State.putAt_same (s := { s with regEA := e, regEAWrite := k, opFlags := { s.opFlags with noWrite := b } }) h w l, hflags,
    hrest⟩

/-! ### Flags -/

theorem ofUndefined_place (c : Nat) {f : Flag} (h : f ≠ .of ∨ c = 1) : (ofUndefined c).getLsbD f.place = false := by
  rw [ofUndefined]
  split
  · exact BitVec.getLsbD_zero
  · next hc =>
    rw [Flag.mask_getLsbD, decide_eq_false fun hp => (h.resolve_right hc) (Flag.place_inj hp)]

/-- CF and OF as given, some flags free (R381). -/
theorem State.flag_carryOverflow (s : State) (cf of : Bool) (site : UndefSite) (w : Width) (m old : Word) (ops : List Word)
    {f : Flag} (h : s.cfg.undef = .blockDefault ∨ m.getLsbD f.place = false) :
    (((s.setFlag .cf cf).setFlag .of of).undefine site w m old ops).flag f =
      if f = .of then of else if f = .cf then cf else s.flag f := by
  refine (State.flag_undefine _ site w m old ops f ?_).trans ?_
  · exact h
  rw [State.flag_setFlag, State.flag_setFlag]

theorem reflagged_carryOverflow (s : State) (cf of : Bool) (site : UndefSite) (w : Width) (m old : Word) (ops : List Word) :
    Reflagged s (((s.setFlag .cf cf).setFlag .of of).undefine site w m old ops) :=
  (reflagged_setFlag s .cf cf).trans ((reflagged_setFlag _ .of of).trans (reflagged_undefine ..))

/-- PF, ZF and SF of the result under a new carry and overflow, AF free (R414). -/
theorem resultFlags_carryOverflow (s : State) (l : Word) (cf of : Bool) (site : UndefSite) (w : Width) (m old : Word)
    (ops : List Word) (h : s.cfg.undef = .blockDefault ∨ ∀ f ∈ [Flag.pf, .zf, .sf], m.getLsbD f.place = false) :
    ResultFlags w l ((((s.flagsPZS w l).setFlag .cf cf).setFlag .of of).undefine site w m old ops) := by
  refine (resultFlags_flagsPZS s w l).congr fun f hf => ?_
  obtain ⟨hof, hcf⟩ : f ≠ .of ∧ f ≠ .cf := by revert hf; cases f <;> decide
  refine ((s.flagsPZS w l).flag_carryOverflow cf of site w m old ops ?_).trans ?_
  · exact h.imp id fun hm => hm f hf
  · rw [if_neg hof, if_neg hcf]

theorem defaultKeeps_carryOverflow (s : State) (l : Word) (cf of : Bool) (site : UndefSite) (w : Width) (m old : Word)
    (ops : List Word) : DefaultKeeps s ((((s.flagsPZS w l).setFlag .cf cf).setFlag .of of).undefine site w m old ops) [.af] := by
  intro hundef f hf
  obtain rfl := List.mem_singleton.mp hf
  exact ((s.flagsPZS w l).flag_carryOverflow cf of site w m old ops (.inl hundef)).trans
    (flagsPZS_other s w l .af (.inr (.inl rfl)))

theorem DefaultKeeps.congr {s z t : State} {fs : List Flag} (h : DefaultKeeps z t fs) (hflag : z.flag = s.flag)
    (hcfg : z.cfg = s.cfg) : DefaultKeeps s t fs := fun hundef f hf => hflag ▸ h (hcfg ▸ hundef) f hf

/-! ### The flags of group 2 (R414, R419) -/

section Flags

variable (op : ShiftOp) (w : Width) (d : Word) (c : Nat) (r : ShiftResult) (s : State)

theorem ShiftOp.reflagged_flags : Reflagged s (op.flags w d c r s) := by
  rw [ShiftOp.flags]
  split
  · exact (reflagged_flagsPZS s w r.value).trans (reflagged_carryOverflow ..)
  · exact reflagged_carryOverflow ..

/-- What is free of the flags: AF after a shift, and OF for a count other than 1. -/
theorem freeAfterShift_place {f : Flag} (haf : f ≠ .af) (hof : f ≠ .of ∨ c = 1) :
    (Flag.af.mask ||| ofUndefined c).getLsbD f.place = false := by
  rw [BitVec.getLsbD_or, ofUndefined_place c hof, Flag.mask_getLsbD, Bool.or_false]
  exact decide_eq_false fun hp => haf (Flag.place_inj hp)

theorem ShiftOp.flag_cf_flags : (op.flags w d c r s).flag .cf = r.cf := by
  rw [ShiftOp.flags]
  split
  · exact State.flag_carryOverflow _ _ _ _ _ _ _ _ (.inr (freeAfterShift_place c (by decide) (.inl (by decide))))
  · exact State.flag_carryOverflow _ _ _ _ _ _ _ _ (.inr (ofUndefined_place c (.inl (by decide))))

theorem ShiftOp.flag_of_flags (h : c = 1 ∨ s.cfg.undef = .blockDefault) : (op.flags w d c r s).flag .of = r.of := by
  rw [ShiftOp.flags]
  split
  · exact State.flag_carryOverflow _ _ _ _ _ _ _ _ (h.symm.imp id fun hc => freeAfterShift_place c (by decide) (.inr hc))
  · exact State.flag_carryOverflow _ _ _ _ _ _ _ _ (h.symm.imp id fun hc => ofUndefined_place c (.inr hc))

/-- A shift sets PF, ZF and SF by its value, a rotate keeps them; in a state of the same flags and parameters. -/
theorem ShiftOp.other_flags {z : State} (hflag : z.flag = s.flag) (hcfg : z.cfg = s.cfg) :
    if op.isShift then ResultFlags w r.value (op.flags w d c r z) ∧ DefaultKeeps s (op.flags w d c r z) [.af]
    else ∀ f ∈ [Flag.pf, .af, .zf, .sf], (op.flags w d c r z).flag f = s.flag f := by
  rw [ShiftOp.flags]
  by_cases hshift : op.isShift = true
  · simp only [if_pos hshift]
    refine ⟨resultFlags_carryOverflow z r.value _ _ _ w _ _ _ (.inr fun f hf => ?_),
      (defaultKeeps_carryOverflow z r.value _ _ _ w _ _ _).congr hflag hcfg⟩
    exact freeAfterShift_place c (by revert hf; cases f <;> decide) (.inl (by revert hf; cases f <;> decide))
  · simp only [if_neg hshift]
    intro f hf
    obtain ⟨hof, hcf⟩ : f ≠ .of ∧ f ≠ .cf := by revert hf; cases f <;> decide
    refine (z.flag_carryOverflow _ _ _ _ _ _ _ (.inr (ofUndefined_place c (.inl hof)))).trans ?_
    rw [if_neg hof, if_neg hcf, hflag]

end Flags

/-! ### The run of group 2 -/

/-- One form of a shift or rotate, by its run. -/
theorem shiftForm_of_shift {s u : State} {w : Width} {l : Loc} {c : Nat} {p : ShiftOp × Instr} (hm : s.mem.wf = true)
    (hu : Prepared s u) (hl : l.Fits w) (hi : exec p.2 s = finish (shift p.1 w l c) u) : ShiftForm s w l c p := by
  intro hr hw
  obtain ⟨v, hv, hrun⟩ := readModifyWrite_flat _ hu hr hw
  refine ⟨_, hi.trans (finish_ok hrun), ?_⟩
  by_cases hc : c = 0
  · simp only [if_pos hc]
    obtain ⟨hsame, hflags, hrest⟩ := hv.putAt_same hm w l
    exact ⟨fun _ => ⟨hsame, hflags⟩, fun hne => absurd hc hne, hrest⟩
  · have hd := hl.trunc_valueAt s
    obtain ⟨-, -, hflag, -⟩ := hv.fields
    simp only [if_neg hc, hflag, p.1.compute_eq hd]
    obtain ⟨hputFlag, hputCfg⟩ := hv.putAt_fields w l (shiftValue p.1 w (s.flag .cf) (s.valueAt w l) c)
    obtain ⟨hwrote, hrest⟩ :=
      wrote_reflagged hv hm hl hw (p.1.trunc_shiftValue hd (s.flag .cf) c) (p.1.reflagged_flags w (s.valueAt w l) c _ _)
    exact ⟨fun h => absurd h hc, fun _ => ⟨hwrote, p.1.flag_cf_flags .., fun h => p.1.flag_of_flags _ _ _ _ _ (hputCfg ▸ h),
      p.1.other_flags _ _ _ _ _ hputFlag hputCfg⟩, hrest⟩

/-- The byte forms by one count. -/
theorem shiftForms_eb {s : State} (hm : s.mem.wf = true) (k : ShiftBy) (e : RM8) {ps : List (ShiftOp × Instr)}
    (hi : ps.map (fun p => exec p.2 s) = ps.map fun p => finish (shiftEb p.1 k e) s) :
    ∀ p ∈ ps, ShiftForm s .w8 (s.rm8Loc e) (s.count k) p := fun p hp =>
  shiftForm_of_shift hm (prepared_withEA s _) (s.fits_rm8Loc e) (exec_eq_of_run (run := (shiftEb · k e)) (fun _ => rfl) hi p hp)

/-- The word and dword forms by one count. -/
theorem shiftForms_ev {s : State} (hm : s.mem.wf = true) (k : ShiftBy) (e : RM) {ps : List (ShiftOp × Instr)}
    (hi : ps.map (fun p => exec p.2 s) = ps.map fun p => finish (shiftEv p.1 k e) s) :
    ∀ p ∈ ps, ShiftForm s s.opW (s.rmLoc e) (s.count k) p := fun p hp =>
  shiftForm_of_shift hm (prepared_withEA s _) (s.fits_rmLoc s.opW e)
    (exec_eq_of_run (run := (shiftEv · k e)) (fun _ => rfl) hi p hp)

/-- Settles O8: each form is one read-modify-write by its count. -/
theorem shiftFormsComplete : Obligations.ShiftFormsComplete := by
  unfold Obligations.ShiftFormsComplete
  exact ⟨fun s e ib hm => ⟨shiftForms_eb hm (.ib ib) e rfl, shiftForms_eb hm .one e rfl, shiftForms_eb hm .cl e rfl⟩,
    fun s e ib hm => ⟨shiftForms_ev hm (.ib ib) e rfl, shiftForms_ev hm .one e rfl, shiftForms_ev hm .cl e rfl⟩⟩

end Sys2Proof.Machine
end

section
/-! SHLD and SHRD (42_logic_shift_bit.md R420, R421): the window of the two operands as a number, and the run, whose result
beyond the width is free. -/

namespace Sys2Proof.Machine

/-! ### The window -/

/-- A digit and the digits below it stay below the next place. -/
theorem digit_add_lt {a b x y : Nat} (ha : a < x) (hb : b < y) : a * y + b < x * y := by
  calc a * y + b < a * y + y := Nat.add_lt_add_left hb _
    _ = (a + 1) * y := (Nat.succ_mul a y).symm
    _ ≤ x * y := Nat.mul_le_mul_right y ha

/-- Two operands of a width side by side. -/
theorem toNat_pair {n : Nat} (hn : n ≤ 32) {a b : BitVec 64} (ha : a.toNat < 2 ^ n) (hb : b.toNat < 2 ^ n) :
    (a <<< n ||| b).toNat = a.toNat * 2 ^ n + b.toNat ∧ a.toNat * 2 ^ n + b.toNat < 2 ^ (2 * n) := by
  have hlt : a.toNat * 2 ^ n + b.toNat < 2 ^ (2 * n) := by
    rw [Nat.two_mul, Nat.pow_add]
    exact digit_add_lt ha hb
  have hpow : 2 ^ (2 * n) ≤ 2 ^ 64 := Nat.pow_le_pow_right (by decide) (by omega)
  exact ⟨toNat_shiftLeft_or a b hb (by omega), hlt⟩

/-- Three operands of a width side by side. -/
theorem toNat_triple {n : Nat} (hn : n ≤ 16) {a b : BitVec 64} (ha : a.toNat < 2 ^ n) (hb : b.toNat < 2 ^ n) :
    (a <<< (2 * n) ||| b <<< n ||| a).toNat = a.toNat * 2 ^ (2 * n) + b.toNat * 2 ^ n + a.toNat := by
  obtain ⟨hpair, hlt⟩ := toNat_pair (Nat.le_trans hn (by decide)) hb ha
  have htop : a.toNat * 2 ^ (2 * n) + (b.toNat * 2 ^ n + a.toNat) < 2 ^ 64 := by
    refine Nat.lt_of_lt_of_le (digit_add_lt ha hlt) ?_
    rw [← Nat.pow_add]
    exact Nat.pow_le_pow_right (by decide) (by omega)
  rw [BitVec.or_assoc, toNat_shiftLeft_or _ _ (hpair ▸ hlt) (hpair ▸ htop), hpair, Nat.add_assoc]

/-- The bits of a window that moved left, k of them cut off. -/
theorem toNat_window_left {n k : Nat} (h : k + n ≤ 64) (t : BitVec 64) (c : Nat) :
    ((t <<< c) >>> k).toNat % 2 ^ n = t.toNat * 2 ^ c / 2 ^ k % 2 ^ n := by
  have h64 : 2 ^ 64 = 2 ^ k * 2 ^ (64 - k) := by rw [← Nat.pow_add, Nat.add_sub_cancel' (by omega)]
  rw [BitVec.toNat_ushiftRight, BitVec.toNat_shiftLeft, Nat.shiftRight_eq_div_pow, Nat.shiftLeft_eq, h64,
    Nat.mod_mul_right_div_self, Nat.mod_mod_of_dvd _ (Nat.pow_dvd_pow 2 (by omega))]

theorem toNat_window_right (t : BitVec 64) (c : Nat) : (t >>> c).toNat = t.toNat / 2 ^ c := by
  rw [BitVec.toNat_ushiftRight, Nat.shiftRight_eq_div_pow]

section Values

variable {w : Width} {d g : Word} (hd : trunc w d = d) (hg : trunc w g = g)
include hd hg

/-- Result and carry are those of the rules (R420, R421). -/
theorem doubleShiftValue_eq (left : Bool) {c : Nat} (hc : c < 32) :
    ((doubleShiftValue left w d g c).1.toNat, (doubleShiftValue left w d g c).2) =
      doubleNat left w.bits d.toNat g.toNat c := by
  have hd64 : (d.setWidth 64).toNat < 2 ^ w.bits := by rw [toNat_setWidth_64]; exact toNat_lt_of_trunc hd
  have hg64 : (g.setWidth 64).toNat < 2 ^ w.bits := by rw [toNat_setWidth_64]; exact toNat_lt_of_trunc hg
  have hle := w.bits_le
  rw [doubleShiftValue, doubleNat]
  by_cases hcw : c ≤ w.bits
  · obtain ⟨hdg, -⟩ := toNat_pair hle hd64 hg64
    obtain ⟨hgd, -⟩ := toNat_pair hle hg64 hd64
    rw [toNat_setWidth_64, toNat_setWidth_64] at hdg hgd
    simp only [if_pos hcw]
    cases left with
    | true =>
      simp only [if_true, toNat_trunc_setWidth, toNat_window_left (show w.bits + w.bits ≤ 64 by omega), hdg, bit,
        BitVec.testBit_toNat]
    | false =>
      simp only [Bool.false_eq_true, if_false, toNat_trunc_setWidth, toNat_window_right, hgd, bit, BitVec.testBit_toNat]
  · have h16 : w.bits ≤ 16 := by cases w <;> simp only [Width.bits] at hcw ⊢ <;> omega
    have htriple := toNat_triple h16 hd64 hg64
    rw [toNat_setWidth_64, toNat_setWidth_64] at htriple
    simp only [if_neg hcw]
    cases left with
    | true =>
      simp only [if_true, toNat_trunc_setWidth, toNat_window_left (show 2 * w.bits + w.bits ≤ 64 by omega),
        ← BitVec.testBit_toNat, htriple]
    | false =>
      simp only [Bool.false_eq_true, if_false, toNat_trunc_setWidth, toNat_window_right, ← BitVec.testBit_toNat, htriple]

end Values

theorem trunc_doubleShiftValue (left : Bool) (w : Width) (d g : Word) (c : Nat) :
    trunc w (doubleShiftValue left w d g c).1 = (doubleShiftValue left w d g c).1 := by
  unfold doubleShiftValue
  dsimp only
  repeat' split
  all_goals exact trunc_trunc w _

/-- What SHLD and SHRD write: beyond the width the block's default or a free value (R381, R420). -/
def doubleResult (s : State) (left : Bool) (w : Width) (d g : Word) (c : Nat) : Word :=
  if c ≤ w.bits then (doubleShiftValue left w d g c).1
  else trunc w (s.undefValue (doubleSite left) w (doubleShiftValue left w d g c).1 [d, g, BitVec.ofNat 32 c])

theorem trunc_doubleResult (s : State) (left : Bool) (w : Width) (d g : Word) (c : Nat) :
    trunc w (doubleResult s left w d g c) = doubleResult s left w d g c := by
  unfold doubleResult
  split
  · exact trunc_doubleShiftValue left w d g c
  · exact trunc_trunc w _

theorem doubleResult_eq {s : State} {w : Width} {c : Nat} (h : c ≤ w.bits ∨ s.cfg.undef = .blockDefault) (left : Bool)
    (d g : Word) : doubleResult s left w d g c = (doubleShiftValue left w d g c).1 := by
  unfold doubleResult
  split
  · rfl
  · next hc =>
    rw [State.undefValue, h.resolve_left hc, trunc_doubleShiftValue]

/-! ### The flags -/

/-- The flags that a count leaves free: up to the width those of a shift, beyond it all. -/
theorem doubleShiftUndefined_place {w : Width} {c : Nat} (hc : c ≤ w.bits) {f : Flag} (haf : f ≠ .af)
    (hof : f ≠ .of ∨ c = 1) : (doubleShiftUndefined w c).getLsbD f.place = false := by
  rw [doubleShiftUndefined, if_pos hc]
  exact freeAfterShift_place c haf hof

section Flags

variable (left : Bool) (w : Width) (d g l : Word) (cf : Bool) (c : Nat) (s : State)

theorem reflagged_flagsDouble : Reflagged s (s.flagsDouble left w d g l cf c) :=
  (reflagged_flagsPZS s w l).trans (reflagged_carryOverflow ..)

theorem State.flag_cf_flagsDouble (h : c ≤ w.bits ∨ s.cfg.undef = .blockDefault) :
    (s.flagsDouble left w d g l cf c).flag .cf = cf :=
  State.flag_carryOverflow _ _ _ _ _ _ _ _ (h.symm.imp id fun hc => doubleShiftUndefined_place hc (by decide) (.inl (by decide)))

theorem State.flag_of_flagsDouble (h : c = 1 ∨ s.cfg.undef = .blockDefault) :
    (s.flagsDouble left w d g l cf c).flag .of = (msbOf w l ^^ msbOf w d) :=
  State.flag_carryOverflow _ _ _ _ _ _ _ _ (h.symm.imp id fun hc =>
    doubleShiftUndefined_place (hc ▸ w.bits_pos) (by decide) (.inr hc))

theorem resultFlags_flagsDouble (h : c ≤ w.bits ∨ s.cfg.undef = .blockDefault) :
    ResultFlags w l (s.flagsDouble left w d g l cf c) :=
  resultFlags_carryOverflow s l _ _ _ w _ _ _ (h.symm.imp id fun hc f hf => by
    obtain ⟨haf, hof⟩ : f ≠ .af ∧ f ≠ .of := by revert hf; cases f <;> decide
    exact doubleShiftUndefined_place hc haf (.inl hof))

end Flags

/-! ### The run -/

theorem State.count_lt (s : State) (k : ShiftBy) : s.count k < 32 := by
  cases k with
  | one => exact show 1 < 32 by decide
  | ib n => exact Nat.mod_lt _ (by decide)
  | cl => exact Nat.mod_lt _ (by decide)

/-- The result written and the flags installed are those of R420 and R421. -/
theorem doubleShifted_of_wrote {s v z : State} {left : Bool} {w : Width} {l : Loc} {d g : Word} {c : Nat} (hd : trunc w d = d)
    (hg : trunc w g = g) (hc : c < 32) (hv : v.cfg = s.cfg) (hflag : z.flag = s.flag) (hcfg : z.cfg = s.cfg)
    (hwrote : Wrote w l (doubleResult v left w d g c) s
      (z.flagsDouble left w d g (doubleResult v left w d g c) (doubleShiftValue left w d g c).2 c)) :
    DoubleShifted left w l d g c s
      (z.flagsDouble left w d g (doubleResult v left w d g c) (doubleShiftValue left w d g c).2 c) := by
  obtain ⟨hresult, hcarry⟩ := Prod.ext_iff.mp (doubleShiftValue_eq hd hg left hc)
  rw [DoubleShifted, hwrote.value]
  refine ⟨hwrote, fun h => ⟨?result, ?carry, ?flags⟩, fun h => ?overflow, ?free⟩
  case result =>
    rw [doubleResult_eq (hv ▸ h)]
    exact hresult
  case carry => exact (State.flag_cf_flagsDouble _ _ _ _ _ _ _ _ (hcfg ▸ h)).trans hcarry
  case flags => exact resultFlags_flagsDouble _ _ _ _ _ _ _ _ (hcfg ▸ h)
  case overflow => exact State.flag_of_flagsDouble _ _ _ _ _ _ _ _ (hcfg ▸ h)
  case free => exact (defaultKeeps_carryOverflow z _ _ _ _ w _ _ _).congr hflag hcfg

/-- One form of SHLD or SHRD. -/
theorem doubleShiftForm_of_doubleShift {s : State} {e : RM} {g : Reg} {p : Bool × Instr} (k : ShiftBy) (hm : s.mem.wf = true)
    (hi : exec p.2 s = finish (doubleShift p.1 e g k) s) : DoubleShiftForm s e g (s.count k) p := by
  intro hr hw
  have hl := s.fits_rmLoc s.opW e
  obtain ⟨v, hv, hrun⟩ := readModifyWrite_flat _ (prepared_withEA s (s.eaOf (s.rmLoc e))) hr hw
  refine ⟨_, hi.trans (finish_ok hrun), ?_⟩
  have hlt := s.count_lt k
  generalize s.count k = c at hlt
  by_cases hc : c = 0
  · simp only [if_pos hc]
    obtain ⟨hsame, hflags, hrest⟩ := hv.putAt_same hm s.opW (s.rmLoc e)
    exact ⟨fun _ => ⟨hsame, hflags⟩, fun hne => absurd hc hne, hrest⟩
  · simp only [if_neg hc]
    obtain ⟨-, -, -, hcfg⟩ := hv.fields
    obtain ⟨hputFlag, hputCfg⟩ :=
      hv.putAt_fields s.opW (s.rmLoc e) (doubleResult v p.1 s.opW (s.valueAt s.opW (s.rmLoc e)) (s.reg s.opW g) c)
    obtain ⟨hwrote, hrest⟩ := wrote_reflagged hv hm hl hw (trunc_doubleResult v p.1 s.opW _ (s.reg s.opW g) c)
      (reflagged_flagsDouble p.1 s.opW _ (s.reg s.opW g) _ (doubleShiftValue p.1 s.opW _ (s.reg s.opW g) c).2 c _)
    exact ⟨fun h => absurd h hc, fun _ =>
      doubleShifted_of_wrote (hl.trunc_valueAt s) (trunc_trunc s.opW _) hlt hcfg hputFlag hputCfg hwrote, hrest⟩

/-- Settles O9: each form is one read-modify-write by its count. -/
theorem doubleShiftsComplete : Obligations.DoubleShiftsComplete := by
  unfold Obligations.DoubleShiftsComplete
  intro s e g ib hm
  have hrun (k : ShiftBy) {ps : List (Bool × Instr)}
      (hi : ps.map (fun p => exec p.2 s) = ps.map fun p => finish (doubleShift p.1 e g k) s) :
      ∀ p ∈ ps, DoubleShiftForm s e g (s.count k) p := fun p hp =>
    doubleShiftForm_of_doubleShift k hm (exec_eq_of_run (run := (doubleShift · e g k)) (fun _ => rfl) hi p hp)
  exact ⟨hrun (.ib ib) rfl, hrun .cl rfl⟩

end Sys2Proof.Machine
end

section
/-! Bit tests and bit scans (42_logic_shift_bit.md R422 to R428): a unit with one bit changed, the unit a register bit offset
selects, and the lowest and the highest set bit. -/

namespace Sys2Proof.Machine

/-! ### One bit of a unit (R422 to R425) -/

/-- What an operation makes of the bit it names. -/
def BitOp.onBit (op : BitOp) (b : Bool) : Bool :=
  match op with
  | .test => b
  | .set => true
  | .reset => false
  | .complement => !b

theorem getLsbD_one_shiftLeft (n : Nat) {i : Nat} (hi : i < 32) : (1#32 <<< n).getLsbD i = decide (i = n) := by
  rw [← BitVec.twoPow_eq, BitVec.getLsbD_twoPow]
  by_cases h : i = n
  · simp [h, h ▸ hi]
  · simp [h, Ne.symm h]

/-- The bit is changed and the others stay. -/
theorem BitOp.getLsbD_apply (op : BitOp) (v : Word) (n : Nat) {i : Nat} (hi : i < 32) :
    (op.apply v n).getLsbD i = if i = n then op.onBit (v.getLsbD i) else v.getLsbD i := by
  have hone := getLsbD_one_shiftLeft n hi
  by_cases h : i = n
  · rw [decide_eq_true h] at hone
    rw [if_pos h]
    cases op <;> simp only [BitOp.apply, BitOp.onBit, BitVec.getLsbD_or, BitVec.getLsbD_and, BitVec.getLsbD_not, BitVec.getLsbD_xor,
      hone, Bool.or_true, Bool.not_true, Bool.and_false, Bool.xor_true]
  · rw [decide_eq_false h] at hone
    rw [if_neg h]
    cases op <;> simp only [BitOp.apply, BitVec.getLsbD_or, BitVec.getLsbD_and, BitVec.getLsbD_not, BitVec.getLsbD_xor,
      hone, decide_eq_true hi, Bool.or_false, Bool.not_false, Bool.and_true, Bool.xor_false]

theorem BitOp.trunc_apply (op : BitOp) {w : Width} {v : Word} {n : Nat} (hv : trunc w v = v) (hn : n < w.bits) :
    trunc w (op.apply v n) = op.apply v n := by
  apply BitVec.eq_of_getLsbD_eq
  intro i hi
  rw [getLsbD_trunc]
  by_cases h : i < w.bits
  · rw [decide_eq_true h, Bool.true_and]
  · have hzero : v.getLsbD i = false := by rw [← hv, getLsbD_trunc, decide_eq_false h, Bool.false_and]
    rw [op.getLsbD_apply v n hi, if_neg (by omega), hzero, Bool.and_false]

section Weight

variable {v : Word} {n : Nat}

/-- Adding the weight of a bit that is clear sets it. -/
theorem add_weight (h : v.getLsbD n = false) : v + 1#32 <<< n = BitOp.set.apply v n := by
  apply BitVec.add_eq_or_of_and_eq_zero
  apply BitVec.eq_of_getLsbD_eq
  intro i hi
  rw [BitVec.getLsbD_and, getLsbD_one_shiftLeft n hi, BitVec.getLsbD_zero]
  by_cases hin : i = n
  · rw [hin, h, Bool.false_and]
  · rw [decide_eq_false hin, Bool.and_false]

/-- Two operations that make the same of the bit, on units that agree elsewhere, give the same unit. -/
theorem BitOp.apply_congr {op op' : BitOp} {u : Word} (h : op.onBit (v.getLsbD n) = op'.onBit (u.getLsbD n))
    (hother : ∀ i, i < 32 → i ≠ n → v.getLsbD i = u.getLsbD i) : op.apply v n = op'.apply u n := by
  apply BitVec.eq_of_getLsbD_eq
  intro i hi
  rw [op.getLsbD_apply v n hi, op'.getLsbD_apply u n hi]
  by_cases hin : i = n
  · rw [if_pos hin, if_pos hin, hin, h]
  · rw [if_neg hin, if_neg hin, hother i hi hin]

theorem BitOp.apply_keeps {op : BitOp} (h : op.onBit (v.getLsbD n) = v.getLsbD n) : op.apply v n = v :=
  BitOp.apply_congr (op' := .test) h fun _ _ _ => rfl

theorem BitOp.apply_sets {op : BitOp} (hv : v.getLsbD n = false) (h : op.onBit false = true) : op.apply v n = v + 1#32 <<< n := by
  rw [add_weight hv]
  exact BitOp.apply_congr (hv ▸ h) fun _ _ _ => rfl

theorem BitOp.apply_clears {op : BitOp} (hn : n < 32) (hv : v.getLsbD n = true) (h : op.onBit true = false) :
    op.apply v n = v - 1#32 <<< n := by
  have hclear : (op.apply v n).getLsbD n = false := by rw [op.getLsbD_apply v n hn, if_pos rfl, hv, h]
  have hback : BitOp.set.apply (op.apply v n) n = BitOp.test.apply v n :=
    BitOp.apply_congr hv.symm fun i hi hin => by rw [op.getLsbD_apply v n hi, if_neg hin]
  rw [BitVec.eq_sub_iff_add_eq, add_weight hclear, hback, BitOp.apply]

/-- A bit that changes changes the unit by its weight. -/
theorem BitOp.apply_eq_value (op : BitOp) (v : Word) (hn : n < 32) : op.apply v n = bitValue op v n := by
  have hweight : BitVec.ofNat 32 (2 ^ n) = 1#32 <<< n := by
    apply BitVec.eq_of_toNat_eq
    rw [BitVec.toNat_ofNat, BitVec.toNat_shiftLeft, Nat.shiftLeft_eq, show (1#32).toNat = 1 from rfl, Nat.one_mul]
  simp only [bitValue, BitVec.testBit_toNat, hweight]
  cases hv : v.getLsbD n with
  | true =>
    cases op with
    | test | set => exact BitOp.apply_keeps (hv.symm ▸ rfl)
    | reset | complement => exact BitOp.apply_clears hn hv rfl
  | false =>
    cases op with
    | test | reset => exact BitOp.apply_keeps (hv.symm ▸ rfl)
    | set | complement => exact BitOp.apply_sets hv rfl

end Weight

/-! ### The unit and the bit (R426) -/

/-- A signed offset in memory is a number of units and a bit of one. -/
theorem State.bitUnit_eq (s : State) (e : RM) (k : Word) : s.bitUnit e k = bitPlace s e k := by
  cases e with
  | reg r => rfl
  | mem m =>
    have hpos : (0 : Int) ≤ s.opW.bits := Int.natCast_nonneg _
    simp only [State.bitUnit, bitPlace, State.rmLoc, State.memLoc, toNat_truncInt, Int.fdiv_eq_ediv_of_nonneg _ hpos,
      Int.fmod_eq_emod_of_nonneg _ hpos]

theorem State.bitGv_run (s : State) (e : RM) (g : Reg) (op : BitOp) : bitGv op e g s =
    bitAt op s.opW (bitPlace s e (s.reg s.opW g)).1 (bitPlace s e (s.reg s.opW g)).2
      { s with regEA := s.eaOf (bitPlace s e (s.reg s.opW g)).1 } := by
  rw [← s.bitUnit_eq]
  rfl

theorem bitPlace_lt (s : State) (e : RM) (k : Word) : (bitPlace s e k).2 < s.opW.bits := by
  have hpos := s.opW.bits_pos
  cases e with
  | reg r => exact Nat.mod_lt _ hpos
  | mem m =>
    have hlt := Int.emod_lt_of_pos (signed s.opW k) (b := s.opW.bits) (by omega)
    simp only [bitPlace]
    omega

theorem fits_bitPlace (s : State) (e : RM) (k : Word) (w : Width) : (bitPlace s e k).1.Fits w := by cases e <;> trivial

/-! ### BT, BTS, BTR and BTC -/

theorem reflagged_flagsBit (s : State) (site : UndefSite) (w : Width) (v : Word) (n : Nat) :
    Reflagged s (s.flagsBit site w v n) := (reflagged_setFlag s .cf _).trans (reflagged_undefine ..)

/-- CF is the bit, the other flags are free (R422, R381). -/
theorem State.flag_flagsBit (s : State) (site : UndefSite) (w : Width) (v : Word) (n : Nat) {f : Flag}
    (h : s.cfg.undef = .blockDefault ∨ f = .cf) :
    (s.flagsBit site w v n).flag f = if f = .cf then bit v n else s.flag f := by
  have hfree : s.cfg.undef = .blockDefault ∨ (psCached &&& ~~~Flag.cf.mask).getLsbD f.place = false :=
    h.imp id fun hf => by subst hf; decide
  refine (State.flag_undefine _ _ _ _ _ _ f ?_).trans ?_
  · exact hfree
  rw [State.flag_setFlag]

/-- The flags of a bit instruction, installed in any state of the same flags and parameters. -/
theorem cf_defaultKeeps_flagsBit {s z : State} (hflag : z.flag = s.flag) (hcfg : z.cfg = s.cfg) (site : UndefSite) (w : Width)
    (v : Word) (n : Nat) : (z.flagsBit site w v n).flag .cf = v.toNat.testBit n ∧
      DefaultKeeps s (z.flagsBit site w v n) [.pf, .af, .zf, .sf, .of] := by
  constructor
  · rw [z.flag_flagsBit site w v n (.inr rfl), if_pos rfl, BitVec.testBit_toNat, bit]
  · intro hundef f hf
    rw [z.flag_flagsBit site w v n (.inl (hcfg ▸ hundef)), if_neg (by rintro rfl; revert hf; decide), hflag]

/-- One bit instruction, by its run. -/
theorem bitForm_of_bitAt {s u : State} {w : Width} {l : Loc} {n : Nat} {p : BitOp × Instr} (hm : s.mem.wf = true)
    (hu : Prepared s u) (hl : l.Fits w) (hn : n < w.bits) (hi : exec p.2 s = finish (bitAt p.1 w l n) u) : BitForm s w l n p := by
  intro hr hw
  rw [bitAt] at hi
  by_cases htest : p.1 = .test
  · have hv := hu.setNoWrite true
    obtain ⟨-, -, hflag, hcfg⟩ := hv.fields
    have ht := reflagged_flagsBit (u.setNoWrite true) p.1.site w (s.valueAt w l) n
    rw [if_pos htest] at hi
    refine ⟨_, hi.trans (finish_ok (run_bind_ok (readsValue_readLoc hr _ hv) _)), ?_⟩
    obtain ⟨hcf, hkeeps⟩ := cf_defaultKeeps_flagsBit hflag hcfg p.1.site w (s.valueAt w l) n
    rw [if_pos htest]
    exact ⟨hv.untouched ht.gpr_memory, hcf, hkeeps, rest_of_reflagged hv (.refl _) ht⟩
  · obtain ⟨v, hv, hrun⟩ := readModifyWrite_flat
      (fun _ d => (p.1.apply d n, State.flagsBit p.1.site w d n)) hu hr (hw htest)
    have ha := p.1.trunc_apply (hl.trunc_valueAt s) hn
    rw [if_neg htest] at hi
    refine ⟨_, hi.trans (finish_ok hrun), ?_⟩
    rw [p.1.apply_eq_value _ (Nat.lt_of_lt_of_le hn w.bits_le)] at ha ⊢
    obtain ⟨hflag, hcfg⟩ := hv.putAt_fields w l (bitValue p.1 (s.valueAt w l) n)
    obtain ⟨hwrote, hrest⟩ := wrote_reflagged hv hm hl (hw htest) ha (reflagged_flagsBit _ p.1.site w (s.valueAt w l) n)
    obtain ⟨hcf, hkeeps⟩ := cf_defaultKeeps_flagsBit hflag hcfg p.1.site w (s.valueAt w l) n
    rw [if_neg htest]
    exact ⟨hwrote, hcf, hkeeps, hrest⟩

/-! ### BSF and BSR (R427, R428) -/

theorem exists_bit_of_ne_zero {v : Word} (h : v ≠ 0) : ∃ j, j < 32 ∧ bit v j = true := by
  refine Decidable.byContradiction fun hnone => h (BitVec.eq_of_getLsbD_eq fun i hi => ?_)
  cases hb : v.getLsbD i with
  | true => exact absurd ⟨i, hi, hb⟩ hnone
  | false => exact BitVec.getLsbD_zero.symm

/-- The search upwards finds the lowest set bit there is from its start. -/
theorem scanUp_lowest {v : Word} : ∀ {n i : Nat}, (∃ j, i ≤ j ∧ j < i + n ∧ bit v j = true) →
    bit v (scanUp v n i) = true ∧ ∀ j, i ≤ j → bit v j = true → scanUp v n i ≤ j
  | 0, i, h => by
    obtain ⟨j, hle, hlt, -⟩ := h
    omega
  | n + 1, i, h => by
    rw [scanUp]
    by_cases hi : bit v i = true
    · rw [if_pos hi]
      exact ⟨hi, fun j hj _ => hj⟩
    · have hne {j : Nat} (hj : bit v j = true) : i ≠ j := by
        rintro rfl
        exact hi hj
      obtain ⟨j, hle, hlt, hj⟩ := h
      have hij := hne hj
      obtain ⟨hbit, hleast⟩ := scanUp_lowest (v := v) (n := n) (i := i + 1) ⟨j, by omega, by omega, hj⟩
      rw [if_neg hi]
      refine ⟨hbit, fun k hk hbk => hleast k ?_ hbk⟩
      have hik := hne hbk
      omega

/-- The search downwards finds the highest set bit below its start. -/
theorem scanDown_highest {v : Word} : ∀ {n : Nat}, (∃ j, j < n ∧ bit v j = true) →
    bit v (scanDown v n) = true ∧ ∀ j, j < n → bit v j = true → j ≤ scanDown v n
  | 0, h => by
    obtain ⟨j, hlt, -⟩ := h
    omega
  | n + 1, h => by
    rw [scanDown]
    by_cases hn : bit v n = true
    · rw [if_pos hn]
      exact ⟨hn, fun j hj _ => Nat.le_of_lt_succ hj⟩
    · have hbelow {j : Nat} (hj : bit v j = true) (hlt : j < n + 1) : j < n := by
        refine Nat.lt_of_le_of_ne (Nat.le_of_lt_succ hlt) ?_
        rintro rfl
        exact hn hj
      obtain ⟨j, hlt, hj⟩ := h
      obtain ⟨hbit, hmost⟩ := scanDown_highest (v := v) (n := n) ⟨j, hbelow hj hlt, hj⟩
      rw [if_neg hn]
      exact ⟨hbit, fun k hk hbk => hmost k (hbelow hbk hk) hbk⟩

/-- The bit a scan finds. -/
def scanBit (up : Bool) (v : Word) : Nat := if up then scanUp v 32 0 else scanDown v 32

theorem scanned_scanBit (up : Bool) {v : Word} (h : v ≠ 0) : Scanned up v (scanBit up v) := by
  obtain ⟨j, hlt, hj⟩ := exists_bit_of_ne_zero h
  cases up with
  | true =>
    obtain ⟨hbit, hleast⟩ := scanUp_lowest (v := v) (n := 32) (i := 0) ⟨j, Nat.zero_le j, by omega, hj⟩
    exact ⟨hbit, fun k _ hk => hleast k (Nat.zero_le k) hk⟩
  | false => exact scanDown_highest ⟨j, hlt, hj⟩

/-- What a scan writes: the bit's number, for a source of 0 a free value (R381, R427). -/
def scanResult (s : State) (up : Bool) (w : Width) (v old : Word) : Word :=
  if v = 0 then s.undefValue (scanSite up) w old [v, old] else BitVec.ofNat 32 (scanBit up v)

/-- A bit's number fits every width. -/
theorem toNat_trunc_scanResult (s : State) (up : Bool) (w : Width) {v : Word} (old : Word) (h : v ≠ 0) :
    (trunc w (scanResult s up w v old)).toNat = scanBit up v := by
  obtain ⟨hbit, -⟩ := scanned_scanBit up h
  have hlt : scanBit up v < 32 := BitVec.lt_of_getLsbD hbit
  have hwidth : 32 ≤ 2 ^ w.bits := by cases w <;> decide
  rw [scanResult, if_neg h, toNat_trunc, BitVec.toNat_ofNat, Nat.mod_eq_of_lt (by omega), Nat.mod_eq_of_lt (by omega)]

theorem reflagged_flagsScan (s : State) (site : UndefSite) (w : Width) (v old : Word) : Reflagged s (s.flagsScan site w v old) :=
  (reflagged_setFlag s .zf _).trans (reflagged_undefine ..)

/-- ZF is that of the source, the other flags are free (R427, R381). -/
theorem State.flag_flagsScan (s : State) (site : UndefSite) (w : Width) (v old : Word) {f : Flag}
    (h : s.cfg.undef = .blockDefault ∨ f = .zf) :
    (s.flagsScan site w v old).flag f = if f = .zf then v == 0 else s.flag f := by
  have hfree : s.cfg.undef = .blockDefault ∨ (psCached &&& ~~~Flag.zf.mask).getLsbD f.place = false :=
    h.imp id fun hf => by subst hf; decide
  refine (State.flag_undefine _ _ _ _ _ _ f ?_).trans ?_
  · exact hfree
  rw [State.flag_setFlag]

theorem defaultKeeps_flagsScan (s : State) (site : UndefSite) (w : Width) (v old : Word) :
    DefaultKeeps s (s.flagsScan site w v old) [.cf, .pf, .af, .sf, .of] := by
  intro hundef f hf
  rw [s.flag_flagsScan site w v old (.inl hundef), if_neg (by rintro rfl; revert hf; decide)]

/-- The destination after a scan. -/
theorem scanned_gpr {s t : State} {w : Width} {g : Reg} {v : Word} {up : Bool}
    (h : t.gpr = (s.setReg w g (scanResult s up w v (s.reg w g))).gpr) :
    (v ≠ 0 → Scanned up v (t.reg w g).toNat) ∧ (v = 0 → s.cfg.undef = .blockDefault → t.gpr = s.gpr) ∧
      t.gpr = (s.setReg w g (t.reg w g)).gpr := by
  have hreg : t.reg w g = trunc w (scanResult s up w v (s.reg w g)) := by
    rw [State.reg, h]
    exact s.reg_setReg_same w g _
  refine ⟨fun hv => ?found, fun hv hundef => ?free, ?write⟩
  case found =>
    rw [hreg, toNat_trunc_scanResult s up w _ hv]
    exact scanned_scanBit up hv
  case free => rw [h, scanResult, if_pos hv, State.undefValue, hundef, s.setReg_same]
  case write => rw [hreg, s.setReg_trunc, h]

/-- One form of BSF or BSR, by its run. -/
theorem scanForm_of_bitScan {s : State} {g : Reg} {e : RM} {p : Bool × Instr} (hi : exec p.2 s = finish (bitScan p.1 g e) s) :
    ScanForm s g e p := by
  intro hr
  have hu := prepared_withEA s (s.eaOf (s.rmLoc e))
  have hrun := finish_read (fun v z => (z.setReg s.opW g (scanResult s p.1 s.opW v (s.reg s.opW g))).flagsScan (scanSite p.1)
    s.opW v (s.reg s.opW g)) hu hr
  refine ⟨_, hi.trans hrun, ?_⟩
  obtain ⟨hgpr, hmem, hkeeps, hrest⟩ := registers_reflagged hu ⟨_, rfl⟩ (reflagged_flagsScan _ (scanSite p.1) s.opW _ _)
    (defaultKeeps_flagsScan _ (scanSite p.1) s.opW (s.valueAt s.opW (s.rmLoc e)) (s.reg s.opW g))
  obtain ⟨hfound, hfree, hwrite⟩ := scanned_gpr (s := s) hgpr
  exact ⟨⟨State.flag_flagsScan _ _ _ _ _ (.inr rfl), hfound, hfree⟩, hwrite, hmem, hkeeps, hrest⟩

/-- Settles O10: the immediate and the register forms are one bit instruction on their unit, BSF and BSR one read. -/
theorem bitTestsAndScansComplete : Obligations.BitTestsAndScansComplete := by
  unfold Obligations.BitTestsAndScansComplete
  refine ⟨fun s e g ib hm => ⟨fun p hp => ?immediate, fun p hp => ?register⟩, fun s g e p hp => ?scans⟩
  case immediate =>
    exact bitForm_of_bitAt hm (prepared_withEA s _) (s.fits_rmLoc s.opW e) (Nat.mod_lt _ s.opW.bits_pos)
      (exec_eq_of_run (run := (bitIb · e ib)) (fun _ => rfl) rfl p hp)
  case register =>
    exact bitForm_of_bitAt hm (prepared_withEA s _) (fits_bitPlace s e _ _) (bitPlace_lt s e _)
      (exec_eq_of_run (run := (bitGv · e g)) (s.bitGv_run e g) rfl p hp)
  case scans =>
    exact scanForm_of_bitScan (exec_eq_of_run (run := (bitScan · g e)) (fun _ => rfl) rfl p hp)

end Sys2Proof.Machine
end

section
/-! SETcc and the conditions (42_logic_shift_bit.md R429, R430): one write of a byte, and the order of two operands by the flags of
their comparison. -/

namespace Sys2Proof.Machine

/-- Two values of a width are the same if their difference is 0 at the width. -/
theorem trunc_sub_eq_zero {w : Width} {d x : Word} (hd : trunc w d = d) (hx : trunc w x = x) : trunc w (d - x) = 0 ↔ d = x := by
  constructor
  · intro h
    have hzero : (0 : Word) + x = x := BitVec.zero_add x
    have hback := trunc_trunc_add w (d - x) x
    rw [h, BitVec.sub_add_cancel, hd, hzero, hx] at hback
    exact hback.symm
  · rintro rfl
    have hself : d - d = 0 := BitVec.sub_self d
    rw [hself, trunc_zero]

/-- The parity of R47 sees the low byte, which every width has. -/
theorem evenParity_trunc (w : Width) (v : Word) : evenParity (trunc w v) = evenParity v := by
  have hbit {i : Nat} (hi : i < 8) : bit (trunc w v) i = bit v i := by
    have hw : 8 ≤ w.bits := by cases w <;> decide
    rw [bit, getLsbD_trunc, decide_eq_true (by omega), Bool.true_and, bit]
  simp (disch := decide) only [evenParity, hbit]

theorem signed_bounds {w : Width} {v : Word} (h : trunc w v = v) :
    -(2 ^ w.bits : Nat) ≤ 2 * signed w v ∧ 2 * signed w v < (2 ^ w.bits : Nat) := by
  have hlt := toNat_lt_of_trunc h
  rw [signed_eq_cond h]
  split <;> omega

theorem signed_inj {w : Width} {d x : Word} (hd : trunc w d = d) (hx : trunc w x = x) : signed w d = signed w x ↔ d = x := by
  have hdlt := toNat_lt_of_trunc hd
  have hxlt := toNat_lt_of_trunc hx
  rw [signed_eq_cond hd, signed_eq_cond hx, ← BitVec.toNat_inj]
  split <;> split <;> omega

/-- The signed difference and the signed value of the difference agree but for a multiple of the modulus. -/
theorem signed_trunc_sub {w : Width} {d x : Word} (hd : trunc w d = d) (hx : trunc w x = x) :
    signed w (trunc w (d - x)) = signed w d - signed w x ∨
    signed w (trunc w (d - x)) = signed w d - signed w x + (2 ^ w.bits : Nat) ∨
    signed w (trunc w (d - x)) = signed w d - signed w x - (2 ^ w.bits : Nat) := by
  have hxlt := toNat_lt_of_trunc hx
  have hdlt := toNat_lt_of_trunc hd
  rw [signed_eq_cond hd, signed_eq_cond hx, signed_eq_cond (trunc_trunc w _), toNat_trunc_sub w d x hxlt]
  generalize d.toNat = m, x.toNat = n at hxlt hdlt
  cases w <;> simp only [Width.bits] at hxlt hdlt ⊢ <;> omega

section Conditions

variable {w : Width} {d x : Word} {t : State} (hd : trunc w d = d) (hx : trunc w x = x)
  (h : FlagsBy w (trunc w (d - x)) x d (trunc w (d - x)) t)
include hd hx h

/-- The flags of a comparison (R50, R365). -/
theorem compared_flags : t.flag .cf = decide (d.toNat < x.toNat) ∧ t.flag .zf = decide (d = x) ∧
    t.flag .sf = decide (signed w (trunc w (d - x)) < 0) ∧
    t.flag .of = decide (signed w d - signed w x ≠ signed w (trunc w (d - x))) ∧ t.flag .pf = evenParity (d - x) := by
  have hdiff : trunc w (d - x) = trunc w (d - x - ofBool false) := congrArg (trunc w) (BitVec.sub_zero _).symm
  obtain ⟨hcf, -, hof⟩ := h.difference_meaning (c := false) hd hx hdiff
  obtain ⟨-, -, hsf⟩ := h.toFiveFlags.result_meaning (trunc_trunc w _)
  refine ⟨hcf, ?_, hsf, ?_, h.pf.trans (evenParity_trunc w _)⟩
  · rw [h.zf, trunc_trunc, decide_eq_decide, trunc_sub_eq_zero hd hx]
  · rw [hof, show false.toInt = 0 from rfl, Int.sub_zero]

/-- Sign and overflow of a comparison differ where the first operand is less (R430). -/
theorem sign_ne_overflow : (t.flag .sf != t.flag .of) = decide (signed w d < signed w x) := by
  obtain ⟨-, -, hsf, hof, -⟩ := compared_flags hd hx h
  have hdiff := signed_trunc_sub hd hx
  obtain ⟨hdlo, hdhi⟩ := signed_bounds hd
  obtain ⟨hxlo, hxhi⟩ := signed_bounds hx
  obtain ⟨halo, hahi⟩ := signed_bounds (trunc_trunc w (d - x))
  rw [hsf, hof, Bool.eq_iff_iff, bne_iff_ne, ne_eq, decide_eq_decide, decide_eq_true_iff]
  omega

end Conditions

/-- An odd condition is the negation of the one before it (R430). -/
theorem State.cond_odd (t : State) : ∀ p ∈ [(Cond.o, Cond.no), (.b, .ae), (.z, .nz), (.be, .a), (.s, .ns), (.p, .np), (.l, .ge),
    (.le, .g)], t.cond p.2 = !t.cond p.1 := by
  have hge : (t.flag .sf == t.flag .of) = !(t.flag .sf != t.flag .of) := (Bool.not_not _).symm
  have hg : (!t.flag .zf && (t.flag .sf == t.flag .of)) = !(t.flag .zf || (t.flag .sf != t.flag .of)) := by
    rw [hge, Bool.not_or]
  simp only [List.forall_mem_cons]
  exact ⟨rfl, rfl, rfl, (Bool.not_or _ _).symm, rfl, rfl, hge, hg, List.forall_mem_nil _⟩

/-- Settles O11: SETcc is one write, and each condition reads the flags of the comparison as an order. -/
theorem setOnConditionCompletes : Obligations.SetOnConditionCompletes := by
  unfold Obligations.SetOnConditionCompletes
  refine ⟨fun s cc e hm hw => ?set, fun w d x t hd hx h => ?conditions⟩
  case set =>
    have hmov := movForm_of_write (src := True) (v := ofBool (s.cond cc)) (i := .setccEb cc e) (e := s.eaOf (s.rm8Loc e)) hm
      (s.fits_rm8Loc e) fun _ => rfl
    have hbyte : trunc .w8 (ofBool (s.cond cc)) = if s.cond cc then 1 else 0 := by cases s.cond cc <;> rfl
    rw [hbyte] at hmov
    exact hmov hw trivial
  case conditions =>
    obtain ⟨hcf, hzf, hsf, hof, hpf⟩ := compared_flags hd hx h
    have hless := sign_ne_overflow hd hx h
    have hbe : t.cond .be = decide (d.toNat ≤ x.toNat) := by
      rw [State.cond, hcf, hzf, ← Bool.decide_or, decide_eq_decide, ← BitVec.toNat_inj, Nat.le_iff_lt_or_eq]
    have hle : t.cond .le = decide (signed w d ≤ signed w x) := by
      rw [State.cond, hless, hzf, ← Bool.decide_or, decide_eq_decide, ← signed_inj hd hx, Int.le_iff_lt_or_eq, or_comm]
    exact ⟨hcf, hbe, hzf, hless, hle, hsf, hpf, hof, t.cond_odd⟩

end Sys2Proof.Machine
end

section
/-! Near transfers and BOUND (43_control_flow.md R450 to R459, R500): where a transfer goes on, the relative ones as changes of the
instruction pointer, the others with one push or one pop before the jump. -/

namespace Sys2Proof.Machine

/-! ### The new instruction pointer (R41, R450) -/

/-- The model's truncation of an instruction pointer, in the words of the statements. -/
theorem State.truncPc_eq (s : State) (v : Word) : s.truncPc v = pcOf s v := by
  have hmask : v &&& 0xFFFF = BitVec.ofNat 32 (v.toNat % 65536) := by
    apply BitVec.eq_of_toNat_eq
    rw [BitVec.toNat_ofNat, BitVec.toNat_and, Nat.mod_eq_of_lt (Nat.lt_trans (Nat.mod_lt _ (by decide)) (by decide))]
    exact Nat.and_two_pow_sub_one_eq_mod v.toNat 16
  simp only [State.truncPc, pcOf, State.code32, Bool.and_eq_true, hmask]

theorem State.jumpTo_eq (s : State) (v : Word) : s.jumpTo v = s.setPc (pcOf s v) := by
  rw [State.jumpTo, s.truncPc_eq]

/-- A number modulo the operand size is the sum cut to it. -/
theorem ofInt_emod_bits (w : Width) (i : Int) : BitVec.ofInt 32 (i % 2 ^ w.bits) = truncInt w i := by
  have hbits : ((2 ^ 32 : Nat) : Int) = 2 ^ 32 := rfl
  have hpos : (0 : Int) < 2 ^ w.bits := Int.pow_pos (by decide)
  have hle : (2 : Int) ^ w.bits ≤ 2 ^ 32 := by cases w <;> decide
  have hlt := Int.emod_lt_of_pos i hpos
  apply BitVec.eq_of_toNat_eq
  rw [toNat_truncInt, BitVec.toNat_ofInt, Int.emod_eq_of_lt (Int.emod_nonneg i (Int.ne_of_gt hpos)) (by omega)]

/-- Return address and displacement, cut to the operand size and to the code segment. -/
theorem pcOf_target (s : State) {disp : Word} {d : Int} (h : disp = BitVec.ofInt 32 d) : pcOf s (s.target disp) = nearTarget s d := by
  rw [nearTarget, ofInt_emod_bits, truncInt_toNat_add, ← h, State.target]

theorem disp8_eq (jb : Byte) : disp8 jb = BitVec.ofInt 32 jb.toInt := rfl

theorem State.dispV_eq (s : State) (jv : Word) : s.dispV jv = BitVec.ofInt 32 (signed s.opW jv) := (BitVec.ofInt_toInt).symm

/-! ### JMP, Jcc, JCXZ and LOOP (R452 to R456) -/

/-- A relative transfer by a displacement that stands for a number. -/
theorem jumpForm_of_jumpIf {s : State} {c : Bool} {disp : Word} {d : Int} {i : Instr} (hd : disp = BitVec.ofInt 32 d)
    (hi : exec i s = .next (s.jumpIf c disp)) : JumpForm s c d i := by
  rw [JumpForm, hi, State.jumpIf, s.jumpTo_eq, pcOf_target s hd]

/-- A count that goes down by one is 0 exactly if it was 1. -/
theorem count_zero_iff (s : State) : trunc s.adW (s.reg s.adW .cx - 1) = 0 ↔ s.reg s.adW .cx = 1 := by
  have hone : trunc s.adW 1 = 1 := by cases s.adW <;> decide
  exact trunc_sub_eq_zero (trunc_trunc _ _) hone

/-- What LOOP, LOOPZ and LOOPNZ ask of ZF (R456). -/
def loopBranch (s : State) : Option Bool → Bool
  | none => true
  | some b => s.flag .zf == b

theorem loopRel_eq (z : Option Bool) (jb : Byte) (s : State) : loopRel z jb s =
    (s.setReg s.adW .cx (s.reg s.adW .cx - 1)).jumpIf (trunc s.adW (s.reg s.adW .cx - 1) != 0 && loopBranch s z) (disp8 jb) := by
  rw [← s.setReg_trunc]
  cases z <;> rfl

/-- LOOP, LOOPZ and LOOPNZ: the count in CX or ECX, then the branch. -/
theorem loopForm_of_loopRel {s : State} {z : Option Bool} {jb : Byte} {i : Instr} (hi : exec i s = .next (loopRel z jb s)) :
    LoopForm s (loopBranch s z) jb i := by
  have hcount : (trunc s.adW (s.reg s.adW .cx - 1) != 0 && loopBranch s z) = true ↔ s.reg s.adW .cx ≠ 1 ∧ loopBranch s z = true := by
    rw [Bool.and_eq_true, bne_iff_ne, ne_eq, count_zero_iff]
  obtain ⟨hflags, -, hworld⟩ := (moved_withGpr s (s.setReg s.adW .cx (s.reg s.adW .cx - 1)).gpr).plain
  refine ⟨_, hi.trans (congrArg _ (loopRel_eq z jb s)), ?_⟩
  simp only [State.jumpIf, hcount]
  by_cases h : s.reg s.adW .cx ≠ 1 ∧ loopBranch s z = true
  · rw [if_pos h, if_pos h, State.jumpTo_eq, ← pcOf_target s (disp8_eq jb)]
    exact ⟨rfl, rfl, fun _ => rfl, ⟨fun _ => rfl, rfl⟩, { hworld with }⟩
  · rw [if_neg h, if_neg h]
    exact ⟨rfl, rfl, fun _ => rfl, hflags, hworld⟩

/-- The words of the relative transfers (R452, R455, R456). -/
theorem decode_relative (c : DecCtx) (jb : Byte) : decode c [0xEB, jb] = some (.jmpJb jb, []) ∧
    decode c [0xE3, jb] = some (.jcxzJb jb, []) ∧ decode c [0xE2, jb] = some (.loopJb jb, []) ∧
    decode c [0xE1, jb] = some (.loopzJb jb, []) ∧ decode c [0xE0, jb] = some (.loopnzJb jb, []) := ⟨rfl, rfl, rfl, rfl, rfl⟩

theorem decode_jmpJv16 {c : DecCtx} (h : c.op32 = false) (b0 b1 : Byte) :
    decode c [0xE9, b0, b1] = some (.jmpJv ((b1 ++ b0).setWidth 32), []) := by
  obtain ⟨m, o, a⟩ := c
  subst h
  rfl

theorem decode_jmpJv32 {c : DecCtx} (h : c.op32 = true) (b0 b1 b2 b3 : Byte) :
    decode c [0xE9, b0, b1, b2, b3] = some (.jmpJv (b3 ++ b2 ++ b1 ++ b0), []) := by
  obtain ⟨m, o, a⟩ := c
  subst h
  rfl

/-- Settles O23: every relative transfer is one jump under a condition, LOOP with the count written first. -/
theorem jumpsAndLoopsComplete : Obligations.JumpsAndLoopsComplete := by
  unfold Obligations.JumpsAndLoopsComplete
  refine ⟨fun s cc jb jv => ?_, fun s jb => ⟨loopForm_of_loopRel (z := none) rfl, ?loopz, ?loopnz, fun c => ?_⟩⟩
  · refine ⟨jumpForm_of_jumpIf (disp8_eq jb) rfl, jumpForm_of_jumpIf (s.dispV_eq jv) rfl, jumpForm_of_jumpIf (disp8_eq jb) rfl,
      jumpForm_of_jumpIf (s.dispV_eq jv) rfl, jumpForm_of_jumpIf (disp8_eq jb) rfl, fun c b0 b1 b2 b3 => ?_⟩
    obtain ⟨hjmp, hjcxz, -⟩ := decode_relative c jb
    exact ⟨hjmp, hjcxz, fun h => decode_jmpJv16 h b0 b1, fun h => decode_jmpJv32 h b0 b1 b2 b3⟩
  case loopz =>
    have h := loopForm_of_loopRel (s := s) (z := some true) (i := .loopzJb jb) rfl
    rwa [loopBranch, beq_true] at h
  case loopnz =>
    have h := loopForm_of_loopRel (s := s) (z := some false) (i := .loopnzJb jb) rfl
    rwa [loopBranch, beq_false] at h
  · exact (decode_relative c jb).2.2

/-! ### JMP, CALL and RET (R453, R457 to R459) -/

/-- A jump after registers and memory were written. -/
theorem Moved.jumpTo {s t : State} (h : Moved s t) (v : Word) :
    (t.jumpTo v).pc = pcOf s v ∧ SameFlags s (t.jumpTo v) ∧ SameWorld s (t.jumpTo v) := by
  obtain ⟨hflags, -, hworld⟩ := h.plain
  have hpc : pcOf t = pcOf s := by
    obtain ⟨g, m, e, w, rfl⟩ := h
    rfl
  rw [t.jumpTo_eq, hpc]
  exact ⟨rfl, hflags, { hworld with }⟩

/-- A CALL by an offset: the return address is pushed, then the jump. -/
theorem call_next {s : State} {i : Instr} {e : Option Word} {v : Word} (hm : s.mem.wf = true) (hpush : s.canPush s.opW 1)
    (hi : exec i s = finish (push s.opW s.pc >>= fun _ => modify (State.jumpTo v)) { s with regEA := e }) :
    Next (exec i s) fun t => t.pc = pcOf s v ∧ Pushed s.opW [s.pc] s t ∧ SameFlags s t ∧ SameWorld s t := by
  have hpushed := State.pushed_pushed (s := { s with regEA := e }) hm (vs := [s.pc]) hpush (pushes_fit _ (Nat.le_of_ble_eq_true rfl))
  obtain ⟨hpc, hflags, hworld⟩ := ((moved_withEA s e).trans (State.moved_pushed _ s.opW [s.pc])).jumpTo v
  exact ⟨_, hi.trans (finish_ok (run_bind_ok (push_flat (s := { s with regEA := e }) hpush s.pc) _)), hpc, hpushed, hflags, hworld⟩

/-- The operand of a JMP or CALL Ev is read before anything else. -/
theorem readTarget_run {s : State} {e : RM} (hread : s.canRead s.opW (s.rmLoc e)) (f : Word → M Unit) :
    (locE e >>= fun l => readLoc s.opW l >>= f) s = f (s.valueAt s.opW (s.rmLoc e)) (s.captureEA (s.rmLoc e)) :=
  run_bind_ok (readLoc_flat (s := s.captureEA (s.rmLoc e)) hread) f

theorem jmpEv_next {s : State} {e : RM} (hread : s.canRead s.opW (s.rmLoc e)) : Next (exec (.jmpEv e) s) fun t =>
    t.pc = pcOf s (s.valueAt s.opW (s.rmLoc e)) ∧ Untouched s t ∧ SameFlags s t ∧ SameWorld s t := by
  obtain ⟨hpc, hflags, hworld⟩ := (moved_withEA s (s.eaOf (s.rmLoc e))).jumpTo (s.valueAt s.opW (s.rmLoc e))
  exact ⟨_, finish_ok (readTarget_run hread fun v => modify (State.jumpTo v)), hpc, ⟨rfl, fun _ => rfl⟩, hflags, hworld⟩

theorem callEv_next {s : State} {e : RM} (hm : s.mem.wf = true) (hpush : s.canPush s.opW 1) (hread : s.canRead s.opW (s.rmLoc e)) :
    Next (exec (.callEv e) s) fun t =>
      t.pc = pcOf s (s.valueAt s.opW (s.rmLoc e)) ∧ Pushed s.opW [s.pc] s t ∧ SameFlags s t ∧ SameWorld s t := by
  refine call_next (e := s.eaOf (s.rmLoc e)) hm hpush ?_
  have hrun := readTarget_run hread fun v => push s.opW s.pc >>= fun _ => modify (State.jumpTo v)
  show finish (callE e) s = _
  rw [finish, show callE e s = _ from hrun]
  rfl

theorem merge_merge (w : Width) (old x y : Word) : merge w (merge w old x) y = merge w old y := by
  rw [merge, merge_rest, ← merge]

theorem State.setReg_setReg (s : State) (w : Width) (r : Reg) (x y : Word) : (s.setReg w r x).setReg w r y = s.setReg w r y := by
  rw [State.setReg, State.setReg_gpr, Gpr.set_set, Gpr.get_set_same, merge_merge]
  rfl

/-- Two pops in a row. -/
theorem State.popped_popped (s : State) (n k : Nat) : (s.popped n).popped k = s.popped (n + k) := by
  have hsp : (s.popped n).stack.sp = trunc s.stack.w (s.stack.at n) := s.reg_setReg_same s.stack.w .sp _
  have hat : (s.popped n).stack.at k = s.stack.at (n + k) := by
    rw [Stack.at, hsp]
    show trunc s.stack.w (trunc s.stack.w (trunc s.stack.w (s.stack.sp + BitVec.ofNat 32 n)) + BitVec.ofNat 32 k) = _
    rw [trunc_trunc, trunc_trunc_add, BitVec.add_assoc, ← BitVec.ofNat_add]
    rfl
  rw [State.popped, hat]
  exact s.setReg_setReg s.stack.w .sp _ _

theorem retNear_flat {s : State} (h : s.canPop s.opW 1) (iw : Half) :
    retNear iw s = .ok () ((s.popped (s.opW.bytes + iw.toNat)).jumpTo (s.stackValue s.opW 0)) := by
  rw [retNear, run_get_bind, run_bind_ok (pop_granted h.top), ← s.popped_popped]
  rfl

/-- RET: the return address is popped, then `iw` more bytes are dropped. -/
theorem ret_next {s : State} {i : Instr} {iw : Half} (hpop : s.canPop s.opW 1) (hi : exec i s = finish (retNear iw) s) :
    Next (exec i s) fun t => t.pc = pcOf s (s.stackValue s.opW 0) ∧ t.gpr = popGpr s (s.opW.bytes + iw.toNat) ∧ SameMemory s t ∧
      SameFlags s t ∧ SameWorld s t := by
  obtain ⟨hpc, hflags, hworld⟩ := (moved_withGpr s (s.popped (s.opW.bytes + iw.toNat)).gpr).jumpTo (s.stackValue s.opW 0)
  exact ⟨_, hi.trans (finish_ok (retNear_flat hpop iw)), hpc, s.gpr_popped _, fun _ => rfl, hflags, hworld⟩

/-- Settles O24: a CALL is one push and a jump, a RET one pop and a jump. -/
theorem nearCallsComplete : Obligations.NearCallsComplete := by
  unfold Obligations.NearCallsComplete
  intro s e jv iw hm
  refine ⟨jmpEv_next, fun hpush => ?rel, callEv_next hm, fun hpop => ?ret⟩
  case rel =>
    rw [← pcOf_target s (s.dispV_eq jv)]
    exact call_next (e := s.regEA) hm hpush rfl
  case ret =>
    simp only [List.forall_mem_cons]
    exact ⟨ret_next hpop rfl, ret_next hpop rfl, List.forall_mem_nil _⟩

/-! ### BOUND (R500) -/

/-- The run of BOUND once both bounds are read. -/
theorem bound_run {s : State} {g : Reg} {m : MemOp} (hlo : s.grants (s.resolve m).1 (s.resolve m).2 s.opW.bytes .read)
    (hhi : s.grants (s.resolve m).1 ((s.resolve m).2 + s.opW.bytes) s.opW.bytes .read) : bound g m s =
      ensure (decide (signed s.opW (s.busRead (s.spread (s.resolve m).1 (s.resolve m).2 s.opW.bytes)) ≤ signed s.opW (s.reg s.opW g)) &&
        decide (signed s.opW (s.reg s.opW g) ≤
          signed s.opW (s.busRead (s.spread (s.resolve m).1 ((s.resolve m).2 + s.opW.bytes) s.opW.bytes)))) .br
        (s.captureEA (s.memLoc m)) := by
  have hfirst := segRead_granted (s := s.captureEA (s.memLoc m)) hlo
  have hsecond := segRead_granted (s := s.captureEA (s.memLoc m)) hhi
  exact (run_bind_ok hfirst _).trans (run_bind_ok hsecond _)

/-- Settles O25: both bounds are read, and one test decides. -/
theorem boundCompletesOrTraps : Obligations.BoundCompletesOrTraps := by
  unfold Obligations.BoundCompletesOrTraps
  intro s g m w q off lo hi i hlo hhi
  have hrun : bound g m s = ensure (decide (lo ≤ i) && decide (i ≤ hi)) .br (s.captureEA (s.memLoc m)) := bound_run hlo hhi
  refine ⟨fun hle hle' => ?_, fun hout => ?_⟩
  · rw [decide_eq_true hle, decide_eq_true hle'] at hrun
    exact ⟨_, finish_ok hrun, ⟨rfl, fun _ => rfl⟩, (moved_withEA s _).plain⟩
  · have hno : (decide (lo ≤ i) && decide (i ≤ hi)) = false := by
      rw [Bool.and_eq_false_iff, decide_eq_false_iff_not, decide_eq_false_iff_not]
      omega
    rw [hno] at hrun
    exact ⟨_, finish_exn hrun, rfl, rfl, rfl, rfl, rfl,
      ⟨rfl, rfl, rfl, rfl, rfl, rfl, rfl, rfl, rfl, rfl, rfl, rfl, rfl, rfl, rfl, rfl, rfl, rfl, rfl, rfl⟩,
      ⟨rfl, rfl, rfl, rfl, rfl, rfl, rfl⟩, rfl, rfl⟩

end Sys2Proof.Machine
end

section
/-! Far transfers, software interrupts and IRET in real mode (43_control_flow.md R460 to R464, R480 to R491, 60_exceptions.md R670), and
the return from a call (R505): what each leaves is a state after pushes or pops with CS loaded and a jump made. -/

namespace Sys2Proof.Machine

/-! ### Operations that write registers, flags and memory only -/

/-- `t` is `s` but for the general registers, the flags, memory, the noted operand addresses (R64) and the record of device accesses,
the latter as in `s` if no device stands behind the Bus. -/
def Worked (s t : State) : Prop :=
  ∃ g f m e w l, t = { s with gpr := g, flags := f, mem := m, regEA := e, regEAWrite := w, busLog := l } ∧
    ((∀ a, s.busKind a ≠ .device) → l = s.busLog)

theorem Moved.worked {s t : State} (h : Moved s t) : Worked s t := by
  obtain ⟨g, m, e, w, rfl⟩ := h
  exact ⟨g, s.flags, m, e, w, s.busLog, rfl, fun _ => rfl⟩

theorem ReadsOnly.worked {s t : State} (h : ReadsOnly s t) : Worked s t := by
  obtain ⟨l, rfl, hl⟩ := h
  exact ⟨s.gpr, s.flags, s.mem, s.regEA, s.regEAWrite, l, rfl, hl⟩

theorem Accessing.worked {s u v : State} (h : Accessing s u v) : Worked s v := by
  obtain ⟨m, e, w, l, rfl, rfl, hl⟩ := h
  exact ⟨s.gpr, s.flags, m, e, w, l, rfl, hl⟩

theorem Worked.trans {s t u : State} (h : Worked s t) (k : Worked t u) : Worked s u := by
  obtain ⟨g, f, m, e, w, l, rfl, hl⟩ := h
  obtain ⟨g', f', m', e', w', l', rfl, hl'⟩ := k
  exact ⟨g', f', m', e', w', l', rfl, fun hd => (hl' hd).trans (hl hd)⟩

theorem Worked.setDirect {s t : State} (h : Worked s t) (k : Word) (v : Bool) : Worked s (t.setDirect k v) := by
  obtain ⟨g, f, m, e, w, l, rfl, hl⟩ := h
  exact ⟨g, _, m, e, w, l, rfl, hl⟩

theorem Worked.outside {s t : State} (h : Worked s t) : SameOutside s t := by
  obtain ⟨g, f, m, e, w, l, rfl, hl⟩ := h
  exact ⟨⟨rfl, rfl, rfl, rfl, rfl, rfl, rfl, rfl, rfl, rfl, rfl, rfl, rfl, rfl, rfl, rfl, rfl, rfl, rfl, rfl⟩, rfl, rfl, hl⟩

theorem Worked.pcOf_eq {s t : State} (h : Worked s t) : pcOf t = pcOf s := by
  obtain ⟨g, f, m, e, w, l, rfl, -⟩ := h
  rfl

theorem Worked.cs_eq {s t : State} (h : Worked s t) : t.cs = s.cs := by
  obtain ⟨g, f, m, e, w, l, rfl, -⟩ := h
  rfl

theorem Worked.seg_eq {s t : State} (h : Worked s t) : t.seg = s.seg := by
  obtain ⟨g, f, m, e, w, l, rfl, -⟩ := h
  rfl

theorem sameFlags_of_eq {s t : State} (h : t.flags = s.flags) : SameFlags s t :=
  ⟨fun f => congrArg (FlagEngine.flag · f) h, sameDirect_of_eq h⟩

theorem Moved.flags_eq {s t : State} (h : Moved s t) : t.flags = s.flags := by
  obtain ⟨g, m, e, w, rfl⟩ := h
  rfl

theorem ReadsOnly.flags_eq {s t : State} (h : ReadsOnly s t) : t.flags = s.flags := by
  obtain ⟨l, rfl, -⟩ := h
  rfl

/-! ### A jump with CS loaded (R141, R464) -/

/-- The real-mode load of CS, then the jump. -/
def State.realJump (sel : Half) (off : Word) (t : State) : State := (t.realLoad .cs sel).jumpTo off

theorem State.realJump_eq (t : State) (sel : Half) (off : Word) : t.realJump sel off =
    { t with
      cs := { t.cs with sel := sel, base := BitVec.ofNat 32 (sel.toNat * 16), addrDesc := none }, cpl := 0, pc := pcOf t off } := by
  rw [State.realJump, State.jumpTo_eq, ← realBase_eq]
  rfl

/-- Where a jump in real mode arrives, whatever pushes and pops came before. -/
theorem Worked.realJump {s t : State} (h : Worked s t) (sel : Half) (off : Word) :
    (t.realJump sel off).pc = pcOf s off ∧ RealCs sel s (t.realJump sel off) ∧ SameOutside s (t.realJump sel off) := by
  have hout := h.outside
  rw [State.realJump_eq, h.pcOf_eq, h.cs_eq]
  refine ⟨rfl, ⟨rfl, rfl, fun q hq => ?_⟩, hout⟩
  rw [← h.seg_eq]
  cases q with
  | cs => exact absurd rfl hq
  | _ => rfl

/-- Pushes and the commit, then the rest of an operation. -/
theorem pushAll_commit_then {α : Type} {s : State} {w : Width} {vs : List Word} (hpush : s.canPush w vs.length) (f : M α) :
    (s.stack.pushAll w vs >>= fun k => k.commit >>= fun _ => f) s = f (s.pushed w vs) := by
  rw [← bind_assoc]
  exact run_bind_ok (pushAll_commit hpush) _

/-! ### Far JMP and CALL (R460 to R464) -/

/-- A far CALL pushes CS and the return address, a far JMP nothing. -/
def State.farPushed (s : State) (isCall : Bool) : State :=
  if isCall then s.pushed s.opW [s.cs.sel.setWidth 32, s.pc] else s

theorem State.moved_farPushed (s : State) (isCall : Bool) : Moved s (s.farPushed isCall) := by
  cases isCall with
  | true => exact s.moved_pushed _ _
  | false => exact .refl s

theorem farReal_flat {s : State} {isCall : Bool} (hpush : isCall = true → s.canPush s.opW 2) (off : Word) (sel : Half) :
    farReal isCall off sel s = .ok () ((s.farPushed isCall).realJump sel off) := by
  cases isCall with
  | true => exact run_bind_ok (pushAll_commit (vs := [s.cs.sel.setWidth 32, s.pc]) (hpush rfl)) _
  | false => rfl

theorem farTransfer_real {s : State} (h : s.protectedMode = false) (isCall : Bool) (off : Word) (sel : Half) :
    farTransfer isCall off sel s = farReal isCall off sel s := by
  rw [farTransfer, run_get_bind, h, if_neg Bool.false_ne_true]

theorem farTransfer_flat {s : State} (hreal : s.protectedMode = false) {isCall : Bool} (hpush : isCall = true → s.canPush s.opW 2)
    (off : Word) (sel : Half) : farTransfer isCall off sel s = .ok () ((s.farPushed isCall).realJump sel off) :=
  (farTransfer_real hreal isCall off sel).trans (farReal_flat hpush off sel)

/-- A far transfer in real mode, with an operand address noted before. -/
theorem farRealForm_of_transfer {s : State} {src : Prop} {off : Word} {sel : Half} {p : Bool × Instr} {e : Option Word}
    (hm : s.mem.wf = true) (hreal : s.protectedMode = false)
    (hi : src → exec p.2 s = finish (farTransfer p.1 off sel) { s with regEA := e }) : FarRealForm s src off sel p := by
  obtain ⟨isCall, i⟩ := p
  intro hsrc hpush
  have hmoved := (moved_withEA s e).trans (State.moved_farPushed _ isCall)
  obtain ⟨hpc, hcs, hout⟩ := hmoved.worked.realJump sel off
  refine ⟨_, (hi hsrc).trans (finish_ok (farTransfer_flat (s := { s with regEA := e }) hreal hpush off sel)), hpc, hcs, ?_,
    sameFlags_of_eq hmoved.flags_eq, hout⟩
  cases isCall with
  | true => exact State.pushed_pushed (s := { s with regEA := e }) hm (hpush rfl) (pushes_fit _ (Nat.le_of_ble_eq_true rfl))
  | false => exact ⟨rfl, fun _ => rfl⟩

/-- The pointer in memory is read before anything else (R460). -/
theorem farRealForm_of_farMem {s : State} {m : MemOp} {p : Bool × Instr} (hm : s.mem.wf = true) (hreal : s.protectedMode = false)
    (hi : exec p.2 s = finish (farMem p.1 m) s) : FarRealForm s (s.canReadFar m) (s.farOffset m) (s.farSelector m) p := by
  refine farRealForm_of_transfer (e := s.eaOf (s.memLoc m)) hm hreal fun hfar => ?_
  rw [hi, finish, farMem, run_bind_ok (readFar_flat hfar)]
  rfl

/-! ### Far RET (R463, R464) -/

theorem retFarReal_flat {s : State} (hpop : s.canPop s.opW 2) (iw : Half) : retFarReal iw s =
    .ok () ((s.popped (2 * s.opW.bytes + iw.toNat)).realJump ((s.stackValue s.opW s.opW.bytes).setWidth 16)
      (s.stackValue s.opW 0)) := by
  have hoff := peek_flat (hpop 0 (by decide))
  have hsel := peek_flat (hpop 1 (by decide))
  rw [Nat.zero_mul] at hoff
  rw [Nat.one_mul] at hsel
  rw [retFarReal, run_get_bind, run_bind_ok hoff, run_bind_ok hsel]
  rfl

/-- Far RET in real mode. -/
theorem retFar_next {s : State} {i : Instr} {iw : Half} (hreal : s.protectedMode = false) (hpop : s.canPop s.opW 2)
    (hi : exec i s = finish (retFar iw) s) : Next (exec i s) fun t =>
      t.pc = pcOf s (s.stackValue s.opW 0) ∧ RealCs ((s.stackValue s.opW s.opW.bytes).setWidth 16) s t ∧
      t.gpr = popGpr s (2 * s.opW.bytes + iw.toNat) ∧ SameMemory s t ∧ SameFlags s t ∧ SameOutside s t := by
  have hrun : retFar iw s = retFarReal iw s := by rw [retFar, run_get_bind, hreal, if_neg Bool.false_ne_true]
  obtain ⟨hpc, hcs, hout⟩ := (moved_withGpr s (s.popped (2 * s.opW.bytes + iw.toNat)).gpr).worked.realJump
    ((s.stackValue s.opW s.opW.bytes).setWidth 16) (s.stackValue s.opW 0)
  exact ⟨_, hi.trans (finish_ok (hrun.trans (retFarReal_flat hpop iw))), hpc, hcs, s.gpr_popped _, fun _ => rfl,
    sameFlags_of_eq rfl, hout⟩

/-- Settles O26: pushes or pops, the load of CS, and the jump. -/
theorem farTransfersCompleteInRealMode : Obligations.FarTransfersCompleteInRealMode := by
  unfold Obligations.FarTransfersCompleteInRealMode
  refine ⟨fun s off sel m hm hreal => ?_, fun s iw hreal hpop => ?_⟩ <;> simp only [List.forall_mem_cons]
  · exact ⟨⟨farRealForm_of_transfer (e := s.regEA) hm hreal fun _ => rfl,
      farRealForm_of_transfer (e := s.regEA) hm hreal fun _ => rfl, List.forall_mem_nil _⟩,
      farRealForm_of_farMem hm hreal rfl, farRealForm_of_farMem hm hreal rfl, List.forall_mem_nil _⟩
  · exact ⟨retFar_next hreal hpop rfl, retFar_next hreal hpop rfl, List.forall_mem_nil _⟩

/-! ### Flags that a delivery clears (R670, R675) -/

theorem FlagEngine.flag_withPs (e : FlagEngine) (ps : Word) (f : Flag) (h : ps.getLsbD f.place = e.ps.getLsbD f.place) :
    FlagEngine.flag { e with ps := ps } f = e.flag f := by
  cases hc : e.cached.has f with
  | true =>
    have hformula : FlagEngine.formula { e with ps := ps } f = e.formula f := by cases f <;> rfl
    exact (FlagEngine.flag_cached { e with ps := ps } f hc).trans (hformula.trans (e.flag_cached f hc).symm)
  | false => exact (FlagEngine.flag_stored_bit { e with ps := ps } f hc).trans (h.trans (e.flag_stored_bit f hc).symm)

theorem PsCleared.of_eq {s t : State} (h : t.flags = s.flags) : PsCleared 0 s t := by
  obtain ⟨hflag, hdirect⟩ := sameFlags_of_eq h
  have hmask : psCached ||| 0 = psCached := BitVec.or_zero
  exact ⟨hflag, by rw [hmask]; exact hdirect⟩

/-- One more bit is cleared, none of the six flags. -/
theorem PsCleared.setDirect {s t : State} {mask k : Word} (h : PsCleared mask s t) (hk : k &&& psCached = 0) :
    PsCleared (mask ||| k) s (t.setDirect k false) := by
  obtain ⟨hflag, hdirect⟩ := h
  have hplace (f : Flag) : k.getLsbD f.place = false := by
    have hbit : (k &&& psCached).getLsbD f.place = false := by rw [hk]; exact BitVec.getLsbD_zero
    have hc : psCached.getLsbD f.place = true := by cases f <;> decide
    rwa [BitVec.getLsbD_and, hc, Bool.and_true] at hbit
  refine ⟨fun f => (FlagEngine.flag_withPs _ _ f ?_).trans (hflag f), ?_⟩
  · rw [getLsbD_putMask _ _ _ f.place_lt, hplace, if_neg Bool.false_ne_true]
  · have hkeep : k &&& ~~~psCached = k := by
      have hsplit : k &&& (psCached ||| ~~~psCached) = k := by rw [BitVec.or_not_self, BitVec.and_allOnes]
      rw [BitVec.and_or_distrib_left, hk] at hsplit
      exact BitVec.zero_or.symm.trans hsplit
    show t.flags.ps &&& ~~~k &&& ~~~psCached = _
    rw [BitVec.and_assoc, BitVec.and_comm (~~~k), ← BitVec.and_assoc, hdirect, BitVec.and_assoc, ← BitVec.not_or, BitVec.or_assoc]

/-! ### INT n, INT3 and INTO (R480 to R482, R670) -/

/-- The state after the delivery of a vector whose entry is already read. -/
def State.delivered (n : Byte) (ret : Word) (s u : State) : State :=
  (((u.pushed .w16 [s.getPS, s.cs.sel.setWidth 32, ret]).setDirect psIF false).setDirect psTF false).realJump (vectorSegment s n)
    (vectorOffset s n)

theorem vectorAt_eq (s : State) (n : Byte) :
    (if s.cfg.model.class8086 then 0 else s.idtr.base) + n.setWidth 32 * 4 = vectorAt s n := by
  have hentry : n.setWidth 32 * 4 = BitVec.ofNat 32 (n.toNat * 4) := by
    apply BitVec.eq_of_toNat_eq
    rw [BitVec.toNat_mul, BitVec.toNat_setWidth_of_le (by decide), BitVec.toNat_ofNat]
    rfl
  rw [hentry, vectorAt]

theorem vectorInLimit_iff (s : State) (n : Byte) :
    (s.cfg.model.class8086 || decide (n.toNat * 4 + 3 ≤ s.idtr.limit.toNat)) = true ↔ vectorInLimit s n := by
  rw [Bool.or_eq_true, decide_eq_true_iff, vectorInLimit]

/-! What reading memory leaves alone. -/

section
variable {s t : State} (h : ReadsOnly s t)
include h

theorem ReadsOnly.mem_eq : t.mem = s.mem := by
  obtain ⟨l, rfl, -⟩ := h
  rfl

theorem ReadsOnly.stack_eq : t.stack = s.stack := by
  obtain ⟨l, rfl, -⟩ := h
  rfl

theorem ReadsOnly.canPush {w : Width} {n : Nat} (hpush : s.canPush w n) : t.canPush w n := by
  obtain ⟨l, rfl, -⟩ := h
  exact hpush

theorem ReadsOnly.pushed {w : Width} {vs : List Word} {u : State} (hu : Pushed w vs t u) : Pushed w vs s u := by
  obtain ⟨l, rfl, -⟩ := h
  exact hu

end

/-- Delivery in real mode: two reads of the vector table, three pushes, IF and TF, the load of CS and the jump. -/
theorem deliverReal_flat {s : State} {n : Byte} (h : readyReal s n) (ret : Word) :
    ∃ u, ReadsOnly s u ∧ deliverReal n ret s = .ok () (s.delivered n ret u) := by
  obtain ⟨-, hp, hlimit, hpush⟩ := h
  have hoff := sysRead_flat hp (vectorAt s n) 2
  have hread := readsOnly_logBus s (busOps s.cfg.model (addrs (vectorAt s n).toNat 2))
  generalize s.logBus _ = u at hoff hread
  have hseg := sysRead_flat (hread.pagingOn_eq.trans hp) (vectorAt s n + 2) 2
  have hread' := hread.trans (readsOnly_logBus u (busOps u.cfg.model (addrs (vectorAt s n + 2).toNat 2)))
  rw [hread.busRead_eq] at hseg
  generalize u.logBus _ = v at hseg hread'
  refine ⟨v, hread', ?_⟩
  have hstack := pushAll_commit_then (α := Unit) (s := v) (w := .w16) (vs := [s.getPS, s.cs.sel.setWidth 32, ret]) (hread'.canPush hpush)
  rw [hread'.stack_eq] at hstack
  rw [deliverReal, run_get_bind, (vectorInLimit_iff s n).mpr hlimit, ensure_true, run_pure_bind, vectorAt_eq, run_bind_ok hoff,
    run_bind_ok hseg, hstack]
  rfl

/-- A vector's offset needs no cut: it has sixteen bits. -/
theorem pcOf_vectorOffset (s t : State) (n : Byte) : pcOf t (vectorOffset s n) = vectorOffset s n := by
  have hlt : (vectorOffset s n).toNat < 65536 := toNat_lt_of_trunc (w := .w16) (s.trunc_busRead (length_addrs _ 2))
  rw [pcOf, Nat.mod_eq_of_lt hlt, BitVec.ofNat_toNat, BitVec.setWidth_eq, ite_self]

theorem deliveredReal_delivered {s u : State} (hm : s.mem.wf = true) {n : Byte} (hpush : s.canPush .w16 3) (ret : Word)
    (h : ReadsOnly s u) : DeliveredReal n ret s (s.delivered n ret u) := by
  have hpushed := State.pushed_pushed (h.mem_eq.symm ▸ hm) (vs := [s.getPS, s.cs.sel.setWidth 32, ret]) (h.canPush hpush)
    (pushes_fit _ (Nat.le_of_ble_eq_true rfl))
  have hmoved := u.moved_pushed .w16 [s.getPS, s.cs.sel.setWidth 32, ret]
  rw [State.delivered]
  generalize u.pushed .w16 [s.getPS, s.cs.sel.setWidth 32, ret] = v at hpushed hmoved
  have hcleared := ((PsCleared.of_eq (hmoved.flags_eq.trans h.flags_eq)).setDirect (k := psIF) (by decide)).setDirect
    (k := psTF) (by decide)
  obtain ⟨hpc, hcs, hout⟩ := (((h.worked.trans hmoved.worked).setDirect psIF false).setDirect psTF false).realJump
    (vectorSegment s n) (vectorOffset s n)
  exact ⟨h.pushed hpushed, hcleared, hcs, hpc.trans (pcOf_vectorOffset s s n), hout⟩

theorem deliver_real {s : State} (h : s.protectedMode = false) (n : Byte) (kind : DeliveryKind) (e : Option Half) (ret : Word) :
    deliver n kind e ret s = deliverReal n ret s := by
  rw [deliver, run_get_bind, h, if_neg Bool.false_ne_true]

/-- INT n, INT3 and a taken INTO in real mode. -/
theorem softInt_next {s : State} {n : Byte} {i : Instr} (hm : s.mem.wf = true) (h : readyReal s n)
    (hi : exec i s = finish (softInt n) s) : Next (exec i s) (DeliveredReal n s.pc s) := by
  obtain ⟨u, hu, hrun⟩ := deliverReal_flat h s.pc
  obtain ⟨hreal, -, -, hpush⟩ := h
  have hdelivered := deliveredReal_delivered hm (n := n) hpush s.pc hu
  refine ⟨(s.delivered n s.pc u).setNoTrap true, hi.trans (finish_ok ?_), hdelivered⟩
  rw [softInt, run_get_bind, run_bind_ok ((deliver_real hreal n .software none s.pc).trans hrun), run_modify]

/-- A vector beyond the table. -/
theorem softInt_beyond {s : State} {n : Byte} (hreal : s.protectedMode = false) (h : ¬ vectorInLimit s n) :
    softInt n s = raise (.gp 0) s := by
  have hlimit := eq_false_of_ne_true (mt (vectorInLimit_iff s n).mp h)
  have hrun : deliverReal n s.pc s = .error (.exn (.gp 0)) s.setNoReadWrite := by
    rw [deliverReal, run_get_bind, hlimit]
    rfl
  rw [softInt, run_get_bind, run_bind_error ((deliver_real hreal n .software none s.pc).trans hrun)]
  rfl

theorem exec_into (s : State) : exec .into s = if s.flag .of then finish (softInt 4) s else .next s := by
  show finish intOnOverflow s = _
  rw [finish, intOnOverflow, run_get_bind]
  cases s.flag .of <;> rfl

/-- Settles O27: each form is one delivery, and the limit decides whether it can be made. -/
theorem softwareInterruptsCompleteInRealMode : Obligations.SoftwareInterruptsCompleteInRealMode := by
  unfold Obligations.SoftwareInterruptsCompleteInRealMode
  intro s ib hm
  simp only [List.forall_mem_cons]
  refine ⟨⟨fun h => softInt_next hm h rfl, fun h => softInt_next hm h rfl, List.forall_mem_nil _⟩, fun h hof => ?_, fun hof => ?_,
    fun hreal h => traps_of_raise rfl (softInt_beyond hreal h)⟩
  · exact softInt_next hm h (by rw [exec_into, if_pos hof])
  · rw [exec_into, hof, if_neg Bool.false_ne_true]

/-! ### The bits of PS that IRET writes (R491) -/

theorem FlagEngine.commit_stored (e : FlagEngine) {f : Flag} (h : e.cached.has f = false) : e.commit f e.ps = e.ps := by
  apply BitVec.eq_of_getLsbD_eq
  intro i hi
  rw [e.getLsbD_commit f e.ps hi]
  split
  next hf => rw [e.flag_stored_bit f h, hf]
  next => rfl

/-- With no flag cached PS is stored as it is. -/
theorem FlagEngine.stored_setPS (e : FlagEngine) (v m : Word) : (e.setPS v m).stored = (e.setPS v m).ps := by
  have hcommit (f : Flag) : (e.setPS v m).commit f (e.setPS v m).ps = (e.setPS v m).ps :=
    FlagEngine.commit_stored _ (by cases f <;> rfl)
  rw [FlagEngine.stored]
  simp only [hcommit]

theorem getLsbD_bitsIf (c : Bool) (m : Word) (k : Nat) : (bitsIf c m).getLsbD k = (c && m.getLsbD k) := by
  cases c with
  | true => exact (Bool.true_and _).symm
  | false => exact BitVec.getLsbD_zero

/-- The masks of R491 as sets of places. -/
theorem getLsbD_psMasks {k : Nat} (hk : k < 32) : (psCached ||| psTF ||| psDF).getLsbD k = decide (k ∈ [0, 2, 4, 6, 7, 8, 10, 11]) ∧
    psIF.getLsbD k = decide (k = 9) ∧ psIOPL.getLsbD k = decide (k = 12 ∨ k = 13) ∧ psNT.getLsbD k = decide (k = 14) ∧
    psRF.getLsbD k = decide (k = 16) :=
  cases_lt32 (p := fun k => (psCached ||| psTF ||| psDF).getLsbD k = decide (k ∈ [0, 2, 4, 6, 7, 8, 10, 11]) ∧
    psIF.getLsbD k = decide (k = 9) ∧ psIOPL.getLsbD k = decide (k = 12 ∨ k = 13) ∧ psNT.getLsbD k = decide (k = 14) ∧
    psRF.getLsbD k = decide (k = 16)) (by decide) k hk

/-- The same places by what their writing asks for. -/
theorem psWrites_eq (s : State) (k : Nat) : psWrites s k = (decide (k ∈ [0, 2, 4, 6, 7, 8, 10, 11]) ||
    (!s.protectedMode || decide (s.cpl ≤ s.iopl)) && decide (k = 9) ||
    (if s.protectedMode then s.cpl == 0 else s.cfg.model.has386) && decide (k = 12 ∨ k = 13) ||
    (s.protectedMode || s.cfg.model.has386) && decide (k = 14)) := by
  unfold psWrites
  split
  case h_13 =>
    rename_i h0 h2 h4 h6 h7 h8 h10 h11 h9 h12 h13 h14
    have hother : k ∉ [0, 2, 4, 6, 7, 8, 10, 11] := by
      simp only [List.mem_cons, List.not_mem_nil, or_false, not_or]
      exact ⟨h0, h2, h4, h6, h7, h8, h10, h11⟩
    have hlevel : ¬ (k = 12 ∨ k = 13) := not_or.mpr ⟨h12, h13⟩
    rw [decide_eq_false hother, decide_eq_false h9, decide_eq_false hlevel, decide_eq_false h14]
    simp
  all_goals simp

/-- The model's mask is the set of places of the statements: protected mode and the 80386 have the places of the 80286. -/
theorem State.getLsbD_iretWritable (s : State) {k : Nat} (hk : k < 32) : s.iretWritable.getLsbD k = iretWrites s k := by
  obtain ⟨hbase, hif, hiopl, hnt, hrf⟩ := getLsbD_psMasks hk
  have hprot : s.protectedMode = true → s.cfg.model.has286 = true := fun h => (Bool.and_eq_true_iff.mp h).1
  have h386 : s.cfg.model.has386 = true → s.cfg.model.has286 = true := by cases s.cfg.model <;> decide
  have hlevel : (s.cfg.model.has286 && if s.protectedMode then s.cpl == 0 else s.cfg.model.has386) =
      if s.protectedMode then s.cpl == 0 else s.cfg.model.has386 := by
    cases hp : s.protectedMode <;> cases h : s.cfg.model.has386 <;> simp_all
  have hnested : (s.cfg.model.has286 && (s.protectedMode || s.cfg.model.has386)) = (s.protectedMode || s.cfg.model.has386) := by
    cases hp : s.protectedMode <;> cases h : s.cfg.model.has386 <;> simp_all
  rw [State.iretWritable, State.popfWritable, hlevel, hnested]
  have hrf' : (k == 16 && s.op32) = (s.op32 && decide (k = 16)) := Bool.and_comm _ _
  rw [BitVec.getLsbD_or, BitVec.getLsbD_or, BitVec.getLsbD_or, BitVec.getLsbD_or, hbase, getLsbD_bitsIf, getLsbD_bitsIf, getLsbD_bitsIf,
    getLsbD_bitsIf, hif, hiopl, hnt, hrf, iretWrites, psWrites_eq, hrf']

/-- A place that IRET may write. -/
theorem iretWrites_place {s : State} {k : Nat} (h : iretWrites s k = true) : k ∈ [0, 2, 4, 6, 7, 8, 9, 10, 11] ∨
    (k ∈ [12, 13, 14] ∧ s.cfg.model.has286 = true) ∨ (k = 16 ∧ s.cfg.model.has386 = true) := by
  have hprot : s.protectedMode = true → s.cfg.model.has286 = true := fun h => (Bool.and_eq_true_iff.mp h).1
  have h386 : s.cfg.model.has386 = true → s.cfg.model.has286 = true := by cases s.cfg.model <;> decide
  have hmode : s.protectedMode = true ∨ s.cfg.model.has386 = true → s.cfg.model.has286 = true := fun h => h.elim hprot h386
  rw [iretWrites, psWrites_eq] at h
  simp only [Bool.or_eq_true, Bool.and_eq_true, decide_eq_true_iff, beq_iff_eq] at h
  obtain (((hbase | ⟨-, rfl⟩) | ⟨hlevel, hk⟩) | ⟨hnested, rfl⟩) | ⟨rfl, hop⟩ := h
  · left
    simp only [List.mem_cons, List.not_mem_nil, or_false] at hbase ⊢
    omega
  · left
    decide
  · right; left
    refine ⟨by rcases hk with rfl | rfl <;> decide, hmode ?_⟩
    cases hp : s.protectedMode with
    | true => exact .inl rfl
    | false => rw [hp] at hlevel; exact .inr hlevel
  · exact .inr (.inl ⟨by decide, hmode hnested⟩)
  · exact .inr (.inr ⟨rfl, (Bool.and_eq_true_iff.mp hop).1⟩)

/-- A place that IRET may write reads back what was written: the model has it, and does not force it. -/
theorem getLsbD_writable {s : State} {k : Nat} (h : iretWrites s k = true) :
    (psCached.getLsbD k || s.cfg.model.psDirect.getLsbD k) = true ∧ s.cfg.model.psSet.getLsbD k = false := by
  have hflags : ∀ m : Model, ∀ k ∈ [0, 2, 4, 6, 7, 8, 9, 10, 11],
      (psCached.getLsbD k || m.psDirect.getLsbD k) = true ∧ m.psSet.getLsbD k = false := fun m => by cases m <;> decide
  have hsystem : ∀ m : Model, m.has286 = true → ∀ k ∈ [12, 13, 14],
      (psCached.getLsbD k || m.psDirect.getLsbD k) = true ∧ m.psSet.getLsbD k = false := fun m => by cases m <;> decide
  have hresume : ∀ m : Model, m.has386 = true →
      (psCached.getLsbD 16 || m.psDirect.getLsbD 16) = true ∧ m.psSet.getLsbD 16 = false := fun m => by cases m <;> decide
  rcases iretWrites_place h with hk | ⟨hk, h286⟩ | ⟨rfl, h386⟩
  · exact hflags _ k hk
  · exact hsystem _ h286 k hk
  · exact hresume _ h386

/-- PS after IRET wrote it. -/
theorem psFrom_setPS {s t : State} {v : Word} (hcfg : t.cfg = s.cfg) (hflags : t.flags = s.flags.setPS v s.iretWritable) :
    PsFrom s t (iretWrites s) v := by
  intro k hk
  rw [bit, getLsbD_getPS, hflags, FlagEngine.stored_setPS, FlagEngine.getLsbD_setPS_ps _ _ _ hk, hcfg, s.getLsbD_iretWritable hk]
  cases h : iretWrites s k with
  | true =>
    obtain ⟨hhas, hfree⟩ := getLsbD_writable h
    rw [if_pos rfl, if_pos rfl, hhas, hfree, Bool.and_true, Bool.or_false, bit]
  | false => rw [if_neg Bool.false_ne_true, if_neg Bool.false_ne_true, bit, getLsbD_getPS]

/-! ### IRET (R490) -/

/-- The other registers of the system are as before when no fault is in flight any more. -/
theorem Worked.sameButFault {s t : State} (h : Worked s t) : SameButFault s (t.setNFault none) := by
  obtain ⟨g, f, m, e, w, l, rfl, hl⟩ := h
  exact Worked.outside (s := { s with nFault := none }) ⟨g, f, m, e, w, l, rfl, hl⟩

theorem iretReal_flat {s : State} (hoff : s.grants .ss (s.above 0) s.opW.bytes .read)
    (hsel : s.grants .ss (s.above s.opW.bytes) 2 .read) (hfl : s.grants .ss (s.above (2 * s.opW.bytes)) s.opW.bytes .read) :
    iretReal s.opW s = .ok () (((s.popped (3 * s.opW.bytes)).realJump ((s.stackValue .w16 s.opW.bytes).setWidth 16)
      (s.stackValue s.opW 0)).setPS (s.stackValue s.opW (2 * s.opW.bytes)) s.iretWritable) := by
  have hhalf : s.stack.peek s.opW.bytes 2 s = .ok (s.stackValue .w16 s.opW.bytes) s := peek_flat (w := .w16) hsel
  rw [iretReal, run_get_bind, run_bind_ok (peek_flat hoff), run_bind_ok hhalf, run_bind_ok (peek_flat hfl)]
  rfl

/-- Settles O28: three reads of the stack, the load of CS, the jump, and PS. -/
theorem interruptReturnCompletesInRealMode : Obligations.InterruptReturnCompletesInRealMode := by
  unfold Obligations.InterruptReturnCompletesInRealMode
  intro s hreal hoff hsel hfl
  have hbody : iretBody s = iretReal s.opW s := by
    rw [iretBody, run_get_bind, hreal]
    rfl
  have hwork := (moved_withGpr s (s.popped (3 * s.opW.bytes)).gpr).worked
  obtain ⟨hpc, hcs, -⟩ := hwork.realJump ((s.stackValue .w16 s.opW.bytes).setWidth 16) (s.stackValue s.opW 0)
  exact ⟨_, finish_ok (run_bind_ok (hbody.trans (iretReal_flat hoff hsel hfl)) _), hpc, hcs, psFrom_setPS rfl rfl, s.gpr_popped _,
    fun _ => rfl, hwork.sameButFault⟩

/-! ### A CALL and its RET (R505) -/

/-- What pushes and pops address depends on the stack segment and on the stack pointer. -/
structure SameStack (s t : State) : Prop where
  width  : t.stack.w = s.stack.w
  spread : t.spread .ss = s.spread .ss

/-- The stack pointer after pushes, as a pop above it finds it. -/
theorem Pushed.above {s t : State} {w : Width} {vs : List Word} (h : Pushed w vs s t) (hk : SameStack s t) {n k : Nat}
    (hn : vs.length * w.bytes = n + k) : t.above n = s.below k := by
  obtain ⟨hgpr, -⟩ := h
  have hsp : t.stack.sp = trunc s.stack.w (s.stack.sp - BitVec.ofNat 32 (n + k)) := by
    have hword : BitVec.ofNat 32 (s.below (n + k)) = trunc s.stack.w (s.stack.sp - BitVec.ofNat 32 (n + k)) := by
      rw [State.below, BitVec.ofNat_toNat, BitVec.setWidth_eq]
    show trunc t.stack.w (t.gpr.get .sp) = _
    rw [hk.width, hgpr, hn, spGpr, State.setReg_gpr, Gpr.get_set_same, trunc_merge, hword, trunc_trunc]
  have hback : s.stack.sp - BitVec.ofNat 32 (n + k) + BitVec.ofNat 32 n = s.stack.sp - BitVec.ofNat 32 k := by
    rw [Nat.add_comm, ← sub_ofNat_sub_ofNat, BitVec.sub_add_cancel]
  rw [State.above, hk.width, hsp, trunc_trunc_add, hback, State.below]

/-- Popping what was pushed restores the registers. -/
theorem Pushed.popGpr_eq {s t : State} {w : Width} {vs : List Word} (h : Pushed w vs s t) (hk : SameStack s t) :
    popGpr t (vs.length * w.bytes) = s.gpr := by
  have htop : BitVec.ofNat 32 (s.below 0) = trunc s.stack.w (s.gpr.get .sp) := by
    rw [State.below, BitVec.sub_zero, BitVec.ofNat_toNat, BitVec.setWidth_eq]
    exact trunc_trunc _ _
  rw [popGpr, h.above hk (Nat.add_zero _).symm, htop, spGpr, State.setReg_gpr, hk.width, h.1, spGpr, State.setReg_gpr, Gpr.set_set,
    Gpr.get_set_same, merge_merge, merge_trunc, merge_same, Gpr.set_get]

/-- The values on the stack, the last pushed on top. -/
theorem Pushed.stackValue_eq {s t : State} {w : Width} {vs : List Word} (h : Pushed w vs s t) (hk : SameStack s t) {i j : Nat}
    (hi : i < vs.length) (hj : vs.length = j + (i + 1)) : t.stackValue w (j * w.bytes) = trunc w (vs.getD i 0) := by
  have habove := h.above hk (n := j * w.bytes) (k := (i + 1) * w.bytes) (by rw [hj, Nat.add_mul])
  obtain ⟨-, hvalue, -⟩ := h
  rw [State.stackValue, hk.spread, habove, hvalue i hi]

theorem Moved.sameStack {s t : State} (h : Moved s t) : SameStack s t := by
  obtain ⟨g, m, e, w, rfl⟩ := h
  exact ⟨rfl, rfl⟩

theorem Moved.opW_eq {s t : State} (h : Moved s t) : t.opW = s.opW := by
  obtain ⟨g, m, e, w, rfl⟩ := h
  rfl

theorem Moved.protectedMode_eq {s t : State} (h : Moved s t) : t.protectedMode = s.protectedMode := by
  obtain ⟨g, m, e, w, rfl⟩ := h
  rfl

/-- RET where the return address is the last value pushed. -/
theorem ret_of_pushed {s t : State} (h : Pushed s.opW [s.pc] s t) (hk : SameStack s t) (hop : t.opW = s.opW) (hcode : pcOf t = pcOf s)
    (hcut : s.pc = trunc s.opW s.pc) (hpc : s.pc = pcOf s s.pc) (hpop : t.canPop t.opW 1) :
    Next (exec .ret t) fun u => u.pc = s.pc ∧ u.gpr = s.gpr ∧ SameMemory t u := by
  have hvalue := h.stackValue_eq hk (i := 0) (j := 0) Nat.one_pos rfl
  have hgpr := h.popGpr_eq hk
  rw [Nat.zero_mul, List.getD_cons_zero, ← hcut] at hvalue
  rw [List.length_singleton, Nat.one_mul] at hgpr
  obtain ⟨u, hu, hupc, hugpr, hmem, -⟩ := ret_next (i := .ret) (iw := 0) hpop rfl
  rw [hop, hvalue, hcode, ← hpc] at hupc
  rw [hop] at hugpr
  exact ⟨u, hu, hupc, hugpr.trans hgpr, hmem⟩

/-- Far RET where CS and the return address are the last values pushed. -/
theorem retf_of_pushed {s t : State} {sel : Half} (h : Pushed s.opW [s.cs.sel.setWidth 32, s.pc] s t) (hk : SameStack s t)
    (hcs : RealCs sel s t) (hreal : t.protectedMode = false) (hop : t.opW = s.opW) (hcode : pcOf t = pcOf s)
    (hcut : s.pc = trunc s.opW s.pc) (hpc : s.pc = pcOf s s.pc) (hbase : s.cs.base = BitVec.ofNat 32 (s.cs.sel.toNat * 16))
    (hdesc : s.cs.addrDesc = none) (hcpl : s.cpl = 0) (hpop : t.canPop t.opW 2) :
    Next (exec .retf t) fun u => u.pc = s.pc ∧ u.cs = s.cs ∧ u.cpl = s.cpl ∧ u.gpr = s.gpr ∧ SameMemory t u := by
  have hoff := h.stackValue_eq hk (i := 1) (j := 0) Nat.one_lt_two rfl
  have hsel := h.stackValue_eq hk (i := 0) (j := 1) Nat.two_pos rfl
  have hgpr := h.popGpr_eq hk
  rw [Nat.zero_mul, List.getD_cons_succ, List.getD_cons_zero, ← hcut] at hoff
  rw [Nat.one_mul, List.getD_cons_zero, half_trunc _ s.opW_ne_w8] at hsel
  obtain ⟨u, hu, hupc, ⟨hucs, hucpl, -⟩, hugpr, hmem, -⟩ := retFar_next (i := .retf) (iw := 0) hreal hpop rfl
  rw [hop, hoff, hcode, ← hpc] at hupc
  rw [hop] at hugpr
  refine ⟨u, hu, hupc, ?_, hucpl.trans hcpl.symm, hugpr.trans hgpr, hmem⟩
  have hback : (s.cs.sel.setWidth 32).setWidth 16 = s.cs.sel := by
    rw [BitVec.setWidth_setWidth_of_le _ (by decide), BitVec.setWidth_eq]
  rw [hop, hsel, hback, hcs.1, ← hbase, ← hdesc] at hucs
  exact hucs

/-- Settles O31: the return address and CS are read back from where the CALL pushed them. -/
theorem callsReturn : Obligations.CallsReturn := by
  unfold Obligations.CallsReturn
  refine ⟨fun s t jv hm hpush hcut hpc hexec => ?_, fun s t off sel hm hreal hcut hpc hbase hdesc hcpl hpush hexec => ?_⟩
  · have hcall : exec (.callJv jv) s = .next ((s.pushed s.opW [s.pc]).jumpTo (s.target (s.dispV jv))) :=
      finish_ok (run_bind_ok (push_flat hpush s.pc) _)
    obtain rfl := Host.Outcome.next.inj (hcall.symm.trans hexec)
    have hpushed := State.pushed_pushed hm (vs := [s.pc]) hpush (pushes_fit _ (Nat.le_of_ble_eq_true rfl))
    have hmoved := s.moved_pushed s.opW [s.pc]
    exact ret_of_pushed hpushed ⟨hmoved.sameStack.width, hmoved.sameStack.spread⟩ hmoved.opW_eq hmoved.worked.pcOf_eq hcut hpc
  · have hcall : exec (.callFarAp off sel) s = .next ((s.pushed s.opW [s.cs.sel.setWidth 32, s.pc]).realJump sel off) :=
      finish_ok (farTransfer_flat hreal (fun _ => hpush) off sel)
    obtain rfl := Host.Outcome.next.inj (hcall.symm.trans hexec)
    have hpushed := State.pushed_pushed hm (vs := [s.cs.sel.setWidth 32, s.pc]) hpush (pushes_fit _ (Nat.le_of_ble_eq_true rfl))
    have hmoved := s.moved_pushed s.opW [s.cs.sel.setWidth 32, s.pc]
    obtain ⟨-, hcs, -⟩ := hmoved.worked.realJump sel off
    exact retf_of_pushed hpushed ⟨hmoved.sameStack.width, hmoved.sameStack.spread⟩ hcs (hmoved.protectedMode_eq.trans hreal)
      hmoved.opW_eq hmoved.worked.pcOf_eq hcut hpc hbase hdesc hcpl

end Sys2Proof.Machine
end

section
/-! What the far returns and the software interrupts share in protected mode, with paging off (21_segmentation.md R152 to R162,
43_control_flow.md R468, R474, 60_exceptions.md R675): reads and pushes on a stack while descriptors are read, the test of a code
selector, the accessed bits, and the commits of CS, SS and the data segment registers. -/

namespace Sys2Proof.Machine

section
variable {s u v : State}

theorem Accessing.cfg_eq (h : Accessing s u v) : v.cfg = s.cfg := by
  obtain ⟨hcfg, -⟩ := h.fields_eq
  exact hcfg

theorem Accessing.cpl_eq (h : Accessing s u v) : v.cpl = s.cpl := by
  obtain ⟨-, hcpl, -⟩ := h.fields_eq
  exact hcpl

theorem Accessing.flags_eq (h : Accessing s u v) : v.flags = s.flags := by
  obtain ⟨m, e, w, l, rfl, rfl, -⟩ := h
  rfl

/-! ### Reading the stack -/

/-- A read of the stack top up, once other memory was read. -/
theorem Accessing.run_peek (h : Accessing s s v) {k n : Nat} (hread : s.grants .ss (s.above k) n .read) :
    s.stack.peek k n v = .ok (s.busRead (s.spread .ss (s.above k) n)) v := by
  obtain ⟨m, e, w, l, hs, rfl, -⟩ := h
  obtain rfl : s.mem = m := congrArg State.mem hs
  exact stack_peek_granted (s := { s with regEA := e, regEAWrite := w, busLog := l }) rfl hread

theorem SegReg.inLimit_narrow {r : SegReg} {prot : Bool} {off n k : Nat} (hk : k ≤ n) (h : r.inLimit prot off n = true) :
    r.inLimit prot off k = true := by
  unfold SegReg.inLimit at h ⊢
  split at h
  · rw [if_pos ‹_›, Bool.and_eq_true, decide_eq_true_iff, decide_eq_true_iff]
    rw [Bool.and_eq_true, decide_eq_true_iff, decide_eq_true_iff] at h
    exact ⟨h.1, Nat.le_trans (Nat.add_le_add_left hk off) h.2⟩
  · rw [if_neg ‹_›, decide_eq_true_iff]
    exact Nat.le_trans (Nat.add_le_add_left hk off) (of_decide_eq_true h)

theorem SegReg.mem_wrapAddrs_narrow {r : SegReg} {a : Nat} : ∀ {off k n : Nat}, k ≤ n → a ∈ r.wrapAddrs off k → a ∈ r.wrapAddrs off n
  | _, 0, _, _, ha => nomatch ha
  | off, k + 1, n + 1, hk, ha => by
    rw [SegReg.wrapAddrs, List.mem_cons] at ha ⊢
    exact ha.imp_right (SegReg.mem_wrapAddrs_narrow (Nat.le_of_succ_le_succ hk))

theorem mem_spread_narrow {seg : SReg} {off n k a : Nat} (hk : k ≤ n) (ha : a ∈ s.spread seg off k) : a ∈ s.spread seg off n := by
  unfold State.spread at ha ⊢
  split at ha
  · rw [if_pos ‹_›]
    exact SegReg.mem_wrapAddrs_narrow hk ha
  · rw [if_neg ‹_›, mem_addrs]
    have hb := mem_addrs.mp ha
    omega

/-- Where an access is granted, a shorter one at the same offset is. -/
theorem State.grants_narrow {seg : SReg} {off n k : Nat} {acc : Access} (hk : k ≤ n) (h : s.grants seg off n acc) :
    s.grants seg off k acc := by
  obtain ⟨hp, hadmits, hplain⟩ := h
  refine ⟨hp, ?_, fun a ha => hplain a (mem_spread_narrow hk ha)⟩
  simp only [State.admits, View.allows, Bool.or_eq_true, Bool.and_eq_true] at hadmits ⊢
  exact hadmits.imp_right fun ⟨hrights, hlimit⟩ => ⟨hrights, SegReg.inLimit_narrow hk hlimit⟩

theorem two_le_bytes_opW (s : State) : 2 ≤ s.opW.bytes := by
  unfold State.opW
  split <;> decide

/-- Of a slot that can be popped the selector in it can be read. -/
theorem State.canPop.selector {n : Nat} (h : s.canPop s.opW n) (hn : 1 < n) : s.grants .ss (s.above s.opW.bytes) 2 .read :=
  State.grants_narrow (two_le_bytes_opW s) (by simpa only [Nat.one_mul] using h 1 hn)

/-! ### Pushing on a stack (R318) -/

/-- A write to the stack of a state of the same model and modes, whose stack may be another one. -/
theorem Accessing.run_stackWrite {x : State} (h : Accessing s x v) (hcfg : u.cfg = s.cfg) (hcr0 : u.cr0 = s.cr0) {off n : Nat}
    (hwrite : u.grants .ss off n .write) (y : Word) : ∃ t, (u.view .ss).write off n y v = .ok () t ∧
      Accessing s (x.busWrite (u.spread .ss off n) (leBytes n y)) t := by
  obtain ⟨hp, hadmits, -⟩ := hwrite
  have hvcfg : v.cfg = u.cfg := h.cfg_eq.trans hcfg.symm
  have hvcr0 : v.cr0 = u.cr0 := by
    obtain ⟨m, e, w, l, rfl, rfl, -⟩ := h
    exact hcr0.symm
  have hvp : v.pagingOn = false := by rw [← hp, State.pagingOn, State.pagingOn, hvcfg, hvcr0]
  have hvprot : v.protectedMode = u.protectedMode := by rw [State.protectedMode, State.protectedMode, hvcfg, hvcr0]
  have hcheck : (u.view .ss).check off n .write v = .ok () v := view_check_granted (by rw [hvcfg, hvprot]; exact hadmits)
  have hphys : (u.view .ss).phys off n true v = .ok (u.opsAt .ss off n) v := by
    rw [View.phys, run_get_bind, State.opsAt, hvcfg]
    split
    · rfl
    · rw [← hvcfg]
      exact physOf_flat hvp _ n true _
  refine ⟨v.busStore (u.opsAt .ss off n) (leBytes n y), ?_, ?_⟩
  · rw [View.write, View.writeBytes, length_leBytes, run_bind_ok hcheck, run_bind_ok hphys, run_modify]
  · have hstore := h.busStore (u.opsAt .ss off n) (leBytes n y)
    rwa [State.flatten_opsAt] at hstore

theorem leBytes_trunc (w : Width) (y : Word) : leBytes w.bytes (trunc w y) = leBytes w.bytes y := by
  have hbytes := leBytes_ofLe (bs := leBytes w.bytes y) (by rw [length_leBytes]; cases w <;> decide)
  rwa [length_leBytes, ofLe_leBytes] at hbytes

/-- Pushes on the stack of such a state. -/
theorem Accessing.run_pushAll {x : State} (h : Accessing s x v) (hcfg : u.cfg = s.cfg) (hcr0 : u.cr0 = s.cr0) {w : Width} {n : Nat}
    (hpush : u.canPush w n) (ys : List Word) (i : Nat) (hn : i + ys.length ≤ n) :
    ∃ t, (u.stackBelow (i * w.bytes)).pushAll w ys v = .ok (u.stackBelow ((i + ys.length) * w.bytes)) t ∧
      Accessing s (written x (pushStores u w i ys)) t := by
  induction ys generalizing x v i with
  | nil => exact ⟨v, rfl, h⟩
  | cons y ys ih =>
    rw [List.length_cons] at hn
    have hsp : trunc u.stack.w ((u.stackBelow (i * w.bytes)).sp - BitVec.ofNat 32 w.bytes) =
        (u.stackBelow ((i + 1) * w.bytes)).sp := by rw [u.stackBelow_sp_sub, Nat.succ_mul]
    obtain ⟨t₁, hwrite, h₁⟩ := h.run_stackWrite hcfg hcr0 (hpush i (by omega)) (trunc w y)
    obtain ⟨t, hrun, ht⟩ := ih h₁ (i + 1) (by omega)
    have hone : (u.stackBelow (i * w.bytes)).push w y v = .ok (u.stackBelow ((i + 1) * w.bytes)) t₁ := by
      rw [Stack.push, show (u.stackBelow (i * w.bytes)).w = u.stack.w from rfl, hsp]
      exact run_bind_ok hwrite _
    refine ⟨t, ?_, ?_⟩
    · rw [Stack.pushAll, run_bind_ok hone, hrun, List.length_cons, Nat.add_right_comm, Nat.add_assoc]
    · rw [leBytes_trunc] at ht
      rwa [pushStores, written, State.length_spread]

/-! ### The accessed bits (R160, R468) -/

theorem Accessing.run_mark {x : State} (h : Accessing s x v) (hp : s.pagingOn = false) (d : Desc) :
    ∃ t, markAccessed d v = .ok () t ∧ Accessing s (written x (markStores d)) t := by
  rw [markAccessed, markStores]
  cases d.w2.getLsbD 8 with
  | true => exact ⟨v, rfl, h⟩
  | false => exact h.run_sysWrite hp _ 2 _

theorem Accessing.run_marks {x : State} (h : Accessing s x v) (hp : s.pagingOn = false) (ss cs : Desc) :
    ∃ t, markStackAndCode ss cs v = .ok () t ∧ Accessing s (written x ([ss, cs].flatMap markStores)) t := by
  obtain ⟨t₁, hss, h₁⟩ := h.run_mark hp ss
  obtain ⟨t, hcs, ht⟩ := h₁.run_mark hp cs
  refine ⟨t, (run_bind_ok hss _).trans hcs, ?_⟩
  rwa [List.flatMap_cons, List.flatMap_cons, List.flatMap_nil, List.append_nil, written_append]

/-! ### The test of a code selector (R152, R153) -/

/-- The new CPL that a tested descriptor gives, or the exception of its failure. -/
def codeVerdict (x : SelFault → Exn) : Except SelFault (Desc × BitVec 2) → Except Exn (BitVec 2)
  | .error f => .error (x f)
  | .ok (_, c) => .ok c

theorem codeVerdict_ite (x : SelFault → Exn) (c : Prop) [Decidable c] (a b : Except SelFault (Desc × BitVec 2)) :
    codeVerdict x (if c then a else b) = if c then codeVerdict x a else codeVerdict x b := apply_ite _ c a b

theorem codeReturn_eq (s : State) (sel : Half) :
    codeReturn s sel = codeVerdict (SelFault.gpNp 0 sel) (s.tested sel (ruleCsReturn s.cpl sel)) := by
  have hzero : selCode sel ||| 0 = selCode sel := BitVec.or_zero
  simp only [codeReturn, codeTest, State.tested, ruleCsReturn, codeVerdict_ite, map_ite, decide_eq_true_iff, hzero]
  simp only [← selErr_zero]
  cases s.inTable sel <;> cases (s.named sel).conforming <;> rfl

theorem codeGate_eq (s : State) (ext sel : Half) (isCall : Bool) :
    codeGate s ext sel isCall = codeVerdict (SelFault.gpNp ext sel) (s.tested sel (ruleCsGate s.cpl isCall)) := by
  have hlevel (d : Desc) (h : ¬ s.cpl < d.dpl) : (d.dpl == s.cpl) = !decide (d.dpl < s.cpl) := by
    rw [Bool.eq_iff_iff, beq_iff_eq, Bool.not_eq_true', decide_eq_false_iff_not, ← BitVec.toNat_inj]
    rw [BitVec.lt_def] at h ⊢
    omega
  simp only [codeGate, codeTest, State.tested, ruleCsGate, codeVerdict_ite, map_ite, decide_eq_true_iff]
  by_cases hpriv : s.cpl < (s.named sel).dpl
  · simp only [if_pos hpriv]
    cases s.inTable sel <;> rfl
  · simp only [if_neg hpriv, hlevel _ hpriv]
    cases s.inTable sel <;> cases (s.named sel).conforming <;> cases decide ((s.named sel).dpl < s.cpl) <;> rfl

theorem Accessing.testCode_ok (h : Accessing s s v) (hp : s.pagingOn = false) {ext sel : Half}
    {rule : Desc → Except SelFault (BitVec 2)} {c : BitVec 2} (hv : codeVerdict (SelFault.gpNp ext sel) (s.tested sel rule) = .ok c) :
    ∃ t, testCode ext sel rule v = .ok ⟨sel, s.named sel, c⟩ t ∧ Accessing s s t := by
  obtain ⟨t, hrun, ht⟩ := h.run_testSel hp sel rule
  refine ⟨t, ?_, ht⟩
  rw [testCode, run_bind_ok hrun]
  rcases htest : s.tested sel rule with f | ⟨d, y⟩
  · rw [htest] at hv
    exact nomatch hv
  · obtain ⟨-, rfl⟩ := State.tested_ok htest
    rw [htest] at hv
    obtain rfl := Except.ok.inj hv
    rfl

theorem Accessing.testCode_error (h : Accessing s s v) (hp : s.pagingOn = false) {ext sel : Half}
    {rule : Desc → Except SelFault (BitVec 2)} {x : Exn} (hv : codeVerdict (SelFault.gpNp ext sel) (s.tested sel rule) = .error x) :
    ∃ t, testCode ext sel rule v = .error (.exn x) t.setNoReadWrite ∧ Accessing s s t := by
  obtain ⟨t, hrun, ht⟩ := h.run_testSel hp sel rule
  refine ⟨t, ?_, ht⟩
  rw [testCode, run_bind_ok hrun]
  rcases htest : s.tested sel rule with f | ⟨d, y⟩ <;> rw [htest] at hv
  · obtain rfl := Except.error.inj hv
    rfl
  · exact nomatch hv

/-- An exception after reads of memory alone. -/
theorem Accessing.traps {t : State} {m : M Unit} {x : Exn} {i : Instr} (h : Accessing s s t) (hi : exec i s = finish m s)
    (hrun : m s = .error (.exn x) t.setNoReadWrite) : Traps s x i := by
  refine ⟨t.setNoReadWrite, hi.trans (finish_exn hrun), ?_⟩
  obtain ⟨m, e, w, l, hs, rfl, -⟩ := h
  obtain rfl : s.mem = m := congrArg State.mem hs
  exact ⟨rfl, rfl, rfl, rfl, rfl,
    ⟨rfl, rfl, rfl, rfl, rfl, rfl, rfl, rfl, rfl, rfl, rfl, rfl, rfl, rfl, rfl, rfl, rfl, rfl, rfl, rfl⟩,
    ⟨rfl, rfl, rfl, rfl, rfl, rfl, rfl⟩, rfl, rfl⟩

/-! ### The commit of a new code segment (R152, R159) -/

/-- A state that goes on in a tested code segment, with a record in SS, other general registers and other flags. -/
def State.landed (n : NewCode) (off : Word) (r : SegReg) (g : Gpr) (fl : FlagEngine) (t : State) : State :=
  { (n.commit t).jumpTo off with ss := r, gpr := g, flags := fl }

theorem State.landed_eq (n : NewCode) (off : Word) (r : SegReg) (g : Gpr) (fl : FlagEngine) (t : State) : t.landed n off r g fl =
    { n.commit t with pc := pcOf (n.commit t) off, ss := r, gpr := g, flags := fl } := by
  rw [State.landed, State.jumpTo_eq]
  rfl

/-- Such a state once the descriptors were marked. -/
theorem Accessing.landed {ws : List (List Nat × Word)} {t : State} (h : Accessing s (written s ws) t) (hm : s.mem.wf = true)
    (n : NewCode) (off : Word) (r : SegReg) (g : Gpr) (fl : FlagEngine) :
    NewCs n.desc n.sel n.cpl (t.landed n off r g fl) ∧ (t.landed n off r g fl).pc = pcOf (t.landed n off r g fl) off ∧
      Stored ws s (t.landed n off r g fl) ∧ SameData s (t.landed n off r g fl) ∧ SameOutside s (t.landed n off r g fl) := by
  have hstored : Stored ws s t := stored_of_sameMemory hm (h.sameMemory t.gpr)
  have hout := h.worked.outside
  obtain ⟨m, e, w, l, -, rfl, -⟩ := h
  rw [State.landed_eq]
  exact ⟨⟨rfl, rfl⟩, rfl, hstored, ⟨rfl, rfl, rfl, rfl⟩, hout⟩

/-- No fault in flight any more, and nothing else changed outside. -/
theorem SameOutside.sameButFault {t : State} (h : SameOutside s t) : SameButFault s (t.setNFault none) := by
  obtain ⟨⟨h0, h2, h3, d0, d1, d2, d3, d4, d5, d6, d7, hg, hi, hl, ht, -, hcfg, hlog, hans, hop⟩, hout⟩ := h
  exact ⟨⟨h0, h2, h3, d0, d1, d2, d3, d4, d5, d6, d7, hg, hi, hl, ht, rfl, hcfg, hlog, hans, hop⟩, hout⟩

theorem SameOutside.cfg_eq {t : State} (h : SameOutside s t) : t.cfg = s.cfg := by
  obtain ⟨⟨-, -, -, -, -, -, -, -, -, -, -, -, -, -, -, -, hcfg, -⟩, -⟩ := h
  exact hcfg

/-! ### The return to an outer level (R162, R474) -/

theorem Accessing.testOuterSs_ok (h : Accessing s s v) (hp : s.pagingOn = false) {lvl : BitVec 2} {sel : Half} {r : SegReg}
    (hv : stackVerdict s lvl sel = .ok r) :
    r = recordOf (s.named sel) sel ∧ ∃ t, testOuterSs sel lvl v = .ok (s.named sel) t ∧ Accessing s s t := by
  obtain ⟨t, hrun, ht⟩ := h.run_testSel hp sel (ruleSs lvl sel)
  rw [testOuterSs, run_read_bind, run_bind_ok hrun]
  rw [stackVerdict_eq] at hv
  rcases htest : s.tested sel (ruleSs lvl sel) with f | ⟨d, y⟩ <;> rw [htest] at hv
  · exact nomatch hv
  · obtain ⟨-, rfl⟩ := State.tested_ok htest
    exact ⟨(Except.ok.inj hv).symm, t, rfl, ht⟩

theorem Accessing.testOuterSs_error (h : Accessing s s v) (hp : s.pagingOn = false) {lvl : BitVec 2} {sel : Half} {x : Exn}
    (hv : stackVerdict s lvl sel = .error x) :
    ∃ t, testOuterSs sel lvl v = .error (.exn x) t.setNoReadWrite ∧ Accessing s s t := by
  obtain ⟨t, hrun, ht⟩ := h.run_testSel hp sel (ruleSs lvl sel)
  refine ⟨t, ?_, ht⟩
  rw [testOuterSs, run_read_bind, run_bind_ok hrun, h.cfg_eq]
  rw [stackVerdict_eq] at hv
  rcases htest : s.tested sel (ruleSs lvl sel) with f | ⟨d, y⟩ <;> rw [htest] at hv
  · obtain rfl := Except.error.inj hv
    rfl
  · exact nomatch hv

theorem commitOuterStack_run {w : Width} {t : State} (hw : w = .w32 → t.cfg.model.has386 = true) (d : Desc) (sel : Half) (sp : Word) :
    commitOuterStack d sel w sp t = .ok () { t with ss := recordOf d sel, gpr := outerGpr t (recordOf d sel) w sp } := by
  have hwidth : (stackWidth t.cfg.model (recordOf d sel) = .w32 ∧ w = .w32) ↔ w = .w32 ∧ (recordOf d sel).ext.getLsbD 6 = true := by
    refine ⟨fun ⟨hk, hw32⟩ => ⟨hw32, ?_⟩, fun ⟨hw32, hbig⟩ => ⟨?_, hw32⟩⟩
    · cases hbig : (recordOf d sel).ext.getLsbD 6 with
      | true => rfl
      | false => rw [stackWidth, hbig, Bool.and_false] at hk; exact nomatch hk
    · rw [stackWidth, hw hw32, hbig]
      rfl
  simp only [outerGpr, ← hwidth]
  rfl

/-- The commit of the outer stack after that of the code segment. -/
theorem commitOuterStack_landed {w : Width} {t : State} (hw : w = .w32 → t.cfg.model.has386 = true) (n : NewCode) (off : Word)
    (fl : FlagEngine) (d : Desc) (sel : Half) (sp : Word) :
    commitOuterStack d sel w sp { (n.commit t).jumpTo off with flags := fl } =
      .ok () (t.landed n off (recordOf d sel) (outerGpr t (recordOf d sel) w sp) fl) :=
  commitOuterStack_run (t := { (n.commit t).jumpTo off with flags := fl }) hw d sel sp

theorem SegReg.nullOuter_eq (r : SegReg) (c : BitVec 2) : r.nullOuter c = keptOuter c r := by
  have htest : (r.acc != 0 && !(r.isCode && r.acc.getLsbD 10) && decide (r.dpl < c)) = true ↔
      r.acc ≠ 0 ∧ ¬ (r.acc.getLsbD 11 = true ∧ r.acc.getLsbD 10 = true) ∧ r.dpl < c := by
    rw [Bool.and_eq_true, Bool.and_eq_true, bne_iff_ne, decide_eq_true_iff, Bool.not_eq_true', ← Bool.not_eq_true, Bool.and_eq_true,
      and_assoc]
    rfl
  simp only [SegReg.nullOuter, keptOuter, htest]
  rfl

theorem State.nullOuter_eq (t : State) : t.nullOuter = { t with
    ds := keptOuter t.cpl t.ds, es := keptOuter t.cpl t.es,
    fs := if t.cfg.model.has386 then keptOuter t.cpl t.fs else t.fs,
    gs := if t.cfg.model.has386 then keptOuter t.cpl t.gs else t.gs } := by
  simp only [State.nullOuter, SegReg.nullOuter_eq]
  cases t.cfg.model.has386 <;> rfl

/-- After a return to an outer level the data segment registers are cut to what it may keep. -/
theorem Accessing.nullOuter_landed {x t : State} (h : Accessing s x t) (n : NewCode) (off : Word) (r : SegReg) (g : Gpr)
    (fl : FlagEngine) : (t.landed n off r g fl).nullOuter = { t.landed n off r g fl with
      ds := keptOuter n.cpl s.ds, es := keptOuter n.cpl s.es,
      fs := if s.cfg.model.has386 then keptOuter n.cpl s.fs else s.fs,
      gs := if s.cfg.model.has386 then keptOuter n.cpl s.gs else s.gs } := by
  obtain ⟨m, e, w, l, -, rfl, -⟩ := h
  exact State.nullOuter_eq _

end

end Sys2Proof.Machine
end

section
/-! Far RET and IRET in protected mode (43_control_flow.md R473, R474, R490 to R492): both test the popped code selector and return to
the same or to an outer level; they differ in the flags they write and in the fault they end. -/

namespace Sys2Proof.Machine

/-! ### The common part of both returns -/

/-- The selector that stands above the return address. -/
def State.returnSel (s : State) : Half := (s.busRead (s.spread .ss (s.above s.opW.bytes) 2)).setWidth 16

/-- The selector that stands above the outer stack pointer, which is `ssAt` bytes up. -/
def State.outerSel (s : State) (ssAt : Nat) : Half := (s.busRead (s.spread .ss (s.above (ssAt + s.opW.bytes)) 2)).setWidth 16

/-- A return with return address and selector read: the outer stack pointer stands `ssAt` bytes up, `extra` bytes are dropped there
too, and the flags are rewritten by `φ`. -/
def returnTo (s : State) (ssAt : Nat) (extra : Word) (φ : FlagEngine → FlagEngine) : M Unit := do
  let c ← testCode 0 s.returnSel (ruleCsReturn s.cpl s.returnSel)
  let jump := fun (t : State) => { (c.commit t).jumpTo (s.stackValue s.opW 0) with flags := φ t.flags }
  if c.cpl == s.cpl then do
    markAccessed c.desc
    (s.stack.drop ssAt).commit
    modify jump
  else do
    let sp ← s.stack.peek ssAt s.opW.bytes
    let ss := (← s.stack.peek (ssAt + s.opW.bytes) 2).setWidth 16
    let d ← testOuterSs ss c.cpl
    markStackAndCode d c.desc
    modify jump
    commitOuterStack d ss s.opW (sp + extra)
    modify State.nullOuter

theorem State.has386_of_opW (s : State) (h : s.opW = .w32) : s.cfg.model.has386 = true := by
  unfold State.opW at h
  split at h
  · exact (Bool.and_eq_true_iff.mp ‹_›).1
  · exact nomatch h

section
variable {s : State} {ssAt : Nat} {extra : Word} {φ : FlagEngine → FlagEngine}

theorem returnTo_error (hp : s.pagingOn = false) {x : Exn} (hv : codeReturn s s.returnSel = .error x) :
    ∃ t, returnTo s ssAt extra φ s = .error (.exn x) t.setNoReadWrite ∧ Accessing s s t := by
  rw [codeReturn_eq] at hv
  obtain ⟨t, hrun, ht⟩ := (Accessing.refl s).testCode_error hp hv
  exact ⟨t, run_bind_error hrun _, ht⟩

/-- The return to the same level. -/
theorem returnTo_same (hp : s.pagingOn = false) (hv : codeReturn s s.returnSel = .ok s.cpl) :
    ∃ t, Accessing s (written s (markStores (s.named s.returnSel))) t ∧ returnTo s ssAt extra φ s = .ok ()
      (t.landed ⟨s.returnSel, s.named s.returnSel, s.cpl⟩ (s.stackValue s.opW 0) s.ss (popGpr s ssAt) (φ s.flags)) := by
  rw [codeReturn_eq] at hv
  obtain ⟨t₁, htest, h₁⟩ := (Accessing.refl s).testCode_ok hp hv
  obtain ⟨t, hmark, ht⟩ := h₁.run_mark hp (s.named s.returnSel)
  refine ⟨t, ht, ?_⟩
  rw [returnTo, run_bind_ok htest, if_pos (beq_self_eq_true s.cpl), run_bind_ok hmark, ← s.gpr_popped, State.landed_eq]
  obtain ⟨m, e, w, l, -, rfl, -⟩ := ht
  simp only [State.jumpTo_eq]
  rfl

/-- The test of the outer stack fails. -/
theorem returnTo_outer_error (hp : s.pagingOn = false) {c : BitVec 2} (hv : codeReturn s s.returnSel = .ok c) (hc : s.cpl < c)
    (hsp : s.grants .ss (s.above ssAt) s.opW.bytes .read) (hss : s.grants .ss (s.above (ssAt + s.opW.bytes)) 2 .read) {x : Exn}
    (hstack : stackVerdict s c (s.outerSel ssAt) = .error x) :
    ∃ t, returnTo s ssAt extra φ s = .error (.exn x) t.setNoReadWrite ∧ Accessing s s t := by
  rw [codeReturn_eq] at hv
  obtain ⟨t₁, htest, h₁⟩ := (Accessing.refl s).testCode_ok hp hv
  obtain ⟨t, hout, ht⟩ := h₁.testOuterSs_error hp hstack
  have hne : (c == s.cpl) = false := beq_false_of_ne (BitVec.ne_of_lt hc).symm
  refine ⟨t, ?_, ht⟩
  rw [returnTo, run_bind_ok htest, hne, if_neg Bool.false_ne_true, run_bind_ok (h₁.run_peek hsp), run_bind_ok (h₁.run_peek hss)]
  exact run_bind_error hout _

/-- The return to an outer level. -/
theorem returnTo_outer (hp : s.pagingOn = false) {c : BitVec 2} (hv : codeReturn s s.returnSel = .ok c) (hc : s.cpl < c)
    (hsp : s.grants .ss (s.above ssAt) s.opW.bytes .read) (hss : s.grants .ss (s.above (ssAt + s.opW.bytes)) 2 .read) {r : SegReg}
    (hstack : stackVerdict s c (s.outerSel ssAt) = .ok r) :
    ∃ t, Accessing s (written s ([s.named (s.outerSel ssAt), s.named s.returnSel].flatMap markStores)) t ∧
      returnTo s ssAt extra φ s = .ok () (t.landed ⟨s.returnSel, s.named s.returnSel, c⟩ (s.stackValue s.opW 0) r
        (outerGpr s r s.opW (s.stackValue s.opW ssAt + extra)) (φ s.flags)).nullOuter := by
  rw [codeReturn_eq] at hv
  obtain ⟨t₁, htest, h₁⟩ := (Accessing.refl s).testCode_ok hp hv
  obtain ⟨rfl, t₂, hout, h₂⟩ := h₁.testOuterSs_ok hp hstack
  obtain ⟨t, hmark, ht⟩ := h₂.run_marks hp (s.named (s.outerSel ssAt)) (s.named s.returnSel)
  have hne : (c == s.cpl) = false := beq_false_of_ne (BitVec.ne_of_lt hc).symm
  have h386 : s.opW = .w32 → t.cfg.model.has386 = true := fun hw => ht.cfg_eq.symm ▸ s.has386_of_opW hw
  have hgpr (x : Word) : outerGpr t (recordOf (s.named (s.outerSel ssAt)) (s.outerSel ssAt)) s.opW x =
      outerGpr s (recordOf (s.named (s.outerSel ssAt)) (s.outerSel ssAt)) s.opW x := by
    rw [outerGpr, outerGpr, State.setReg_gpr, State.setReg_gpr, ht.gpr_eq]
  refine ⟨t, ht, ?_⟩
  rw [returnTo, run_bind_ok htest, hne, if_neg Bool.false_ne_true, run_bind_ok (h₁.run_peek hsp), run_bind_ok (h₁.run_peek hss)]
  refine (run_bind_ok hout _).trans ?_
  rw [run_bind_ok hmark, run_modify_bind, ht.flags_eq]
  refine (run_bind_ok (commitOuterStack_landed h386 _ _ _ _ _ _) _).trans ?_
  exact congrArg (fun g => EStateM.Result.ok () (t.landed ⟨s.returnSel, s.named s.returnSel, c⟩ (s.stackValue s.opW 0) _ g
    (φ s.flags)).nullOuter) (hgpr _)

end

/-- A return by the common part, with `ν` of the fault in flight at the end. -/
theorem returnForm_of_returnTo {s : State} {n extra : Nat} {φ : FlagEngine → FlagEngine} {ν : Option Byte → Option Byte} {i : Instr}
    {P : State → Prop} (hm : s.mem.wf = true) (hp : s.pagingOn = false)
    (hi : s.canPop s.opW n → exec i s = finish (returnTo s (n * s.opW.bytes + extra) (BitVec.ofNat 32 extra) φ >>= fun _ =>
      modify fun t => { t with nFault := ν t.nFault }) s)
    (hpost : ∀ t, SameOutside s t → t.flags = φ s.flags → P { t with nFault := ν t.nFault }) : ReturnForm s n extra P P i := by
  unfold ReturnForm
  intro w sel ssAt newSs hpop
  have hrun := hi hpop
  rcases hv : codeReturn s sel with x | c
  · obtain ⟨t, herr, ht⟩ := returnTo_error hp hv
    exact ht.traps hrun (run_bind_error herr _)
  refine ⟨fun hc => ?same, fun hc hsp hss => ?outer⟩
  case same =>
    subst hc
    obtain ⟨t, ht, hok⟩ := returnTo_same hp hv
    obtain ⟨hcs, hpc, hstored, hdata, hout⟩ :=
      ht.landed hm ⟨sel, s.named sel, s.cpl⟩ (s.stackValue w 0) s.ss (popGpr s ssAt) (φ s.flags)
    exact ⟨_, hrun.trans (finish_ok (run_bind_ok hok _)), hcs, hpc, rfl, rfl, hstored, hdata, hpost _ hout rfl⟩
  case outer =>
    rcases hstack : stackVerdict s c newSs with x | r
    · obtain ⟨t, herr, ht⟩ := returnTo_outer_error hp hv hc hsp hss hstack
      exact ht.traps hrun (run_bind_error herr _)
    · obtain ⟨t, ht, hok⟩ := returnTo_outer hp hv hc hsp hss hstack
      obtain ⟨hcs, hpc, hstored, hdata, hout⟩ := ht.landed hm ⟨sel, s.named sel, c⟩ (s.stackValue w 0) r
        (outerGpr s r w (s.stackValue w ssAt + BitVec.ofNat 32 extra)) (φ s.flags)
      refine ⟨_, hrun.trans (finish_ok (run_bind_ok hok _)), ?_⟩
      rw [ht.nullOuter_landed]
      exact ⟨⟨hcs, hpc, rfl, rfl, rfl, rfl, rfl, rfl, hstored⟩, hpost _ hout rfl⟩

/-! ### Far RET (R473, R474) -/

theorem run_bind_congr {α β : Type} {m m' : M α} {s : State} (h : m s = m' s) (f : α → M β) : (m >>= f) s = (m' >>= f) s := by
  rw [run_bind, run_bind, h]

theorem finish_congr {m m' : M Unit} {s u : State} (h : m s = m' u) : finish m s = finish m' u := by
  rw [finish, finish, h]

theorem bind_modify_id (m : M Unit) : (m >>= fun _ => modify id) = m := by
  funext s
  rw [run_bind]
  cases m s <;> rfl

/-- The return address and the selector above it. -/
theorem State.canPop.peeks {s : State} {n : Nat} (hpop : s.canPop s.opW n) (hn : 1 < n) :
    s.stack.peek 0 s.opW.bytes s = .ok (s.stackValue s.opW 0) s ∧
      s.stack.peek s.opW.bytes 2 s = .ok (s.busRead (s.spread .ss (s.above s.opW.bytes) 2)) s := by
  have hoff := peek_flat (hpop 0 (Nat.zero_lt_of_lt hn))
  rw [Nat.zero_mul] at hoff
  exact ⟨hoff, stack_peek_granted rfl (hpop.selector hn)⟩

theorem retFarProt_run {s : State} (hpop : s.canPop s.opW 2) (iw : Half) :
    retFarProt iw s = returnTo s (2 * s.opW.bytes + iw.toNat) (BitVec.ofNat 32 iw.toNat) id s := by
  obtain ⟨hoff, hsel⟩ := hpop.peeks Nat.one_lt_two
  have hss : 3 * s.opW.bytes + iw.toNat = 2 * s.opW.bytes + iw.toNat + s.opW.bytes := by omega
  have hiw : iw.setWidth 32 = BitVec.ofNat 32 iw.toNat := BitVec.eq_of_toNat_eq (by simp)
  rw [retFarProt, run_get_bind, run_bind_ok hoff, run_bind_ok hsel, hss, hiw]
  rfl

/-- One form of far RET. -/
theorem returnForm_of_retFar {s : State} {iw : Half} {i : Instr} (hm : s.mem.wf = true) (hready : readyProt s)
    (hi : exec i s = finish (retFar iw) s) :
    ReturnForm s 2 iw.toNat (fun t => SameFlags s t ∧ SameOutside s t) (fun t => SameFlags s t ∧ SameOutside s t) i := by
  obtain ⟨hprot, hp⟩ := hready
  refine returnForm_of_returnTo (φ := id) (ν := id) hm hp (fun hpop => ?_) fun t hout hflags => ⟨sameFlags_of_eq hflags, hout⟩
  have hbody : retFar iw s = retFarProt iw s := by rw [retFar, run_get_bind, if_pos hprot]
  rw [hi, finish, finish, hbody, retFarProt_run hpop]
  exact congrArg (finish · s) (bind_modify_id _).symm

/-- Settles O34: far RET is the common return with the flags kept. -/
theorem farReturnsInProtectedMode : Obligations.FarReturnsInProtectedMode := by
  unfold Obligations.FarReturnsInProtectedMode
  intro s iw hm hready
  simp only [List.forall_mem_cons]
  exact ⟨returnForm_of_retFar hm hready rfl, returnForm_of_retFar hm hready rfl, List.forall_mem_nil _⟩

/-! ### IRET (R490 to R492) -/

theorem iretBody_prot {s : State} (hprot : s.protectedMode = true) :
    iretBody s = if s.direct psNT then iretTask s else iretProt s.opW s := by
  rw [iretBody, run_get_bind, hprot]
  cases s.direct psNT <;> rfl

/-- The flags that IRET pops stand third. -/
theorem State.canPop.peekFlags {s : State} (hpop : s.canPop s.opW 3) :
    s.stack.peek (2 * s.opW.bytes) s.opW.bytes s = .ok (s.stackValue s.opW (2 * s.opW.bytes)) s := peek_flat (hpop 2 (by decide))

/-- A pop of VM at CPL 0 asks for virtual-8086 mode. -/
theorem iretProt_virtual {s : State} (hpop : s.canPop s.opW 3) (hop : s.op32 = true)
    (hvm : bit (s.stackValue s.opW (2 * s.opW.bytes)) 17 = true) (hcpl : s.cpl = 0) :
    iretProt s.opW s = .error (.refused .virtual8086) s := by
  obtain ⟨hoff, hsel⟩ := hpop.peeks (by decide)
  have hw : s.opW = .w32 := if_pos hop
  have h386 := s.has386_of_opW hw
  rw [iretProt, run_get_bind, run_bind_ok hoff, run_bind_ok hsel, run_bind_ok hpop.peekFlags, hvm, hcpl, h386]
  simp only [hw]
  rfl

theorem iretProt_run {s : State} (hpop : s.canPop s.opW 3)
    (hvm : ¬ (s.op32 = true ∧ bit (s.stackValue s.opW (2 * s.opW.bytes)) 17 = true ∧ s.cpl = 0)) : iretProt s.opW s =
      returnTo s (3 * s.opW.bytes + 0) (BitVec.ofNat 32 0) (·.setPS (s.stackValue s.opW (2 * s.opW.bytes)) s.iretWritable) s := by
  obtain ⟨hoff, hsel⟩ := hpop.peeks (by decide)
  have hvirtual : (s.cfg.model.has386 && s.opW == .w32 && bit (s.stackValue s.opW (2 * s.opW.bytes)) 17 && s.cpl == 0) = false := by
    rw [← Bool.not_eq_true]
    simp only [Bool.and_eq_true, beq_iff_eq]
    rintro ⟨⟨⟨-, hw⟩, hbit⟩, hcpl⟩
    refine hvm ⟨?_, hbit, hcpl⟩
    cases hop : s.op32 with
    | true => rfl
    | false => rw [State.opW, hop] at hw; exact nomatch hw
  have hss : 4 * s.opW.bytes = 3 * s.opW.bytes + s.opW.bytes := by omega
  have hzero (x : Word) : x + BitVec.ofNat 32 0 = x := BitVec.add_zero x
  rw [iretProt, run_get_bind, run_bind_ok hoff, run_bind_ok hsel, run_bind_ok hpop.peekFlags, hvirtual, if_neg Bool.false_ne_true, hss]
  simp only [returnTo, hzero, Nat.add_zero]
  rfl

/-- Settles O35: without NT IRET is the common return with PS popped, with NT the task switch after a read of the back-link. -/
theorem interruptReturnsInProtectedMode : Obligations.InterruptReturnsInProtectedMode := by
  unfold Obligations.InterruptReturnsInProtectedMode
  intro s hm hready
  obtain ⟨hprot, hp⟩ := hready
  have hbody := iretBody_prot hprot
  refine ⟨fun hnt hpop => ⟨fun hvm => ?stack, fun hop hvm hcpl => ?virtual⟩, fun hnt => ?task⟩
  case stack =>
    refine returnForm_of_returnTo (φ := (·.setPS (s.stackValue s.opW (2 * s.opW.bytes)) s.iretWritable)) (ν := fun _ => none) hm hp
      (fun _ => ?_) fun t hout hflags => ⟨psFrom_setPS hout.cfg_eq hflags, hout.sameButFault⟩
    rw [hnt, if_neg Bool.false_ne_true, iretProt_run hpop hvm] at hbody
    exact finish_congr (run_bind_congr hbody _)
  case virtual =>
    rw [hnt, if_neg Bool.false_ne_true, iretProt_virtual hpop hop hvm hcpl] at hbody
    exact finish_refused (run_bind_error hbody _)
  case task =>
    rw [hnt, if_pos rfl] at hbody
    obtain ⟨l, hlog, hl⟩ := readsOnly_logBus s (busOps s.cfg.model (addrs s.tr.base.toNat 2))
    have hread := sysRead_flat hp s.tr.base 2
    rw [hlog] at hread
    refine ⟨{ s with busLog := l }, rfl, hl, finish_congr ?_⟩
    rw [interruptReturn, run_bind, hbody, iretTask, run_get_bind, run_bind_ok hread]
    exact (run_bind _ _ _).symm

end Sys2Proof.Machine
end

section
/-! INT n, INT3 and INTO in protected mode (43_control_flow.md R480 to R482, 60_exceptions.md R671 to R676): the stack that the TSS names
for an inner level, delivery through an interrupt or trap gate, and the checks of the IDT entry before it. -/

namespace Sys2Proof.Machine

section
variable {s v : State}

/-! ### The stack of an inner level (R615, R472) -/

theorem Accessing.stack_eq (h : Accessing s s v) : v.stack = s.stack ∧ v.ss = s.ss ∧ v.cs = s.cs ∧ v.getPS = s.getPS ∧ v.tr = s.tr ∧
    v.gpr = s.gpr := by
  obtain ⟨m, e, w, l, -, rfl, -⟩ := h
  exact ⟨rfl, rfl, rfl, rfl, rfl, rfl⟩

theorem tssStack_run (c : BitVec 2) (ext : Half) (v : State) : tssStack c ext v =
    (ensure (decide ((tssFieldOf v c).2.1 + 1 ≤ v.tr.limit.toNat)) (.ts (selErr ext v.tr.sel)) >>= fun _ =>
      sysRead (v.tr.base + BitVec.ofNat 32 (tssFieldOf v c).1) (tssFieldOf v c).2.2 >>= fun sp =>
      sysRead (v.tr.base + BitVec.ofNat 32 (tssFieldOf v c).2.1) 2 >>= fun ss => pure (ss.setWidth 16, sp)) v := by
  rw [tssStack, run_read_bind, tssFieldOf]
  cases v.tr.kind <;> rfl

theorem Accessing.tssFieldOf_eq (h : Accessing s s v) : tssFieldOf v = tssFieldOf s ∧ v.tr = s.tr := by
  obtain ⟨m, e, w, l, -, rfl, -⟩ := h
  exact ⟨rfl, rfl⟩

theorem Accessing.tssStack_ok (h : Accessing s s v) (hp : s.pagingOn = false) {c : BitVec 2} (hfit : tssHasStack s c) (ext : Half) :
    ∃ t, tssStack c ext v = .ok (tssSs s c, tssSp s c) t ∧ Accessing s s t := by
  obtain ⟨hfield, htr⟩ := h.tssFieldOf_eq
  obtain ⟨t₁, hsp, h₁⟩ := h.run_sysRead hp (s.tr.base + BitVec.ofNat 32 (tssFieldOf s c).1) (tssFieldOf s c).2.2
  obtain ⟨t, hss, ht⟩ := h₁.run_sysRead hp (s.tr.base + BitVec.ofNat 32 (tssFieldOf s c).2.1) 2
  refine ⟨t, ?_, ht⟩
  have hlimit : decide ((tssFieldOf s c).2.1 + 1 ≤ s.tr.limit.toNat) = true := decide_eq_true hfit
  rw [tssStack_run, hfield, htr, ensure_of hlimit, run_pure_bind, run_bind_ok hsp, run_bind_ok hss]
  rfl

theorem Accessing.tssStack_error (h : Accessing s s v) {c : BitVec 2} (hfit : ¬ tssHasStack s c) (ext : Half) :
    tssStack c ext v = .error (.exn (.ts (selErr ext s.tr.sel))) v.setNoReadWrite := by
  obtain ⟨hfield, htr⟩ := h.tssFieldOf_eq
  have hlimit : decide ((tssFieldOf s c).2.1 + 1 ≤ s.tr.limit.toNat) = false := decide_eq_false hfit
  rw [tssStack_run, hfield, htr, hlimit]
  rfl

theorem error_else_eq_ok {ε α : Type} {c : Prop} [Decidable c] {f : ε} {x : Except ε α} {a : α} :
    (if c then .error f else x) = .ok a ↔ ¬ c ∧ x = .ok a := by
  by_cases hc : c <;> simp [hc]

/-- The rule of SS passes exactly the selectors that name a stack of the level (R154). -/
theorem stackFits_iff (s : State) (c : BitVec 2) (sel : Half) :
    stackFits s c sel ↔ s.tested sel (ruleSs c sel) = .ok (s.named sel, ()) := by
  have hpair (x : Except SelFault Unit) : x.map (fun a => (s.named sel, a)) = .ok (s.named sel, ()) ↔ x = .ok () := by
    cases x <;> simp [Except.map]
  have hrule : (ruleSs c sel (s.named sel)).map (fun a => (s.named sel, a)) = .ok (s.named sel, ()) ↔
      (s.named sel).isSegment = true ∧ (s.named sel).isCode = false ∧ (s.named sel).rw = true ∧ (s.named sel).dpl = c ∧
        selRPL sel = c ∧ (s.named sel).present = true := by
    rw [hpair, ruleSs, error_else_eq_ok, error_else_eq_ok, error_else_eq_ok]
    simp [and_assoc]
  rw [stackFits, State.tested, error_else_eq_ok, Nat.not_lt, ← hrule]
  cases s.inTable sel <;> simp

/-- The width at which the inner stack pointer is loaded. -/
def innerWidth (s : State) (c : BitVec 2) : Width :=
  match s.tr.kind with
  | .tss286 => .w16
  | .tss386 => (innerStack s c).stack.w

theorem innerStack_sp (s : State) (c : BitVec 2) :
    (innerStack s c).gpr = s.gpr.set .sp (merge (innerWidth s c) (s.gpr.get .sp) (tssSp s c)) := by
  unfold innerStack innerWidth
  cases s.tr.kind <;> rfl

/-- The inner stack as the model makes it is the one of the statements. -/
theorem innerStack_stack (s : State) {c : BitVec 2} (hc : c < s.cpl) :
    (⟨⟨(innerStack s c).ss, true, false, false⟩, stackWidth s.cfg.model (innerStack s c).ss,
      trunc (stackWidth s.cfg.model (innerStack s c).ss) (s.innerSp (tssSp s c))⟩ : Stack) = (innerStack s c).stack := by
  have huser : (c == 3) = false := by
    refine beq_false_of_ne fun h => ?_
    subst h
    have := s.cpl.isLt
    have hlt : 3 < s.cpl.toNat := hc
    omega
  have hsp : trunc (innerStack s c).stack.w (s.innerSp (tssSp s c)) = (innerStack s c).stack.sp := by
    show _ = trunc (innerStack s c).stack.w ((innerStack s c).gpr.get .sp)
    rw [innerStack_sp, State.innerSp, innerWidth]
    cases s.tr.kind with
    | tss286 => rfl
    | tss386 => exact (trunc_merge _ _ _).symm
  have hview : (innerStack s c).view .ss = ⟨(innerStack s c).ss, true, false, c == 3⟩ := rfl
  rw [huser] at hview
  rw [← hview]
  exact congrArg (Stack.mk _ _) hsp

theorem merge_innerWidth (s : State) (c : BitVec 2) (old x y : Word) :
    merge (innerStack s c).stack.w (merge (innerWidth s c) old x) y = merge (innerStack s c).stack.w old y := by
  have hwidth : (innerStack s c).stack.w = .w16 ∨ (innerStack s c).stack.w = .w32 := by
    show stackWidth _ _ = _ ∨ stackWidth _ _ = _
    unfold stackWidth
    split
    · exact .inr rfl
    · exact .inl rfl
  rcases hwidth with hw | hw
  · have hinner : innerWidth s c = .w16 := by
      unfold innerWidth
      split
      · rfl
      · exact hw
    rw [hinner, hw, merge_merge]
  · rw [hw, merge_w32, merge_w32]

/-- The commit of the inner stack pointer. -/
theorem innerStack_commit (s : State) (c : BitVec 2) (y : Word) :
    (s.setReg (innerStack s c).stack.w .sp y).gpr = spGpr (innerStack s c) y := by
  have hset (x z : Word) : (s.gpr.set .sp x).set .sp z = s.gpr.set .sp z := rfl
  have hget (x : Word) : (s.gpr.set .sp x).get .sp = x := rfl
  rw [spGpr, State.setReg_gpr, State.setReg_gpr, innerStack_sp, hget, merge_innerWidth, hset]

/-! ### The flags a gate clears (R675) -/

/-- A bit cleared under a condition is a mask under that condition. -/
theorem State.setDirect_ite (c : Bool) (k : Word) (t : State) :
    (if c then t.setDirect k false else t) = t.setDirect (if c then k else 0) false := by
  have hzero : putMask t.flags.ps 0 false = t.flags.ps := BitVec.and_allOnes
  cases c with
  | true => rfl
  | false =>
    show t = { t with flags := { t.flags with ps := putMask t.flags.ps 0 false } }
    rw [hzero]

theorem State.gateFlags_eq (t : State) (intr : Bool) : t.gateFlags intr =
    (((t.setDirect psTF false).setDirect psNT false).setDirect (if t.cfg.model.has386 then psRF else 0) false).setDirect
      (if intr then psIF else 0) false := by
  simp only [State.gateFlags, State.setDirect_ite]
  rfl

theorem psCleared_gateFlags {t : State} (intr : Bool) (hcfg : t.cfg = s.cfg) (hflags : t.flags = s.flags) :
    PsCleared (gateClears s intr) s (t.gateFlags intr) := by
  have hmask (c : Bool) {k : Word} (hk : k &&& psCached = 0) : (if c then k else 0) &&& psCached = 0 := by
    cases c with
    | true => exact hk
    | false => exact BitVec.zero_and
  have htwo := ((PsCleared.of_eq hflags).setDirect (k := psTF) rfl).setDirect (k := psNT) rfl
  have hall := (htwo.setDirect (hmask s.cfg.model.has386 (k := psRF) rfl)).setDirect (hmask intr (k := psIF) rfl)
  have hfirst : 0 ||| psTF = psTF := BitVec.zero_or
  rw [hfirst] at hall
  rw [State.gateFlags_eq, hcfg]
  exact hall

/-! ### Delivery through an interrupt or trap gate (R672 to R675) -/

theorem Desc.gateOffset_eq (g : Desc) (w : Width) : g.gateOffset w = gateTarget g w := by
  cases w with
  | w32 => exact BitVec.or_comm _ _
  | _ => rfl

/-- The error code that a kind of delivery pushes is the one the statements name. -/
def PushesCode (kind : DeliveryKind) (e : Option Half) : Prop := errorPush kind e = (e.map fun x => x.setWidth 32).toList

theorem spGpr_below (s : State) (n : Nat) : spGpr s (BitVec.ofNat 32 (s.below n)) = spGpr s (s.stackBelow n).sp := by
  rw [State.below, BitVec.ofNat_toNat, BitVec.setWidth_eq, State.stackBelow]

/-- The state after a delivery through a gate, with the frame on the stack of `u`. -/
def State.gated (t u : State) (w : Width) (frame : List Word) (c : NewCode) (off : Word) (intr : Bool) : State :=
  (t.landed c off u.ss (spGpr u (BitVec.ofNat 32 (u.below (frame.length * w.bytes)))) t.flags).gateFlags intr

/-- All the pushes on a stack from its top. -/
theorem Accessing.run_frame {u x : State} (h : Accessing s x v) (hcfg : u.cfg = s.cfg) (hcr0 : u.cr0 = s.cr0) {w : Width}
    {frame : List Word} (hpush : takes u w frame) : ∃ t, u.stack.pushAll w frame v = .ok (u.stackBelow (frame.length * w.bytes)) t ∧
      Accessing s (written x (pushStores u w 0 frame)) t := by
  have hrun := h.run_pushAll hcfg hcr0 hpush frame 0 (Nat.le_of_eq (Nat.zero_add _))
  rwa [Nat.zero_mul, u.stackBelow_zero, Nat.zero_add] at hrun

/-- Delivery to the same level. -/
theorem Accessing.deliverGate_same (h : Accessing s s v) (hp : s.pagingOn = false) {g : Desc} {w : Width} {intr : Bool}
    {kind : DeliveryKind} {e : Option Half} {ret : Word} (he : PushesCode kind e) (hv : codeGate s kind.ext g.w1 true = .ok s.cpl)
    (hpush : takes s w (intFrame s false ret e)) :
    ∃ t, Accessing s (written s (pushStores s w 0 (intFrame s false ret e) ++ [s.named g.w1].flatMap markStores)) t ∧
      deliverGate g w intr kind e ret v =
        .ok () (t.gated s w (intFrame s false ret e) ⟨g.w1, s.named g.w1, s.cpl⟩ (gateTarget g w) intr) := by
  rw [codeGate_eq] at hv
  obtain ⟨t₁, htest, h₁⟩ := h.testCode_ok hp hv
  obtain ⟨t₂, hframe, h₂⟩ := h₁.run_frame rfl rfl hpush
  obtain ⟨t, hmark, ht⟩ := h₂.run_mark hp (s.named g.w1)
  rw [← written_append, ← List.append_nil (markStores _)] at ht
  refine ⟨t, ht, ?_⟩
  obtain ⟨hstack, -, hcs, hps, -⟩ := h.stack_eq
  have hlist : [v.getPS, v.cs.sel.setWidth 32, ret] ++ errorPush kind e = intFrame s false ret e := by
    rw [hps, hcs, he]
    rfl
  rw [deliverGate, run_get_bind, h.cpl_eq, run_bind_ok htest, hlist, hstack, if_neg (BitVec.lt_irrefl _), run_bind_ok hframe,
    run_bind_ok hmark, State.gated, ← g.gateOffset_eq, spGpr_below]
  obtain ⟨m, q, l, b, -, rfl, -⟩ := ht
  rfl

/-- Delivery to an inner level. -/
theorem Accessing.deliverGate_inner (h : Accessing s s v) (hp : s.pagingOn = false) {g : Desc} {w : Width} {intr : Bool}
    {kind : DeliveryKind} {e : Option Half} {ret : Word} {c : BitVec 2} (he : PushesCode kind e)
    (hv : codeGate s kind.ext g.w1 true = .ok c) (hc : c < s.cpl) (hswitch : canSwitch s c)
    (hpush : takes (innerStack s c) w (intFrame s true ret e)) :
    ∃ t, Accessing s (written s (pushStores (innerStack s c) w 0 (intFrame s true ret e) ++
        [s.named (tssSs s c), s.named g.w1].flatMap markStores)) t ∧
      deliverGate g w intr kind e ret v =
        .ok () (t.gated (innerStack s c) w (intFrame s true ret e) ⟨g.w1, s.named g.w1, c⟩ (gateTarget g w) intr) := by
  obtain ⟨hfields, hfits⟩ := hswitch
  rw [codeGate_eq] at hv
  rw [stackFits_iff] at hfits
  obtain ⟨t₁, htest, h₁⟩ := h.testCode_ok hp hv
  obtain ⟨t₂, htss, h₂⟩ := h₁.tssStack_ok hp hfields kind.ext
  obtain ⟨t₃, hsel, h₃⟩ := h₂.run_testSel hp (tssSs s c) (ruleSs c (tssSs s c))
  rw [hfits] at hsel
  obtain ⟨t₄, hframe, h₄⟩ := h₃.run_frame (u := innerStack s c) rfl rfl hpush
  obtain ⟨t, hmark, ht⟩ := h₄.run_marks hp (s.named (tssSs s c)) (s.named g.w1)
  rw [← written_append] at ht
  refine ⟨t, ht, ?_⟩
  obtain ⟨hstack, hss, hcs, hps, htr, hgpr⟩ := h.stack_eq
  have hlist : [v.ss.sel.setWidth 32, v.stack.sp] ++ ([v.getPS, v.cs.sel.setWidth 32, ret] ++ errorPush kind e) =
      intFrame s true ret e := by
    rw [hps, hcs, hss, hstack, he]
    rfl
  have hinner : (⟨⟨(innerStack s c).ss, true, false, false⟩, stackWidth v.cfg.model (innerStack s c).ss,
      trunc (stackWidth v.cfg.model (innerStack s c).ss) (v.innerSp (tssSp s c))⟩ : Stack) = (innerStack s c).stack := by
    rw [h.cfg_eq, State.innerSp, htr, hgpr]
    exact innerStack_stack s hc
  rw [← hinner, ← hlist] at hframe
  rw [deliverGate, run_get_bind, h.cpl_eq, run_bind_ok htest, if_pos hc, run_bind_ok htss]
  refine (run_bind_ok hsel _).trans ((run_bind_ok hframe _).trans ((run_bind_ok hmark _).trans ?_))
  rw [hlist, State.gated, ← g.gateOffset_eq, spGpr_below, ← innerStack_commit]
  obtain ⟨m, q, l, b, -, rfl, -⟩ := ht
  rfl

/-- What the target's test refuses is raised as it is. -/
theorem Accessing.deliverGate_error (h : Accessing s s v) (hp : s.pagingOn = false) {g : Desc} {w : Width} {intr : Bool}
    {kind : DeliveryKind} {e : Option Half} {ret : Word} {x : Exn} (hv : codeGate s kind.ext g.w1 true = .error x) :
    ∃ t, deliverGate g w intr kind e ret v = .error (.exn x) t.setNoReadWrite ∧ Accessing s s t := by
  rw [codeGate_eq] at hv
  obtain ⟨t, htest, ht⟩ := h.testCode_error hp hv
  refine ⟨t, ?_, ht⟩
  rw [deliverGate, run_get_bind, h.cpl_eq, run_bind_error htest]

/-- The TSS has no room for the stack of the level. -/
theorem Accessing.deliverGate_noStack (h : Accessing s s v) (hp : s.pagingOn = false) {g : Desc} {w : Width} {intr : Bool}
    {kind : DeliveryKind} {e : Option Half} {ret : Word} {c : BitVec 2} (hv : codeGate s kind.ext g.w1 true = .ok c) (hc : c < s.cpl)
    (hfields : ¬ tssHasStack s c) :
    ∃ t, deliverGate g w intr kind e ret v = .error (.exn (.ts (selErr kind.ext s.tr.sel))) t.setNoReadWrite ∧ Accessing s s t := by
  rw [codeGate_eq] at hv
  obtain ⟨t, htest, ht⟩ := h.testCode_ok hp hv
  refine ⟨t, ?_, ht⟩
  rw [deliverGate, run_get_bind, h.cpl_eq, run_bind_ok htest, if_pos hc, run_bind_error (ht.tssStack_error hfields kind.ext)]

/-- The selector in the TSS names no stack of the level. -/
theorem Accessing.deliverGate_badStack (h : Accessing s s v) (hp : s.pagingOn = false) {g : Desc} {w : Width} {intr : Bool}
    {kind : DeliveryKind} {e : Option Half} {ret : Word} {c : BitVec 2} (hv : codeGate s kind.ext g.w1 true = .ok c) (hc : c < s.cpl)
    (hfields : tssHasStack s c) (hfits : ¬ stackFits s c (tssSs s c)) :
    ∃ t, deliverGate g w intr kind e ret v = .error (.exn (.ts (selErr kind.ext (tssSs s c)))) t.setNoReadWrite ∧ Accessing s s t := by
  rw [codeGate_eq] at hv
  rw [stackFits_iff] at hfits
  obtain ⟨t₁, htest, h₁⟩ := h.testCode_ok hp hv
  obtain ⟨t₂, htss, h₂⟩ := h₁.tssStack_ok hp hfields kind.ext
  obtain ⟨t, hsel, ht⟩ := h₂.run_testSel hp (tssSs s c) (ruleSs c (tssSs s c))
  refine ⟨t, ?_, ht⟩
  rw [deliverGate, run_get_bind, h.cpl_eq, run_bind_ok htest, if_pos hc, run_bind_ok htss]
  refine (run_bind_ok hsel _).trans ?_
  rcases htested : s.tested (tssSs s c) (ruleSs c (tssSs s c)) with f | ⟨d, y⟩
  · rfl
  · obtain ⟨-, rfl⟩ := State.tested_ok htested
    exact absurd htested hfits

/-! ### The entry of the IDT (R671) -/

theorem ReadsOnly.accessing (h : ReadsOnly s v) : Accessing s s v := by
  obtain ⟨l, rfl, hl⟩ := h
  exact ⟨s.mem, s.regEA, s.regEAWrite, l, rfl, rfl, hl⟩

theorem ReadsOnly.run_sysRead (h : ReadsOnly s v) (hp : s.pagingOn = false) (la : Word) (n : Nat) :
    ∃ t, sysRead la n v = .ok (s.busRead (addrs la.toNat n)) t ∧ ReadsOnly s t :=
  ⟨_, h.busRead_eq ▸ sysRead_flat (h.pagingOn_eq.trans hp) la n, h.trans (readsOnly_logBus v _)⟩

theorem ReadsOnly.run_readDesc (h : ReadsOnly s v) (hp : s.pagingOn = false) (a : Word) :
    ∃ t, readDesc a v = .ok (s.descAt a) t ∧ ReadsOnly s t := by
  obtain ⟨t₀, hrun₀, h₀⟩ := h.run_sysRead hp a 2
  obtain ⟨t₁, hrun₁, h₁⟩ := h₀.run_sysRead hp (a + 2) 2
  obtain ⟨t₂, hrun₂, h₂⟩ := h₁.run_sysRead hp (a + 4) 2
  obtain ⟨t₃, hrun₃, h₃⟩ := h₂.run_sysRead hp (a + 6) 2
  have hfirst : a + 0 = a := BitVec.add_zero a
  rw [readDesc, run_bind_ok hrun₀, run_bind_ok hrun₁, run_bind_ok hrun₂, run_read_bind, h₂.accessing.cfg_eq]
  simp only [State.descAt, hfirst]
  cases s.cfg.model.has386 with
  | true => exact ⟨t₃, run_bind_ok hrun₃ _, h₃⟩
  | false => exact ⟨t₂, rfl, h₂⟩

theorem idtErr_eq (n : Byte) : idtErr n 0 = BitVec.ofNat 16 (n.toNat * 8 + 2) := by
  have h8 : (8 : Half).toNat = 8 := rfl
  have h2 : (2 : Half).toNat = 2 := rfl
  have h0 : (0 : Half).toNat = 0 := rfl
  apply BitVec.eq_of_toNat_eq
  simp only [idtErr, BitVec.toNat_add, BitVec.toNat_mul, BitVec.toNat_setWidth, BitVec.toNat_ofNat, h8, h2, h0]
  omega

theorem idtAddr_eq (n : Byte) : n.setWidth 32 * 8 = BitVec.ofNat 32 (n.toNat * 8) := by
  apply BitVec.eq_of_toNat_eq
  rw [BitVec.toNat_mul, BitVec.toNat_setWidth_of_le (by decide), BitVec.toNat_ofNat]
  rfl

/-- The kinds of gate by their types. -/
theorem idtKind_iff {g : Desc} (hseg : g.isSegment = false) : idtKind s g ↔ (idtGate s.cfg.model g.type).isSome = true := by
  simp only [idtKind, hseg, true_and]
  unfold idtGate
  split <;> simp_all

theorem idtGate_task {m : Model} {k : Nat} {gate : IdtGate} (h : idtGate m k = some gate) : k = 5 ↔ gate = .task := by
  unfold idtGate at h
  split at h <;> grind

theorem idtGate_of_isGate {g : Desc} {w : Width} {intr : Bool} (h : isGate s g w intr) :
    idtGate s.cfg.model g.type = some (.code w intr) := by
  obtain ⟨-, htype, hwidth⟩ := h
  rw [htype]
  rcases hwidth with rfl | ⟨rfl, h386⟩ <;> cases intr
  · rfl
  · rfl
  · exact if_pos h386
  · exact if_pos h386

/-- Delivery once the entry is read. -/
def entryDelivery (s : State) (n : Byte) (g : Desc) (ret : Word) : M Unit :=
  match idtGate s.cfg.model g.type with
  | none => raise (.gp (idtErr n 0))
  | some gate => do
    ensure (!g.isSegment) (.gp (idtErr n 0))
    ensure (decide (s.cpl ≤ g.dpl)) (.gp (idtErr n 0))
    ensure g.present (.np (idtErr n 0))
    match gate with
    | .task => deliverTask g.w1 .software none ret
    | .code w intr => deliverGate g w intr .software none ret

theorem deliverProt_entry (hp : s.pagingOn = false) {n : Byte} (hlimit : n.toNat * 8 + 7 ≤ s.idtr.limit.toNat) (ret : Word) :
    ∃ v, ReadsOnly s v ∧ deliverProt n .software none ret s = entryDelivery s n (idtEntry s n) ret v := by
  obtain ⟨v, hread, hv⟩ := (ReadsOnly.refl s).run_readDesc hp (s.idtr.base + BitVec.ofNat 32 (n.toNat * 8))
  refine ⟨v, hv, ?_⟩
  rw [deliverProt, run_get_bind, ensure_of (decide_eq_true hlimit), run_pure_bind, idtAddr_eq, run_bind_ok hread]
  rfl

theorem entryDelivery_badKind {n : Byte} {g : Desc} (h : ¬ idtKind s g) (ret : Word) (v : State) :
    entryDelivery s n g ret v = .error (.exn (.gp (idtErr n 0))) v.setNoReadWrite := by
  rw [entryDelivery]
  cases hgate : idtGate s.cfg.model g.type with
  | none => rfl
  | some gate =>
    have hseg : g.isSegment = true := by
      cases hseg : g.isSegment with
      | true => rfl
      | false => exact absurd ((idtKind_iff hseg).mpr (by rw [hgate]; rfl)) h
    simp only [hseg]
    rfl

/-- The kind of an entry that is a gate. -/
theorem idtKind.gate {g : Desc} (h : idtKind s g) : g.isSegment = false ∧ ∃ gate, idtGate s.cfg.model g.type = some gate :=
  ⟨h.1, Option.isSome_iff_exists.mp ((idtKind_iff h.1).mp h)⟩

theorem entryDelivery_badDpl {n : Byte} {g : Desc} (h : idtKind s g) (hdpl : g.dpl < s.cpl) (ret : Word) (v : State) :
    entryDelivery s n g ret v = .error (.exn (.gp (idtErr n 0))) v.setNoReadWrite := by
  obtain ⟨hseg, gate, hgate⟩ := h.gate
  have hlevel : decide (s.cpl ≤ g.dpl) = false := decide_eq_false (BitVec.not_le.mpr hdpl)
  simp only [entryDelivery, hgate, hseg, hlevel]
  rfl

theorem entryDelivery_absent {n : Byte} {g : Desc} (h : idtKind s g) (hdpl : s.cpl ≤ g.dpl) (hpresent : g.present = false)
    (ret : Word) (v : State) : entryDelivery s n g ret v = .error (.exn (.np (idtErr n 0))) v.setNoReadWrite := by
  obtain ⟨hseg, gate, hgate⟩ := h.gate
  simp only [entryDelivery, hgate, hseg, decide_eq_true hdpl, hpresent]
  rfl

theorem entryDelivery_task {n : Byte} {g : Desc} (hseg : g.isSegment = false) (htask : g.type = 5) (hdpl : s.cpl ≤ g.dpl)
    (hpresent : g.present = true) (ret : Word) (v : State) : entryDelivery s n g ret v = deliverTask g.w1 .software none ret v := by
  simp only [entryDelivery, htask, hseg, decide_eq_true hdpl, hpresent]
  rfl

theorem entryDelivery_code {n : Byte} {g : Desc} {w : Width} {intr : Bool} (hseg : g.isSegment = false)
    (hgate : idtGate s.cfg.model g.type = some (.code w intr)) (hdpl : s.cpl ≤ g.dpl) (hpresent : g.present = true) (ret : Word)
    (v : State) : entryDelivery s n g ret v = deliverGate g w intr .software none ret v := by
  simp only [entryDelivery, hgate, hseg, decide_eq_true hdpl, hpresent]
  rfl

/-- Without an error code nothing follows the task switch. -/
theorem deliverTask_eq (sel : Half) (ret : Word) : deliverTask sel .software none ret = taskSwitch sel .int ret 0 := by
  funext v
  have hcommit (t : State) : t.setReg t.stack.w .sp t.stack.sp = t := by
    show { t with gpr := (t.setReg t.stack.w .sp (t.reg t.stack.w .sp)).gpr } = t
    rw [State.setReg_same]
  rcases hrun : taskSwitch sel .int ret 0 v with ⟨⟨⟩, t⟩ | ⟨e, t⟩
  · exact (run_bind_ok hrun _).trans (congrArg (EStateM.Result.ok ()) (hcommit t))
  · exact run_bind_error hrun _

end

/-! ### INT n, INT3 and INTO (R480 to R482) -/

/-- What a delivery through a gate leaves, from the state that the pushes and the marks left. -/
theorem Accessing.transferred {s t u : State} {w : Width} {frame : List Word} {marks : List Desc} (hm : s.mem.wf = true)
    (h : Accessing s (written s (pushStores u w 0 frame ++ marks.flatMap markStores)) t) (c : NewCode) (off : Word) (intr : Bool) :
    Transferred c.desc c.sel c.cpl off w frame marks u s ((t.gated u w frame c off intr).setNoTrap true) ∧
      PsCleared (gateClears s intr) s ((t.gated u w frame c off intr).setNoTrap true) := by
  obtain ⟨hcs, hpc, hstored, hdata, hout⟩ :=
    h.landed hm c off u.ss (spGpr u (BitVec.ofNat 32 (u.below (frame.length * w.bytes)))) t.flags
  have hcleared : PsCleared (gateClears s intr) s (t.gated u w frame c off intr) := psCleared_gateFlags intr hout.cfg_eq h.flags_eq
  rw [State.gated, State.gateFlags_eq] at hcleared ⊢
  exact ⟨⟨hcs, hpc, rfl, rfl, hstored, hdata, hout⟩, hcleared⟩

section
variable {s : State} {n : Byte} {i : Instr} (hi : exec i s = finish (softInt n) s)

theorem softInt_prot (hprot : s.protectedMode = true) :
    softInt n s = (deliverProt n .software none s.pc >>= fun _ => modify (State.setNoTrap true)) s := by
  have hdeliver : deliver n .software none s.pc s = deliverProt n .software none s.pc s := by rw [deliver, run_get_bind, if_pos hprot]
  rw [softInt, run_get_bind, run_bind_congr hdeliver]

include hi

/-- An exception of the delivery is one of the instruction. -/
theorem traps_of_deliverProt (hprot : s.protectedMode = true) {t : State} {x : Exn} (ht : Accessing s s t)
    (hrun : deliverProt n .software none s.pc s = .error (.exn x) t.setNoReadWrite) : Traps s x i :=
  ht.traps hi ((softInt_prot hprot).trans (run_bind_error hrun _))

/-- A vector beyond IDTR's limit. -/
theorem softInt_beyondIdt (hready : readyProt s) (hlimit : s.idtr.limit.toNat < n.toNat * 8 + 7) :
    Traps s (.gp (BitVec.ofNat 16 (n.toNat * 8 + 2))) i := by
  refine traps_of_deliverProt hi hready.1 (.refl s) ?_
  have hno : decide (n.toNat * 8 + 7 ≤ s.idtr.limit.toNat) = false := decide_eq_false (Nat.not_le.mpr hlimit)
  rw [deliverProt, run_get_bind, hno, ← idtErr_eq]
  rfl

variable (hready : readyProt s) (hlimit : n.toNat * 8 + 7 ≤ s.idtr.limit.toNat)
include hready hlimit

/-- What an entry answers is what the instruction answers. -/
theorem softInt_traps {x : Exn}
    (h : ∀ v, ReadsOnly s v → ∃ t, entryDelivery s n (idtEntry s n) s.pc v = .error (.exn x) t.setNoReadWrite ∧ Accessing s s t) :
    Traps s x i := by
  obtain ⟨v, hv, hentry⟩ := deliverProt_entry hready.2 hlimit s.pc
  obtain ⟨t, hrun, ht⟩ := h v hv
  exact traps_of_deliverProt hi hready.1 ht (hentry.trans hrun)

/-- A task gate: the task switch and nothing else. -/
theorem softInt_task (hseg : (idtEntry s n).isSegment = false) (htask : (idtEntry s n).type = 5) (hdpl : s.cpl ≤ (idtEntry s n).dpl)
    (hpresent : (idtEntry s n).present = true) :
    SwitchesTask s (idtEntry s n).w1 .int 0 (modify (State.setNoTrap true)) (exec i s) := by
  obtain ⟨v, ⟨l, rfl, hl⟩, hentry⟩ := deliverProt_entry hready.2 hlimit s.pc
  rw [entryDelivery_task hseg htask hdpl hpresent, deliverTask_eq] at hentry
  refine ⟨{ s with busLog := l }, rfl, hl, hi.trans (finish_congr ?_)⟩
  rw [softInt_prot hready.1, run_bind, hentry]
  exact (run_bind _ _ _).symm

/-- An interrupt or trap gate. -/
theorem softInt_gate (hm : s.mem.wf = true) (hdpl : s.cpl ≤ (idtEntry s n).dpl) (hpresent : (idtEntry s n).present = true) :
    DeliveredGate s n 0 s.pc none (exec i s) := by
  intro w intr c hgate hv d
  obtain ⟨v, hread, hentry⟩ := deliverProt_entry hready.2 hlimit s.pc
  have hend {t : State} (hrun : deliverProt n .software none s.pc s = .ok () t) : exec i s = .next (t.setNoTrap true) :=
    hi.trans (finish_ok ((softInt_prot hready.1).trans (run_bind_ok hrun _)))
  rw [entryDelivery_code hgate.1 (idtGate_of_isGate hgate) hdpl hpresent] at hentry
  refine ⟨fun hc hpush => ?same, fun hc hswitch hpush => ?inner⟩
  case same =>
    subst hc
    obtain ⟨t, ht, hrun⟩ := hread.accessing.deliverGate_same (kind := .software) (e := none) (intr := intr) hready.2 rfl hv hpush
    exact ⟨_, hend (hentry.trans hrun), ht.transferred hm ⟨(idtEntry s n).w1, d, s.cpl⟩ (gateTarget (idtEntry s n) w) intr⟩
  case inner =>
    obtain ⟨t, ht, hrun⟩ :=
      hread.accessing.deliverGate_inner (kind := .software) (e := none) (intr := intr) hready.2 rfl hv hc hswitch hpush
    exact ⟨_, hend (hentry.trans hrun), ht.transferred hm ⟨(idtEntry s n).w1, d, c⟩ (gateTarget (idtEntry s n) w) intr⟩

/-- A failure of the delivery through an interrupt or trap gate. -/
theorem softInt_gateTraps (hkind : idtKind s (idtEntry s n)) (htask : (idtEntry s n).type ≠ 5) (hdpl : s.cpl ≤ (idtEntry s n).dpl)
    (hpresent : (idtEntry s n).present = true) {x : Exn} (h : ∀ v w intr, Accessing s s v →
      ∃ t, deliverGate (idtEntry s n) w intr .software none s.pc v = .error (.exn x) t.setNoReadWrite ∧ Accessing s s t) :
    Traps s x i := by
  obtain ⟨hseg, gate, hgate⟩ := hkind.gate
  refine softInt_traps hi hready hlimit fun v hv => ?_
  cases gate with
  | task => exact absurd ((idtGate_task hgate).mpr rfl) htask
  | code w intr =>
    rw [entryDelivery_code hseg hgate hdpl hpresent]
    exact h v w intr hv.accessing

end

theorem exec_softInt {s : State} {ib : Byte} {p : Byte × Instr} (hp : p ∈ [(ib, Instr.intIb ib), (3, .int3), (4, .into)])
    (hof : p.2 = .into → s.flag .of = true) : exec p.2 s = finish (softInt p.1) s := by
  simp only [List.mem_cons, List.not_mem_nil, or_false] at hp
  rcases hp with rfl | rfl | rfl
  · rfl
  · rfl
  · exact (exec_into s).trans (if_pos (hof rfl))

/-- Settles O36: the checks of the IDT entry one after the other, then delivery by a task switch or through the gate. -/
theorem softwareInterruptsInProtectedMode : Obligations.SoftwareInterruptsInProtectedMode := by
  unfold Obligations.SoftwareInterruptsInProtectedMode
  intro s ib hm hready p hp hof n g code gate
  have hi := exec_softInt hp hof
  have hcode : idtErr n 0 = code := idtErr_eq n
  have hpaging := hready.2
  refine ⟨softInt_beyondIdt hi hready, fun hlimit => ⟨fun hkind => ?badKind, fun hkind hdpl => ?badDpl,
    fun hkind hdpl hpresent => ?absent, fun hkind hdpl hpresent => ⟨?taskGate, fun x htask hv => ?target,
      fun c htask hv hc => ⟨fun hfields => ?noStack, fun hfields hfits => ?badStack⟩, ?delivered⟩⟩⟩
  case badKind =>
    exact softInt_traps hi hready hlimit fun v hread => ⟨v, hcode ▸ entryDelivery_badKind hkind s.pc v, hread.accessing⟩
  case badDpl =>
    exact softInt_traps hi hready hlimit fun v hread => ⟨v, hcode ▸ entryDelivery_badDpl hkind hdpl s.pc v, hread.accessing⟩
  case absent =>
    exact softInt_traps hi hready hlimit fun v hread => ⟨v, hcode ▸ entryDelivery_absent hkind hdpl hpresent s.pc v, hread.accessing⟩
  case taskGate => exact fun htask => softInt_task hi hready hlimit hkind.1 htask hdpl hpresent
  case delivered => exact softInt_gate hi hready hlimit hm hdpl hpresent
  case target =>
    exact softInt_gateTraps hi hready hlimit hkind htask hdpl hpresent fun v w intr h =>
      h.deliverGate_error (kind := .software) hpaging hv
  case noStack =>
    exact softInt_gateTraps hi hready hlimit hkind htask hdpl hpresent fun v w intr h =>
      h.deliverGate_noStack (kind := .software) hpaging hv hc hfields
  case badStack =>
    exact softInt_gateTraps hi hready hlimit hkind htask hdpl hpresent fun v w intr h =>
      h.deliverGate_badStack (kind := .software) hpaging hv hc hfields hfits

end Sys2Proof.Machine
end

section
/-! The round trip of the encoder (30_encoding.md R240 to R258, 31_modrm_resolver.md R280 to R285): each part of an encoding is read
back by the part of the decoder that reads it, with the bytes that follow left over. -/

namespace Sys2Proof

/-! ### Numbers and fields (R31, R33, R37, R241, R282, R284) -/

@[simp] theorem Reg.ofNum_num (r : Reg) : Reg.ofNum r.num = r := by cases r <;> rfl

@[simp] theorem Reg8.ofNum_num (r : Reg8) : Reg8.ofNum r.num = r := by cases r <;> rfl

@[simp] theorem Base16.ofNum_num (b : Base16) : Base16.ofNum b.num = b := by cases b <;> rfl

@[simp] theorem SReg.ofNum?_num (r : SReg) : SReg.ofNum? r.num = some r := by cases r <;> rfl

@[simp] theorem modField_fields : ∀ hi mid lo, modField (fields hi mid lo) = hi := by decide

@[simp] theorem regField_fields : ∀ hi mid lo, regField (fields hi mid lo) = mid := by decide

@[simp] theorem rmField_fields : ∀ hi mid lo, rmField (fields hi mid lo) = lo := by decide

theorem sibIndex_indexNum {i : Option Reg} (h : MemOp.indexOk i = true) : sibIndex (indexNum i) = i := by
  cases i with
  | none => rfl
  | some r => cases r <;> simp_all [MemOp.indexOk] <;> rfl

/-! ### Immediates and displacements (R110, R243, R285) -/

theorem take16_put16 (v : Half) (rest : List Byte) : take16 (put16 v ++ rest) = some (v, rest) := by
  have h : v.extractLsb 15 8 ++ v.extractLsb 7 0 = v := by grind
  exact congrArg (fun v => some (v, rest)) h

theorem take32_put32 (v : Word) (rest : List Byte) : take32 (put32 v ++ rest) = some (v, rest) := by
  have h : v.extractLsb 31 24 ++ v.extractLsb 23 16 ++ v.extractLsb 15 8 ++ v.extractLsb 7 0 = v := by grind
  exact congrArg (fun v => some (v, rest)) h

theorem takeV_putV {is32 : Bool} {v : Word} (h : fits is32 v = true) (rest : List Byte) :
    takeV is32 (putV is32 v ++ rest) = some (v, rest) := by
  cases is32 with
  | true => exact take32_put32 v rest
  | false =>
    have hv : (v.setWidth 16).setWidth 32 = v := by
      have hhigh : v.extractLsb 31 16 = 0#16 := by simpa [fits] using h
      have := congrArg BitVec.toNat hhigh
      apply BitVec.eq_of_toNat_eq
      simp at this ⊢
      omega
    simp [takeV, putV, take16_put16, hv]

theorem takeDisp16_bytes (d : Disp16) (rest : List Byte) : takeDisp16 d.mod (d.bytes ++ rest) = some (d, rest) := by
  cases d with
  | none => rfl
  | d8 d => rfl
  | d16 d => exact congrArg (Option.bind · fun p => some (Disp16.d16 p.1, p.2)) (take16_put16 d rest)

theorem takeDisp32_bytes (d : Disp32) (rest : List Byte) : takeDisp32 d.mod (d.bytes ++ rest) = some (d, rest) := by
  cases d with
  | none => rfl
  | d8 d => rfl
  | d32 d => exact congrArg (Option.bind · fun p => some (Disp32.d32 p.1, p.2)) (take32_put32 d rest)

theorem Disp16.mod_ne_three (d : Disp16) : d.mod ≠ 3 := by cases d <;> simp [mod]

theorem Disp32.mod_ne_three (d : Disp32) : d.mod ≠ 3 := by cases d <;> simp [mod]

/-! ### Memory operands (R282 to R285) -/

/-- A register or displacement that an encoding reads otherwise is not well-formed (R282). -/
theorem Base16.not_abs {b : Base16} {d : Disp16} (h : b.takes d = true) : ¬ (b.num = 6 ∧ d.mod = 0) := by
  cases b <;> cases d <;> simp_all [takes, num, Disp16.mod]

/-- The same for 32-bit bases (R283, R284). -/
theorem Reg.not_abs {r : Reg} {d : Disp32} (h : r.takes d = true) : ¬ (r.num = 5 ∧ d.mod = 0) := by
  cases r <;> cases d <;> simp_all [takes, num, Disp32.mod]

theorem Reg.num_ne_four {r : Reg} (h : r ≠ .sp) : r.num ≠ 4 := by cases r <;> simp_all [num]

theorem takeMem16_base {b : Base16} {d : Disp16} (h : b.takes d = true) (rest : List Byte) :
    takeMem16 d.mod b.num (d.bytes ++ rest) = some (.base16 b d, rest) := by
  rw [takeMem16, if_neg (Base16.not_abs h), takeDisp16_bytes]
  simp

theorem takeMem32_base {r : Reg} {d : Disp32} (hr : r ≠ .sp) (h : r.takes d = true) (rest : List Byte) :
    takeMem32 d.mod r.num (d.bytes ++ rest) = some (.base32 r d, rest) := by
  rw [takeMem32, if_neg (Reg.num_ne_four hr), if_neg (Reg.not_abs h), takeDisp32_bytes]
  simp

theorem takeSib_base {s : BitVec 2} {i : Option Reg} {b : Reg} {d : Disp32} (hi : MemOp.indexOk i = true) (h : b.takes d = true)
    (rest : List Byte) :
    takeSib d.mod (fields s (indexNum i) b.num :: d.bytes ++ rest) = some (.sib s i b d, rest) := by
  have hbase : ¬ (b.num = 5#3 ∧ d.mod = 0#2) := Reg.not_abs h
  simp [takeSib, take8, hbase, takeDisp32_bytes, sibIndex_indexNum hi]

theorem takeSib_noBase {s : BitVec 2} {i : Option Reg} (hi : MemOp.indexOk i = true) (d : Word) (rest : List Byte) :
    takeSib 0 (fields s (indexNum i) 5 :: put32 d ++ rest) = some (.sibNoBase s i d, rest) := by
  simp [takeSib, take8, take32_put32, sibIndex_indexNum hi]

/-- A memory operand starts with its ModR/M byte, with the given `reg` field and mod other than 3, and is read back from the bytes
after it. -/
theorem putM_cons {c : DecCtx} {m : MemOp} (h : m.wf c.ad32 = true) (reg : BitVec 3) (rest : List Byte) :
    ∃ b r, putM reg m ++ rest = b :: r ∧ regField b = reg ∧ modField b ≠ 3 ∧ takeMem c b r = some (m, rest) := by
  cases m with
  | base16 b d =>
    simp only [MemOp.wf, Bool.and_eq_true, Bool.not_eq_true'] at h
    refine ⟨_, _, rfl, regField_fields .., by simpa using d.mod_ne_three, ?_⟩
    simpa [takeMem, h.1] using takeMem16_base h.2 rest
  | abs16 d =>
    simp only [MemOp.wf, Bool.not_eq_true'] at h
    refine ⟨_, _, rfl, regField_fields .., by simp, ?_⟩
    simp [takeMem, h, takeMem16, take16_put16]
  | base32 r d =>
    simp only [MemOp.wf, Bool.and_eq_true, bne_iff_ne] at h
    obtain ⟨⟨had, hr⟩, htakes⟩ := h
    refine ⟨_, _, rfl, regField_fields .., by simpa using d.mod_ne_three, ?_⟩
    simpa [takeMem, had] using takeMem32_base hr htakes rest
  | abs32 d =>
    simp only [MemOp.wf] at h
    refine ⟨_, _, rfl, regField_fields .., by simp, ?_⟩
    simp [takeMem, h, takeMem32, take32_put32]
  | sib s i b d =>
    simp only [MemOp.wf, Bool.and_eq_true] at h
    obtain ⟨⟨had, hi⟩, htakes⟩ := h
    refine ⟨_, _, rfl, regField_fields .., by simpa using d.mod_ne_three, ?_⟩
    simpa [takeMem, had, takeMem32] using takeSib_base hi htakes rest
  | sibNoBase s i d =>
    simp only [MemOp.wf, Bool.and_eq_true] at h
    refine ⟨_, _, rfl, regField_fields .., by simp, ?_⟩
    simpa [takeMem, h.1, takeMem32] using takeSib_noBase h.2 d rest

/-! ### Instruction shapes -/

/-- The E operand as the decoder holds it before its width is chosen. -/
def RM.raw : RM → RawE
  | .reg r => .reg r.num
  | .mem m => .mem m

def RM8.raw : RM8 → RawE
  | .reg r => .reg r.num
  | .mem m => .mem m

@[simp] theorem RM.rm_raw (e : RM) : e.raw.rm = e := by cases e <;> simp [RM.raw, RawE.rm]

@[simp] theorem RM8.rm8_raw (e : RM8) : e.raw.rm8 = e := by cases e <;> simp [RM8.raw, RawE.rm8]

/-- An E operand starts with its ModR/M byte and is read back from the bytes after it (R280). -/
theorem putE_cons {c : DecCtx} {e : RM} (h : e.wf c.ad32 = true) (reg : BitVec 3) (rest : List Byte) :
    ∃ b r, putE reg e ++ rest = b :: r ∧ regField b = reg ∧ takeE c b r = some (e.raw, rest) := by
  cases e with
  | reg r => exact ⟨_, _, rfl, regField_fields .., by simp [takeE, RM.raw]⟩
  | mem m =>
    obtain ⟨b, r, hput, hreg, hmod, hmem⟩ := putM_cons h reg rest
    exact ⟨b, r, hput, hreg, by rw [takeE, if_neg hmod, hmem]; rfl⟩

theorem putE8_cons {c : DecCtx} {e : RM8} (h : e.wf c.ad32 = true) (reg : BitVec 3) (rest : List Byte) :
    ∃ b r, putE8 reg e ++ rest = b :: r ∧ regField b = reg ∧ takeE c b r = some (e.raw, rest) := by
  cases e with
  | reg r => exact ⟨_, _, rfl, regField_fields .., by simp [takeE, RM8.raw]⟩
  | mem m =>
    obtain ⟨b, r, hput, hreg, hmod, hmem⟩ := putM_cons h reg rest
    exact ⟨b, r, hput, hreg, by rw [takeE, if_neg hmod, hmem]; rfl⟩

section
variable {c : DecCtx} {e : RM} {e8 : RM8} {m : MemOp} {reg : BitVec 3} {rest : List Byte} {i : Instr}

theorem shE_putE (h : e.wf c.ad32 = true) {k : BitVec 3 → RawE → Instr} (hi : k reg e.raw = i := by simp) :
    shE c k (putE reg e ++ rest) = some (i, rest) := by
  obtain ⟨b, r, hput, hreg, he⟩ := putE_cons h reg rest
  simp [hput, shE, take8, he, hreg, hi]

theorem shE_putE8 (h : e8.wf c.ad32 = true) {k : BitVec 3 → RawE → Instr} (hi : k reg e8.raw = i := by simp) :
    shE c k (putE8 reg e8 ++ rest) = some (i, rest) := by
  obtain ⟨b, r, hput, hreg, he⟩ := putE8_cons h reg rest
  simp [hput, shE, take8, he, hreg, hi]

theorem shM_putM (h : m.wf c.ad32 = true) {k : BitVec 3 → MemOp → Instr} (hi : k reg m = i := by simp) :
    shM c k (putM reg m ++ rest) = some (i, rest) := by
  obtain ⟨b, r, hput, hreg, hmod, hmem⟩ := putM_cons h reg rest
  have hmod' : ¬ modField b = 3#2 := hmod
  simp [hput, shM, take8, hmod', hmem, hreg, hi]

theorem shEIb_putE {ib : Byte} (h : e.wf c.ad32 = true) {k : BitVec 3 → RawE → Byte → Instr}
    (hi : k reg e.raw ib = i := by simp) : shEIb c k (putE reg e ++ [ib] ++ rest) = some (i, rest) := by
  obtain ⟨b, r, hput, hreg, he⟩ := putE_cons h reg (ib :: rest)
  simp [hput, shEIb, take8, he, hreg, hi]

theorem shEIb_putE8 {ib : Byte} (h : e8.wf c.ad32 = true) {k : BitVec 3 → RawE → Byte → Instr}
    (hi : k reg e8.raw ib = i := by simp) : shEIb c k (putE8 reg e8 ++ [ib] ++ rest) = some (i, rest) := by
  obtain ⟨b, r, hput, hreg, he⟩ := putE8_cons h reg (ib :: rest)
  simp [hput, shEIb, take8, he, hreg, hi]

theorem shEIv_putE {iv : Word} (h : e.wf c.ad32 = true) (hv : fits c.op32 iv = true) {k : BitVec 3 → RawE → Word → Instr}
    (hi : k reg e.raw iv = i := by simp) : shEIv c k (putE reg e ++ putV c.op32 iv ++ rest) = some (i, rest) := by
  obtain ⟨b, r, hput, hreg, he⟩ := putE_cons h reg (putV c.op32 iv ++ rest)
  simp [hput, shEIv, take8, he, takeV_putV hv, hreg, hi]

theorem shSreg_putE {sr : SReg} (h : e.wf c.ad32 = true) {ok : SReg → Bool} (hsr : ok sr = true) (k : RM → SReg → Instr) :
    shSreg c ok k (putE sr.num e ++ rest) = some (k e sr, rest) := by
  obtain ⟨b, r, hput, hreg, he⟩ := putE_cons h sr.num rest
  simp [hput, shSreg, take8, hreg, hsr, he]

theorem shV_putV {is32 : Bool} {v : Word} (h : fits is32 v = true) (k : Word → Instr) :
    shV is32 k (putV is32 v ++ rest) = some (k v, rest) := by
  simp [shV, takeV_putV h]

theorem shIw_put16 (k : Half → Instr) (v : Half) : shIw k (put16 v ++ rest) = some (k v, rest) := by
  simp [shIw, take16_put16]

theorem shIwIb_put16 (k : Half → Byte → Instr) (v : Half) (b : Byte) :
    shIwIb k (put16 v ++ [b] ++ rest) = some (k v b, rest) := by
  simp [shIwIb, take16_put16, take8]

theorem shAp_putV {v : Word} (h : fits c.op32 v = true) (k : Word → Half → Instr) (sel : Half) :
    shAp c k (putV c.op32 v ++ put16 sel ++ rest) = some (k v sel, rest) := by
  simp [shAp, takeV_putV h, take16_put16]

theorem shCtl_fields (r : Reg) {k : BitVec 3 → Reg → Instr} :
    shCtl k (fields 3 reg r.num :: rest) = some (k reg r, rest) := by
  simp [shCtl, take8]

end

/-! ### Groups, entries that some models have, and the parts of the map (R240, R247 to R250) -/

/-- A list of bytes starts with a ModR/M byte of this `reg` field. -/
def Leads (reg : BitVec 3) (bs : List Byte) : Prop := ∃ b r, bs = b :: r ∧ regField b = reg

theorem Leads.append {reg : BitVec 3} {bs t : List Byte} (h : Leads reg bs) : Leads reg (bs ++ t) := by
  obtain ⟨b, r, rfl, hreg⟩ := h
  exact ⟨b, r ++ t, rfl, hreg⟩

theorem leads_putM (reg : BitVec 3) (m : MemOp) : Leads reg (putM reg m) := by
  cases m <;> exact ⟨_, _, rfl, regField_fields ..⟩

theorem leads_putE (reg : BitVec 3) (e : RM) : Leads reg (putE reg e) := by
  cases e with
  | reg r => exact ⟨_, _, rfl, regField_fields ..⟩
  | mem m => exact leads_putM reg m

theorem leads_putE8 (reg : BitVec 3) (e : RM8) : Leads reg (putE8 reg e) := by
  cases e with
  | reg r => exact ⟨_, _, rfl, regField_fields ..⟩
  | mem m => exact leads_putM reg m

section
variable {c : DecCtx} {bs : List Byte} {D : Decoded}

/-- A group goes on by the `reg` field (R240). -/
theorem group_of_leads {f : Nat → List Byte → Decoded} {reg : BitVec 3} (hreg : Leads reg bs) (hf : f reg.toNat bs = D) :
    group f bs = D := by
  obtain ⟨b, r, rfl, rfl⟩ := hreg
  exact hf

/-- An entry of a model that has it (R250). -/
theorem gate_of_has {has : Bool} {d : List Byte → Decoded} (h : has = true) (hd : d bs = D) : gate has d bs = D := by
  rwa [gate, if_pos h]

variable {b : Byte}

theorem decode_of_op0 (h : decodeOp0 c b.toNat bs = D) (hb : b.toNat < 0x40 := by decide) : decode c (b :: bs) = D := by
  rwa [decode, if_pos hb]

theorem decode_of_op1 (h : decodeOp1 c b.toNat bs = D) (hb : ¬ b.toNat < 0x40 ∧ b.toNat < 0x80 := by decide) :
    decode c (b :: bs) = D := by
  rwa [decode, if_neg hb.1, if_pos hb.2]

theorem decode_of_op2 (h : decodeOp2 c b.toNat bs = D)
    (hb : ¬ b.toNat < 0x40 ∧ ¬ b.toNat < 0x80 ∧ b.toNat < 0xC0 := by decide) : decode c (b :: bs) = D := by
  rwa [decode, if_neg hb.1, if_neg hb.2.1, if_pos hb.2.2]

theorem decode_of_op3 (h : decodeOp3 c b.toNat bs = D)
    (hb : ¬ b.toNat < 0x40 ∧ ¬ b.toNat < 0x80 ∧ ¬ b.toNat < 0xC0 := by decide) : decode c (b :: bs) = D := by
  rwa [decode, if_neg hb.1, if_neg hb.2.1, if_neg hb.2.2]

/-- The two-byte map, from the 80286 on (R249). -/
theorem decode_of_0F (hmodel : c.model.has286 = true) (h : decode0F c b.toNat bs = D) : decode c (0x0F :: b :: bs) = D :=
  decode_of_op0 ((if_pos hmodel).trans h)

theorem decode_0F_of_not_has186 (h : c.model.has186 = false) (bs : List Byte) : decode c (0x0F :: bs) = some (.popCS, bs) := by
  have h286 : c.model.has286 = false := by
    revert h
    cases c.model <;> simp [Model.has186, Model.has286]
  refine decode_of_op0 (.trans (if_neg ?_) (if_neg ?_)) <;> simp [*]

end

theorem Model.has286_of_has386 {m : Model} (h : m.has386 = true) : m.has286 = true := by
  cases m <;> simp_all [has386, has286]

/-! The checks of an instruction's well-formedness, read off their conjunction. -/

theorem last_of_and {a b : Bool} (h : (a && b) = true) : b = true := (Bool.and_eq_true_iff.mp h).2

theorem init_of_and {a b : Bool} (h : (a && b) = true) : a = true := (Bool.and_eq_true_iff.mp h).1

theorem second_of_and {a b c : Bool} (h : (a && b && c) = true) : b = true := last_of_and (init_of_and h)

/-! ### Every instruction -/

/-- Settles O49, by the constructors: the opcode selects the entry of the map, and each part of an encoding is read back by the part
of the decoder that reads it. -/
theorem encodeThenDecode : Obligations.EncodeThenDecode := by
  unfold Obligations.EncodeThenDecode
  intro c i rest hwf
  cases i
  case incR r | decR r | pushR r | popR r => cases r <;> rfl
  case xchgEAXR r =>
    have hr : r ≠ .ax := bne_iff_ne.mp (last_of_and hwf)
    cases r <;> first | rfl | exact absurd rfl hr
  case movR8Ib r ib => cases r <;> rfl
  case movRIv r iv => cases r <;> exact shV_putV (last_of_and hwf) _
  case jccJb cc jb => cases cc <;> rfl
  case jccJv cc jv =>
    have h386 : c.model.has386 = true := second_of_and hwf
    cases cc <;> exact decode_of_0F (Model.has286_of_has386 h386) (gate_of_has h386 (shV_putV (last_of_and hwf) _))
  case setccEb cc e =>
    have h386 : c.model.has386 = true := second_of_and hwf
    cases cc <;> exact decode_of_0F (Model.has286_of_has386 h386) (gate_of_has h386 (shE_putE8 (last_of_and hwf)))
  case esc n reg e =>
    have hn : ∀ n : BitVec 3, n = 0 ∨ n = 1 ∨ n = 2 ∨ n = 3 ∨ n = 4 ∨ n = 5 ∨ n = 6 ∨ n = 7 := by decide
    rcases hn n with rfl | rfl | rfl | rfl | rfl | rfl | rfl | rfl
    all_goals
      refine decode_of_op3 ?_
      unfold decodeOp3
      exact shE_putE (last_of_and hwf)
  case popCS => exact decode_0F_of_not_has186 (by simpa using last_of_and hwf) rest
  case movEwSw e sr =>
    refine decode_of_op2 ?_
    unfold decodeOp2
    exact shSreg_putE (second_of_and hwf) (last_of_and hwf) _
  case movSwEw sr e =>
    have hsr : (sr != .cs && sr.exists c.model) = true :=
      Bool.and_eq_true_iff.mpr ⟨second_of_and (init_of_and hwf), second_of_and hwf⟩
    refine decode_of_op2 ?_
    unfold decodeOp2
    exact shSreg_putE (last_of_and hwf) hsr _
  case shl6 k d =>
    cases k <;> cases d <;> refine decode_of_op3 ?_ <;> unfold decodeOp3
    case ib.eb =>
      exact gate_of_has (second_of_and hwf) (group_of_leads ((leads_putE8 ..).append.append) (shEIb_putE8 (last_of_and hwf)))
    case ib.ev =>
      exact gate_of_has (second_of_and hwf) (group_of_leads ((leads_putE ..).append.append) (shEIb_putE (last_of_and hwf)))
    case one.eb | cl.eb => exact group_of_leads ((leads_putE8 ..).append) (shE_putE8 (last_of_and hwf))
    case one.ev | cl.ev => exact group_of_leads ((leads_putE ..).append) (shE_putE (last_of_and hwf))
  case addALIb | orALIb | adcALIb | sbbALIb | andALIb | subALIb | xorALIb | cmpALIb | testALIb | intIb | aamIb | aadIb | loopnzJb |
      loopzJb | loopJb | jcxzJb | inALIb | inEAXIb | outIbAL | outIbEAX | jmpJb | pushES | popES | pushCS | pushSS | popSS |
      pushDS | popDS | prefixES | prefixCS | prefixSS | prefixDS | prefixLock | prefixRepNZ | prefixRepZ | daa | das | aaa | aas |
      nop | cbw | cwd | wait | pushf | popf | sahf | lahf | movsb | movsv | cmpsb | cmpsv | stosb | stosv | lodsb | lodsv | scasb |
      scasv | ret | retf | int3 | into | iret | undefD6 | xlat | inALDX | inEAXDX | outDXAL | outDXEAX | undefF1 | hlt | cmc |
      undefF6r1 | clc | stc | cli | sti | cld | std | undefFFr7 | undefOther => rfl
  case shldEvGvIb | shrdEvGvIb =>
    refine decode_of_0F (Model.has286_of_has386 (second_of_and hwf)) ?_
    unfold decode0F
    exact gate_of_has (second_of_and hwf) (shEIb_putE (last_of_and hwf))
  case btEvIb | btsEvIb | btrEvIb | btcEvIb =>
    refine decode_of_0F (Model.has286_of_has386 (second_of_and hwf)) ?_
    unfold decode0F
    exact gate_of_has (second_of_and hwf) (group_of_leads ((leads_putE ..).append.append) (shEIb_putE (last_of_and hwf)))
  case larGvEw | lslGvEw =>
    refine decode_of_0F (second_of_and hwf) ?_
    unfold decode0F
    exact shE_putE (last_of_and hwf)
  case btEvGv | shldEvGvCL | btsEvGv | shrdEvGvCL | imulGvEv | btrEvGv | movzxGvEw | btcEvGv | bsfGvEv | bsrGvEv | movsxGvEw =>
    refine decode_of_0F (Model.has286_of_has386 (second_of_and hwf)) ?_
    unfold decode0F
    exact gate_of_has (second_of_and hwf) (shE_putE (last_of_and hwf))
  case sldtEw | strEw | lldtEw | ltrEw | verrEw | verwEw | smswEw | lmswEw =>
    refine decode_of_0F (second_of_and hwf) ?_
    unfold decode0F
    exact group_of_leads ((leads_putE ..).append) (shE_putE (last_of_and hwf))
  case movzxGvEb | movsxGvEb =>
    refine decode_of_0F (Model.has286_of_has386 (second_of_and hwf)) ?_
    unfold decode0F
    exact gate_of_has (second_of_and hwf) (shE_putE8 (last_of_and hwf))
  case lssGvMp | lfsGvMp | lgsGvMp =>
    refine decode_of_0F (Model.has286_of_has386 (second_of_and hwf)) ?_
    unfold decode0F
    exact gate_of_has (second_of_and hwf) (shM_putM (last_of_and hwf))
  case sgdtMs | sidtMs | lgdtMs | lidtMs =>
    refine decode_of_0F (second_of_and hwf) ?_
    unfold decode0F
    exact group_of_leads ((leads_putM ..).append) (shM_putM (last_of_and hwf))
  case movRdCd | movCdRd | movRdDd | movDdRd =>
    refine decode_of_0F (Model.has286_of_has386 (last_of_and hwf)) ?_
    unfold decode0F
    exact gate_of_has (last_of_and hwf) (shCtl_fields _)
  case clts =>
    refine decode_of_0F (last_of_and hwf) ?_
    unfold decode0F
    rfl
  case pushFS | popFS | pushGS | popGS =>
    refine decode_of_0F (Model.has286_of_has386 (last_of_and hwf)) ?_
    unfold decode0F
    exact gate_of_has (last_of_and hwf) rfl
  case addEvGv | addGvEv | orEvGv | orGvEv | adcEvGv | adcGvEv | sbbEvGv | sbbGvEv | andEvGv | andGvEv | subEvGv | subGvEv |
      xorEvGv | xorGvEv | cmpEvGv | cmpGvEv =>
    refine decode_of_op0 ?_
    unfold decodeOp0
    exact shE_putE (last_of_and hwf)
  case addEbGb | addGbEb | orEbGb | orGbEb | adcEbGb | adcGbEb | sbbEbGb | sbbGbEb | andEbGb | andGbEb | subEbGb | subGbEb |
      xorEbGb | xorGbEb | cmpEbGb | cmpGbEb =>
    refine decode_of_op0 ?_
    unfold decodeOp0
    exact shE_putE8 (last_of_and hwf)
  case addEAXIv | orEAXIv | adcEAXIv | sbbEAXIv | andEAXIv | subEAXIv | xorEAXIv | cmpEAXIv =>
    refine decode_of_op0 ?_
    unfold decodeOp0
    exact shV_putV (last_of_and hwf) _
  case imulGvEvIbs =>
    refine decode_of_op1 ?_
    unfold decodeOp1
    exact gate_of_has (second_of_and hwf) (shEIb_putE (last_of_and hwf))
  case imulGvEvIv =>
    refine decode_of_op1 ?_
    unfold decodeOp1
    exact gate_of_has (second_of_and (init_of_and hwf)) (shEIv_putE (second_of_and hwf) (last_of_and hwf))
  case arplEwGw =>
    refine decode_of_op1 ?_
    unfold decodeOp1
    exact gate_of_has (second_of_and hwf) (shE_putE (last_of_and hwf))
  case boundGvMa =>
    refine decode_of_op1 ?_
    unfold decodeOp1
    exact gate_of_has (second_of_and hwf) (shM_putM (last_of_and hwf))
  case pushIv =>
    refine decode_of_op1 ?_
    unfold decodeOp1
    exact gate_of_has (second_of_and hwf) (shV_putV (last_of_and hwf) _)
  case pushIbs | pusha | popa | insb | insv | outsb | outsv | prefixFS | prefixGS | prefixOpSize | prefixAdSize =>
    refine decode_of_op1 ?_
    unfold decodeOp1
    exact gate_of_has (last_of_and hwf) rfl
  case addEvIbs | orEvIbs | adcEvIbs | sbbEvIbs | andEvIbs | subEvIbs | xorEvIbs | cmpEvIbs =>
    refine decode_of_op2 ?_
    unfold decodeOp2
    exact group_of_leads ((leads_putE ..).append.append) (shEIb_putE (last_of_and hwf))
  case addEvIv | orEvIv | adcEvIv | sbbEvIv | andEvIv | subEvIv | xorEvIv | cmpEvIv =>
    refine decode_of_op2 ?_
    unfold decodeOp2
    exact group_of_leads ((leads_putE ..).append.append) (shEIv_putE (second_of_and hwf) (last_of_and hwf))
  case testEvGv | xchgEvGv | movEvGv | movGvEv | leaGvM =>
    refine decode_of_op2 ?_
    unfold decodeOp2
    exact shE_putE (last_of_and hwf)
  case popEv =>
    refine decode_of_op2 ?_
    unfold decodeOp2
    exact group_of_leads ((leads_putE ..).append) (shE_putE (last_of_and hwf))
  case addEbIb | addEbIb82 | orEbIb | orEbIb82 | adcEbIb | adcEbIb82 | sbbEbIb | sbbEbIb82 | andEbIb | andEbIb82 | subEbIb |
      subEbIb82 | xorEbIb | xorEbIb82 | cmpEbIb | cmpEbIb82 =>
    refine decode_of_op2 ?_
    unfold decodeOp2
    exact group_of_leads ((leads_putE8 ..).append.append) (shEIb_putE8 (last_of_and hwf))
  case testEbGb | xchgEbGb | movEbGb | movGbEb =>
    refine decode_of_op2 ?_
    unfold decodeOp2
    exact shE_putE8 (last_of_and hwf)
  case movALOb | movEAXOv | movObAL | movOvEAX | testEAXIv =>
    refine decode_of_op2 ?_
    unfold decodeOp2
    exact shV_putV (last_of_and hwf) _
  case callFarAp =>
    refine decode_of_op2 ?_
    unfold decodeOp2
    exact shAp_putV (last_of_and hwf) _ _
  case enterIwIb =>
    refine decode_of_op3 ?_
    unfold decodeOp3
    exact gate_of_has (last_of_and hwf) (shIwIb_put16 _ _ _)
  case retIw | retfIw =>
    refine decode_of_op3 ?_
    unfold decodeOp3
    exact shIw_put16 _ _
  case rolEvIb | rorEvIb | rclEvIb | rcrEvIb | shlEvIb | shrEvIb | sarEvIb =>
    refine decode_of_op3 ?_
    unfold decodeOp3
    exact gate_of_has (second_of_and hwf) (group_of_leads ((leads_putE ..).append.append) (shEIb_putE (last_of_and hwf)))
  case movEvIv | testEvIv =>
    refine decode_of_op3 ?_
    unfold decodeOp3
    exact group_of_leads ((leads_putE ..).append.append) (shEIv_putE (second_of_and hwf) (last_of_and hwf))
  case rolEvOne | rolEvCL | rorEvOne | rorEvCL | rclEvOne | rclEvCL | rcrEvOne | rcrEvCL | shlEvOne | shlEvCL | shrEvOne |
      shrEvCL | sarEvOne | sarEvCL | notEv | negEv | mulEv | imulEv | divEv | idivEv | incEv | decEv | callEv | jmpEv | pushEv =>
    refine decode_of_op3 ?_
    unfold decodeOp3
    exact group_of_leads ((leads_putE ..).append) (shE_putE (last_of_and hwf))
  case rolEbIb | rorEbIb | rclEbIb | rcrEbIb | shlEbIb | shrEbIb | sarEbIb =>
    refine decode_of_op3 ?_
    unfold decodeOp3
    exact gate_of_has (second_of_and hwf) (group_of_leads ((leads_putE8 ..).append.append) (shEIb_putE8 (last_of_and hwf)))
  case movEbIb | testEbIb =>
    refine decode_of_op3 ?_
    unfold decodeOp3
    exact group_of_leads ((leads_putE8 ..).append.append) (shEIb_putE8 (last_of_and hwf))
  case rolEbOne | rolEbCL | rorEbOne | rorEbCL | rclEbOne | rclEbCL | rcrEbOne | rcrEbCL | shlEbOne | shlEbCL | shrEbOne |
      shrEbCL | sarEbOne | sarEbCL | notEb | negEb | mulEb | imulEb | divEb | idivEb | incEb | decEb =>
    refine decode_of_op3 ?_
    unfold decodeOp3
    exact group_of_leads ((leads_putE8 ..).append) (shE_putE8 (last_of_and hwf))
  case lesGvMp | ldsGvMp =>
    refine decode_of_op3 ?_
    unfold decodeOp3
    exact shM_putM (last_of_and hwf)
  case callFarMp | jmpFarMp =>
    refine decode_of_op3 ?_
    unfold decodeOp3
    exact group_of_leads ((leads_putM ..).append) (shM_putM (last_of_and hwf))
  case jmpFarAp =>
    refine decode_of_op3 ?_
    unfold decodeOp3
    exact shAp_putV (last_of_and hwf) _ _
  case callJv | jmpJv =>
    refine decode_of_op3 ?_
    unfold decodeOp3
    exact shV_putV (last_of_and hwf) _
  case leave =>
    refine decode_of_op3 ?_
    unfold decodeOp3
    exact gate_of_has (last_of_and hwf) rfl

end Sys2Proof
end

section
/-! Reset, POPF and the instructions of single flags (70_reset_and_hazards.md R720, 45_system.md R550 to R559). -/

namespace Sys2Proof.Machine

/-! ### Reset (R720) -/

/-- The six segment registers after reset have DPL 0 and no extension word. -/
theorem reset_records (p : Params) (m : Memory) :
    ∀ r ∈ [(State.resetOn p m).es, (State.resetOn p m).cs, (State.resetOn p m).ss, (State.resetOn p m).ds, (State.resetOn p m).fs,
      (State.resetOn p m).gs], r.Fits p.model := by
  have hdpl : (0 : BitVec 2) = BitVec.extractLsb 14 13 (0x9300 : Half) := by decide
  have hdpl' : (0 : BitVec 2) = BitVec.extractLsb 14 13 (0x9B00 : Half) := by decide
  simp only [List.forall_mem_cons]
  exact ⟨⟨hdpl, fun _ => rfl⟩, ⟨hdpl', fun _ => rfl⟩, ⟨hdpl, fun _ => rfl⟩, ⟨hdpl, fun _ => rfl⟩, ⟨hdpl, fun _ => rfl⟩,
    ⟨hdpl, fun _ => rfl⟩, List.forall_mem_nil _⟩

theorem resetOn_inv (p : Params) {m : Memory} (h : m.wf = true) : (State.resetOn p m).Inv where
  memory := h
  virtual := by
    show (FlagEngine.reset p.model).ps &&& psVM = 0
    cases p.model <;> decide
  noTrap := rfl
  level := fun _ => rfl
  records := reset_records p m
  pc := fun _ => by
    show p.model.resetIp.toNat < 65536
    cases p.model <;> decide

/-- Settles O51: each part of the invariant by the registers of R85 to R89. -/
theorem invariantAtReset : Obligations.InvariantAtReset :=
  ⟨resetOn_inv (.defaults .i80386) rfl, fun p _ h => resetOn_inv p h⟩

/-! ### POPF (R553) -/

/-- POPF writes the places of IRET without RF. -/
theorem State.getLsbD_popfWritable (s : State) {k : Nat} (hk : k < 32) : s.popfWritable.getLsbD k = psWrites s k := by
  have hiret := s.getLsbD_iretWritable hk
  obtain ⟨-, -, -, -, hrf⟩ := getLsbD_psMasks hk
  rw [State.iretWritable, BitVec.getLsbD_or, getLsbD_bitsIf, hrf, iretWrites] at hiret
  by_cases h16 : k = 16
  · subst h16
    obtain ⟨hbase, hif, hiopl, hnt, -⟩ := getLsbD_psMasks hk
    rw [State.popfWritable, BitVec.getLsbD_or, BitVec.getLsbD_or, BitVec.getLsbD_or, hbase, getLsbD_bitsIf, getLsbD_bitsIf,
      getLsbD_bitsIf, hif, hiopl, hnt]
    simp [psWrites]
  · rwa [decide_eq_false h16, Bool.and_false, Bool.or_false, beq_false_of_ne h16, Bool.false_and, Bool.or_false] at hiret

/-- PS after some of the places that IRET may write were written. -/
theorem psFrom_setPS_of_mask {s t : State} {v m : Word} {writes : Nat → Bool} (hcfg : t.cfg = s.cfg)
    (hflags : t.flags = s.flags.setPS v m) (hm : ∀ k < 32, m.getLsbD k = writes k)
    (hw : ∀ k, writes k = true → iretWrites s k = true) : PsFrom s t writes v := by
  intro k hk
  rw [bit, getLsbD_getPS, hflags, FlagEngine.stored_setPS, FlagEngine.getLsbD_setPS_ps _ _ _ hk, hcfg, hm k hk]
  cases h : writes k with
  | true =>
    obtain ⟨hhas, hfree⟩ := getLsbD_writable (hw k h)
    rw [if_pos rfl, if_pos rfl, hhas, hfree, Bool.and_true, Bool.or_false, bit]
  | false => rw [if_neg Bool.false_ne_true, if_neg Bool.false_ne_true, bit, getLsbD_getPS]

/-- Settles O19: a pop, then PS under the mask of the places it may write. -/
theorem popfCompletes : Obligations.PopfCompletes := by
  unfold Obligations.PopfCompletes
  intro s h
  have hrun : popFlags s = .ok () ((s.popped s.opW.bytes).setPS (s.stackValue s.opW 0) s.popfWritable) := by
    rw [popFlags, run_get_bind, run_bind_ok (pop_granted h.top)]
    rfl
  refine ⟨_, finish_ok hrun, ?_, s.gpr_popped _, fun _ => rfl, rfl, ?_⟩
  · refine psFrom_setPS_of_mask rfl rfl (fun k hk => s.getLsbD_popfWritable hk) fun k hk => ?_
    rw [iretWrites, hk, Bool.true_or]
  · exact ⟨⟨rfl, rfl, rfl, rfl, rfl, rfl, rfl, rfl, rfl, rfl, rfl, rfl, rfl, rfl, rfl, rfl, rfl, rfl, rfl, rfl⟩,
      ⟨rfl, rfl, rfl, rfl, rfl, rfl, rfl⟩, rfl, rfl, rfl, rfl, rfl⟩

/-! ### The direct flags (R556 to R558) -/

theorem State.direct_setDirect_same (s : State) {k : Word} (hk : k ≠ 0) (v : Bool) : (s.setDirect k v).direct k = v := by
  cases v with
  | true =>
    have hset : (s.flags.ps ||| k) &&& k = k := BitVec.eq_of_getLsbD_eq fun i _ => by
      rw [BitVec.getLsbD_and, BitVec.getLsbD_or]
      cases k.getLsbD i <;> simp
    show (((s.flags.ps ||| k) &&& k) != 0) = true
    rw [hset]
    exact bne_iff_ne.mpr hk
  | false =>
    have hclear : s.flags.ps &&& ~~~k &&& k = 0 := by
      rw [BitVec.and_assoc, BitVec.and_comm (~~~k), BitVec.and_not_self]
      exact BitVec.and_zero
    show ((s.flags.ps &&& ~~~k &&& k) != 0) = false
    rw [hclear]
    rfl

/-- A mask outside the six flags leaves them and every other bit. -/
theorem State.setDirect_keeps (s : State) {k : Word} (hk : ∀ f : Flag, k.getLsbD f.place = false) (v : Bool) :
    (∀ f, (s.setDirect k v).flag f = s.flag f) ∧
      (s.setDirect k v).flags.ps &&& ~~~(psCached ||| k) = s.flags.ps &&& ~~~(psCached ||| k) := by
  refine ⟨fun f => FlagEngine.flag_withPs _ _ f ?_, BitVec.eq_of_getLsbD_eq fun i hi => ?_⟩
  · rw [getLsbD_putMask _ _ _ f.place_lt, hk, if_neg Bool.false_ne_true]
  · rw [BitVec.getLsbD_and, BitVec.getLsbD_and, State.setDirect_flags, getLsbD_putMask _ _ _ hi, BitVec.getLsbD_not,
      BitVec.getLsbD_or]
    cases k.getLsbD i <;> simp

/-- CLI and STI may run (R107). -/
theorem ioplCheck_of {s : State} (h : maySetIf s) : ioplCheck s = .ok () s := by
  have hok : (!s.protectedMode || decide (s.cpl ≤ s.iopl)) = true := by
    rcases h with h | h <;> simp [h]
  rw [ioplCheck, run_get_bind, ensure_of hok]
  rfl

theorem ioplCheck_of_not {s : State} (h : ¬ maySetIf s) : ioplCheck s = raise (.gp 0) s := by
  obtain ⟨hp, hl⟩ := not_or.mp h
  rw [ioplCheck, run_get_bind, eq_true_of_ne_false hp, decide_eq_false hl]
  rfl

/-! ### LAHF and SAHF (R554, R555) -/

/-- The bits of the number that LAHF puts together. -/
theorem getLsbD_lahfImage (sf zf af pf cf : Bool) : ∀ i < 32,
    (BitVec.ofNat 32 (sf.toNat * 128 + zf.toNat * 64 + af.toNat * 16 + pf.toNat * 4 + 2 + cf.toNat)).getLsbD i =
      match i with | 0 => cf | 1 => true | 2 => pf | 4 => af | 6 => zf | 7 => sf | _ => false := by
  revert sf zf af pf cf
  decide

/-- Bits 7:0 of PS as LAHF reads them: bit 1 is forced, bits 3 and 5 are clear in every model (R52). -/
theorem State.trunc_getPS (s : State) : trunc .w8 s.getPS = BitVec.ofNat 32 ((s.flag .sf).toNat * 128 + (s.flag .zf).toNat * 64 +
    (s.flag .af).toNat * 16 + (s.flag .pf).toNat * 4 + 2 + (s.flag .cf).toNat) := by
  have hfixed : ∀ m : Model, (m.psDirect.getLsbD 1 = false ∧ m.psDirect.getLsbD 3 = false ∧ m.psDirect.getLsbD 5 = false) ∧
      m.psSet.getLsbD 1 = true ∧ m.psSet.getLsbD 3 = false ∧ m.psSet.getLsbD 5 = false := fun m => by cases m <;> decide
  have hmask : ∀ i < 32, (0xFF : Word).getLsbD i = decide (i < 8) := by decide
  obtain ⟨⟨hd1, hd3, hd5⟩, hs1, hs3, hs5⟩ := hfixed s.cfg.model
  have hflag (f : Flag) : s.getPS.getLsbD f.place = s.flag f := bit_getPS_flag s f
  have hc3 : psCached.getLsbD 3 = false := by decide
  have hc5 : psCached.getLsbD 5 = false := by decide
  have h1 : s.getPS.getLsbD 1 = true := by rw [getLsbD_getPS, hs1, Bool.or_true]
  have h3 : s.getPS.getLsbD 3 = false := by rw [getLsbD_getPS, hs3, hd3, hc3]; simp
  have h5 : s.getPS.getLsbD 5 = false := by rw [getLsbD_getPS, hs5, hd5, hc5]; simp
  apply BitVec.eq_of_getLsbD_eq
  intro i hi
  rw [getLsbD_lahfImage _ _ _ _ _ i hi]
  show (s.getPS &&& 0xFF).getLsbD i = _
  rw [BitVec.getLsbD_and, hmask i hi]
  split
  · exact (Bool.and_true _).trans (hflag .cf)
  · exact (Bool.and_true _).trans h1
  · exact (Bool.and_true _).trans (hflag .pf)
  · exact (Bool.and_true _).trans (hflag .af)
  · exact (Bool.and_true _).trans (hflag .zf)
  · exact (Bool.and_true _).trans (hflag .sf)
  next h0 h1 h2 h4 h6 h7 =>
    by_cases h8 : i < 8
    · obtain rfl | rfl : i = 3 ∨ i = 5 := by
        simp only [imp_false] at h0 h1 h2 h4 h6 h7
        omega
      · exact (Bool.and_true _).trans h3
      · exact (Bool.and_true _).trans h5
    · rw [decide_eq_false h8, Bool.and_false]

/-- SAHF writes the places of SF, ZF, AF, PF and CF. -/
theorem reflagged_sahf (s : State) : Reflagged s (sahf s) := by
  refine ⟨_, rfl, sameDirect_of_bits fun i hi hp => s.flags.getLsbD_setPS_other _ _ hi hp ?_⟩
  have hmask : ∀ i < 32, (0x00D5 : Word).getLsbD i = decide (i ∈ [0, 2, 4, 6, 7]) := by decide
  have := hp .cf; have := hp .pf; have := hp .af; have := hp .zf; have := hp .sf
  rw [hmask i hi]
  simp_all [Flag.place]

/-! ### The nine instructions -/

/-- CLC, STC and CMC: one flag is set, and is stored then (R49, R559). -/
theorem next_setFlag_cf (s : State) (v : Bool) {i : Instr} (hi : exec i s = .next (s.setFlag .cf v)) : Next (exec i s) fun t =>
    t.flag .cf = v ∧ t.flags.cached.has .cf = false ∧ bit t.flags.ps 0 = v ∧ (∀ f, f ≠ .cf → t.flag f = s.flag f) ∧
    Untouched s t ∧ Rest s t := by
  refine ⟨_, hi, s.flag_setFlag_same .cf v, rfl, ?_, fun f hf => ?_, ⟨rfl, fun _ => rfl⟩,
    rest_of_reflagged (prepared_refl s) (.refl s) (reflagged_setFlag s .cf v)⟩
  · exact ((s.setFlag .cf v).flags.flag_stored_bit .cf rfl).symm.trans (s.flag_setFlag_same .cf v)
  · rw [s.flag_setFlag, if_neg hf]

/-- CLD and STD (R558). -/
theorem next_setDirect_df (s : State) (v : Bool) {i : Instr} (hi : exec i s = .next (s.setDirect psDF v)) : Next (exec i s) fun t =>
    t.direct psDF = v ∧ (∀ f, t.flag f = s.flag f) ∧
    t.flags.ps &&& ~~~(psCached ||| psDF) = s.flags.ps &&& ~~~(psCached ||| psDF) ∧ Untouched s t ∧ t.pc = s.pc ∧
    SameWorld s t := by
  obtain ⟨hflag, hps⟩ := s.setDirect_keeps (k := psDF) (fun f => by cases f <;> decide) v
  exact ⟨_, hi, s.direct_setDirect_same (by decide) v, hflag, hps, ⟨rfl, fun _ => rfl⟩, rfl,
    ⟨rfl, rfl, rfl, rfl, rfl, rfl, rfl, rfl, rfl, rfl, rfl, rfl, rfl, rfl, rfl, rfl, rfl, rfl, rfl, rfl⟩,
    ⟨rfl, rfl, rfl, rfl, rfl, rfl, rfl⟩, rfl, rfl, rfl, rfl, rfl⟩

/-- CLI and STI (R556, R557): `f` is what they make of the state, IF set to `v` and interrupts held off if `v`. -/
theorem next_setIf (s : State) (v : Bool) {i : Instr} {f : State → State} (hi : exec i s = finish (ioplCheck >>= fun _ => modify f) s)
    (hf : f s = { s.setDirect psIF v with opFlags := { s.opFlags with noIntr := s.opFlags.noIntr || v } }) :
    (maySetIf s → Next (exec i s) fun t =>
      t.direct psIF = v ∧ t.opFlags.noIntr = (s.opFlags.noIntr || v) ∧ (v = true → t.interruptible = false) ∧
      (∀ f, t.flag f = s.flag f) ∧
      t.flags.ps &&& ~~~(psCached ||| psIF) = s.flags.ps &&& ~~~(psCached ||| psIF) ∧ Untouched s t ∧ t.pc = s.pc ∧
      SameSystem s t ∧ SameSegments s t ∧ t.intFlags = s.intFlags ∧ t.noTrap = s.noTrap ∧ t.portLog = s.portLog) ∧
    (¬ maySetIf s → Traps s (.gp 0) i) := by
  refine ⟨fun h => ?_, fun h => traps_of_raise hi ((run_bind_error (ioplCheck_of_not h) _).trans rfl)⟩
  obtain ⟨hflag, hps⟩ := s.setDirect_keeps (k := psIF) (fun f => by cases f <;> decide) v
  refine ⟨_, hi.trans (finish_ok ((run_bind_ok (ioplCheck_of h) _).trans (congrArg (EStateM.Result.ok ()) hf))),
    s.direct_setDirect_same (k := psIF) (by decide) v, rfl, fun hv => ?_, hflag, hps, ⟨rfl, fun _ => rfl⟩, rfl,
    ⟨rfl, rfl, rfl, rfl, rfl, rfl, rfl, rfl, rfl, rfl, rfl, rfl, rfl, rfl, rfl, rfl, rfl, rfl, rfl, rfl⟩,
    ⟨rfl, rfl, rfl, rfl, rfl, rfl, rfl⟩, rfl, rfl, rfl⟩
  subst hv
  simp [State.interruptible]

theorem next_lahf (s : State) : Next (exec .lahf s) fun t =>
    t.gpr = (s.setReg8 .ah (BitVec.ofNat 32 ((s.flag .sf).toNat * 128 + (s.flag .zf).toNat * 64 + (s.flag .af).toNat * 16 +
      (s.flag .pf).toNat * 4 + 2 + (s.flag .cf).toNat))).gpr ∧ SameMemory s t ∧ Plain s t := by
  refine ⟨lahf s, rfl, ?_, fun _ => rfl, (moved_withGpr s _).plain⟩
  rw [← s.trunc_getPS, State.setReg8_trunc]
  rfl

theorem next_sahf (s : State) : Next (exec .sahf s) fun t =>
    t.flag .sf = bit (s.reg8 .ah) 7 ∧ t.flag .zf = bit (s.reg8 .ah) 6 ∧ t.flag .af = bit (s.reg8 .ah) 4 ∧
    t.flag .pf = bit (s.reg8 .ah) 2 ∧ t.flag .cf = bit (s.reg8 .ah) 0 ∧ t.flag .of = s.flag .of ∧ Untouched s t ∧ Rest s t := by
  have hflag := s.flag_setPS (s.reg8 .ah) 0x00D5
  exact ⟨sahf s, rfl, hflag .sf, hflag .zf, hflag .af, hflag .pf, hflag .cf, hflag .of, ⟨rfl, fun _ => rfl⟩,
    rest_of_reflagged (prepared_refl s) (.refl s) (reflagged_sahf s)⟩

/-- Settles O40: each instruction by the law of the flags it writes. -/
theorem flagInstructionsComplete : Obligations.FlagInstructionsComplete := by
  unfold Obligations.FlagInstructionsComplete
  refine ⟨fun s => ⟨?flag, ?direct, fun c => ?encodings⟩, fun s => ?interrupts, fun s => ⟨next_lahf s, next_sahf s⟩⟩
  case flag =>
    simp only [List.forall_mem_cons]
    exact ⟨next_setFlag_cf s false rfl, next_setFlag_cf s true rfl, next_setFlag_cf s _ rfl, List.forall_mem_nil _⟩
  case direct =>
    simp only [List.forall_mem_cons]
    exact ⟨next_setDirect_df s false rfl, next_setDirect_df s true rfl, List.forall_mem_nil _⟩
  case encodings =>
    simp only [List.forall_mem_cons]
    exact ⟨rfl, rfl, rfl, rfl, rfl, rfl, rfl, rfl, rfl, List.forall_mem_nil _⟩
  case interrupts =>
    refine List.forall_mem_cons.mpr ⟨next_setIf s false rfl ?cli, List.forall_mem_cons.mpr ⟨next_setIf s true rfl ?sti,
      List.forall_mem_nil _⟩⟩
    case cli => rw [Bool.or_false]; rfl
    case sti => rw [Bool.or_true]; rfl

end Sys2Proof.Machine
end

section
/-! Privileged instructions, the control and debug registers, HLT, WAIT and ESC (45_system.md R550, R564, R570 to R575, R590 to
R592). -/

namespace Sys2Proof.Machine

/-! ### The tests of mode and privilege (R550, R564) -/

theorem privileged_of {s : State} (h : mayRule s) : privileged s = .ok () s := by
  have hok : (!s.protectedMode || s.cpl == 0) = true := by rcases h with h | h <;> simp [h]
  rw [privileged, run_get_bind, ensure_of hok]
  rfl

theorem privileged_of_not {s : State} (h : ¬ mayRule s) : privileged s = raise (.gp 0) s := by
  obtain ⟨hp, hl⟩ := not_or.mp h
  rw [privileged, run_get_bind, eq_true_of_ne_false hp, beq_false_of_ne hl]
  rfl

theorem protectedOnly_of {s : State} (h : s.protectedMode = true) : protectedOnly s = .ok () s := by
  rw [protectedOnly, run_get_bind, ensure_of h]
  rfl

theorem protectedOnly_of_not {s : State} (h : s.protectedMode = false) : protectedOnly s = raise .ud s := by
  rw [protectedOnly, run_get_bind, h]
  rfl

theorem Prepared.mayRule_iff {s u : State} (h : Prepared s u) : mayRule u ↔ mayRule s := by
  obtain ⟨e, k, b, rfl⟩ := h
  exact Iff.rfl

theorem Prepared.protectedMode_eq {s u : State} (h : Prepared s u) : u.protectedMode = s.protectedMode := by
  obtain ⟨e, k, b, rfl⟩ := h
  rfl

theorem prepared_captureEA (s : State) (l : Loc) : Prepared s (s.captureEA l) := prepared_withEA s _

section
variable {s u : State} {i : Instr} {m : M Unit} (hu : Prepared s u)
include hu

/-- A privileged instruction above CPL 0. -/
theorem traps_of_privileged (h : ¬ mayRule s) (hi : exec i s = finish (privileged >>= fun _ => m) u) : Traps s (.gp 0) i :=
  traps_of_prepared hu hi ((run_bind_error (privileged_of_not (mt hu.mayRule_iff.mp h)) _).trans rfl)

/-- An instruction of protected mode in real mode. -/
theorem traps_of_protectedOnly (h : s.protectedMode = false) (hi : exec i s = finish (protectedOnly >>= fun _ => m) u) :
    Traps s .ud i :=
  traps_of_prepared hu hi ((run_bind_error (protectedOnly_of_not (hu.protectedMode_eq.trans h)) _).trans rfl)

/-- An instruction of protected mode that is privileged, above CPL 0. -/
theorem traps_of_protectedOnly_privileged (h : ¬ mayRule s)
    (hi : exec i s = finish (protectedOnly >>= fun _ => privileged >>= fun _ => m) u) : Traps s (.gp 0) i := by
  have hprot : u.protectedMode = true := hu.protectedMode_eq.trans (eq_true_of_ne_false (not_or.mp h).1)
  refine traps_of_privileged (m := m) hu h (hi.trans ?_)
  rw [finish, run_bind_ok (protectedOnly_of hprot)]
  rfl

end

/-- LGDT and LIDT test the privilege before they read (R560). -/
theorem readTable_run (s : State) (m : MemOp) : readTable m s =
    (privileged >>= fun _ => segRead (s.resolve m).1 (s.resolve m).2 2 >>= fun lim =>
      segRead (s.resolve m).1 ((s.resolve m).2 + 2) 4 >>= fun b =>
        pure ⟨if s.op32 then b else b &&& 0x00FFFFFF, lim.setWidth 16⟩) (s.captureEA (s.memLoc m)) := rfl

theorem traps_of_readTable {s : State} {m : MemOp} {f : TableReg → State → State} {i : Instr} (h : ¬ mayRule s)
    (hi : exec i s = finish (readTable m >>= fun t => modify (f t)) s) : Traps s (.gp 0) i := by
  have hu := prepared_captureEA s (s.memLoc m)
  refine traps_of_prepared (m := raise (.gp 0)) hu (hi.trans ?_) rfl
  have hread : readTable m s = .error (.exn (.gp 0)) (s.captureEA (s.memLoc m)).setNoReadWrite := by
    rw [readTable_run, run_bind_error (privileged_of_not (mt hu.mayRule_iff.mp h))]
  rw [finish, run_bind_error hread]
  rfl

/-- Settles O46: each instruction tests mode and privilege as soon as its operand is noted. -/
theorem privilegedInstructionsTrap : Obligations.PrivilegedInstructionsTrap := by
  unfold Obligations.PrivilegedInstructionsTrap
  intro s m e r g n
  have hs := prepared_refl s
  have he := prepared_captureEA s (s.rmLoc e)
  refine ⟨fun hp hl => ?_, fun hp => ?_⟩ <;> simp only [List.forall_mem_cons]
  · have h : ¬ mayRule s := not_or.mpr ⟨ne_false_of_eq_true hp, hl⟩
    exact ⟨traps_of_readTable h rfl, traps_of_readTable h rfl, traps_of_protectedOnly_privileged he h rfl,
      traps_of_protectedOnly_privileged he h rfl, traps_of_privileged he h rfl, traps_of_privileged hs h rfl,
      traps_of_privileged hs h rfl, traps_of_privileged hs h rfl, traps_of_privileged hs h rfl, traps_of_privileged hs h rfl,
      traps_of_privileged hs h rfl, List.forall_mem_nil _⟩
  · exact ⟨traps_of_protectedOnly he hp rfl, traps_of_protectedOnly he hp rfl, traps_of_protectedOnly he hp rfl,
      traps_of_protectedOnly he hp rfl, traps_of_protectedOnly he hp rfl, traps_of_protectedOnly he hp rfl,
      traps_of_protectedOnly he hp rfl, traps_of_protectedOnly he hp rfl, traps_of_protectedOnly he hp rfl, List.forall_mem_nil _⟩

/-! ### Control and debug registers (R570 to R575) -/

theorem bitVec3_cases (n : BitVec 3) : n = 0 ∨ n = 1 ∨ n = 2 ∨ n = 3 ∨ n = 4 ∨ n = 5 ∨ n = 6 ∨ n = 7 := by
  revert n
  decide

theorem State.dr_eq (s : State) (n : BitVec 3) : s.dr n = debugReg s n := by
  rcases bitVec3_cases n with rfl | rfl | rfl | rfl | rfl | rfl | rfl | rfl <;> rfl

theorem State.setDr_eq (s : State) (n : BitVec 3) (v : Word) : s.setDr n v = withDebugReg s n v := by
  rcases bitVec3_cases n with rfl | rfl | rfl | rfl | rfl | rfl | rfl | rfl <;> rfl

/-- The numbers without a control register (R573). -/
theorem noControl_cases {n : BitVec 3} (h : n ∉ [0, 2, 3]) : n = 1 ∨ n = 4 ∨ n = 5 ∨ n = 6 ∨ n = 7 := by
  revert n
  decide

theorem State.cr_none {s : State} {n : BitVec 3} (h : n ∉ [0, 2, 3]) : s.cr n = none := by
  rcases noControl_cases h with rfl | rfl | rfl | rfl | rfl <;> rfl

theorem reflagged_flagsControl (s : State) (site : UndefSite) (n : BitVec 3) (v : Word) : Reflagged s (s.flagsControl site n v) :=
  reflagged_undefine ..

theorem defaultKeeps_flagsControl (s : State) (site : UndefSite) (n : BitVec 3) (v : Word) (fs : List Flag) :
    DefaultKeeps s (s.flagsControl site n v) fs := fun hundef f _ => State.flag_undefine _ _ _ _ _ _ f (.inl hundef)

theorem State.setReg_w32_gpr (s : State) (r : Reg) (v : Word) : (s.setReg .w32 r v).gpr = s.gpr.set r v := by
  rw [State.setReg_gpr, merge_w32]

/-- A move from a control or debug register. -/
theorem fromControl_of {s : State} {r : Reg} {v : Word} {site : UndefSite} {n : BitVec 3} {i : Instr}
    (hi : exec i s = .next ((s.setReg .w32 r v).flagsControl site n v)) : FromControl s r v i := by
  obtain ⟨hgpr, hrest⟩ := registers_reflagged (prepared_refl s) ⟨_, rfl⟩ (reflagged_flagsControl (s.setReg .w32 r v) site n v)
    (defaultKeeps_flagsControl _ site n v _)
  exact ⟨_, hi, hgpr.trans (s.setReg_w32_gpr r v), hrest⟩

/-- `u` has the registers, flags, memory, instruction pointer and parameters of `s`. -/
structure SameMachine (s u : State) : Prop where
  gpr   : u.gpr = s.gpr
  flags : u.flags = s.flags
  mem   : u.mem = s.mem
  pc    : u.pc = s.pc
  cfg   : u.cfg = s.cfg

theorem SameMachine.sameMemory {s u : State} (h : SameMachine s u) : SameMemory s u := fun a => by
  simp only [State.busByte, State.busKind, h.mem, h.cfg]

theorem sameMachine_withDebugReg (s : State) (n : BitVec 3) (v : Word) : SameMachine s (withDebugReg s n v) := by
  rcases bitVec3_cases n with rfl | rfl | rfl | rfl | rfl | rfl | rfl | rfl <;> exact ⟨rfl, rfl, rfl, rfl, rfl⟩

/-- A move to a control or debug register. -/
theorem toControl_of {s : State} {f : State → State} {v : Word} {site : UndefSite} {n : BitVec 3} {i : Instr}
    (hi : exec i s = .next ((f s).flagsControl site n v)) (hf : SameMachine s (f s)) : ToControl s f i := by
  have ht := reflagged_flagsControl (f s) site n v
  obtain ⟨hgpr, hmem⟩ := ht.gpr_memory
  obtain ⟨hdirect, hpc, hworld⟩ := rest_of_reflagged (prepared_refl (f s)) (.refl _) ht
  refine ⟨_, hi, ⟨hgpr.trans hf.gpr, fun a => (hmem a).trans (hf.sameMemory a)⟩, fun hundef g hg => ?_, ?_, hpc.trans hf.pc, hworld⟩
  · exact (defaultKeeps_flagsControl (f s) site n v _ (hf.cfg.symm ▸ hundef) g hg).trans
      (congrArg (FlagEngine.flag · g) hf.flags)
  · exact sameDirect_trans (sameDirect_of_eq hf.flags) hdirect

/-- A privileged instruction that tests nothing else. -/
theorem finish_privileged {s : State} {m : M Unit} (h : mayRule s) : finish (privileged >>= fun _ => m) s = finish m s := by
  rw [finish, run_bind_ok (privileged_of h)]
  rfl

/-- MOV to CR0: PG without PE is refused (R574). -/
theorem moveToCr0_run {s : State} (h : mayRule s) (r : Reg) : exec (.movCdRd 0 r) s =
    finish (ensure (!(bit (s.gpr.get r) 31 && !bit (s.gpr.get r) 0)) (.gp 0) >>= fun _ =>
      modify fun s' => (s'.setCr0 ((s'.cr0 &&& ~~~cr0Writable) ||| (s.gpr.get r &&& cr0Writable))).flagsControl .toCr 0
        (s.gpr.get r)) s := by
  have hreg : s.reg .w32 r = s.gpr.get r := trunc_of_w32 _
  refine (finish_privileged h).trans ?_
  rw [← hreg]
  rfl

theorem lmsw_next {s : State} {e : RM} (hr : s.canRead .w16 (s.rmLoc e)) (h : mayRule s) :
    exec (.lmswEw e) s = .next ((s.captureEA (s.rmLoc e)).setCr0
      ((s.cr0 &&& 0xFFFFFFF1#32) ||| (s.valueAt .w16 (s.rmLoc e) &&& 0x0F#32))) := by
  have hu := prepared_captureEA s (s.rmLoc e)
  exact (finish_privileged (s := s.captureEA (s.rmLoc e)) (hu.mayRule_iff.mpr h)).trans
    (finish_read (fun v s => s.setCr0 ((s.cr0 &&& ~~~0x0E) ||| (v &&& 0x0F))) hu hr)

/-- CLTS from the 80286 on. -/
theorem decode_clts {c : DecCtx} (h : c.model.has286 = true) : decode c [0x0F, 0x06] = some (.clts, []) := by
  obtain ⟨m, o, a⟩ := c
  cases m with
  | i8086 | i8088 | i80186 | i80188 => exact absurd h Bool.false_ne_true
  | i80286 | i80386 => rfl

theorem next_lmsw_clts (s : State) (e : RM) :
    ControlForm s (s.canRead .w16 (s.rmLoc e))
      (fun s => { s with cr0 := (s.cr0 &&& 0xFFFFFFF1#32) ||| (s.valueAt .w16 (s.rmLoc e) &&& 0x0F#32) }) (.lmswEw e) ∧
    ControlForm s True (fun s => { s with cr0 := s.cr0 &&& 0xFFFFFFF7#32 }) .clts := by
  refine ⟨fun hr h => ⟨_, lmsw_next hr h, ?_⟩, fun _ h => ⟨_, (finish_privileged h).trans rfl, ?_⟩⟩ <;>
    exact ⟨⟨rfl, fun _ => rfl⟩, ⟨fun _ => rfl, rfl⟩, rfl,
      ⟨rfl, rfl, rfl, rfl, rfl, rfl, rfl, rfl, rfl, rfl, rfl, rfl, rfl, rfl, rfl, rfl, rfl, rfl, rfl, rfl⟩,
      ⟨rfl, rfl, rfl, rfl, rfl, rfl, rfl⟩, rfl, rfl, rfl, rfl, rfl⟩

/-- Settles O42: each move is the privilege test, the register's own write and the free flags. -/
theorem controlAndDebugMoves : Obligations.ControlAndDebugMoves := by
  unfold Obligations.ControlAndDebugMoves
  refine ⟨fun s e => ?machine, fun s r n h => ?control, fun s r n h => ?debug⟩
  case machine =>
    obtain ⟨hlmsw, hclts⟩ := next_lmsw_clts s e
    exact ⟨hlmsw, hclts, fun h => traps_of_privileged (prepared_refl s) h rfl, fun c => decode_clts⟩
  case control =>
    have hreg : s.reg .w32 r = s.gpr.get r := trunc_of_w32 _
    refine ⟨fromControl_of (finish_privileged h), fromControl_of (finish_privileged h), fromControl_of (finish_privileged h),
      fun hv => ?_, fun hpg hpe => ?_, ?_, ?_, fun hn => ⟨?_, ?_⟩⟩
    · refine toControl_of (site := .toCr) (n := 0) (v := s.gpr.get r) ((moveToCr0_run h r).trans ?_) ⟨rfl, rfl, rfl, rfl, rfl⟩
      have hok : (!(bit (s.gpr.get r) 31 && !bit (s.gpr.get r) 0)) = true := by
        cases hpg : bit (s.gpr.get r) 31 <;> cases hpe : bit (s.gpr.get r) 0 <;> simp_all
      rw [ensure_of hok]
      rfl
    · refine traps_of_raise (moveToCr0_run h r) ?_
      rw [hpg, hpe]
      rfl
    · refine toControl_of (site := .toCr) (n := 2) (v := s.gpr.get r) ((finish_privileged h).trans ?_) ⟨rfl, rfl, rfl, rfl, rfl⟩
      rw [← hreg]
      rfl
    · refine toControl_of (site := .toCr) (n := 3) (v := s.gpr.get r) ((finish_privileged h).trans ?_) ⟨rfl, rfl, rfl, rfl, rfl⟩
      rw [← hreg]
      rfl
    · refine traps_of_raise (finish_privileged h) ?_
      rw [run_get_bind, State.cr_none hn]
    · refine traps_of_raise (finish_privileged h) ?_
      rcases noControl_cases hn with rfl | rfl | rfl | rfl | rfl <;> rfl
  case debug =>
    have hreg : s.reg .w32 r = s.gpr.get r := trunc_of_w32 _
    refine ⟨fromControl_of (site := .fromDr) (n := n) ((finish_privileged h).trans ?_),
      toControl_of (site := .toDr) (n := n) (v := s.gpr.get r) ((finish_privileged h).trans ?_) (sameMachine_withDebugReg s n _)⟩
    · rw [← State.dr_eq]
      rfl
    · rw [← State.setDr_eq, ← hreg]
      rfl

end Sys2Proof.Machine
end

section
/-! HLT, WAIT and ESC (45_system.md R590 to R592), the table registers (R560 to R563). -/

namespace Sys2Proof.Machine

/-! ### What a coprocessor is asked (R592) -/

theorem State.copRequest_eq (s : State) (n reg : BitVec 3) (e : RM) :
    s.copRequest n reg (escOperand s e) = escRequest s n reg e := by
  unfold State.copRequest escRequest
  cases s.copAnswers <;> rfl

theorem State.copReply_eq (s : State) (n reg : BitVec 3) (e : RM) :
    s.copReply n reg (escOperand s e) (escData s e (escRequest s n reg e).reads) = escReply s n reg e := by
  unfold State.copReply escReply
  cases s.copAnswers <;> rfl

theorem State.copOperand_eq (s : State) (e : RM) : s.copOperand e = escOperand s e := by cases e <;> rfl

/-! ### Its accesses to the operand -/

theorem State.spread_zero (s : State) (seg : SReg) (off : Nat) : s.spread seg off 0 = [] :=
  List.eq_nil_of_length_eq_zero (s.length_spread seg off 0)

theorem escBytes_zero (s : State) (e : RM) : escBytes s e 0 = [] := by
  cases e with
  | reg r => rfl
  | mem m => exact s.spread_zero _ _

theorem busWrite_nil (s : State) (as : List Nat) : s.busWrite as [] = s := by cases as <;> rfl

theorem view_writeBytes_granted {s : State} {seg : SReg} {off : Nat} {bs : List Byte} (h : s.grants seg off bs.length .write) :
    (s.view seg).writeBytes off bs s = .ok () (s.busWrite (s.spread seg off bs.length) bs) := by
  rw [View.writeBytes, run_bind_ok (view_check_granted h.2.1), run_bind_ok (view_phys_flat h.1 seg off bs.length true), run_modify,
    State.busStore_quiet _ (by rw [State.flatten_opsAt]; exact State.grants_quiet h), State.flatten_opsAt]

/-- The bytes read are those of the operand; none is read of a register. -/
theorem copRead_flat {s : State} {e : RM} {n k : Nat} (h : escAdmits s e n k) :
    copRead (s.rmLoc e) n (s.captureEA (s.rmLoc e)) = .ok (escData s e n) (s.captureEA (s.rmLoc e)) := by
  cases n with
  | zero =>
    rw [escData, escBytes_zero]
    cases e <;> rfl
  | succ n =>
    cases e with
    | reg r => rfl
    | mem m => exact view_readBytes_granted (s := s.captureEA (s.memLoc m)) (h.1 (Nat.succ_ne_zero n))

/-- The bytes stored stand at the operand; nothing else is written. -/
theorem copWrite_flat {s : State} {e : RM} {bs : List Byte} {n : Nat} (h : escAdmits s e n bs.length) :
    ∃ v, copWrite (s.rmLoc e) bs (s.captureEA (s.rmLoc e)) = .ok () v ∧ Moved s v ∧ v.gpr = s.gpr ∧
      SameMemory (s.busWrite (escBytes s e bs.length) bs) v := by
  cases bs with
  | nil => exact ⟨_, rfl, moved_withEA s _, rfl, fun _ => by rw [busWrite_nil]; rfl⟩
  | cons x bs =>
    cases e with
    | reg r => exact ⟨_, rfl, moved_withEA s _, rfl, fun _ => rfl⟩
    | mem m =>
      have hacc := ((Accessing.refl s).captureEA (s.memLoc m)).captureWrite (s.memLoc m)
      have hmoved : Moved s ((s.captureEA (s.memLoc m)).captureWrite (s.memLoc m)) := ⟨_, _, _, _, rfl⟩
      have hstored := hacc.busWrite (escBytes s (.mem m) (bs.length + 1)) (x :: bs)
      exact ⟨_, view_writeBytes_granted (s := (s.captureEA (s.memLoc m)).captureWrite (s.memLoc m)) (h.2 (Nat.succ_ne_zero _)),
        hmoved.trans (moved_busWrite _ _ _), hstored.gpr_eq, fun a => congrFun hstored.busByte_eq a⟩

/-! ### What an escape leaves -/

/-- The answer's end: its word goes to AX, the event on record, the answer is used up. -/
theorem escaped_copDone {s v : State} {n reg : BitVec 3} {e : RM} {reads : Nat} {a : CopReply} (hv : Moved s v)
    (hgpr : v.gpr = s.gpr) (hmem : SameMemory (s.busWrite (escBytes s e a.stores.length) a.stores) v) :
    Escaped s n reg e reads a (v.copDone a ⟨n, reg, escOperand s e, escData s e reads⟩) := by
  obtain ⟨g, m, ea, w, rfl⟩ := hv
  obtain rfl : g = s.gpr := hgpr
  obtain ⟨stores, ax⟩ := a
  cases ax <;>
    exact ⟨rfl, hmem, rfl, rfl, ⟨fun _ => rfl, rfl⟩, rfl, rfl,
      ⟨rfl, rfl, rfl, rfl, rfl, rfl, rfl, rfl, rfl, rfl, rfl, rfl, rfl, rfl, rfl, rfl, rfl, rfl, rfl, rfl⟩,
      ⟨rfl, rfl, rfl, rfl, rfl, rfl, rfl⟩, rfl, rfl, rfl, rfl, rfl⟩

theorem Escaped.setNoReadWrite {s t : State} {n reg : BitVec 3} {e : RM} {reads : Nat} {a : CopReply}
    (h : Escaped s n reg e reads a t) : Escaped s n reg e reads a t.setNoReadWrite := by
  obtain ⟨hgpr, hmem, hlog, hanswers, hflags, hpc, hop, hworld⟩ := h
  exact ⟨hgpr, hmem, hlog, hanswers, hflags, hpc, hop, hworld.system, hworld.segments, hworld.halted, hworld.noIntr, hworld.noTrap,
    hworld.ports, hworld.devices⟩

/-- An escape that passes the test of EM and TS. -/
theorem escape_run {s : State} (h : ¬ (s.cfg.model.has286 = true ∧ (bit s.cr0 2 = true ∨ bit s.cr0 3 = true))) (n reg : BitVec 3)
    (e : RM) : Machine.escape n reg e s = (match s.cfg.coprocessor with
      | .none => pure ()
      | .attached => coprocess n reg (escOperand s e) (s.rmLoc e)) (s.captureEA (s.rmLoc e)) := by
  have hok : (!(s.cfg.model.has286 && (bit s.cr0 2 || bit s.cr0 3))) = true := by
    rwa [Bool.not_eq_true', Bool.eq_false_iff, ne_eq, Bool.and_eq_true, Bool.or_eq_true]
  rw [← s.copOperand_eq]
  show (ensure (!(s.cfg.model.has286 && (bit s.cr0 2 || bit s.cr0 3))) .nm >>= _) (s.captureEA (s.rmLoc e)) = _
  rw [ensure_of hok]
  rfl

section
variable {s : State} {n reg : BitVec 3} {e : RM}

theorem coprocess_flat (herr : ¬ ((escRequest s n reg e).error = true ∧ s.cfg.model.has286 = true))
    (h : escAdmits s e (escRequest s n reg e).reads (escReply s n reg e).stores.length) :
    ∃ t, coprocess n reg (escOperand s e) (s.rmLoc e) (s.captureEA (s.rmLoc e)) = .ok () t ∧
      Escaped s n reg e (escRequest s n reg e).reads (escReply s n reg e) t := by
  obtain ⟨v, hrun, hmoved, hgpr, hmem⟩ := copWrite_flat h
  refine ⟨_, ?_, escaped_copDone hmoved hgpr hmem⟩
  have hreq : (s.captureEA (s.rmLoc e)).copRequest n reg (escOperand s e) = escRequest s n reg e := s.copRequest_eq n reg e
  have hrep : (s.captureEA (s.rmLoc e)).copReply n reg (escOperand s e) (escData s e (escRequest s n reg e).reads) =
    escReply s n reg e := s.copReply_eq n reg e
  have hno : ¬ ((escRequest s n reg e).error && (s.captureEA (s.rmLoc e)).cfg.model.has286) = true := by
    rwa [Bool.and_eq_true]
  rw [coprocess, run_get_bind]
  simp only [hreq, if_neg hno]
  rw [run_bind_ok (copRead_flat h), hrep, run_bind_ok hrun, run_modify]

/-- An error is signalled before the operand is read (R652, R668). -/
theorem coprocess_error (herr : (escRequest s n reg e).error = true) (h286 : s.cfg.model.has286 = true) :
    ∃ t, coprocess n reg (escOperand s e) (s.rmLoc e) (s.captureEA (s.rmLoc e)) = .error (.exn .mf) t ∧
      Escaped s n reg e 0 ⟨[], none⟩ t := by
  have hreq : (s.captureEA (s.rmLoc e)).copRequest n reg (escOperand s e) = escRequest s n reg e := s.copRequest_eq n reg e
  have hyes : ((escRequest s n reg e).error && (s.captureEA (s.rmLoc e)).cfg.model.has286) = true :=
    Bool.and_eq_true_iff.mpr ⟨herr, h286⟩
  have hdata : escData s e 0 = [] := by rw [escData, escBytes_zero]; rfl
  have hdone := escaped_copDone (a := ⟨[], none⟩) (n := n) (reg := reg) (e := e) (reads := 0)
    (moved_withEA s (s.captureEA (s.rmLoc e)).regEA) rfl fun _ => by rw [busWrite_nil]; rfl
  rw [hdata] at hdone
  refine ⟨((s.captureEA (s.rmLoc e)).copSeen ⟨n, reg, escOperand s e, []⟩).setNoReadWrite, ?_,
    hdone.setNoReadWrite⟩
  rw [coprocess, run_get_bind]
  simp only [hreq, if_pos hyes]
  rfl

end

/-- Settles O45: HLT and WAIT are one test each; an escape is a test, and then what the coprocessor asks for. -/
theorem haltWaitEscape : Obligations.HaltWaitEscape := by
  unfold Obligations.HaltWaitEscape
  refine fun s n reg e => ⟨fun h => (finish_privileged h).trans rfl, fun h => ?wait, fun h286 hmp hts => ?nm,
    fun h => ⟨fun hcop => ?none, fun hcop => ?attached⟩, fun h286 hcr => ?trap⟩
  case wait =>
    have hok : (!(s.cfg.model.has286 && bit s.cr0 1 && bit s.cr0 3)) = true := by
      rwa [Bool.not_eq_true', Bool.eq_false_iff, ne_eq, Bool.and_eq_true, Bool.and_eq_true, and_assoc]
    refine finish_ok ?_
    rw [waitCoprocessor, run_get_bind, ensure_of hok]
    rfl
  case nm =>
    refine traps_of_raise (m := waitCoprocessor) rfl ?_
    rw [waitCoprocessor, run_get_bind, h286, hmp, hts]
    rfl
  case none =>
    refine ⟨s.captureEA (s.rmLoc e), finish_ok ?_, ⟨rfl, fun _ => rfl⟩, (moved_withEA s _).plain⟩
    rw [escape_run h, hcop]
    rfl
  case attached =>
    have hrun : Machine.escape n reg e s = coprocess n reg (escOperand s e) (s.rmLoc e) (s.captureEA (s.rmLoc e)) := by
      rw [escape_run h, hcop]
    refine ⟨fun herr hadm => ?_, fun herr h286 => ?_⟩
    · obtain ⟨t, ht, hescaped⟩ := coprocess_flat herr hadm
      exact ⟨t, finish_ok (hrun.trans ht), hescaped⟩
    · obtain ⟨t, ht, hescaped⟩ := coprocess_error herr h286
      exact ⟨t, finish_exn (hrun.trans ht), hescaped⟩
  case trap =>
    have hno : (!(s.cfg.model.has286 && (bit s.cr0 2 || bit s.cr0 3))) = false := by
      rwa [h286, Bool.true_and, Bool.not_eq_false', Bool.or_eq_true]
    have hesc : Machine.escape n reg e s = (ensure (!(s.cfg.model.has286 && (bit s.cr0 2 || bit s.cr0 3))) .nm >>= fun _ =>
        match s.cfg.coprocessor with
        | .none => pure ()
        | .attached => coprocess n reg (s.copOperand e) (s.rmLoc e)) (s.captureEA (s.rmLoc e)) := rfl
    refine traps_of_prepared (m := raise .nm) (prepared_captureEA s (s.rmLoc e)) ?_ rfl
    show finish (Machine.escape n reg e) s = _
    rw [finish, hesc, hno]
    rfl

end Sys2Proof.Machine
end

section
/-! LGDT, LIDT, SGDT and SIDT (45_system.md R560 to R563). -/

namespace Sys2Proof.Machine

/-! ### Six bytes as one run of addresses -/

theorem State.busWrite_append (as bs : List Nat) (xs ys : List Byte) (s : State) (h : as.length = xs.length) :
    s.busWrite (as ++ bs) (xs ++ ys) = (s.busWrite as xs).busWrite bs ys := by
  induction as generalizing xs s with
  | nil => rw [List.eq_nil_of_length_eq_zero h.symm]; rfl
  | cons a as ih =>
    cases xs with
    | nil => exact absurd h (Nat.succ_ne_zero _)
    | cons x xs => exact ih xs _ (Nat.succ.inj h)

theorem addrs_append (a : Nat) : ∀ m n : Nat, addrs a m ++ addrs (a + m) n = addrs a (m + n)
  | 0, n => by rw [Nat.zero_add]; rfl
  | m + 1, n => by
    rw [Nat.succ_add m n, addrs, addrs, ← addrs_append (a + 1) m n, List.cons_append, Nat.add_assoc a 1 m, Nat.add_comm 1 m]

theorem wrapAddrs_append (r : SegReg) : ∀ m n off : Nat, r.wrapAddrs off m ++ r.wrapAddrs (off + m) n = r.wrapAddrs off (m + n)
  | 0, n, off => by rw [Nat.zero_add]; rfl
  | m + 1, n, off => by
    rw [Nat.succ_add m n, SegReg.wrapAddrs, SegReg.wrapAddrs, ← wrapAddrs_append r m n (off + 1), List.cons_append,
      Nat.add_assoc off 1 m, Nat.add_comm 1 m]

theorem addrs_congr {m : Model} {a b : Nat} (h : busAddr m a = busAddr m b) (n : Nat) :
    (addrs a n).map (busAddr m) = (addrs b n).map (busAddr m) := by
  induction n generalizing a b with
  | zero => rfl
  | succ n ih =>
    have hnext : busAddr m (a + 1) = busAddr m (b + 1) := by rw [busAddr_add, busAddr_add, h]
    rw [addrs, addrs, List.map_cons, List.map_cons, h, ih hnext]

/-- The Bus has at most 32 address bits. -/
theorem busAddr_mod32 (m : Model) (a : Nat) : busAddr m (a % 2 ^ 32) = busAddr m a :=
  Nat.mod_mod_of_dvd _ (Nat.pow_dvd_pow 2 (by cases m <;> decide))

/-- Six bytes, two and then four, lie at different Bus addresses. -/
theorem nodup_tableBytesAt (s : State) (m : MemOp) : ((tableBytesAt s m).map (busAddr s.cfg.model)).Nodup := by
  unfold tableBytesAt State.spread
  generalize s.seg (s.resolve m).1 = r
  generalize (s.resolve m).2 = off
  split
  · rw [wrapAddrs_append]
    exact nodup_wrapAddrs r (by decide)
  · have hnext : busAddr s.cfg.model (r.linear (off + 2)).toNat = busAddr s.cfg.model ((r.linear off).toNat + 2) := by
      rw [← busAddr_mod32 s.cfg.model ((r.linear off).toNat + 2), SegReg.linear, SegReg.linear, BitVec.ofNat_add, ← BitVec.add_assoc,
        BitVec.toNat_add]
      rfl
    rw [List.map_append, addrs_congr hnext, ← List.map_append, addrs_append]
    exact nodup_addrs _ (Nat.le_trans (by decide : 2 + 4 ≤ 2 ^ 20) (Nat.pow_le_pow_right (by decide) (paBits_ge _)))

/-! ### The image of a table register (R562) -/

/-- A byte of a word. -/
theorem getLsbD_byteOf (v : Word) (k i : Nat) :
    ((v >>> (8 * k)).setWidth 8 : Byte).getLsbD i = (decide (i < 8) && v.getLsbD (8 * k + i)) := by
  rw [BitVec.getLsbD_setWidth, BitVec.getLsbD_ushiftRight]

/-- Base bits 23:0 with another byte above them. -/
theorem byteOf_tableBase (b : Word) (x : Byte) {k : Nat} (hk : k < 4) :
    (((b &&& 0x00FFFFFF#32) ||| (x.setWidth 32 <<< 24)) >>> (8 * k)).setWidth 8 = if k < 3 then (b >>> (8 * k)).setWidth 8 else x := by
  have hmask : ∀ i < 32, (0x00FFFFFF#32 : Word).getLsbD i = decide (i < 24) := by decide
  apply BitVec.eq_of_getLsbD_eq
  intro i hi
  rw [getLsbD_byteOf, BitVec.getLsbD_or, BitVec.getLsbD_and, BitVec.getLsbD_shiftLeft, hmask (8 * k + i) (by omega)]
  split
  next h3 => rw [getLsbD_byteOf]; simp [show 8 * k + i < 24 by omega]
  next h3 =>
    obtain rfl : k = 3 := by omega
    simp [hi, show 24 + i < 32 by omega, show i < 32 by omega]

theorem leBytes_four (v : Word) : leBytes 4 v =
    [(v >>> (8 * 0)).setWidth 8, (v >>> (8 * 1)).setWidth 8, (v >>> (8 * 2)).setWidth 8, (v >>> (8 * 3)).setWidth 8] := by
  simp [leBytes, ← BitVec.shiftRight_add]

/-- The bytes that SGDT and SIDT store are the image of the register. -/
theorem tableBytes_eq (s : State) (t : TableReg) : leBytes 2 (t.limit.setWidth 32) ++
    leBytes 4 ((t.base &&& 0x00FFFFFF#32) ||| ((s.tableByte5 t.base).setWidth 32 <<< 24)) = tableImage s t := by
  have hlow : (t.limit.setWidth 32).setWidth 8 = (t.limit.setWidth 8 : Byte) := by simp
  have hhigh : ((t.limit.setWidth 32 >>> 8).setWidth 8 : Byte) = (t.limit >>> 8).setWidth 8 := by
    apply BitVec.eq_of_toNat_eq
    have hlt : t.limit.toNat < 4294967296 := Nat.lt_of_lt_of_le t.limit.isLt (by decide)
    simp [Nat.mod_eq_of_lt hlt]
  have htop : t.base.extractLsb 31 24 = ((t.base >>> 24).setWidth 8 : Byte) := by
    apply BitVec.eq_of_toNat_eq
    simp
  have hlast : s.tableByte5 t.base = if s.cfg.model.has386 = false then (0xFF : Byte)
      else if s.op32 then (t.base >>> 24).setWidth 8 else s.cfg.sgdtByte5.getD ((t.base >>> 24).setWidth 8) := by
    rw [State.tableByte5, htop]
    cases s.cfg.model.has386 <;> rfl
  rw [leBytes_four, byteOf_tableBase _ _ (by decide), byteOf_tableBase _ _ (by decide), byteOf_tableBase _ _ (by decide),
    byteOf_tableBase _ _ (by decide), hlast, tableImage, ← hlow, ← hhigh]
  rfl

/-! ### The four instructions -/

theorem readTable_flat {s : State} {m : MemOp} (h : canTable s m .read) (hr : mayRule s) :
    readTable m s = .ok (tableValue s m) (s.captureEA (s.memLoc m)) := by
  have hu := prepared_captureEA s (s.memLoc m)
  rw [readTable_run, run_bind_ok (privileged_of (hu.mayRule_iff.mpr hr)),
    run_bind_ok (segRead_granted (s := s.captureEA (s.memLoc m)) h.1), run_bind_ok (segRead_granted (s := s.captureEA (s.memLoc m)) h.2)]
  rfl

/-- The state after both stores of SGDT or SIDT. -/
theorem storeTable_flat {s : State} {m : MemOp} {t : State → TableReg} (h : canTable s m .write) :
    storeTable m t s = .ok () (((s.captureEA (s.memLoc m)).captureWrite (s.memLoc m)).busWrite (tableBytesAt s m)
      (tableImage s (t s))) := by
  obtain ⟨hlow, hhigh⟩ := h
  have hprobe := view_probe_granted (s := s.captureEA (s.memLoc m)) hlow
  have hprobe' := view_probe_granted (s := s.captureEA (s.memLoc m)) hhigh
  have hfirst := view_write_granted (s := (s.captureEA (s.memLoc m)).captureWrite (s.memLoc m)) hlow ((t s).limit.setWidth 32)
  have hmoved : Moved s (((s.captureEA (s.memLoc m)).captureWrite (s.memLoc m)).busWrite (s.spread (s.resolve m).1 (s.resolve m).2 2)
      (leBytes 2 ((t s).limit.setWidth 32))) := Moved.trans ⟨_, _, _, _, rfl⟩ (moved_busWrite _ _ _)
  have hsecond := view_write_granted (hmoved.grants_eq ▸ hhigh)
    (((t s).base &&& 0x00FFFFFF#32) ||| ((s.tableByte5 (t s).base).setWidth 32 <<< 24))
  rw [hmoved.view_eq, hmoved.spread_eq] at hsecond
  rw [← tableBytes_eq, tableBytesAt, State.busWrite_append _ _ _ _ _ ((s.length_spread _ _ _).trans (length_leBytes _ _).symm)]
  show (View.probe (s.view _) (s.resolve m).2 2 >>= _) (s.captureEA (s.memLoc m)) = _
  exact (run_bind_ok hprobe _).trans ((run_bind_ok hprobe' _).trans ((run_bind_ok hfirst _).trans hsecond))

/-- SGDT or SIDT completes. -/
theorem storeTableForm_of {s : State} {m : MemOp} {t : State → TableReg} {i : Instr} (hm : s.mem.wf = true)
    (hi : exec i s = finish (storeTable m t) s) : StoreTableForm s m (t s) i := by
  intro h
  have hmoved : Moved s (((s.captureEA (s.memLoc m)).captureWrite (s.memLoc m)).busWrite (tableBytesAt s m) (tableImage s (t s))) :=
    Moved.trans ⟨_, _, _, _, rfl⟩ (moved_busWrite _ _ _)
  refine ⟨_, hi.trans (finish_ok (storeTable_flat h)), ?_, fun a ha => ?_, State.busWrite_gpr .., hmoved.plain⟩
  · refine State.busRead_busWrite _ _ (s := (s.captureEA (s.memLoc m)).captureWrite (s.memLoc m)) hm ?_ (nodup_tableBytesAt s m) ?_
    · rw [tableBytesAt, List.length_append, s.length_spread, s.length_spread]
      rfl
    · rw [tableBytesAt, List.forall_mem_append]
      exact ⟨State.grants_ram h.1, State.grants_ram h.2⟩
  · exact State.busByte_busWrite_other _ _ (s := (s.captureEA (s.memLoc m)).captureWrite (s.memLoc m)) hm ha

/-- LGDT or LIDT completes. -/
theorem controlForm_of_readTable {s : State} {m : MemOp} {f : TableReg → State → State} {g : State → State} {i : Instr}
    (hi : exec i s = finish (readTable m >>= fun t => modify (f t)) s)
    (hf : Untouched s (f (tableValue s m) (s.captureEA (s.memLoc m))) ∧
      SameFlags s (f (tableValue s m) (s.captureEA (s.memLoc m))) ∧ (f (tableValue s m) (s.captureEA (s.memLoc m))).pc = s.pc ∧
      SameWorld (g s) (f (tableValue s m) (s.captureEA (s.memLoc m)))) : ControlForm s (canTable s m .read) g i :=
  fun hr h => ⟨_, hi.trans (finish_ok (run_bind_ok (readTable_flat hr h) _)), hf⟩

/-- Settles O41: two reads or two stores of one run of six bytes. -/
theorem tableRegisterInstructions : Obligations.TableRegisterInstructions := by
  unfold Obligations.TableRegisterInstructions
  refine fun s m hm => ⟨controlForm_of_readTable (f := State.setGdtr) rfl ?_, controlForm_of_readTable (f := State.setIdtr) rfl ?_,
    storeTableForm_of (t := (·.gdtr)) hm rfl, storeTableForm_of (t := (·.idtr)) hm rfl⟩ <;>
  exact ⟨⟨rfl, fun _ => rfl⟩, ⟨fun _ => rfl, rfl⟩, rfl,
    ⟨rfl, rfl, rfl, rfl, rfl, rfl, rfl, rfl, rfl, rfl, rfl, rfl, rfl, rfl, rfl, rfl, rfl, rfl, rfl, rfl⟩,
    ⟨rfl, rfl, rfl, rfl, rfl, rfl, rfl⟩, rfl, rfl, rfl, rfl, rfl⟩

end Sys2Proof.Machine
end

section
/-! String instructions (44_string.md R520 to R531): what one element leaves, and the repetition around it. -/

namespace Sys2Proof.Machine

/-! ### What an element may change -/

/-- `t` is `s` but for the general registers, the flags, memory, the noted operand addresses (R64), the port oracle and the two
records, that of device accesses as in `s` if no device stands behind the Bus. -/
def Stepped (s t : State) : Prop :=
  ∃ g f m e w l xs c es, t = { s with
      gpr := g, flags := f, mem := m, regEA := e, regEAWrite := w, busLog := l, portAnswers := xs, oracleCount := c, portLog := es } ∧
    ((∀ a, s.busKind a ≠ .device) → l = s.busLog)

theorem Worked.stepped {s t : State} (h : Worked s t) : Stepped s t := by
  obtain ⟨g, f, m, e, w, l, rfl, hl⟩ := h
  exact ⟨g, f, m, e, w, l, s.portAnswers, s.oracleCount, s.portLog, rfl, hl⟩

theorem Stepped.trans {s t u : State} (h : Stepped s t) (k : Stepped t u) : Stepped s u := by
  obtain ⟨g, f, m, e, w, l, xs, c, es, rfl, hl⟩ := h
  obtain ⟨g', f', m', e', w', l', xs', c', es', rfl, hl'⟩ := k
  exact ⟨g', f', m', e', w', l', xs', c', es', rfl, fun hd => (hl' hd).trans (hl hd)⟩

theorem Reflagged.worked {s t : State} (h : Reflagged s t) : Worked s t := by
  obtain ⟨e, rfl, -⟩ := h
  exact ⟨s.gpr, e, s.mem, s.regEA, s.regEAWrite, s.busLog, rfl, fun _ => rfl⟩

section
variable {s t : State} (h : Stepped s t)
include h

theorem Stepped.sameCore : SameCore s t := by
  obtain ⟨g, f, m, e, w, l, xs, c, es, rfl, hl⟩ := h
  exact ⟨⟨rfl, rfl, rfl, rfl, rfl, rfl, rfl, rfl, rfl, rfl, rfl, rfl, rfl, rfl, rfl, rfl, rfl, rfl, rfl, rfl⟩,
    ⟨rfl, rfl, rfl, rfl, rfl, rfl, rfl⟩, rfl, rfl, rfl, hl⟩

/-- The sizes, the prefixes and the two instruction pointers are as before. -/
theorem Stepped.fetched : t.adW = s.adW ∧ t.opPrefixes = s.opPrefixes ∧ t.pc = s.pc ∧ t.opLIP = s.opLIP ∧ t.cs = s.cs := by
  obtain ⟨g, f, m, e, w, l, xs, c, es, rfl, -⟩ := h
  exact ⟨rfl, rfl, rfl, rfl, rfl⟩

end

/-! ### The index registers (R521) -/

theorem State.adW_ne_w8 (s : State) : s.adW ≠ .w8 := by
  unfold State.adW
  cases s.ad32 <;> decide

/-- An index register moves by the bytes of an element. -/
theorem State.advance_eq (s : State) (r : Reg) (w : Width) : s.advance r w.bytes = s.setReg s.adW r (moved s r w.bytes) := by
  have hsize : w.bytes < 2 ^ s.adW.bits := by
    have := s.adW_ne_w8
    revert this
    cases s.adW <;> cases w <;> decide
  have hbytes : (BitVec.ofNat 32 w.bytes).toNat = w.bytes := by cases w <;> rfl
  have hstep : trunc s.adW (if s.direct psDF then s.reg s.adW r - BitVec.ofNat 32 w.bytes
      else s.reg s.adW r + BitVec.ofNat 32 w.bytes) = moved s r w.bytes := by
    apply BitVec.eq_of_toNat_eq
    have hlt : ∀ n, n % 2 ^ s.adW.bits < 2 ^ 32 := fun n =>
      Nat.lt_of_lt_of_le (Nat.mod_lt _ (Nat.two_pow_pos _)) (Nat.pow_le_pow_right (by decide) s.adW.bits_le)
    rw [moved, BitVec.toNat_ofNat, Nat.mod_eq_of_lt (hlt _)]
    cases s.direct psDF with
    | true =>
      rw [if_pos rfl, if_pos rfl, toNat_trunc_sub _ _ _ (hbytes.symm ▸ hsize), hbytes]
      congr 1
      omega
    | false => rw [if_neg Bool.false_ne_true, if_neg Bool.false_ne_true, toNat_trunc_add, hbytes]
  rw [← hstep, State.setReg_trunc]
  rfl

/-- How far a register moves depends on itself, the address size and DF. -/
theorem moved_congr {s t : State} {r : Reg} (hr : t.gpr.get r = s.gpr.get r) (hw : t.adW = s.adW)
    (hd : t.direct psDF = s.direct psDF) (n : Nat) : moved t r n = moved s r n := by
  rw [moved, moved, hd, hw, State.reg, State.reg, hr]

theorem SameDirect.direct_df {s t : State} (h : SameDirect s t) : t.direct psDF = s.direct psDF := by
  have hmask : (~~~psCached) &&& psDF = psDF := by decide
  have hbits (u : State) : u.flags.ps &&& psDF = u.flags.ps &&& ~~~psCached &&& psDF := by rw [BitVec.and_assoc, hmask]
  rw [State.direct, State.direct, hbits, hbits, show t.flags.ps &&& ~~~psCached = s.flags.ps &&& ~~~psCached from h]

/-- The registers after one index register moved, from a state with other flags and memory. -/
theorem gpr_advance {s u : State} (hu : Stepped s u) (hd : SameDirect s u) (r : Reg) (hr : u.gpr.get r = s.gpr.get r) (w : Width) :
    (u.advance r w.bytes).gpr = State.gpr (State.setReg s.adW r (moved s r w.bytes) { s with gpr := u.gpr }) := by
  obtain ⟨hw, -⟩ := hu.fetched
  rw [State.advance_eq, moved_congr hr hw hd.direct_df, hw]
  rfl

theorem stepped_advance (s : State) (r : Reg) (n : Nat) : Stepped s (s.advance r n) := (moved_withGpr s _).worked.stepped

/-- The registers after both index registers moved. -/
theorem gpr_advance_both {s u : State} (hu : Stepped s u) (hd : SameDirect s u) (hr : u.gpr = s.gpr) (w : Width) :
    ((u.advance .si w.bytes).advance .di w.bytes).gpr =
      State.gpr (State.setReg s.adW .di (moved s .di w.bytes) (State.setReg s.adW .si (moved s .si w.bytes) s)) := by
  have hsi := gpr_advance hu hd .si (by rw [hr]) w
  rw [hr] at hsi
  have hother : (u.advance .si w.bytes).gpr.get .di = s.gpr.get .di := by
    rw [hsi, State.setReg_gpr, Gpr.get_set_other _ (by decide)]
  have hdi := gpr_advance (hu.trans (stepped_advance u .si w.bytes)) (sameDirect_trans hd (sameDirect_of_eq rfl)) .di hother w
  rw [hsi] at hdi
  exact hdi

/-! ### The elements at rSI and rDI (R522) -/

section
variable {s : State} {w : Width}

theorem readSource_flat (h : s.canRead w (strSrc s)) : readSource w s = .ok (s.valueAt w (strSrc s)) (s.captureEA (strSrc s)) :=
  readLoc_flat (s := s.captureEA (strSrc s)) (w := w) (l := strSrc s) h

theorem readDest_flat (h : s.canRead w (strDst s)) : readDest w s = .ok (s.valueAt w (strDst s)) (s.captureEA (strDst s)) :=
  readLoc_flat (s := s.captureEA (strDst s)) (w := w) (l := strDst s) h

theorem writeDest_flat (hm : s.mem.wf = true) (h : s.canWrite w (strDst s)) (x : Word) : ∃ u, writeDest w x s = .ok () u ∧
    Moved s u ∧ u.gpr = s.gpr ∧ u.valueAt w (strDst s) = trunc w x ∧ SameMemoryBut s u (s.storedAt w (strDst s)) := by
  have hfits : (strDst s).Fits w := trivial
  refine ⟨_, writeLoc_flat (s := s.captureEA (strDst s)) (w := w) (l := strDst s) h x, (moved_withEA s _).trans (moved_putAt _ _ _ _), ?_,
    hfits.valueAt_putAt (s := s.captureEA (strDst s)) hm h x, State.putAt_memory (s := s.captureEA (strDst s)) hm w (strDst s) x⟩
  exact State.putAt_gpr (s.captureEA (strDst s)) w (strDst s) x

/-- The value of an element fits its width. -/
theorem trunc_valueAt_mem (s : State) (w : Width) (seg : SReg) (off : Nat) :
    trunc w (s.valueAt w (.mem seg off)) = s.valueAt w (.mem seg off) := s.trunc_busRead (s.length_spread _ _ _)

end

/-! ### What one element leaves -/

/-- The element is performed. -/
def Performed (op : StrOp) (w : Width) (s u : State) : Prop := Stepped s u ∧ u.gpr = op.gpr w s ∧ op.effect w s u

theorem FlagsBy.congr {w : Width} {d x a l : Word} {t u : State} (h : FlagsBy w d x a l t) (hf : ∀ f, u.flag f = t.flag f) :
    FlagsBy w d x a l u where
  cf := (hf .cf).trans h.cf
  pf := (hf .pf).trans h.pf
  af := (hf .af).trans h.af
  zf := (hf .zf).trans h.zf
  sf := (hf .sf).trans h.sf
  of := (hf .of).trans h.of

/-- The effect shows nothing of the registers and of the instruction pointer. -/
theorem StrOp.effect_congr {op : StrOp} {w : Width} {s u : State} (h : op.effect w s u) (g : Gpr) (p : Word) :
    op.effect w s { u with gpr := g, pc := p } := by
  cases op with
  | movs | lods | stos | ins | outs => exact h
  | cmps | scas =>
    obtain ⟨⟨hflags, hdirect⟩, hmem⟩ := h
    exact ⟨⟨hflags.congr fun _ => rfl, hdirect⟩, hmem⟩

section
variable {s : State} {w : Width}

theorem performed_movs (hm : s.mem.wf = true) (h : StrOp.movs.accessible w s) :
    ∃ u, movsElement w s = .ok () u ∧ Performed .movs w s u := by
  obtain ⟨hr, hw⟩ := h
  obtain ⟨u, hrun, hmoved, hgpr, hvalue, hmem⟩ := writeDest_flat (s := s.captureEA (strSrc s)) hm hw (s.valueAt w (strSrc s))
  have hu := (moved_withEA s (s.captureEA (strSrc s)).regEA).trans hmoved
  refine ⟨(u.advance .si w.bytes).advance .di w.bytes, ?_, ?_, ?_, ?_⟩
  · rw [movsElement, run_bind_ok (readSource_flat hr), run_bind_ok hrun, run_modify]
  · exact hu.worked.stepped.trans ((stepped_advance _ _ _).trans (stepped_advance _ _ _))
  · exact gpr_advance_both hu.worked.stepped (sameDirect_of_eq hu.flags_eq) hgpr w
  · obtain ⟨hflags, -, hworld⟩ := hu.plain
    exact StrOp.effect_congr (op := .movs) ⟨hvalue.trans (trunc_valueAt_mem ..), hmem, hflags, hworld.ports⟩ _ u.pc

theorem performed_stos (hm : s.mem.wf = true) (h : StrOp.stos.accessible w s) :
    ∃ u, stosElement w s = .ok () u ∧ Performed .stos w s u := by
  obtain ⟨u, hrun, hmoved, hgpr, hvalue, hmem⟩ := writeDest_flat hm h (s.reg w .ax)
  refine ⟨u.advance .di w.bytes, ?_, hmoved.worked.stepped.trans (stepped_advance _ _ _), ?_, ?_⟩
  · rw [stosElement, run_get_bind, run_bind_ok hrun, run_modify]
  · rw [gpr_advance hmoved.worked.stepped (sameDirect_of_eq hmoved.flags_eq) .di (by rw [hgpr]) w, hgpr]
    rfl
  · obtain ⟨hflags, -, hworld⟩ := hmoved.plain
    exact StrOp.effect_congr (op := .stos) ⟨hvalue.trans (trunc_trunc w _), hmem, hflags, hworld.ports⟩ _ u.pc

theorem performed_lods (h : StrOp.lods.accessible w s) : ∃ u, lodsElement w s = .ok () u ∧ Performed .lods w s u := by
  have hu : Moved s ((s.captureEA (strSrc s)).setReg w .ax (s.valueAt w (strSrc s))) := ⟨_, _, _, _, rfl⟩
  have hsi : ((s.captureEA (strSrc s)).setReg w .ax (s.valueAt w (strSrc s))).gpr.get .si = s.gpr.get .si := by
    rw [State.setReg_gpr, Gpr.get_set_other _ (by decide)]
    rfl
  refine ⟨_, (run_bind_ok (readSource_flat h) _).trans (run_modify _ _), hu.worked.stepped.trans (stepped_advance _ _ _),
    gpr_advance hu.worked.stepped (sameDirect_of_eq rfl) .si hsi w, ⟨fun _ => rfl, rfl⟩, fun _ => rfl, rfl⟩

/-- The comparison d − x after operand addresses were noted. -/
theorem compared_flagsSub (s : State) (e : Option Word) (w : Width) (d x : Word) :
    ∃ z, State.flagsSub w d x (trunc w (d - x)) { s with regEA := e } = z ∧ Stepped s z ∧ z.gpr = s.gpr ∧ Compared w d x s z ∧
      SameMemory s z ∧ z.portLog = s.portLog := by
  have hu := moved_withEA s e
  have hflags : Reflagged { s with regEA := e } (State.flagsSub w d x (trunc w (d - x)) { s with regEA := e }) :=
    reflagged_install _ .all w _ _ _ _
  obtain ⟨hdirect, -⟩ := rest_of_reflagged (prepared_refl s) hu hflags
  exact ⟨_, rfl, (hu.worked.trans hflags.worked).stepped, rfl, ⟨flagsBy_flagsSub _ w d x _, hdirect⟩, fun _ => rfl, rfl⟩

theorem performed_cmps (h : StrOp.cmps.accessible w s) : ∃ u, cmpsElement w s = .ok () u ∧ Performed .cmps w s u := by
  obtain ⟨hsrc, hdst⟩ := h
  obtain ⟨z, hz, hstep, hgpr, hcmp, hmem, hport⟩ := compared_flagsSub s (s.captureEA (strDst s)).regEA w
    (s.valueAt w (strSrc s)) (s.valueAt w (strDst s))
  refine ⟨(z.advance .si w.bytes).advance .di w.bytes, ?_, hstep.trans ((stepped_advance _ _ _).trans (stepped_advance _ _ _)),
    gpr_advance_both hstep hcmp.2 hgpr w, StrOp.effect_congr (op := .cmps) ⟨hcmp, hmem, hport⟩ _ z.pc⟩
  have hread := readDest_flat (s := s.captureEA (strSrc s)) hdst
  rw [cmpsElement, run_bind_ok (readSource_flat hsrc), run_bind_ok hread, run_modify, ← hz]
  rfl

theorem performed_scas (h : StrOp.scas.accessible w s) : ∃ u, scasElement w s = .ok () u ∧ Performed .scas w s u := by
  obtain ⟨z, hz, hstep, hgpr, hcmp, hmem, hport⟩ := compared_flagsSub s (s.captureEA (strDst s)).regEA w
    (s.reg w .ax) (s.valueAt w (strDst s))
  refine ⟨z.advance .di w.bytes, ?_, hstep.trans (stepped_advance _ _ _), ?_,
    StrOp.effect_congr (op := .scas) ⟨hcmp, hmem, hport⟩ _ z.pc⟩
  · rw [scasElement, run_bind_ok (readDest_flat h), run_modify, ← hz]
    rfl
  · rw [gpr_advance hstep hcmp.2 .di (by rw [hgpr]) w, hgpr]
    rfl

/-! ### INS and OUTS (R530, R531) -/

/-- What a port read leaves: the oracle and the two records. -/
theorem ioRead_after_check (hport : ioAllowed s (strPort s) w.bytes) : ∃ u v t, ioCheck s.dxPort w.bytes s = .ok () u ∧
    ReadsOnly s u ∧ ioRead s.dxPort w u = .ok v t ∧ Stepped s t ∧ t.gpr = s.gpr ∧ t.flags = s.flags ∧ t.mem = s.mem ∧
    trunc w v = v ∧ PortRead (strPort s) w v s t := by
  rw [strPort, ← s.dxPort_eq] at hport ⊢
  obtain ⟨u, ⟨log, rfl, hlog⟩, hcheck⟩ := ioCheck_allowed hport
  obtain ⟨v, xs, c, hread, hv, hlisted⟩ := ioRead_run s.dxPort w { s with busLog := log }
  exact ⟨_, v, _, hcheck, ⟨log, rfl, hlog⟩, hread, ⟨_, _, _, _, _, _, _, _, _, rfl, hlog⟩, rfl, rfl, rfl, hv, rfl, hlisted⟩

/-- What may be accessed, and where, depends on nothing an element changes. -/
theorem Stepped.access {t : State} (h : Stepped s t) (hg : t.gpr = s.gpr) : t.canWrite w (strDst s) = s.canWrite w (strDst s) ∧
    strDst t = strDst s ∧ t.storedAt = s.storedAt := by
  obtain ⟨g, f, m, e, k, l, xs, c, es, rfl, -⟩ := h
  obtain rfl : g = s.gpr := hg
  exact ⟨rfl, rfl, rfl⟩

theorem Stepped.sameMemory {t : State} (h : Stepped s t) (hm : t.mem = s.mem) : SameMemory s t := by
  obtain ⟨g, f, m, e, k, l, xs, c, es, rfl, -⟩ := h
  obtain rfl : m = s.mem := hm
  exact fun _ => rfl

theorem Moved.ports_eq {t : State} (h : Moved s t) : t.portLog = s.portLog ∧ t.portAnswers = s.portAnswers := by
  obtain ⟨g, m, e, k, rfl⟩ := h
  exact ⟨rfl, rfl⟩

theorem performed_ins (hm : s.mem.wf = true) (h : StrOp.ins.accessible w s) :
    ∃ u, insElement w s = .ok () u ∧ Performed .ins w s u := by
  obtain ⟨hport, hw⟩ := h
  obtain ⟨u, v, t, hcheck, ⟨log, rfl, -⟩, hread, hstep, hgpr, hflags, hmem, hv, hlog, hlisted⟩ := ioRead_after_check hport
  have hprobe := view_probe_granted (s := { s with busLog := log }) hw
  obtain ⟨hcan, hdst, hstored⟩ := hstep.access (w := w) hgpr
  obtain ⟨z, hwrite, hmoved, hgpr', hvalue, hbytes⟩ := writeDest_flat (s := t) (w := w) (hmem ▸ hm) (by rw [hdst, hcan]; exact hw) v
  rw [hdst] at hvalue
  rw [hdst, hstored] at hbytes
  have hz := hstep.trans hmoved.worked.stepped
  have hsame : z.flags = s.flags := hmoved.flags_eq.trans hflags
  obtain ⟨hports, hanswers⟩ := hmoved.ports_eq
  refine ⟨z.advance .di w.bytes, ?_, hz.trans (stepped_advance _ _ _), ?_, ?_⟩
  · exact (run_bind_ok hcheck _).trans ((run_bind_ok hprobe _).trans ((run_bind_ok hread _).trans
      ((run_bind_ok hwrite _).trans (run_modify _ _))))
  · rw [gpr_advance hz (sameDirect_of_eq hsame) .di (by rw [hgpr', hgpr]) w, hgpr', hgpr]
    rfl
  · refine StrOp.effect_congr (op := .ins) ⟨⟨?_, fun x r hx => ?_⟩, fun a ha => (hbytes a ha).trans (hstep.sameMemory hmem a),
      sameFlags_of_eq hsame⟩ _ z.pc
    · rw [hvalue, hv, hports, hlog]
    · rw [hvalue, hv, hanswers]
      exact hlisted x r hx

theorem performed_outs (h : StrOp.outs.accessible w s) : ∃ u, outsElement w s = .ok () u ∧ Performed .outs w s u := by
  obtain ⟨hport, hr⟩ := h
  have hdx := s.dxPort_eq
  rw [strPort, ← hdx] at hport
  obtain ⟨u, ⟨log, rfl, hlog⟩, hcheck⟩ := ioCheck_allowed hport
  have hread := readSource_flat (s := { s with busLog := log }) hr
  have hz : Stepped s (State.logPort (.write s.dxPort w.bytes (trunc w (s.valueAt w (strSrc s))))
      (State.captureEA (strSrc s) { s with busLog := log })) := ⟨_, _, _, _, _, _, _, _, _, rfl, hlog⟩
  have hvalue : trunc w (s.valueAt w (strSrc s)) = s.valueAt w (strSrc s) := trunc_valueAt_mem ..
  rw [hvalue] at hz
  have hwrite := ioWrite_run s.dxPort w (s.valueAt w (strSrc s)) (State.captureEA (strSrc s) { s with busLog := log })
  rw [hvalue] at hwrite
  have heffect : PortEvent.write s.dxPort w.bytes (s.valueAt w (strSrc s)) :: s.portLog =
      .write (strPort s) w.bytes (s.valueAt w (strSrc s)) :: s.portLog := by rw [hdx, strPort]
  exact ⟨_, (run_bind_ok hcheck _).trans ((run_bind_ok hread _).trans ((run_bind_ok hwrite _).trans (run_modify _ _))),
    hz.trans (stepped_advance _ _ _), gpr_advance hz (sameDirect_of_eq rfl) .si rfl w, heffect, fun _ => rfl, fun _ => rfl, rfl⟩

end

/-! ### The repetition (R523) -/

/-- No element writes the count. -/
theorem StrOp.gpr_cx (op : StrOp) (w : Width) (s : State) : (op.gpr w s).get .cx = s.gpr.get .cx := by
  cases op <;> simp only [StrOp.gpr, State.setReg_gpr] <;> repeat rw [Gpr.get_set_other _ (by decide)]

/-- The state after a counted element. -/
theorem State.repNext_eq (u : State) (b : Bool) : u.repNext b = { u with
    gpr := (u.setReg u.adW .cx (u.reg u.adW .cx - 1)).gpr
    pc := if (trunc u.adW (u.reg u.adW .cx - 1) != 0 && u.repMatches b) = true then u.opLIP - u.cs.base else u.pc } := by
  have hgo : u.repNext b = if (trunc u.adW (u.reg u.adW .cx - 1) != 0 && u.repMatches b) = true
      then (u.setReg u.adW .cx (trunc u.adW (u.reg u.adW .cx - 1))).setPc (u.opLIP - u.cs.base)
      else u.setReg u.adW .cx (trunc u.adW (u.reg u.adW .cx - 1)) := rfl
  rw [hgo, State.setReg_trunc]
  cases trunc u.adW (u.reg u.adW .cx - 1) != 0 && u.repMatches b <;> rfl

theorem State.repMatches_iff (u : State) (b : Bool) : u.repMatches b = true ↔ (b = true → u.flag .zf = u.opPrefixes.repz) := by
  unfold State.repMatches
  cases b <;> cases u.opPrefixes.repz <;> simp

/-- The count is used up by this element exactly if it was 1. -/
theorem trunc_sub_one_ne_zero {w : Width} {c : Word} (hc : trunc w c = c) (h0 : c ≠ 0) : (trunc w (c - 1) != 0) = true ↔ c ≠ 1 := by
  have hlt : c.toNat < 2 ^ w.bits := toNat_lt_of_trunc hc
  have hpos : 0 < c.toNat := Nat.pos_of_ne_zero fun h => h0 (BitVec.eq_of_toNat_eq h)
  have hone : (1 : Word).toNat < 2 ^ w.bits := by cases w <;> decide
  have hval : (trunc w (c - 1)).toNat = c.toNat - 1 := by
    rw [toNat_trunc_sub w c 1 hone, show 2 ^ w.bits + c.toNat - (1 : Word).toNat = c.toNat - 1 + 2 ^ w.bits by
      have : (1 : Word).toNat = 1 := rfl
      omega, Nat.add_mod_right, Nat.mod_eq_of_lt (by omega)]
  rw [bne_iff_ne, ne_eq, ne_eq, ← BitVec.toNat_inj, ← BitVec.toNat_inj, hval]
  have : (1 : Word).toNat = 1 := rfl
  have : (0 : Word).toNat = 0 := rfl
  omega

theorem stringForm_of_performed {s : State} {op : StrOp} {w : Width} {i : Instr} {m : M Unit}
    (hi : exec i s = finish (stringStep op.compares m) s)
    (h : op.accessible w s → ∃ u, m s = .ok () u ∧ Performed op w s u) : StringForm s (op, w, i) := by
  refine ⟨fun hrep h0 => ?zero, fun hgo hacc => ?_⟩
  case zero =>
    refine hi.trans (finish_ok ?_)
    have hrep' : (!(s.opPrefixes.repz || s.opPrefixes.repnz)) = false := by rw [show (_ || _) = true from hrep]; rfl
    rw [stringStep, run_get_bind, hrep', h0]
    rfl
  obtain ⟨u, hrun, hstep, hgpr, heffect⟩ := h hacc
  by_cases hrep : repeated s = true
  case neg =>
    have hrep' : (!(s.opPrefixes.repz || s.opPrefixes.repnz)) = true := by
      rw [show (_ || _) = false from Bool.eq_false_of_not_eq_true hrep]; rfl
    refine ⟨u, hi.trans (finish_ok ?_), ?_, heffect, fun hon => absurd hon.1 hrep, fun _ => hstep.fetched.2.2.1, hstep.sameCore⟩
    · rw [stringStep, run_get_bind, hrep']
      exact hrun
    · rw [if_neg hrep]
      exact hgpr
  case pos =>
    have h0 : s.reg s.adW .cx ≠ 0 := fun h0 => hgo ⟨hrep, h0⟩
    have hrun' : stringStep op.compares m s = .ok () (u.repNext op.compares) := by
      have hrep' : (!(s.opPrefixes.repz || s.opPrefixes.repnz)) = false := by rw [show (_ || _) = true from hrep]; rfl
      rw [stringStep, run_get_bind, hrep', beq_false_of_ne h0]
      exact (run_bind_ok hrun _).trans (run_modify _ _)
    obtain ⟨hadW, hprefixes, hpc, hop, hcs⟩ := hstep.fetched
    have hcx : u.reg u.adW .cx = s.reg s.adW .cx := by rw [State.reg, State.reg, hadW, hgpr, op.gpr_cx]
    have hon : (trunc u.adW (u.reg u.adW .cx - 1) != 0 && u.repMatches op.compares) = true ↔ goesOn op s (u.repNext op.compares) := by
      have hflag : (u.repNext op.compares).flag .zf = u.flag .zf := by rw [u.repNext_eq]; rfl
      have hfits : trunc s.adW (s.reg s.adW .cx) = s.reg s.adW .cx := trunc_trunc _ _
      rw [Bool.and_eq_true, hcx, hadW, trunc_sub_one_ne_zero hfits h0, u.repMatches_iff, hprefixes, goesOn, hflag,
        and_iff_right hrep]
    refine ⟨_, hi.trans (finish_ok hrun'), ?_, ?_, fun h => ?_, fun h => ?_, ?_⟩
    · rw [if_pos hrep, u.repNext_eq, hcx, hadW, ← hgpr]
      rfl
    · rw [u.repNext_eq]
      exact op.effect_congr heffect _ _
    · rw [← hon] at h
      rw [u.repNext_eq, h, hop, hcs]
      rfl
    · rw [← hon] at h
      rw [u.repNext_eq, if_neg h]
      exact hpc
    · rw [u.repNext_eq]
      exact hstep.sameCore

/-- The forms of the operand size (R520). -/
theorem stringFormV_of_performed {s : State} {op : StrOp} {i : Instr} {m : Width → M Unit}
    (hi : exec i s = finish (stringStepV op.compares m) s)
    (h : op.accessible s.opW s → ∃ u, m s.opW s = .ok () u ∧ Performed op s.opW s u) : StringForm s (op, s.opW, i) := by
  refine stringForm_of_performed (m := m s.opW) (hi.trans ?_) h
  rw [finish, stringStepV, run_get_bind, finish]

/-- Settles O21: each element by what it reads and writes, and the repetition around all of them. -/
theorem stringInstructionsComplete : Obligations.StringInstructionsComplete := by
  unfold Obligations.StringInstructionsComplete
  refine ⟨fun s hm => ?_, fun s => ?_, fun s hm => ?_⟩ <;> simp only [List.forall_mem_cons]
  · exact ⟨stringForm_of_performed (op := .movs) (m := movsElement .w8) rfl (performed_movs hm),
      stringFormV_of_performed (op := .movs) (m := movsElement) rfl (performed_movs hm),
      stringForm_of_performed (op := .stos) (m := stosElement .w8) rfl (performed_stos hm),
      stringFormV_of_performed (op := .stos) (m := stosElement) rfl (performed_stos hm),
      stringForm_of_performed (op := .lods) (m := lodsElement .w8) rfl performed_lods,
      stringFormV_of_performed (op := .lods) (m := lodsElement) rfl performed_lods, List.forall_mem_nil _⟩
  · exact ⟨stringForm_of_performed (op := .cmps) (m := cmpsElement .w8) rfl performed_cmps,
      stringFormV_of_performed (op := .cmps) (m := cmpsElement) rfl performed_cmps,
      stringForm_of_performed (op := .scas) (m := scasElement .w8) rfl performed_scas,
      stringFormV_of_performed (op := .scas) (m := scasElement) rfl performed_scas, List.forall_mem_nil _⟩
  · exact ⟨stringForm_of_performed (op := .ins) (m := insElement .w8) rfl (performed_ins hm),
      stringFormV_of_performed (op := .ins) (m := insElement) rfl (performed_ins hm),
      stringForm_of_performed (op := .outs) (m := outsElement .w8) rfl performed_outs,
      stringFormV_of_performed (op := .outs) (m := outsElement) rfl performed_outs, List.forall_mem_nil _⟩

end Sys2Proof.Machine
end

section
/-! INS and OUTS that raise an exception (44_string.md R530, R531, 20_memory.md R107, 21_segmentation.md R175). -/

namespace Sys2Proof.Machine

/-! ### A refused access through a segment (R175) -/

theorem view_check_refused {s : State} {v : View} {off n : Nat} {k : Access}
    (h : v.allows s.cfg.model s.protectedMode off n k = false) : v.check off n k s = raise v.exn s := by
  rw [View.check, run_get_bind, h]
  rfl

theorem State.exn_view (s : State) (q : SReg) : (s.view q).exn = refusedBy q := by cases q <;> rfl

section
variable {s : State} {q : SReg} {off n : Nat}

theorem view_probe_refused (h : s.admits q off n .write = false) : (s.view q).probe off n s = raise (refusedBy q) s := by
  rw [View.probe, run_bind_error ((view_check_refused h).trans rfl), s.exn_view]
  rfl

theorem segRead_refused (h : s.admits q off n .read = false) : segRead q off n s = raise (refusedBy q) s := by
  have hbytes : (s.view q).readBytes off n .read s = raise (refusedBy q) s := by
    rw [View.readBytes, run_bind_error ((view_check_refused h).trans rfl), s.exn_view]
    rfl
  rw [segRead, run_read_bind, View.read, run_bind_error (hbytes.trans rfl)]
  rfl

end

/-! ### An element that raises an exception -/

/-- The operation asks for an exception; it has noted an operand address and read memory, no more. -/
def RaisesOnly (x : Exn) (m : M Unit) (s : State) : Prop :=
  ∃ l e, m s = .error (.exn x) (State.setNoReadWrite { s with busLog := l, regEA := e })

theorem stringStep_raises {s : State} {x : Exn} {m : M Unit} {b : Bool} (h : RaisesOnly x m s)
    (hgo : ¬ (repeated s = true ∧ s.reg s.adW .cx = 0)) : RaisesOnly x (stringStep b m) s := by
  obtain ⟨l, e, hrun⟩ := h
  refine ⟨l, e, ?_⟩
  rw [stringStep, run_get_bind]
  cases hrep : s.opPrefixes.repz || s.opPrefixes.repnz with
  | false => exact hrun
  | true =>
    have h0 : s.reg s.adW .cx ≠ 0 := fun h0 => hgo ⟨hrep, h0⟩
    rw [beq_false_of_ne h0]
    exact run_bind_error hrun _

theorem traps_of_raisesOnly {s : State} {x : Exn} {m : M Unit} {i : Instr} (hi : exec i s = finish m s) (h : RaisesOnly x m s) :
    Traps s x i := by
  obtain ⟨l, e, hrun⟩ := h
  exact ⟨_, hi.trans (finish_exn hrun), rfl, rfl, rfl, rfl, rfl,
    ⟨rfl, rfl, rfl, rfl, rfl, rfl, rfl, rfl, rfl, rfl, rfl, rfl, rfl, rfl, rfl, rfl, rfl, rfl, rfl, rfl⟩,
    ⟨rfl, rfl, rfl, rfl, rfl, rfl, rfl⟩, rfl, rfl⟩

section
variable {s : State} {w : Width}

/-- The port is tested first. -/
theorem elements_raise_port (hp : s.pagingOn = false) (h : ¬ ioAllowed s (strPort s) w.bytes) :
    RaisesOnly (.gp 0) (insElement w) s ∧ RaisesOnly (.gp 0) (outsElement w) s := by
  rw [strPort, ← s.dxPort_eq] at h
  obtain ⟨u, ⟨l, rfl, -⟩, hrun⟩ := ioCheck_refused hp h
  exact ⟨⟨l, s.regEA, run_bind_error hrun _⟩, ⟨l, s.regEA, run_bind_error hrun _⟩⟩

theorem insElement_raises (hport : ioAllowed s (strPort s) w.bytes)
    (h : s.admits .es (s.reg s.adW .di).toNat w.bytes .write = false) : RaisesOnly (.gp 0) (insElement w) s := by
  rw [strPort, ← s.dxPort_eq] at hport
  obtain ⟨u, ⟨l, rfl, -⟩, hcheck⟩ := ioCheck_allowed hport
  have hprobe := view_probe_refused (s := { s with busLog := l }) h
  exact ⟨l, s.regEA, (run_bind_ok hcheck _).trans (run_bind_error hprobe _)⟩

theorem readSource_refused (h : s.admits (s.opPrefixes.seg.getD .ds) (s.reg s.adW .si).toNat w.bytes .read = false) :
    readSource w s = .error (.exn (refusedBy (s.opPrefixes.seg.getD .ds))) (s.captureEA (strSrc s)).setNoReadWrite := by
  have hrun : readSource w s = segRead (s.opPrefixes.seg.getD .ds) (s.reg s.adW .si).toNat w.bytes (s.captureEA (strSrc s)) := rfl
  rw [hrun, segRead_refused (s := s.captureEA (strSrc s)) h]
  rfl

theorem outsElement_raises (hport : ioAllowed s (strPort s) w.bytes)
    (h : s.admits (s.opPrefixes.seg.getD .ds) (s.reg s.adW .si).toNat w.bytes .read = false) :
    RaisesOnly (refusedBy (s.opPrefixes.seg.getD .ds)) (outsElement w) s := by
  rw [strPort, ← s.dxPort_eq] at hport
  obtain ⟨u, ⟨l, rfl, -⟩, hcheck⟩ := ioCheck_allowed hport
  have hread := readSource_refused (s := { s with busLog := l }) h
  refine ⟨l, (s.captureEA (strSrc s)).regEA, ?_⟩
  rw [outsElement, run_get_bind, run_bind_ok hcheck, run_bind_error hread]
  rfl

end

/-- The instructions of the operand size take their element from the state. -/
theorem stringStepV_raises {s : State} {x : Exn} {m : Width → M Unit} {b : Bool} (h : RaisesOnly x (m s.opW) s)
    (hgo : ¬ (repeated s = true ∧ s.reg s.adW .cx = 0)) : RaisesOnly x (stringStepV b m) s := by
  obtain ⟨l, e, hrun⟩ := stringStep_raises (b := b) h hgo
  exact ⟨l, e, by rw [stringStepV, run_get_bind, hrun]⟩

/-- Settles O22: the port check comes first, then the check of the operand, and only then the port access. -/
theorem stringPortsTrap : Obligations.StringPortsTrap := by
  unfold Obligations.StringPortsTrap
  intro s hp hgo
  simp only [List.forall_mem_cons]
  refine ⟨⟨fun h => ?_, fun h => ?_, fun h => ?_, fun h => ?_, List.forall_mem_nil _⟩,
    ⟨fun hport h => ?_, fun hport h => ?_, List.forall_mem_nil _⟩, ⟨fun hport h => ?_, fun hport h => ?_, List.forall_mem_nil _⟩⟩
  · exact traps_of_raisesOnly (m := stringStep false (insElement .w8)) rfl (stringStep_raises (elements_raise_port hp h).1 hgo)
  · exact traps_of_raisesOnly (m := stringStepV false insElement) rfl (stringStepV_raises (elements_raise_port hp h).1 hgo)
  · exact traps_of_raisesOnly (m := stringStep false (outsElement .w8)) rfl (stringStep_raises (elements_raise_port hp h).2 hgo)
  · exact traps_of_raisesOnly (m := stringStepV false outsElement) rfl (stringStepV_raises (elements_raise_port hp h).2 hgo)
  · exact traps_of_raisesOnly (m := stringStep false (insElement .w8)) rfl (stringStep_raises (insElement_raises hport h) hgo)
  · exact traps_of_raisesOnly (m := stringStepV false insElement) rfl (stringStepV_raises (insElement_raises hport h) hgo)
  · exact traps_of_raisesOnly (m := stringStep false (outsElement .w8)) rfl (stringStep_raises (outsElement_raises hport h) hgo)
  · exact traps_of_raisesOnly (m := stringStepV false outsElement) rfl (stringStepV_raises (outsElement_raises hport h) hgo)

end Sys2Proof.Machine
end

section
/-! LLDT and LTR (45_system.md R565, R567, 21_segmentation.md R156, R157). -/

namespace Sys2Proof.Machine

/-! ### The rules of LDTR and TR (R156, R157) -/

/-- What a load of LDTR comes to. -/
def State.ldtVerdict (s : State) (sel : Half) : Except SelFault LdtReg :=
  if sel.toNat < 4 then .ok ⟨sel, 0, 0⟩
  else if sel.getLsbD 2 then .error .type
  else if s.inTable sel then (ruleLdt (s.named sel)).map fun _ => ⟨sel, (s.named sel).base, (s.named sel).limit⟩
  else .error .limit

/-- How an operation that accesses memory only ends, by a verdict: with a change of the state, or with an exception. -/
def EndsAs {α : Type} (s : State) (x : SelFault → Exn) (f : α → State → State) (o : EStateM.Result Stop State Unit) :
    Except SelFault α → Prop
  | .ok a => ∃ u, Accessing s s u ∧ o = .ok () (f a u)
  | .error e => ∃ u, Accessing s s u ∧ o = .error (.exn (x e)) u.setNoReadWrite

section
variable {s v : State} {sel : Half}

theorem Accessing.run_loadLdt (h : Accessing s s v) (hp : s.pagingOn = false) (x : SelFault → Exn) (sel : Half) :
    EndsAs s x State.setLdtr (loadLdt x sel v) (s.ldtVerdict sel) := by
  rw [loadLdt, State.ldtVerdict, selNull_eq]
  by_cases hnull : sel.toNat < 4
  · rw [if_pos (decide_eq_true hnull), if_pos hnull]
    exact ⟨v, h, rfl⟩
  rw [if_neg (by simpa using hnull), if_neg hnull, selTI]
  by_cases hti : sel.getLsbD 2 = true
  · rw [if_pos hti, if_pos hti]
    exact ⟨v, h, rfl⟩
  rw [if_neg hti, if_neg hti]
  obtain ⟨t, hrun, ht⟩ := h.run_testSel hp sel ruleLdt
  rw [run_bind_ok hrun, State.tested, if_neg hnull]
  by_cases hin : s.inTable sel = true
  · rw [if_pos hin, if_pos hin]
    cases ruleLdt (s.named sel) <;> exact ⟨t, ht, rfl⟩
  · rw [if_neg hin, if_neg hin]
    exact ⟨t, ht, rfl⟩

/-- A selector of a system descriptor of the GDT. -/
def State.global (s : State) (sel : Half) : Prop :=
  4 ≤ sel.toNat ∧ sel.getLsbD 2 = false ∧ s.inTable sel = true ∧ (s.named sel).isSegment = false

theorem State.ldtVerdict_null (h : sel.toNat < 4) : s.ldtVerdict sel = .ok ⟨sel, 0, 0⟩ := if_pos h

theorem ruleLdt_eq (d : Desc) : ruleLdt d =
    if d.isSegment = false ∧ d.type = 2 then (if d.present then .ok () else .error .notPresent) else .error .type := by
  rw [ruleLdt]
  cases d.isSegment <;> cases d.present <;> by_cases h2 : d.type = 2 <;> simp [h2]

/-- A descriptor of the GDT decides by its type and its present bit. -/
theorem State.ldtVerdict_global (h : s.global sel) (h2 : (s.named sel).type = 2) : s.ldtVerdict sel =
    if (s.named sel).present then .ok ⟨sel, (s.named sel).base, (s.named sel).limit⟩ else .error .notPresent := by
  obtain ⟨h4, hti, hin, hseg⟩ := h
  rw [State.ldtVerdict, if_neg (by omega), hti, if_neg Bool.false_ne_true, if_pos hin, ruleLdt_eq, if_pos ⟨hseg, h2⟩]
  cases (s.named sel).present <;> rfl

/-- Any other selector is no LDT's. -/
theorem State.ldtVerdict_other (h4 : 4 ≤ sel.toNat) (h : ¬ (s.global sel ∧ (s.named sel).type = 2)) :
    ∃ e, s.ldtVerdict sel = .error e ∧ e ≠ .notPresent ∧ e ≠ .null := by
  rw [State.ldtVerdict, if_neg (by omega)]
  by_cases hti : sel.getLsbD 2 = true
  · exact ⟨.type, if_pos hti, by decide, by decide⟩
  rw [if_neg hti]
  by_cases hin : s.inTable sel = true
  · have htype : ¬ ((s.named sel).isSegment = false ∧ (s.named sel).type = 2) := fun ⟨hseg, h2⟩ =>
      h ⟨⟨h4, Bool.eq_false_of_not_eq_true hti, hin, hseg⟩, h2⟩
    refine ⟨.type, ?_, by decide, by decide⟩
    rw [if_pos hin, ruleLdt_eq, if_neg htype]
    rfl
  · exact ⟨.limit, if_neg hin, by decide, by decide⟩

end

/-! ### LLDT (R565) -/

/-- The test of mode and privilege and the read of the operand, for the instructions that load a system register. -/
theorem operand_of_protected {s : State} {e : RM} (hready : readyProt s) (hl : s.cpl = 0) (hr : s.canRead .w16 (s.rmLoc e))
    (f : Params → Half → M Unit) : (do
      let l ← locE e
      protectedOnly
      privileged
      let s ← get
      let v ← readLoc .w16 l
      f s.cfg (v.setWidth 16)) s = f s.cfg ((s.valueAt .w16 (s.rmLoc e)).setWidth 16) (s.captureEA (s.rmLoc e)) := by
  have hu := prepared_captureEA s (s.rmLoc e)
  show (protectedOnly >>= fun _ => privileged >>= fun _ => get >>= fun t => readLoc .w16 (s.rmLoc e) >>= fun v =>
    f t.cfg (v.setWidth 16)) (s.captureEA (s.rmLoc e)) = _
  rw [run_bind_ok (protectedOnly_of (hu.protectedMode_eq.trans hready.1)), run_bind_ok (privileged_of (hu.mayRule_iff.mpr (.inr hl))),
    run_get_bind, run_bind_ok (readsValue_readLoc hr _ hu)]
  rfl

theorem lldt_run {s : State} {e : RM} (hready : readyProt s) (hl : s.cpl = 0) (hr : s.canRead .w16 (s.rmLoc e)) : lldt e s =
    loadLdt (lldtExn s.cfg.loadFaults ((s.valueAt .w16 (s.rmLoc e)).setWidth 16)) ((s.valueAt .w16 (s.rmLoc e)).setWidth 16)
      (s.captureEA (s.rmLoc e)) :=
  operand_of_protected hready hl hr fun c sel => loadLdt (lldtExn c.loadFaults sel) sel

/-- An instruction that only accessed memory before it asked for an exception. -/
theorem traps_of_accessing {s u : State} {x : Exn} {i : Instr} (h : Accessing s s u) (hi : exec i s = raiseExn x u.setNoReadWrite) :
    Traps s x i := by
  obtain ⟨m, e, w, l, hs, rfl, -⟩ := h
  obtain rfl : s.mem = m := congrArg State.mem hs
  exact ⟨_, hi, rfl, rfl, rfl, rfl, rfl,
    ⟨rfl, rfl, rfl, rfl, rfl, rfl, rfl, rfl, rfl, rfl, rfl, rfl, rfl, rfl, rfl, rfl, rfl, rfl, rfl, rfl⟩,
    ⟨rfl, rfl, rfl, rfl, rfl, rfl, rfl⟩, rfl, rfl⟩

section
variable {s : State} {e : RM} (hready : readyProt s) (hl : s.cpl = 0) (hr : s.canRead .w16 (s.rmLoc e))
include hready hl hr

theorem next_lldt {r : LdtReg} (h : s.ldtVerdict ((s.valueAt .w16 (s.rmLoc e)).setWidth 16) = .ok r) : Next (exec (.lldtEw e) s) fun t =>
    Untouched s t ∧ SameFlags s t ∧ t.pc = s.pc ∧ SameButDevices { s with ldtr := r } t := by
  have hends := ((Accessing.refl s).captureEA (s.rmLoc e)).run_loadLdt hready.2
    (lldtExn s.cfg.loadFaults ((s.valueAt .w16 (s.rmLoc e)).setWidth 16)) ((s.valueAt .w16 (s.rmLoc e)).setWidth 16)
  rw [← lldt_run hready hl hr, h] at hends
  obtain ⟨u, ⟨m, ea, w, l, hs, rfl, hdev⟩, hrun⟩ := hends
  obtain rfl : s.mem = m := congrArg State.mem hs
  exact ⟨_, finish_ok hrun, ⟨rfl, fun _ => rfl⟩, ⟨fun _ => rfl, rfl⟩, rfl, hdev,
    ⟨⟨rfl, rfl, rfl, rfl, rfl, rfl, rfl, rfl, rfl, rfl, rfl, rfl, rfl, rfl, rfl, rfl, rfl, rfl, rfl, rfl⟩,
      ⟨rfl, rfl, rfl, rfl, rfl, rfl, rfl⟩, rfl, rfl, rfl, rfl, rfl⟩⟩

theorem traps_lldt {f : SelFault} (h : s.ldtVerdict ((s.valueAt .w16 (s.rmLoc e)).setWidth 16) = .error f) :
    Traps s (lldtExn s.cfg.loadFaults ((s.valueAt .w16 (s.rmLoc e)).setWidth 16) f) (.lldtEw e) := by
  have hends := ((Accessing.refl s).captureEA (s.rmLoc e)).run_loadLdt hready.2
    (lldtExn s.cfg.loadFaults ((s.valueAt .w16 (s.rmLoc e)).setWidth 16)) ((s.valueAt .w16 (s.rmLoc e)).setWidth 16)
  rw [← lldt_run hready hl hr, h] at hends
  obtain ⟨u, hu, hrun⟩ := hends
  exact traps_of_accessing hu (finish_exn hrun)

end

/-! ### LTR (R567) -/

/-- The TSS descriptors that LTR accepts (R157). -/
def State.availableTss (s : State) (d : Desc) : Prop := d.type = 1 ∨ (d.type = 9 ∧ s.cfg.model.has386 = true)

theorem tssOfType_available {s : State} {d : Desc} (h : s.availableTss d) :
    tssOfType s.cfg.model d.type = some (tssKindOf d, false) := by
  rcases h with h | ⟨h, h386⟩
  · rw [tssKindOf, h]
    rfl
  · rw [tssKindOf, h, tssOfType, if_pos h386]
    rfl

theorem tssOfType_not_available {s : State} {d : Desc} (h : ¬ s.availableTss d) (k : TssKind) :
    tssOfType s.cfg.model d.type ≠ some (k, false) := by
  obtain ⟨h1, h9⟩ := not_or.mp h
  unfold tssOfType
  split
  · exact absurd ‹_› h1
  · simp
  · rw [if_neg fun h386 => h9 ⟨‹_›, h386⟩]
    simp
  · split <;> simp
  · simp

theorem ruleTr_eq (s : State) (d : Desc) (hseg : d.isSegment = false) (h : s.availableTss d) : ruleTr s.cfg.model d =
    if d.present then .ok (tssKindOf d) else .error .notPresent := by
  rw [ruleTr, hseg, if_neg Bool.false_ne_true, tssOfType_available h]

theorem ruleTr_type {s : State} {d : Desc} (h : ¬ (d.isSegment = false ∧ s.availableTss d)) : ruleTr s.cfg.model d = .error .type := by
  rw [ruleTr]
  cases hseg : d.isSegment with
  | true => rfl
  | false =>
    rw [if_neg Bool.false_ne_true]
    split
    · exact absurd ‹_› (tssOfType_not_available (fun ha => h ⟨hseg, ha⟩) _)
    · rfl

/-- What LTR does once its selector is read. -/
def loadTr (c : Params) (sel : Half) : M Unit := do
  ensure (!(selNull sel || selTI sel)) (.gp (selErr 0 sel))
  let p ← orRaise (SelFault.gpNp 0 sel) (← testSel sel (ruleTr c.model))
  sysWrite (p.1.addr + 4) 2 ((p.1.w2 ||| 0x0200).setWidth 32)
  modify (State.setTr ⟨sel, p.1.base, p.1.limit, p.2⟩)

section
variable {s : State} {e : RM} (hready : readyProt s) (hl : s.cpl = 0) (hr : s.canRead .w16 (s.rmLoc e))
include hready hl hr

theorem ltr_run : ltr e s = loadTr s.cfg ((s.valueAt .w16 (s.rmLoc e)).setWidth 16) (s.captureEA (s.rmLoc e)) :=
  operand_of_protected hready hl hr loadTr

end

section
variable {s v : State} {sel : Half} (h : Accessing s s v) (hp : s.pagingOn = false)
include h hp

/-- A selector that names no available TSS of the GDT. -/
theorem Accessing.loadTr_other (hsel : ¬ (s.global sel ∧ s.availableTss (s.named sel))) :
    ∃ u, Accessing s s u ∧ loadTr s.cfg sel v = .error (.exn (.gp (selErr 0 sel))) u.setNoReadWrite := by
  rw [loadTr, selNull_eq, selTI]
  by_cases hnull : sel.toNat < 4
  · rw [decide_eq_true hnull]
    exact ⟨v, h, rfl⟩
  rw [decide_eq_false hnull, Bool.false_or]
  cases hti : sel.getLsbD 2 with
  | true => exact ⟨v, h, rfl⟩
  | false =>
    obtain ⟨t, hrun, ht⟩ := h.run_testSel hp sel (ruleTr s.cfg.model)
    refine ⟨t, ht, ?_⟩
    rw [Bool.not_false, ensure_true, run_pure_bind, run_bind_ok hrun, State.tested, if_neg hnull]
    cases hin : s.inTable sel with
    | false => rfl
    | true =>
      have htype : ¬ ((s.named sel).isSegment = false ∧ s.availableTss (s.named sel)) := fun ⟨hseg, ha⟩ =>
        hsel ⟨⟨by omega, hti, hin, hseg⟩, ha⟩
      rw [if_pos rfl, ruleTr_type htype]
      rfl

/-- The test of an available TSS of the GDT. -/
theorem Accessing.loadTr_global (hsel : s.global sel) (ha : s.availableTss (s.named sel)) : ∃ t, Accessing s s t ∧
    loadTr s.cfg sel v = (orRaise (SelFault.gpNp 0 sel) (if (s.named sel).present then .ok (s.named sel, tssKindOf (s.named sel))
      else .error .notPresent) >>= fun p => sysWrite (p.1.addr + 4) 2 ((p.1.w2 ||| 0x0200).setWidth 32) >>= fun _ =>
        modify (State.setTr ⟨sel, p.1.base, p.1.limit, p.2⟩)) t := by
  obtain ⟨h4, hti, hin, hseg⟩ := hsel
  obtain ⟨t, hrun, ht⟩ := h.run_testSel hp sel (ruleTr s.cfg.model)
  have hnull : ¬ sel.toNat < 4 := by omega
  refine ⟨t, ht, ?_⟩
  rw [loadTr, selNull_eq, selTI, decide_eq_false hnull, hti, Bool.false_or, Bool.not_false, ensure_true, run_pure_bind, run_bind_ok hrun,
    State.tested, if_neg hnull, if_pos hin, ruleTr_eq s _ hseg ha]
  cases (s.named sel).present <;> rfl

end

theorem next_ltr {s : State} {e : RM} (hm : s.mem.wf = true) (hready : readyProt s) (hl : s.cpl = 0) (hr : s.canRead .w16 (s.rmLoc e))
    {sel : Half} (hsel : (s.valueAt .w16 (s.rmLoc e)).setWidth 16 = sel) (hg : s.global sel) (ha : s.availableTss (s.named sel))
    (hpres : (s.named sel).present = true) : Next (exec (.ltrEw e) s) fun t =>
      Stored [(addrs ((s.named sel).addr + 4).toNat 2, ((s.named sel).w2 ||| 0x0200).setWidth 32)] s t ∧ t.gpr = s.gpr ∧
      SameFlags s t ∧ t.pc = s.pc ∧
      SameButDevices { s with tr := ⟨sel, (s.named sel).base, (s.named sel).limit, tssKindOf (s.named sel)⟩ } t := by
  obtain ⟨t, ht, hrun⟩ := ((Accessing.refl s).captureEA (s.rmLoc e)).loadTr_global hready.2 hg ha
  rw [← hsel, ← ltr_run hready hl hr, hsel, hpres, if_pos rfl, orRaise, run_pure_bind] at hrun
  obtain ⟨u, hwrite, hu⟩ := ht.run_sysWrite hready.2 ((s.named sel).addr + 4) 2 (((s.named sel).w2 ||| 0x0200).setWidth 32)
  rw [run_bind_ok hwrite, run_modify] at hrun
  have hmem : SameMemory (written s [(addrs ((s.named sel).addr + 4).toNat 2, ((s.named sel).w2 ||| 0x0200).setWidth 32)])
      (u.setTr ⟨sel, (s.named sel).base, (s.named sel).limit, tssKindOf (s.named sel)⟩) := fun a => congrFun hu.busByte_eq a
  have hstored := stored_of_sameMemory hm hmem
  obtain ⟨m, ea, w, l, -, rfl, hdev⟩ := hu
  exact ⟨_, finish_ok hrun, hstored, rfl, ⟨fun _ => rfl, rfl⟩, rfl, hdev,
    ⟨⟨rfl, rfl, rfl, rfl, rfl, rfl, rfl, rfl, rfl, rfl, rfl, rfl, rfl, rfl, rfl, rfl, rfl, rfl, rfl, rfl⟩,
      ⟨rfl, rfl, rfl, rfl, rfl, rfl, rfl⟩, rfl, rfl, rfl, rfl, rfl⟩⟩

/-- Settles O43: each outcome by the verdict on the selector and its descriptor. -/
theorem systemSelectorLoads : Obligations.SystemSelectorLoads := by
  unfold Obligations.SystemSelectorLoads
  intro s e hm hready hl hr sel d global available
  have hacc := (Accessing.refl s).captureEA (s.rmLoc e)
  have hcode : selErr 0 sel = selCode sel := selErr_zero sel
  have htrap {f : SelFault} (h : s.ldtVerdict sel = .error f) : Traps s (lldtExn s.cfg.loadFaults sel f) (.lldtEw e) :=
    traps_lldt hready hl hr h
  refine ⟨fun hnull _ => ?null, fun hg h2 hpres => ?ldt, fun h4 hno hstyle => ?source, fun h4 hno hstyle => ?intel,
    fun hg h2 hpres hstyle => ?absent, fun hg ha hpres => next_ltr hm hready hl hr rfl hg ha hpres, fun hno => ?noTss,
    fun hg ha hpres => ?absentTss⟩
  case null =>
    have hrun : lldt e s = .ok () ((s.captureEA (s.rmLoc e)).setLdtr ⟨sel, 0, 0⟩) := by
      rw [lldt_run hready hl hr, loadLdt, selNull_eq, if_pos (decide_eq_true hnull)]
      rfl
    exact ⟨_, finish_ok hrun, ⟨rfl, fun _ => rfl⟩, ⟨fun _ => rfl, rfl⟩, rfl,
      ⟨rfl, rfl, rfl, rfl, rfl, rfl, rfl, rfl, rfl, rfl, rfl, rfl, rfl, rfl, rfl, rfl, rfl, rfl, rfl, rfl⟩,
      ⟨rfl, rfl, rfl, rfl, rfl, rfl, rfl⟩, rfl, rfl, rfl, rfl, rfl⟩
  case ldt => exact next_lldt hready hl hr ((State.ldtVerdict_global hg h2).trans (if_pos hpres))
  case source =>
    have hexn (f : SelFault) : lldtExn s.cfg.loadFaults sel f = .ts (selCode sel) := by rw [hstyle, ← hcode]; rfl
    by_cases hg : global ∧ d.type = 2
    · obtain ⟨hg, h2⟩ := hg
      have hv := htrap ((State.ldtVerdict_global hg h2).trans (if_neg fun hpres => hno ⟨hg, h2, hpres⟩))
      rwa [hexn] at hv
    · obtain ⟨f, hf, -⟩ := State.ldtVerdict_other h4 hg
      have hv := htrap hf
      rwa [hexn] at hv
  case intel =>
    obtain ⟨f, hf, hpres, hnull⟩ := State.ldtVerdict_other h4 hno
    have hv := htrap hf
    rw [hstyle] at hv
    cases f with
    | null => exact absurd rfl hnull
    | notPresent => exact absurd rfl hpres
    | limit | type | privilege => rw [← hcode]; exact hv
  case absent =>
    have hv := htrap ((State.ldtVerdict_global hg h2).trans (if_neg (ne_true_of_eq_false hpres)))
    rw [hstyle] at hv
    rw [← hcode]
    exact hv
  case noTss =>
    obtain ⟨u, hu, hrun⟩ := hacc.loadTr_other hready.2 hno
    rw [← hcode]
    exact traps_of_accessing hu (finish_exn ((ltr_run hready hl hr).trans hrun))
  case absentTss =>
    obtain ⟨t, ht, hrun⟩ := hacc.loadTr_global hready.2 hg ha
    rw [show (s.named sel).present = false from hpres] at hrun
    rw [← hcode]
    exact traps_of_accessing ht (finish_exn ((ltr_run hready hl hr).trans hrun))

end Sys2Proof.Machine
end

section
/-! LAR, LSL, VERR, VERW and ARPL (45_system.md R579 to R584). -/

namespace Sys2Proof.Machine

/-! ### The descriptor of a selector (R149, R158) -/

/-- The descriptor that `FetchDesc` finds. -/
def State.fetched? (s : State) (sel : Half) : Option Desc := if s.inTable sel then some (s.named sel) else none

theorem Accessing.run_fetchDesc {s v : State} (h : Accessing s s v) (hp : s.pagingOn = false) (sel : Half) :
    ∃ t, fetchDesc sel v = .ok (s.fetched? sel) t ∧ Accessing s s t := by
  obtain ⟨-, -, -, htable, haddr, -⟩ := h.fields_eq
  rw [fetchDesc, run_get_bind, htable, State.fetched?]
  by_cases hin : s.inTable sel = true
  · obtain ⟨t, hrun, ht⟩ := h.run_readDesc hp (v.descAddr sel)
    rw [if_neg ((inTable_iff s sel).mp hin), if_pos hin]
    refine ⟨t, ?_, ht⟩
    rw [run_bind_ok hrun, haddr]
    rfl
  · rw [if_pos (Decidable.not_not.mp fun hn => hin ((inTable_iff s sel).mpr hn)), if_neg hin]
    exact ⟨v, rfl, h⟩

/-- What a query finds: a null selector names nothing (R158). -/
def State.queried (s : State) (sel : Half) : Option Desc := if sel.toNat < 4 then none else s.fetched? sel

theorem Accessing.run_loadVer {s v : State} (h : Accessing s s v) (hp : s.pagingOn = false) (sel : Half) :
    ∃ t, loadVer sel v = .ok (s.queried sel) t ∧ Accessing s s t := by
  rw [loadVer, State.queried, selNull_eq]
  by_cases hnull : sel.toNat < 4
  · rw [if_pos (decide_eq_true hnull), if_pos hnull]
    exact ⟨v, rfl, h⟩
  · rw [if_neg (by simpa using hnull), if_neg hnull]
    exact h.run_fetchDesc hp sel

theorem State.queried_eq_some {s : State} {sel : Half} {d : Desc} : s.queried sel = some d ↔ found s sel ∧ d = s.named sel := by
  rw [State.queried, State.fetched?, found]
  by_cases hnull : sel.toNat < 4
  · rw [if_pos hnull]
    simp [show ¬ 4 ≤ sel.toNat by omega]
  · cases s.inTable sel <;> simp [hnull, show 4 ≤ sel.toNat by omega, eq_comm]

theorem State.queried_of_found {s : State} {sel : Half} (h : found s sel) : s.queried sel = some (s.named sel) :=
  State.queried_eq_some.mpr ⟨h, rfl⟩

theorem State.queried_of_not_found {s : State} {sel : Half} (h : ¬ found s sel) : s.queried sel = none :=
  Option.eq_none_iff_forall_not_mem.mpr fun _ hd => h (State.queried_eq_some.mp hd).1

/-! ### The tests (R579 to R583) -/

theorem privOk_iff (cpl : BitVec 2) (sel : Half) (d : Desc) : privOk cpl sel d = true ↔ cpl ≤ d.dpl ∧ selRPL sel ≤ d.dpl := by
  rw [privOk, Bool.and_eq_true, decide_eq_true_iff, decide_eq_true_iff]

theorem queryOk_iff (s : State) (sel : Half) (d : Desc) :
    queryOk s.cfg.larConforming s.cpl sel d = true ↔ queryAdmits s sel d := by
  unfold queryOk queryAdmits
  rw [← privOk_iff]
  by_cases h : d.isSegment = true ∧ d.isCode = true ∧ d.conforming = true
  · rw [if_pos h, if_pos (by simpa [and_assoc] using h)]
    cases s.cfg.larConforming <;> simp
  · rw [if_neg h, if_neg (by simpa [and_assoc] using h)]

theorem larType_iff (s : State) (t : Nat) : larType s.cfg.model t = true ↔ t ∈ larTypes s := by
  rw [larType, larTypes]
  cases s.cfg.model.has386 <;> simp [or_assoc]

theorem lslType_iff (s : State) (t : Nat) : lslType s.cfg.model t = true ↔ t ∈ lslTypes s := by
  rw [lslType, lslTypes]
  cases s.cfg.model.has386 <;> simp [or_assoc]

/-! ### What the queries deliver (R580, R581) -/

/-- A number above another in a word. -/
theorem toNat_or_shiftLeft (x y : Word) (k : Nat) (hx : x.toNat < 2 ^ k) (hy : y.toNat * 2 ^ k < 2 ^ 32) :
    (x ||| y <<< k).toNat = y.toNat * 2 ^ k + x.toNat := by
  rw [BitVec.toNat_or, BitVec.toNat_shiftLeft, Nat.shiftLeft_eq, Nat.mod_eq_of_lt hy, Nat.or_comm, ← Nat.shiftLeft_eq,
    Nat.shiftLeft_add_eq_or_of_lt hx]

theorem toNat_half (x : Half) : (x.setWidth 32 : Word).toNat = x.toNat := BitVec.toNat_setWidth_of_le (by decide)

theorem toNat_limit20 (d : Desc) : (d.w0.setWidth 32 ||| ((d.w3.setWidth 32 &&& 0xF) <<< 16) : Word).toNat =
    d.w3.toNat % 16 * 65536 + d.w0.toNat := by
  have hlow : (d.w3.setWidth 32 &&& 0xF : Word).toNat = d.w3.toNat % 16 := by
    rw [BitVec.toNat_and, toNat_half]
    exact Nat.and_two_pow_sub_one_eq_mod d.w3.toNat 4
  have h0 : (d.w0.setWidth 32 : Word).toNat < 2 ^ 16 := by rw [toNat_half]; exact d.w0.isLt
  rw [toNat_or_shiftLeft _ _ _ h0 (by rw [hlow]; omega), hlow, toNat_half]
  rfl

/-- The limit in bytes (R147). -/
theorem Desc.limit_eq (d : Desc) : d.limit = BitVec.ofNat 32 (if d.w3.getLsbD 7
    then (d.w3.toNat % 16 * 65536 + d.w0.toNat) * 4096 + 4095 else d.w3.toNat % 16 * 65536 + d.w0.toNat) := by
  have h20 := toNat_limit20 d
  have hw0 : d.w0.toNat < 65536 := d.w0.isLt
  apply BitVec.eq_of_toNat_eq
  rw [Desc.limit, BitVec.toNat_ofNat]
  cases d.w3.getLsbD 7 with
  | false =>
    rw [if_neg Bool.false_ne_true, if_neg Bool.false_ne_true, h20]
    omega
  | true =>
    rw [if_pos rfl, if_pos rfl, BitVec.or_comm, toNat_or_shiftLeft _ _ 12 (by decide) (by rw [h20]; omega), h20]
    show _ + 4095 = _
    omega

theorem Desc.rights_w32 (d : Desc) : d.rights .w32 = BitVec.ofNat 32 (d.w3.toNat * 65536 + d.w2.toNat) &&& 0x00F0FF00#32 := by
  have hw2 : d.w2.toNat < 65536 := d.w2.isLt
  have hw3 : d.w3.toNat < 65536 := d.w3.isLt
  have hboth : ((d.w3.setWidth 32 <<< 16) ||| d.w2.setWidth 32 : Word) = BitVec.ofNat 32 (d.w3.toNat * 65536 + d.w2.toNat) := by
    apply BitVec.eq_of_toNat_eq
    rw [BitVec.or_comm, toNat_or_shiftLeft _ _ _ (by rw [toNat_half]; exact hw2) (by rw [toNat_half]; omega), toNat_half, toNat_half,
      BitVec.toNat_ofNat]
    omega
  rw [← hboth]
  rfl

/-! ### The instructions -/

/-- What LAR, LSL, VERR and VERW share: the mode is tested, the operand read and its selector handed to `f`. -/
def selectorQuery (e : RM) (f : State → Half → M Unit) : M Unit := do
  let l ← locE e
  protectedOnly
  let s ← get
  let v ← readLoc .w16 l
  f s (v.setWidth 16)

/-- What they do with the descriptor found. -/
def answerDesc (f : State → Half → Desc → M Unit) (s : State) (sel : Half) : M Unit := do
  match ← loadVer sel with
  | none => modify (State.setFlag .zf false)
  | some d => f s sel d

theorem queryLoad_eq (g : Reg) (e : RM) (types : Model → Nat → Bool) (value : Width → Desc → Word) :
    queryLoad g e types value = selectorQuery e (answerDesc fun s sel d =>
      if (d.isSegment || types s.cfg.model d.type) && queryOk s.cfg.larConforming s.cpl sel d
      then modify fun s => (s.setReg s.opW g (trunc s.opW (value s.opW d))).setFlag .zf true
      else modify (State.setFlag .zf false)) := rfl

theorem verify_eq (e : RM) (ok : State → Half → Desc → Bool) :
    verify e ok = selectorQuery e (answerDesc fun s sel d => modify (State.setFlag .zf (ok s sel d))) := rfl

theorem run_selectorQuery {s : State} {e : RM} (hprot : s.protectedMode = true) (hr : s.canRead .w16 (s.rmLoc e))
    (f : State → Half → M Unit) : selectorQuery e f s =
      f (s.captureEA (s.rmLoc e)) ((s.valueAt .w16 (s.rmLoc e)).setWidth 16) (s.captureEA (s.rmLoc e)) := by
  have hu := prepared_captureEA s (s.rmLoc e)
  show (protectedOnly >>= fun _ => get >>= fun t => readLoc .w16 (s.rmLoc e) >>= fun v => f t (v.setWidth 16))
    (s.captureEA (s.rmLoc e)) = _
  rw [run_bind_ok (protectedOnly_of (hu.protectedMode_eq.trans hprot)), run_get_bind, run_bind_ok (readsValue_readLoc hr _ hu)]

/-- What a query leaves: a register may be loaded, and ZF answers. -/
theorem query_answers {s u : State} (hu : Accessing s s u) (g : Gpr) (b : Bool) :
    (State.setFlag .zf b { u with gpr := g }).gpr = g ∧ (State.setFlag .zf b { u with gpr := g }).flag .zf = b ∧
    (∀ f, f ≠ .zf → (State.setFlag .zf b { u with gpr := g }).flag f = s.flag f) ∧
    SameMemory s (State.setFlag .zf b { u with gpr := g }) ∧ SameDirect s (State.setFlag .zf b { u with gpr := g }) ∧
    (State.setFlag .zf b { u with gpr := g }).pc = s.pc ∧ SameButDevices s (State.setFlag .zf b { u with gpr := g }) := by
  obtain ⟨m, e, w, l, hs, rfl, hdev⟩ := hu
  obtain rfl : s.mem = m := congrArg State.mem hs
  exact ⟨rfl, State.flag_setFlag_same _ .zf b, fun f hf => (State.flag_setFlag _ .zf f b).trans (if_neg hf), fun _ => rfl,
    sameDirect_setFlag s .zf b, rfl, hdev,
    ⟨⟨rfl, rfl, rfl, rfl, rfl, rfl, rfl, rfl, rfl, rfl, rfl, rfl, rfl, rfl, rfl, rfl, rfl, rfl, rfl, rfl⟩,
      ⟨rfl, rfl, rfl, rfl, rfl, rfl, rfl⟩, rfl, rfl, rfl, rfl, rfl⟩⟩

/-- A query: `f` answers a Bool about the descriptor found, with the registers it then leaves. -/
theorem queryForm_of_query {s : State} {e : RM} {want : Half → Desc → Prop} {g : Desc → Gpr} {i : Instr}
    {f : State → Half → Desc → M Unit} (hi : exec i s = finish (selectorQuery e (answerDesc f)) s)
    (h : ∀ u t sel d, Accessing s s u → Accessing s s t → ∃ b : Bool, (b = true ↔ want sel d) ∧
      f u sel d t = .ok () (State.setFlag .zf b { t with gpr := if b then g d else s.gpr })) :
    QueryForm s e (fun x => found s x ∧ want x (s.named x)) (fun x => g (s.named x)) i := by
  intro hprot hp hr
  have hu := (Accessing.refl s).captureEA (s.rmLoc e)
  obtain ⟨t, hver, ht⟩ := hu.run_loadVer hp ((s.valueAt .w16 (s.rmLoc e)).setWidth 16)
  have hrun := hi.trans (finish_congr (run_selectorQuery hprot hr (answerDesc f)))
  generalize (s.valueAt .w16 (s.rmLoc e)).setWidth 16 = sel at hver hrun ⊢
  obtain ⟨b, hb, hf⟩ : ∃ b : Bool, (b = true ↔ found s sel ∧ want sel (s.named sel)) ∧
      answerDesc f (s.captureEA (s.rmLoc e)) sel (s.captureEA (s.rmLoc e)) =
        .ok () (State.setFlag .zf b { t with gpr := if b then g (s.named sel) else s.gpr }) := by
    by_cases hfound : found s sel
    · rw [State.queried_of_found hfound] at hver
      obtain ⟨b, hb, hf⟩ := h _ t sel (s.named sel) hu ht
      exact ⟨b, hb.trans (and_iff_right hfound).symm, (run_bind_ok hver _).trans hf⟩
    · rw [State.queried_of_not_found hfound] at hver
      obtain ⟨m, e, w, l, hs, rfl, hdev⟩ := ht
      exact ⟨false, iff_of_false Bool.false_ne_true fun h => hfound h.1, (run_bind_ok hver _).trans rfl⟩
  obtain ⟨hgpr, hzf, hflags, hrest⟩ := query_answers ht (if b then g (s.named sel) else s.gpr) b
  refine ⟨_, hrun.trans (finish_ok hf), fun hok => ⟨?_, ?_⟩, fun hno => ⟨?_, ?_⟩, hflags, hrest⟩
  · rw [hzf, hb.mpr hok]
  · rw [hgpr, if_pos (hb.mpr hok)]
  · rw [hzf, Bool.eq_false_iff]
    exact mt hb.mp hno
  · rw [hgpr, if_neg (mt hb.mp hno)]

/-- LAR and LSL (R580, R581). -/
theorem queryForm_of_queryLoad {s : State} {g : Reg} {e : RM} {types : Model → Nat → Bool} {list : List Nat}
    {value : Width → Desc → Word} {want : Desc → Word} {i : Instr} (hi : exec i s = finish (queryLoad g e types value) s)
    (htypes : ∀ t, types s.cfg.model t = true ↔ t ∈ list) (hvalue : ∀ d, value s.opW d = want d) :
    QueryForm s e (fun x => found s x ∧ ((s.named x).isSegment = true ∨ (s.named x).type ∈ list) ∧ queryAdmits s x (s.named x))
      (fun x => (s.setReg s.opW g (want (s.named x))).gpr) i := by
  refine queryForm_of_query (want := fun x d => (d.isSegment = true ∨ d.type ∈ list) ∧ queryAdmits s x d)
    (g := fun d => (s.setReg s.opW g (want d)).gpr) (hi.trans (congrArg (finish · s) (queryLoad_eq g e types value)))
    fun u t sel d hu ht => ?_
  obtain ⟨hcfg, hcpl, -⟩ := hu.fields_eq
  refine ⟨(d.isSegment || types s.cfg.model d.type) && queryOk s.cfg.larConforming s.cpl sel d, ?_, ?_⟩
  · rw [Bool.and_eq_true, Bool.or_eq_true, htypes, queryOk_iff]
  · rw [hcfg, hcpl]
    obtain ⟨m, e, w, l, hs, rfl, hdev⟩ := ht
    split
    · rename_i hyes
      rw [hyes, ← hvalue, ← s.setReg_trunc]
      rfl
    · rename_i hno
      rw [Bool.eq_false_iff.mpr hno]
      rfl

/-- VERR and VERW (R582, R583). -/
theorem queryForm_of_verify {s : State} {e : RM} {ok : State → Half → Desc → Bool} {want : Half → Desc → Prop} {i : Instr}
    (hi : exec i s = finish (verify e ok) s) (hok : ∀ u sel d, u.cfg = s.cfg → u.cpl = s.cpl → (ok u sel d = true ↔ want sel d)) :
    QueryForm s e (fun x => found s x ∧ want x (s.named x)) (fun _ => s.gpr) i := by
  refine queryForm_of_query (g := fun _ => s.gpr) (hi.trans (congrArg (finish · s) (verify_eq e ok))) fun u t sel d hu ht => ?_
  obtain ⟨hcfg, hcpl, -⟩ := hu.fields_eq
  refine ⟨ok u sel d, hok u sel d hcfg hcpl, ?_⟩
  simp only [ite_self]
  obtain ⟨m, e, w, l, hs, rfl, hdev⟩ := ht
  rfl

theorem verrOk_iff {s u : State} {sel : Half} {d : Desc} (hcfg : u.cfg = s.cfg) (hcpl : u.cpl = s.cpl) : verrOk u sel d = true ↔
    d.isSegment = true ∧ (d.isCode = false ∨ d.rw = true) ∧ queryAdmits s sel d := by
  rw [verrOk, hcfg, hcpl, Bool.and_eq_true, Bool.and_eq_true, Bool.or_eq_true, queryOk_iff, Bool.not_eq_true', and_assoc]

theorem verwOk_iff {s u : State} {sel : Half} {d : Desc} (hcpl : u.cpl = s.cpl) : verwOk u sel d = true ↔
    d.isSegment = true ∧ d.isCode = false ∧ d.rw = true ∧ s.cpl ≤ d.dpl ∧ selRPL sel ≤ d.dpl := by
  rw [verwOk, hcpl, Bool.and_eq_true, Bool.and_eq_true, Bool.and_eq_true, privOk_iff, Bool.not_eq_true', and_assoc, and_assoc]

/-! ### ARPL (R584) -/

/-- The bits that ARPL keeps of a word. -/
theorem and_FFFC_eq {d : Word} (hd : d.toNat < 65536) : d &&& 0xFFFC#32 = (d >>> 2) <<< 2 := by
  refine BitVec.eq_of_getLsbD_eq fun i hi => ?_
  have hmask : ∀ i < 32, (0xFFFC#32).getLsbD i = (decide (2 ≤ i) && decide (i < 16)) := by decide
  have hhigh : 16 ≤ i → d.getLsbD i = false := fun h =>
    Nat.testBit_lt_two_pow (hd.trans_le (Nat.pow_le_pow_right Nat.two_pos h))
  rw [BitVec.getLsbD_and, hmask i hi, BitVec.getLsbD_shiftLeft, BitVec.getLsbD_ushiftRight, decide_eq_true hi, Bool.true_and]
  rcases Nat.lt_or_ge i 2 with h2 | h2
  · simp [h2]
  · rw [Nat.add_sub_cancel' h2]
    rcases Nat.lt_or_ge i 16 with h16 | h16
    · simp [h16, h2, show ¬ i < 2 by omega]
    · simp [hhigh h16]

theorem toNat_and_three (x : Word) : (x &&& 3).toNat = x.toNat % 4 := by
  rw [BitVec.toNat_and]
  exact Nat.and_two_pow_sub_one_eq_mod x.toNat 2

/-- A word with its two lowest bits from another. -/
theorem rplFrom_eq {d : Word} (hd : d.toNat < 65536) (x : Word) :
    (d &&& 0xFFFC#32) ||| (x &&& 3) = BitVec.ofNat 32 (d.toNat - d.toNat % 4 + x.toNat % 4) := by
  have hshift : (d >>> 2).toNat = d.toNat / 4 := by rw [BitVec.toNat_ushiftRight, Nat.shiftRight_eq_div_pow]
  apply BitVec.eq_of_toNat_eq
  rw [and_FFFC_eq hd, BitVec.or_comm, toNat_or_shiftLeft _ _ 2 (by rw [toNat_and_three]; omega) (by omega), hshift, toNat_and_three,
    BitVec.toNat_ofNat]
  omega

theorem next_arpl {s : State} {e : RM} {g : Reg} (hm : s.mem.wf = true) (hprot : s.protectedMode = true)
    (hr : s.canRead .w16 (s.rmLoc e)) (hw : s.canWrite .w16 (s.rmLoc e)) :
    let d := s.valueAt .w16 (s.rmLoc e)
    let x := s.reg .w16 g
    Next (exec (.arplEwGw e g) s) fun t =>
      (if d.toNat % 4 < x.toNat % 4
        then Wrote .w16 (s.rmLoc e) (BitVec.ofNat 32 (d.toNat - d.toNat % 4 + x.toNat % 4)) s t ∧ t.flag .zf = true
        else Untouched s t ∧ t.flag .zf = false) ∧
      (∀ f, f ≠ .zf → t.flag f = s.flag f) ∧ Rest s t := by
  intro d x
  have hu := prepared_captureEA s (s.rmLoc e)
  have hv := hu.checkedAt (s.rmLoc e)
  have hrun : arpl e g s = (if (d &&& 3).toNat < (x &&& 3).toNat then do
      writeLoc .w16 (s.rmLoc e) ((d &&& 0xFFFC#32) ||| (x &&& 3))
      modify (State.setFlag .zf true)
    else modify (State.setFlag .zf false)) ((s.captureEA (s.rmLoc e)).checkedAt (s.rmLoc e)) := by
    refine (run_bind_ok (protectedOnly_of (hu.protectedMode_eq.trans hprot)) _).trans ?_
    exact (run_bind_ok (checkLoc_flat (hu.canWrite hw)) _).trans (run_bind_ok (readsValue_readLoc hr _ hv) _)
  rw [toNat_and_three, toNat_and_three] at hrun
  have hd : d.toNat < 65536 := by
    have htrunc := toNat_trunc .w16 d
    rw [(s.fits_rmLoc .w16 e).trunc_valueAt s] at htrunc
    exact htrunc ▸ Nat.mod_lt _ (Nat.two_pow_pos 16)
  have hzf (u : State) (hfl : u.flag = s.flag) (b : Bool) :
      (u.setFlag .zf b).flag .zf = b ∧ ∀ f, f ≠ .zf → (u.setFlag .zf b).flag f = s.flag f :=
    ⟨u.flag_setFlag_same .zf b, fun f hf => (u.flag_setFlag .zf f b).trans ((if_neg hf).trans (congrFun hfl f))⟩
  by_cases hlt : d.toNat % 4 < x.toNat % 4
  · have hfit := rplFrom_eq hd x
    have htrunc : trunc .w16 (BitVec.ofNat 32 (d.toNat - d.toNat % 4 + x.toNat % 4)) =
        BitVec.ofNat 32 (d.toNat - d.toNat % 4 + x.toNat % 4) := by
      apply BitVec.eq_of_toNat_eq
      rw [toNat_trunc, BitVec.toNat_ofNat, Nat.mod_mod_of_dvd _ (by decide)]
      simp only [Width.bits]
      omega
    rw [if_pos hlt] at hrun
    simp only [if_pos hlt]
    have hput := wrote_reflagged (t := State.setFlag .zf true _) hv hm (s.fits_rmLoc .w16 e) hw 
      htrunc (reflagged_setFlag _ .zf true)
    obtain ⟨hyes, hothers⟩ := hzf _ (hv.putAt_fields .w16 (s.rmLoc e) _).1 true
    refine ⟨_, finish_ok (hrun.trans ?_), ⟨hput.1, hyes⟩, hothers, hput.2⟩
    rw [hfit, run_bind_ok (writeLoc_flat (hv.canWrite hw) _)]
    rfl
  · rw [if_neg hlt] at hrun
    simp only [if_neg hlt]
    obtain ⟨hyes, hothers⟩ := hzf _ hv.fields.2.2.1 false
    have ht := reflagged_setFlag ((s.captureEA (s.rmLoc e)).checkedAt (s.rmLoc e)) .zf false
    exact ⟨_, finish_ok hrun, ⟨hv.untouched ht.gpr_memory, hyes⟩, hothers, rest_of_reflagged hv (.refl _) ht⟩

/-- Settles O44: each query answers in ZF what the Bool it computes says of the descriptor found. -/
theorem protectionQueriesComplete : Obligations.ProtectionQueriesComplete := by
  unfold Obligations.ProtectionQueriesComplete
  constructor
  case left =>
    intro s g e limitOf rightsOf
    have hrights (d : Desc) : d.rights s.opW = rightsOf d := by
      simp only [rightsOf, State.opW]
      cases s.op32 with
      | false => rfl
      | true => exact d.rights_w32
    exact ⟨queryForm_of_queryLoad (value := fun w d => d.rights w) (want := rightsOf) rfl (larType_iff s) hrights,
      queryForm_of_queryLoad (value := fun _ d => d.limit) (want := limitOf) rfl (lslType_iff s) Desc.limit_eq,
      queryForm_of_verify (ok := verrOk) (want := fun x d => d.isSegment = true ∧ (d.isCode = false ∨ d.rw = true) ∧ queryAdmits s x d)
        rfl fun u sel d hcfg hcpl => verrOk_iff hcfg hcpl,
      queryForm_of_verify (ok := verwOk) (want := fun x d => d.isSegment = true ∧ d.isCode = false ∧ d.rw = true ∧
        s.cpl ≤ d.dpl ∧ selRPL x ≤ d.dpl) rfl fun u sel d _ hcpl => verwOk_iff hcpl⟩
  case right =>
    intro s e g hm hprot d x hr hw
    exact next_arpl hm hprot hr hw

end Sys2Proof.Machine
end

section
/-! No step changes the parameters (70_reset_and_hazards.md R720), and none takes memory out of its canonical form. -/

namespace Sys2Proof.Machine

/-- The parameters are `q`, and memory is in canonical form if `b` says so. -/
def Steady (q : Params) (b : Bool) (s : State) : Prop := s.cfg = q ∧ (b = true → s.mem.wf = true)

variable {q : Params} {b : Bool} {α : Type}

theorem stable_steady : Stable (Steady q b) where
  store ops bs s h := ⟨(State.busStore_cfg s ops bs).trans h.1, fun hb => State.busStore_wf ops bs (h.2 hb)⟩
  noted _ _ h := h
  cr2 _ _ h := h
  refused _ h := h

/-- Whatever leaves the frame alone leaves parameters and memory alone. -/
theorem keepsBy_steady {g : State → State} (h : ∀ s, (g s).frame = s.frame) : KeepsBy (Steady q b) g := fun s hs =>
  ⟨(congrArg Frame.cfg (h s)).trans hs.1, fun hb => (congrArg Frame.memory (h s)).trans (hs.2 hb)⟩

/-! ### Operands and the stack -/

theorem steady_setReg {w : Width} {r : Reg} {v : Word} : Keeps (Steady q b) (modify (State.setReg w r v)) :=
  keeps_modify fun _ h => h

theorem steady_commit {k : Stack} : Keeps (Steady q b) k.commit := steady_setReg

theorem steady_peek {k : Stack} {i n : Nat} : Keeps (Steady q b) (k.peek i n) := keeps_stack_peek stable_steady _ _ _

theorem keepsBy_setSeg {r : SReg} {v : SegReg} : KeepsBy (Steady q b) (State.setSeg r v) := fun _ h => by cases r <;> exact h

theorem operands_steady : StableOperands (Steady q b) where
  toStable := stable_steady
  seg _ _ _ := keepsBy_setSeg
  ldtr _ _ h := h
  gpr _ _ _ _ h := h
  capture _ _ h := h
  written _ _ h := h
  gpr8 _ _ _ h := h
  noWrite _ _ h := h

theorem steady_push {w : Width} {v : Word} : Keeps (Steady q b) (push w v) := keeps_push operands_steady.toStableLoads w v
theorem steady_pop {w : Width} : Keeps (Steady q b) (pop w) := keeps_pop operands_steady.toStableLoads w
theorem steady_capture {l : Loc} : Keeps (Steady q b) (capture l) := keeps_capture operands_steady l
theorem steady_locM {m : MemOp} : Keeps (Steady q b) (locM m) := keeps_locM operands_steady m
theorem steady_locE {e : RM} : Keeps (Steady q b) (locE e) := keeps_locE operands_steady e
theorem steady_locE8 {e : RM8} : Keeps (Steady q b) (locE8 e) := keeps_locE8 operands_steady e
theorem steady_locO {off : Word} : Keeps (Steady q b) (locO off) := keeps_locO operands_steady off
theorem steady_noWrite : Keeps (Steady q b) noWrite := keeps_noWrite operands_steady
theorem steady_readLoc {w : Width} {l : Loc} : Keeps (Steady q b) (readLoc w l) := keeps_readLoc operands_steady w l
theorem steady_writeLoc {w : Width} {l : Loc} {v : Word} : Keeps (Steady q b) (writeLoc w l v) :=
  keeps_writeLoc operands_steady w l v
theorem steady_checkLoc {w : Width} {l : Loc} : Keeps (Steady q b) (checkLoc w l) := keeps_checkLoc operands_steady w l

theorem steady_readModifyWrite {w : Width} {l : Loc} {g : State → Word → Word × (State → State)}
    (hg : ∀ s d t, ((g s d).2 t).frame = t.frame) : Keeps (Steady q b) (readModifyWrite w l g) :=
  keeps_readModifyWrite operands_steady w l g fun s d => keepsBy_steady (hg s d)

theorem steady_readFar {m : MemOp} : Keeps (Steady q b) (readFar m) :=
  keeps_bind keeps_get fun _ => keeps_bind steady_locM fun _ => keeps_bind (keeps_segRead stable_steady _ _ _) fun _ =>
    keeps_bind (keeps_segRead stable_steady _ _ _) fun _ => keeps_pure _

theorem steady_storeHalfAt {l : Loc} {v : Half} : Keeps (Steady q b) (storeHalfAt l v) :=
  keeps_bind keeps_get fun _ => by cases l <;> exact steady_writeLoc

theorem steady_storeHalf {e : RM} {v : Half} : Keeps (Steady q b) (storeHalf e v) :=
  keeps_bind steady_locE fun _ => steady_storeHalfAt

/-! ### Arithmetic, logic and shifts -/

theorem steady_alu {op : Alu} {w : Width} {dst : Loc} {src : M Word} (hs : Keeps (Steady q b) src) :
    Keeps (Steady q b) (alu op w dst src) :=
  keeps_bind (keeps_ite steady_checkLoc steady_noWrite) fun _ => keeps_bind steady_readLoc fun _ =>
    keeps_bind hs fun _ => keeps_bind keeps_get fun _ => keeps_bind (keeps_whenM steady_writeLoc) fun _ =>
      keeps_modify (keepsBy_steady (op.frame_flags _ _ _ _))

theorem steady_aluEbGb {op : Alu} {e : RM8} {g : Reg8} : Keeps (Steady q b) (aluEbGb op e g) :=
  keeps_bind steady_locE8 fun _ => steady_alu steady_readLoc
theorem steady_aluGbEb {op : Alu} {g : Reg8} {e : RM8} : Keeps (Steady q b) (aluGbEb op g e) :=
  keeps_bind steady_locE8 fun _ => steady_alu steady_readLoc
theorem steady_aluALIb {op : Alu} {ib : Byte} : Keeps (Steady q b) (aluALIb op ib) := steady_alu (keeps_pure _)
theorem steady_aluEbIb {op : Alu} {e : RM8} {ib : Byte} : Keeps (Steady q b) (aluEbIb op e ib) :=
  keeps_bind steady_locE8 fun _ => steady_alu (keeps_pure _)
theorem steady_aluEvGv {op : Alu} {e : RM} {g : Reg} : Keeps (Steady q b) (aluEvGv op e g) :=
  keeps_bind keeps_get fun _ => keeps_bind steady_locE fun _ => steady_alu steady_readLoc
theorem steady_aluGvEv {op : Alu} {g : Reg} {e : RM} : Keeps (Steady q b) (aluGvEv op g e) :=
  keeps_bind keeps_get fun _ => keeps_bind steady_locE fun _ => steady_alu steady_readLoc
theorem steady_aluEAXIv {op : Alu} {iv : Word} : Keeps (Steady q b) (aluEAXIv op iv) :=
  keeps_bind keeps_get fun _ => steady_alu (keeps_pure _)
theorem steady_aluEvIv {op : Alu} {e : RM} {iv : Word} : Keeps (Steady q b) (aluEvIv op e iv) :=
  keeps_bind keeps_get fun _ => keeps_bind steady_locE fun _ => steady_alu (keeps_pure _)
theorem steady_aluEvIbs {op : Alu} {e : RM} {ib : Byte} : Keeps (Steady q b) (aluEvIbs op e ib) :=
  keeps_bind keeps_get fun _ => keeps_bind steady_locE fun _ => steady_alu (keeps_pure _)

theorem steady_unary {op : Unary} {w : Width} {l : Loc} : Keeps (Steady q b) (unary op w l) :=
  steady_readModifyWrite fun _ _ _ => op.frame_flags ..
theorem steady_unaryEb {op : Unary} {e : RM8} : Keeps (Steady q b) (unaryEb op e) :=
  keeps_bind steady_locE8 fun _ => steady_unary
theorem steady_unaryEv {op : Unary} {e : RM} : Keeps (Steady q b) (unaryEv op e) :=
  keeps_bind keeps_get fun _ => keeps_bind steady_locE fun _ => steady_unary
theorem steady_unaryR {op : Unary} {r : Reg} : Keeps (Steady q b) (unaryR op r) := keeps_bind keeps_get fun _ => steady_unary

theorem steady_mul {w : Width} {sgn : Bool} {l : Loc} : Keeps (Steady q b) (mul w sgn l) :=
  keeps_bind steady_readLoc fun _ => keeps_modify (keepsBy_steady fun s => by simp)
theorem steady_mulEb {sgn : Bool} {e : RM8} : Keeps (Steady q b) (mulEb sgn e) :=
  keeps_bind steady_locE8 fun _ => steady_mul
theorem steady_mulEv {sgn : Bool} {e : RM} : Keeps (Steady q b) (mulEv sgn e) :=
  keeps_bind keeps_get fun _ => keeps_bind steady_locE fun _ => steady_mul
theorem steady_imulTo {g : Reg} {e : RM} {m : State → Word} : Keeps (Steady q b) (imulTo g e m) :=
  keeps_bind keeps_get fun _ => keeps_bind steady_locE fun _ => keeps_bind steady_readLoc fun _ =>
    keeps_modify (keepsBy_steady fun s => by simp)

theorem steady_divide {w : Width} {sgn : Bool} {l : Loc} : Keeps (Steady q b) (divide w sgn l) := by
  refine keeps_bind steady_readLoc fun d => keeps_bind keeps_get fun s => ?_
  dsimp only
  split
  · exact keeps_raise' stable_steady _
  · exact keeps_modify (keepsBy_steady fun s => by simp)
theorem steady_divideEb {sgn : Bool} {e : RM8} : Keeps (Steady q b) (divideEb sgn e) :=
  keeps_bind steady_locE8 fun _ => steady_divide
theorem steady_divideEv {sgn : Bool} {e : RM} : Keeps (Steady q b) (divideEv sgn e) :=
  keeps_bind keeps_get fun _ => keeps_bind steady_locE fun _ => steady_divide

theorem steady_aam {ib : Byte} : Keeps (Steady q b) (aam ib) :=
  keeps_bind (keeps_ensure' stable_steady _ _) fun _ => keeps_modify (keepsBy_steady fun s => by simp)

theorem steady_shift {op : ShiftOp} {w : Width} {l : Loc} {c : Nat} : Keeps (Steady q b) (shift op w l c) :=
  steady_readModifyWrite fun s d t => by split <;> simp
theorem steady_shiftEb {op : ShiftOp} {k : ShiftBy} {e : RM8} : Keeps (Steady q b) (shiftEb op k e) :=
  keeps_bind keeps_get fun _ => keeps_bind steady_locE8 fun _ => steady_shift
theorem steady_shiftEv {op : ShiftOp} {k : ShiftBy} {e : RM} : Keeps (Steady q b) (shiftEv op k e) :=
  keeps_bind keeps_get fun _ => keeps_bind steady_locE fun _ => steady_shift
theorem steady_shiftDst {op : ShiftOp} {k : ShiftBy} {d : ShiftDst} : Keeps (Steady q b) (shiftDst op k d) := by
  cases d with
  | eb e => exact steady_shiftEb
  | ev e => exact steady_shiftEv
theorem steady_doubleShift {left : Bool} {e : RM} {g : Reg} {k : ShiftBy} : Keeps (Steady q b) (doubleShift left e g k) :=
  keeps_bind keeps_get fun _ => keeps_bind steady_locE fun _ => steady_readModifyWrite fun s d t => by split <;> simp

/-! ### Bits -/

theorem steady_bitAt {op : BitOp} {w : Width} {l : Loc} {n : Nat} : Keeps (Steady q b) (bitAt op w l n) :=
  keeps_ite
    (keeps_bind steady_noWrite fun _ => keeps_bind steady_readLoc fun _ => keeps_modify (keepsBy_steady fun s => by simp))
    (steady_readModifyWrite fun s d t => by simp)
theorem steady_bitIb {op : BitOp} {e : RM} {ib : Byte} : Keeps (Steady q b) (bitIb op e ib) :=
  keeps_bind keeps_get fun _ => keeps_bind steady_locE fun _ => steady_bitAt
theorem steady_bitGv {op : BitOp} {e : RM} {g : Reg} : Keeps (Steady q b) (bitGv op e g) :=
  keeps_bind keeps_get fun _ => keeps_bind steady_capture fun _ => steady_bitAt
theorem steady_bitScan {up : Bool} {g : Reg} {e : RM} : Keeps (Steady q b) (bitScan up g e) :=
  keeps_bind keeps_get fun _ => keeps_bind steady_locE fun _ => keeps_bind steady_readLoc fun _ =>
    keeps_modify (keepsBy_steady fun s => by simp)
theorem steady_setcc {c : Cond} {e : RM8} : Keeps (Steady q b) (setcc c e) :=
  keeps_bind keeps_get fun _ => keeps_bind steady_locE8 fun _ => steady_writeLoc

/-! ### Moves -/

theorem steady_move {w : Width} {dst src : Loc} : Keeps (Steady q b) (move w dst src) :=
  keeps_bind steady_readLoc fun _ => steady_writeLoc
theorem steady_moveToE8 {e : RM8} {src : Loc} : Keeps (Steady q b) (moveToE8 e src) :=
  keeps_bind steady_locE8 fun _ => steady_move
theorem steady_moveFromE8 {dst : Loc} {e : RM8} : Keeps (Steady q b) (moveFromE8 dst e) :=
  keeps_bind steady_locE8 fun _ => steady_move
theorem steady_moveToE {e : RM} {g : Reg} : Keeps (Steady q b) (moveToE e g) :=
  keeps_bind keeps_get fun _ => keeps_bind steady_locE fun _ => steady_move
theorem steady_moveFromE {g : Reg} {e : RM} : Keeps (Steady q b) (moveFromE g e) :=
  keeps_bind keeps_get fun _ => keeps_bind steady_locE fun _ => steady_move
theorem steady_moveOffset {w : Width} {acc : Loc} {off : Word} {store : Bool} : Keeps (Steady q b) (moveOffset w acc off store) :=
  keeps_bind steady_locO fun _ => keeps_ite steady_move steady_move
theorem steady_moveImmE8 {e : RM8} {v : Word} : Keeps (Steady q b) (moveImmE8 e v) :=
  keeps_bind steady_locE8 fun _ => steady_writeLoc
theorem steady_moveImmE {e : RM} {v : Word} : Keeps (Steady q b) (moveImmE e v) :=
  keeps_bind keeps_get fun _ => keeps_bind steady_locE fun _ => steady_writeLoc
theorem steady_moveFromSeg {e : RM} {r : SReg} : Keeps (Steady q b) (moveFromSeg e r) :=
  keeps_bind keeps_get fun _ => steady_storeHalf

theorem steady_exchange {w : Width} {l g : Loc} : Keeps (Steady q b) (exchange w l g) :=
  keeps_bind steady_checkLoc fun _ => keeps_bind steady_readLoc fun _ => keeps_bind steady_readLoc fun _ =>
    keeps_bind steady_writeLoc fun _ => steady_writeLoc
theorem steady_exchangeE8 {e : RM8} {g : Reg8} : Keeps (Steady q b) (exchangeE8 e g) :=
  keeps_bind steady_locE8 fun _ => steady_exchange
theorem steady_exchangeE {e : RM} {g : Reg} : Keeps (Steady q b) (exchangeE e g) :=
  keeps_bind keeps_get fun _ => keeps_bind steady_locE fun _ => steady_exchange
theorem steady_exchangeAcc {r : Reg} : Keeps (Steady q b) (exchangeAcc r) := keeps_bind keeps_get fun _ => steady_exchange

theorem steady_lea {g : Reg} {e : RM} : Keeps (Steady q b) (lea g e) := by
  cases e with
  | reg r => exact keeps_bind keeps_get fun _ => keeps_ite (keeps_raise' stable_steady _) (keeps_refuse _)
  | mem m => exact keeps_bind keeps_get fun _ => keeps_bind steady_capture fun _ => steady_setReg

theorem steady_xlat : Keeps (Steady q b) xlat :=
  keeps_bind keeps_get fun _ => keeps_bind steady_capture fun _ => keeps_bind steady_readLoc fun _ =>
    keeps_modify fun _ h => h

theorem steady_extendByte {sgn : Bool} {g : Reg} {e : RM8} : Keeps (Steady q b) (extendByte sgn g e) :=
  keeps_bind keeps_get fun _ => keeps_bind steady_locE8 fun _ => keeps_bind steady_readLoc fun _ => steady_setReg
theorem steady_extendWord {sgn : Bool} {g : Reg} {e : RM} : Keeps (Steady q b) (extendWord sgn g e) :=
  keeps_bind keeps_get fun _ => keeps_bind steady_locE fun _ => keeps_bind steady_readLoc fun _ => steady_setReg

/-! ### The stack instructions -/

theorem steady_pushReg {r : Reg} : Keeps (Steady q b) (pushReg r) := keeps_bind keeps_get fun _ => steady_push
theorem steady_pushE {e : RM} : Keeps (Steady q b) (pushE e) := by
  cases e with
  | reg r => exact keeps_bind steady_locE fun _ => steady_pushReg
  | mem m => exact keeps_bind keeps_get fun _ => keeps_bind steady_locM fun _ => keeps_bind steady_readLoc fun _ =>
      steady_push
theorem steady_pushImm {v : State → Word} : Keeps (Steady q b) (pushImm v) := keeps_bind keeps_get fun _ => steady_push
theorem steady_pushSeg {r : SReg} : Keeps (Steady q b) (pushSeg r) := keeps_bind keeps_get fun _ => steady_push
theorem steady_popReg {r : Reg} : Keeps (Steady q b) (popReg r) :=
  keeps_bind keeps_get fun _ => keeps_bind steady_pop fun _ => steady_setReg
theorem steady_popE {e : RM} : Keeps (Steady q b) (popE e) := by
  cases e with
  | reg r => exact keeps_bind steady_locE fun _ => steady_popReg
  | mem m => exact keeps_bind keeps_get fun _ => keeps_bind steady_peek fun _ =>
      keeps_bind steady_capture fun _ => keeps_bind steady_writeLoc fun _ => steady_commit

theorem steady_pushAllRegs : Keeps (Steady q b) pushAllRegs :=
  keeps_bind keeps_get fun _ => keeps_bind (keeps_stack_pushAll stable_steady _ _ _) fun _ => steady_commit

theorem steady_popAllRegs : Keeps (Steady q b) popAllRegs :=
  keeps_bind keeps_get fun _ => keeps_bind steady_peek fun _ => keeps_bind steady_peek fun _ => keeps_bind steady_peek fun _ =>
    keeps_bind steady_peek fun _ => keeps_bind steady_peek fun _ => keeps_bind steady_peek fun _ => keeps_bind steady_peek fun _ =>
      keeps_bind steady_peek fun _ => keeps_bind steady_commit fun _ => keeps_modify (keepsBy_steady fun s => by simp)

theorem steady_copyFrames {w : Width} : ∀ {n : Nat} {bp : Word} {k : Stack}, Keeps (Steady q b) (copyFrames w n bp k)
  | 0, _, _ => keeps_pure _
  | _ + 1, _, _ => keeps_bind (keeps_view_read stable_steady _ _ _ _) fun _ =>
      keeps_bind (keeps_stack_push stable_steady _ _ _) fun _ => steady_copyFrames

theorem steady_enterLevels {w : Width} {level : Nat} {bp frame : Word} {k : Stack} :
    Keeps (Steady q b) (enterLevels w level bp frame k) := by
  cases level with
  | zero => exact keeps_pure _
  | succ n => exact keeps_bind steady_copyFrames fun _ => keeps_stack_push stable_steady _ _ _

theorem steady_enter {iw : Half} {ib : Byte} : Keeps (Steady q b) (enter iw ib) :=
  keeps_bind keeps_get fun _ => keeps_bind (keeps_stack_push stable_steady _ _ _) fun _ => keeps_bind steady_enterLevels fun _ =>
    keeps_bind (keeps_modify fun _ h => h) fun _ => steady_commit

theorem steady_leave : Keeps (Steady q b) leave :=
  keeps_bind keeps_get fun _ => keeps_bind steady_peek fun _ => keeps_bind steady_commit fun _ =>
    steady_setReg

/-! ### Ports and string elements -/

theorem steady_ioRead {port : Half} {w : Width} : Keeps (Steady q b) (ioRead port w) := fun s h =>
  keepsBy_steady (fun t => t.frame_portAnswer port w) s h
theorem steady_ioWrite {port : Half} {w : Width} {v : Word} : Keeps (Steady q b) (ioWrite port w v) := keeps_modify fun _ h => h
theorem steady_input {w : Width} {port : Half} {dst : Loc} : Keeps (Steady q b) (input w port dst) :=
  keeps_bind (keeps_ioCheck stable_steady _ _) fun _ => keeps_bind steady_ioRead fun _ => steady_writeLoc
theorem steady_output {w : Width} {port : Half} {src : Loc} : Keeps (Steady q b) (output w port src) :=
  keeps_bind (keeps_ioCheck stable_steady _ _) fun _ => keeps_bind steady_readLoc fun _ => steady_ioWrite

theorem steady_readSource {w : Width} : Keeps (Steady q b) (readSource w) :=
  keeps_bind keeps_get fun _ => keeps_bind steady_capture fun _ => steady_readLoc
theorem steady_readDest {w : Width} : Keeps (Steady q b) (readDest w) :=
  keeps_bind keeps_get fun _ => keeps_bind steady_capture fun _ => steady_readLoc
theorem steady_writeDest {w : Width} {v : Word} : Keeps (Steady q b) (writeDest w v) :=
  keeps_bind keeps_get fun _ => keeps_bind steady_capture fun _ => steady_writeLoc

theorem steady_movsElement {w : Width} : Keeps (Steady q b) (movsElement w) :=
  keeps_bind steady_readSource fun _ => keeps_bind steady_writeDest fun _ => keeps_modify fun _ h => h
theorem steady_cmpsElement {w : Width} : Keeps (Steady q b) (cmpsElement w) :=
  keeps_bind steady_readSource fun _ => keeps_bind steady_readDest fun _ =>
    keeps_modify (keepsBy_steady fun s => by simp)
theorem steady_scasElement {w : Width} : Keeps (Steady q b) (scasElement w) :=
  keeps_bind steady_readDest fun _ => keeps_modify (keepsBy_steady fun s => by simp)
theorem steady_lodsElement {w : Width} : Keeps (Steady q b) (lodsElement w) :=
  keeps_bind steady_readSource fun _ => keeps_modify fun _ h => h
theorem steady_stosElement {w : Width} : Keeps (Steady q b) (stosElement w) :=
  keeps_bind keeps_get fun _ => keeps_bind steady_writeDest fun _ => keeps_modify fun _ h => h
theorem steady_insElement {w : Width} : Keeps (Steady q b) (insElement w) :=
  keeps_bind keeps_get fun _ => keeps_bind (keeps_ioCheck stable_steady _ _) fun _ =>
    keeps_bind (keeps_view_probe stable_steady _ _ _) fun _ => keeps_bind steady_ioRead fun _ =>
      keeps_bind steady_writeDest fun _ => keeps_modify fun _ h => h
theorem steady_outsElement {w : Width} : Keeps (Steady q b) (outsElement w) :=
  keeps_bind keeps_get fun _ => keeps_bind (keeps_ioCheck stable_steady _ _) fun _ => keeps_bind steady_readSource fun _ =>
    keeps_bind steady_ioWrite fun _ => keeps_modify fun _ h => h

/-! ### PS, privilege and the system registers -/

theorem steady_pushFlags : Keeps (Steady q b) pushFlags := keeps_bind keeps_get fun _ => steady_push
theorem steady_popFlags : Keeps (Steady q b) popFlags :=
  keeps_bind keeps_get fun s => keeps_bind steady_pop fun v =>
    keeps_modify (keepsBy_steady fun t => t.frame_setPS v s.popfWritable_vm)
theorem steady_ioplCheck : Keeps (Steady q b) ioplCheck := keeps_bind keeps_get fun _ => keeps_ensure' stable_steady _ _
theorem steady_privileged : Keeps (Steady q b) privileged := keeps_bind keeps_get fun _ => keeps_ensure' stable_steady _ _
theorem steady_protectedOnly : Keeps (Steady q b) protectedOnly := keeps_bind keeps_get fun _ => keeps_ensure' stable_steady _ _

theorem steady_setDirect {v : Bool} {m : Word} (h : m.getLsbD 17 = false) : Keeps (Steady q b) (modify (State.setDirect m v)) :=
  keeps_modify (keepsBy_steady fun s => s.frame_setDirect v h)
theorem steady_cli : Keeps (Steady q b) cli := keeps_bind steady_ioplCheck fun _ => steady_setDirect (by decide)
theorem steady_sti : Keeps (Steady q b) sti :=
  keeps_bind steady_ioplCheck fun _ => keeps_modify (keepsBy_steady fun s => s.frame_setDirect true (by decide))

theorem steady_readTable {m : MemOp} : Keeps (Steady q b) (readTable m) :=
  keeps_bind keeps_get fun _ => keeps_bind steady_locM fun _ => keeps_bind steady_privileged fun _ =>
    keeps_bind (keeps_segRead stable_steady _ _ _) fun _ => keeps_bind (keeps_segRead stable_steady _ _ _) fun _ => keeps_pure _
theorem steady_lgdt {m : MemOp} : Keeps (Steady q b) (lgdt m) :=
  keeps_bind steady_readTable fun _ => keeps_modify fun _ h => h
theorem steady_lidt {m : MemOp} : Keeps (Steady q b) (lidt m) :=
  keeps_bind steady_readTable fun _ => keeps_modify fun _ h => h
theorem steady_storeTable {m : MemOp} {t : State → TableReg} : Keeps (Steady q b) (storeTable m t) :=
  keeps_bind keeps_get fun _ => keeps_bind steady_locM fun _ => keeps_bind (keeps_view_probe stable_steady _ _ _) fun _ =>
    keeps_bind (keeps_view_probe stable_steady _ _ _) fun _ => keeps_bind (keeps_modify fun _ h => h) fun _ =>
      keeps_bind (keeps_view_write stable_steady _ _ _ _) fun _ => keeps_view_write stable_steady _ _ _ _

theorem steady_loadLdt {x : SelFault → Exn} {sel : Half} : Keeps (Steady q b) (loadLdt x sel) :=
  keeps_loadLdt operands_steady.toStableLoads x sel
theorem steady_lldt {e : RM} : Keeps (Steady q b) (lldt e) :=
  keeps_bind steady_locE fun _ => keeps_bind steady_protectedOnly fun _ => keeps_bind steady_privileged fun _ =>
    keeps_bind keeps_get fun _ => keeps_bind steady_readLoc fun _ => steady_loadLdt
theorem steady_storeSel {e : RM} {sel : State → Half} : Keeps (Steady q b) (storeSel e sel) :=
  keeps_bind steady_locE fun _ => keeps_bind steady_protectedOnly fun _ => keeps_bind keeps_get fun _ => steady_storeHalfAt
theorem steady_ltr {e : RM} : Keeps (Steady q b) (ltr e) :=
  keeps_bind steady_locE fun _ => keeps_bind steady_protectedOnly fun _ => keeps_bind steady_privileged fun _ =>
    keeps_bind keeps_get fun _ => keeps_bind steady_readLoc fun _ => keeps_bind (keeps_ensure' stable_steady _ _) fun _ =>
      keeps_bind (keeps_testSel stable_steady _ _) fun _ => keeps_bind (keeps_orRaise stable_steady _ _) fun _ =>
        keeps_bind (keeps_sysWrite stable_steady _ _ _) fun _ => keeps_modify fun _ h => h

theorem steady_smsw {e : RM} : Keeps (Steady q b) (smsw e) := keeps_bind keeps_get fun _ => steady_storeHalf

theorem steady_moveFromCr {r : Reg} {n : BitVec 3} : Keeps (Steady q b) (moveFromCr r n) := by
  refine keeps_bind steady_privileged fun _ => keeps_bind keeps_get fun s => ?_
  split
  · exact keeps_raise' stable_steady _
  · exact keeps_modify (keepsBy_steady fun s => by simp)
theorem steady_moveFromDr {r : Reg} {n : BitVec 3} : Keeps (Steady q b) (moveFromDr r n) :=
  keeps_bind steady_privileged fun _ => keeps_modify (keepsBy_steady fun s => by simp)
theorem steady_moveToDr {n : BitVec 3} {r : Reg} : Keeps (Steady q b) (moveToDr n r) :=
  keeps_bind steady_privileged fun _ => keeps_modify (keepsBy_steady fun s => by simp)

/-! ### Protection queries -/

theorem steady_loadVer {sel : Half} : Keeps (Steady q b) (loadVer sel) := keeps_ite (keeps_pure _) (keeps_fetchDesc stable_steady _)

theorem steady_setZf {v : Bool} : Keeps (Steady q b) (modify (State.setFlag .zf v)) :=
  keeps_modify (keepsBy_steady fun s => s.frame_setFlag .zf v)

theorem steady_queryLoad {g : Reg} {e : RM} {types : Model → Nat → Bool} {value : Width → Desc → Word} :
    Keeps (Steady q b) (queryLoad g e types value) := by
  refine keeps_bind steady_locE fun _ => keeps_bind steady_protectedOnly fun _ => keeps_bind keeps_get fun _ =>
    keeps_bind steady_readLoc fun _ => keeps_bind steady_loadVer fun d => ?_
  cases d with
  | none => exact steady_setZf
  | some d => exact keeps_ite (keeps_modify (keepsBy_steady fun s => by simp)) steady_setZf

theorem steady_verify {e : RM} {ok : State → Half → Desc → Bool} : Keeps (Steady q b) (verify e ok) := by
  refine keeps_bind steady_locE fun _ => keeps_bind steady_protectedOnly fun _ => keeps_bind keeps_get fun _ =>
    keeps_bind steady_readLoc fun _ => keeps_bind steady_loadVer fun d => ?_
  cases d <;> exact steady_setZf

theorem steady_arpl {e : RM} {g : Reg} : Keeps (Steady q b) (arpl e g) :=
  keeps_bind steady_locE fun _ => keeps_bind steady_protectedOnly fun _ => keeps_bind keeps_get fun _ =>
    keeps_bind steady_checkLoc fun _ => keeps_bind steady_readLoc fun _ =>
      keeps_ite (keeps_bind steady_writeLoc fun _ => steady_setZf) steady_setZf

/-! ### HLT, WAIT, ESC, undefined encodings, BOUND -/

theorem steady_halt : Keeps (Steady q b) halt := keeps_bind steady_privileged fun _ => keeps_modify fun _ h => h
theorem steady_waitCoprocessor : Keeps (Steady q b) waitCoprocessor := keeps_bind keeps_get fun _ => keeps_ensure' stable_steady _ _

theorem steady_copRead {l : Loc} {n : Nat} : Keeps (Steady q b) (copRead l n) := by
  unfold copRead
  split
  · exact keeps_bind (keeps_read _) fun _ => keeps_view_readBytes stable_steady _ _ _ _
  · exact keeps_pure _

theorem steady_copWrite {l : Loc} {bs : List Byte} : Keeps (Steady q b) (copWrite l bs) := by
  cases bs with
  | nil => exact keeps_pure _
  | cons b bs =>
    cases l with
    | mem seg off => exact keeps_bind (keeps_modify fun _ h => h) fun _ => keeps_bind (keeps_read _) fun _ =>
        keeps_view_writeBytes stable_steady _ _ _
    | byteReg r => exact keeps_pure _
    | reg r => exact keeps_pure _

theorem steady_coprocess {n reg : BitVec 3} {o : CopOperand} {l : Loc} : Keeps (Steady q b) (coprocess n reg o l) :=
  keeps_bind keeps_get fun _ => keeps_ite
    (keeps_bind (keeps_modify fun _ h => h) fun _ => keeps_raise' stable_steady _)
    (keeps_bind steady_copRead fun _ => keeps_bind steady_copWrite fun _ =>
      keeps_modify (keepsBy_steady fun s => by simp))

theorem steady_escape {n reg : BitVec 3} {e : RM} : Keeps (Steady q b) (Machine.escape n reg e) := by
  refine keeps_bind keeps_get fun s => keeps_bind steady_locE fun l => keeps_bind (keeps_ensure' stable_steady _ _) fun _ => ?_
  cases s.cfg.coprocessor with
  | none => exact keeps_pure _
  | attached => exact steady_coprocess

theorem steady_undefinedOpcode : Keeps (Steady q b) undefinedOpcode :=
  keeps_bind keeps_get fun _ => keeps_ite (keeps_raise' stable_steady _) (keeps_refuse _)

theorem steady_bound {g : Reg} {m : MemOp} : Keeps (Steady q b) (bound g m) :=
  keeps_bind keeps_get fun _ => keeps_bind steady_locM fun _ => keeps_bind (keeps_segRead stable_steady _ _ _) fun _ =>
    keeps_bind (keeps_segRead stable_steady _ _ _) fun _ => keeps_ensure' stable_steady _ _

/-! ### Segment registers -/

theorem keepsBy_realLoad {r : SReg} {sel : Half} : KeepsBy (Steady q b) (State.realLoad r sel) := fun s h =>
  keepsBy_ite (p := Steady q b) (c := fun _ => r = .cs) (f := fun t => { t with cpl := 0 }) (fun _ ht => ht) (fun _ ht => ht) _
    (keepsBy_setSeg (r := r) (v := (s.seg r).realLoad sel) s h)

theorem keepsBy_nullOuter : KeepsBy (Steady q b) State.nullOuter := fun s h => by
  unfold State.nullOuter
  dsimp only
  split <;> exact h

/-- A selector that passes its rule is handed on. -/
theorem steady_tested {sel : Half} {rule : Desc → Except SelFault α} {x : SelFault → Exn} {β : Type} {k : Desc × α → M β}
    (hk : ∀ a, Keeps (Steady q b) (k a)) : Keeps (Steady q b) (testSel sel rule >>= fun e => orRaise x e >>= k) :=
  keeps_bind (keeps_testSel stable_steady _ _) fun _ => keeps_bind (keeps_orRaise stable_steady _ _) hk

theorem steady_mark {d : Desc} : Keeps (Steady q b) (markAccessed d) := keeps_markAccessed stable_steady d
theorem steady_marks {d e : Desc} : Keeps (Steady q b) (markStackAndCode d e) := keeps_markStackAndCode stable_steady d e
theorem steady_testCode {ext sel : Half} {rule : Desc → Except SelFault (BitVec 2)} : Keeps (Steady q b) (testCode ext sel rule) :=
  keeps_testCode stable_steady ext sel rule
theorem steady_ensure {v : Bool} {x : Exn} : Keeps (Steady q b) (ensure v x) := keeps_ensure' stable_steady v x
theorem steady_pushAll {k : Stack} {w : Width} {vs : List Word} : Keeps (Steady q b) (k.pushAll w vs) :=
  keeps_stack_pushAll stable_steady w vs k

theorem steady_loadData {r : SReg} {sel : Half} : Keeps (Steady q b) (loadData r sel) :=
  keeps_bind keeps_get fun _ => keeps_ite (keeps_modify keepsBy_setSeg)
    (steady_tested fun _ => keeps_bind steady_mark fun _ => keeps_modify keepsBy_setSeg)
theorem steady_loadSeg {r : SReg} {sel : Half} : Keeps (Steady q b) (loadSeg r sel) :=
  keeps_bind keeps_get fun _ => keeps_ite (keeps_modify keepsBy_realLoad)
    (keeps_ite (keeps_loadSs operands_steady.toStableLoads sel) steady_loadData)
theorem steady_ssShadow {r : SReg} : Keeps (Steady q b) (ssShadow r) := keeps_whenM (keeps_modify fun _ h => h)
theorem steady_moveToSeg {r : SReg} {e : RM} : Keeps (Steady q b) (moveToSeg r e) :=
  keeps_bind steady_locE fun _ => keeps_bind steady_readLoc fun _ => keeps_bind steady_loadSeg fun _ => steady_ssShadow
theorem steady_loadFar {r : SReg} {g : Reg} {m : MemOp} : Keeps (Steady q b) (loadFar r g m) :=
  keeps_bind keeps_get fun _ => keeps_bind steady_readFar fun _ => keeps_bind steady_loadSeg fun _ => steady_setReg
theorem steady_popSeg {r : SReg} : Keeps (Steady q b) (popSeg r) :=
  keeps_bind keeps_get fun _ => keeps_bind steady_peek fun _ => keeps_bind steady_loadSeg fun _ =>
    keeps_bind steady_commit fun _ => steady_ssShadow

/-! ### The task switch -/

theorem steady_tssSel {off : Nat} : Keeps (Steady q b) (tssSel off) :=
  keeps_bind (keeps_tssField stable_steady _ _) fun _ => keeps_pure _

theorem steady_enterEntry : Keeps (Steady q b) enterEntry :=
  keeps_bind (keeps_read _) fun _ => keeps_bind (keeps_onStop (fun _ h => h) (keeps_tssField stable_steady _ _)) fun _ =>
    keeps_bind (keeps_onStop (fun _ h => h) steady_tssSel) fun _ => keeps_bind (keeps_modify fun _ h => h) fun _ => keeps_pure _

theorem steady_readTask : Keeps (Steady q b) readTask := by
  have field (n off : Nat) : Keeps (Steady q b) (tssField n off) := keeps_tssField stable_steady n off
  refine keeps_bind keeps_get fun s => ?_
  cases s.tr.kind with
  | tss286 =>
    iterate 9 refine keeps_bind (field _ _) fun _ => ?_
    iterate 4 refine keeps_bind steady_tssSel fun _ => ?_
    exact keeps_pure _
  | tss386 =>
    iterate 10 refine keeps_bind (field _ _) fun _ => ?_
    iterate 6 refine keeps_bind steady_tssSel fun _ => ?_
    exact keeps_pure _

theorem steady_loadTaskSeg {r : SReg} {sel : Half} {x : SelFault → Exn} {rule : Desc → Except SelFault Unit} :
    Keeps (Steady q b) (loadTaskSeg r sel x rule) :=
  steady_tested fun _ => keeps_bind steady_mark fun _ => keeps_modify keepsBy_setSeg
theorem steady_loadTaskData {r : SReg} {sel ext : Half} : Keeps (Steady q b) (loadTaskData r sel ext) :=
  keeps_bind keeps_get fun _ => keeps_ite (keeps_modify keepsBy_setSeg) steady_loadTaskSeg
theorem steady_loadTaskSegs {cs : Half} {i : TaskImage} {ext : Half} : Keeps (Steady q b) (loadTaskSegs cs i ext) :=
  keeps_bind steady_loadTaskSeg fun _ => keeps_bind (keeps_modify fun _ h => h) fun _ => keeps_bind (keeps_modify fun _ h => h) fun _ =>
    keeps_bind keeps_get fun _ => keeps_bind steady_loadTaskSeg fun _ => keeps_bind steady_loadTaskData fun _ =>
      keeps_bind steady_loadTaskData fun _ => keeps_ite (keeps_bind steady_loadTaskData fun _ => steady_loadTaskData) (keeps_pure _)
theorem steady_nestTask {back : Half} : Keeps (Steady q b) (nestTask back) :=
  keeps_bind (keeps_modify fun _ h => h) fun _ => keeps_bind (keeps_read _) fun _ => keeps_sysWrite stable_steady _ _ _
theorem steady_loadTask {k : SwitchKind} {ext back : Half} : Keeps (Steady q b) (loadTask k ext back) :=
  keeps_bind steady_enterEntry fun _ => keeps_bind steady_readTask fun _ => keeps_bind (keeps_modify fun _ h => h) fun _ =>
    keeps_bind steady_loadLdt fun _ => keeps_ite (keeps_refuse _) (keeps_bind (keeps_modify fun _ h => h) fun _ =>
      keeps_bind (keeps_whenM steady_nestTask) fun _ => steady_loadTaskSegs)
theorem steady_enterTask {n : NewTask} {v : Bool} : Keeps (Steady q b) (enterTask n v) :=
  keeps_bind (keeps_whenM (keeps_sysWrite stable_steady _ _ _)) fun _ => keeps_bind (keeps_modify fun _ h => h) fun _ =>
    keeps_modify fun _ h => h
theorem steady_taskSwitch {sel : Half} {k : SwitchKind} {retpc : Word} {ext : Half} :
    Keeps (Steady q b) (taskSwitch sel k retpc ext) :=
  keeps_bind (keeps_testTask stable_steady _ _ _) fun _ => keeps_bind keeps_get fun _ =>
    keeps_bind (keeps_saveTask stable_steady _ _) fun _ => keeps_bind (keeps_whenM (keeps_clearBusy stable_steady)) fun _ =>
      keeps_bind steady_enterTask fun _ => steady_loadTask

/-! ### Delivery -/

theorem steady_deliverReal {n : Byte} {ret : Word} : Keeps (Steady q b) (deliverReal n ret) :=
  keeps_bind keeps_get fun _ => keeps_bind steady_ensure fun _ => keeps_bind (keeps_sysRead stable_steady _ _) fun _ =>
    keeps_bind (keeps_sysRead stable_steady _ _) fun _ => keeps_bind steady_pushAll fun _ => keeps_bind steady_commit fun _ =>
      keeps_bind (keeps_modify fun _ h => h) fun _ => keeps_bind (keeps_modify fun _ h => h) fun _ =>
        keeps_bind (keeps_modify keepsBy_realLoad) fun _ => keeps_modify fun _ h => h

theorem steady_commitGate {n : NewCode} {off : Word} {v : Bool} : Keeps (Steady q b) (commitGate n off v) :=
  keeps_modify fun s h => keepsBy_steady (fun t => frame_gateFlags t v) ((n.commit s).jumpTo off) h

theorem steady_deliverGate {g : Desc} {w : Width} {v : Bool} {kind : DeliveryKind} {e : Option Half} {ret : Word} :
    Keeps (Steady q b) (deliverGate g w v kind e ret) := by
  refine keeps_bind keeps_get fun s => keeps_bind steady_testCode fun n => keeps_ite ?inner ?same
  case inner =>
    exact keeps_bind (keeps_tssStack stable_steady _ _) fun _ => steady_tested fun _ => keeps_bind steady_pushAll fun _ =>
      keeps_bind steady_marks fun _ => keeps_bind (keeps_modify keepsBy_setSeg) fun _ => keeps_bind steady_commit fun _ =>
        steady_commitGate
  case same =>
    exact keeps_bind steady_pushAll fun _ => keeps_bind steady_mark fun _ => keeps_bind steady_commit fun _ => steady_commitGate

theorem steady_deliverTask {sel : Half} {kind : DeliveryKind} {e : Option Half} {ret : Word} :
    Keeps (Steady q b) (deliverTask sel kind e ret) :=
  keeps_bind steady_taskSwitch fun _ => keeps_bind keeps_get fun _ => keeps_bind steady_pushAll fun _ => steady_commit

theorem steady_deliverProt {n : Byte} {kind : DeliveryKind} {e : Option Half} {ret : Word} :
    Keeps (Steady q b) (deliverProt n kind e ret) := by
  refine keeps_bind keeps_get fun s => keeps_bind steady_ensure fun _ => keeps_bind (keeps_readDesc stable_steady _) fun g => ?_
  cases idtGate s.cfg.model g.type with
  | none => exact keeps_raise' stable_steady _
  | some gate =>
    refine keeps_bind steady_ensure fun _ => keeps_bind steady_ensure fun _ => keeps_bind steady_ensure fun _ => ?_
    cases gate with
    | task => exact steady_deliverTask
    | code w v => exact steady_deliverGate

theorem steady_deliver {n : Byte} {kind : DeliveryKind} {e : Option Half} {ret : Word} : Keeps (Steady q b) (deliver n kind e ret) :=
  keeps_bind keeps_get fun _ => keeps_ite steady_deliverProt steady_deliverReal

/-! ### Returns and transfers -/

theorem steady_testOuterSs {sel : Half} {lvl : BitVec 2} : Keeps (Steady q b) (testOuterSs sel lvl) :=
  keeps_bind (keeps_read _) fun _ => steady_tested fun _ => keeps_pure _
theorem steady_commitOuterStack {d : Desc} {sel : Half} {w : Width} {sp : Word} :
    Keeps (Steady q b) (commitOuterStack d sel w sp) :=
  keeps_bind (keeps_modify keepsBy_setSeg) fun _ => keeps_bind (keeps_read _) fun _ => steady_setReg
theorem steady_iretReal {w : Width} : Keeps (Steady q b) (iretReal w) :=
  keeps_bind keeps_get fun _ => keeps_bind steady_peek fun _ => keeps_bind steady_peek fun _ => keeps_bind steady_peek fun _ =>
    keeps_bind steady_commit fun _ => keeps_bind (keeps_modify keepsBy_realLoad) fun _ =>
      keeps_bind (keeps_modify fun _ h => h) fun _ => keeps_modify fun _ h => h
theorem steady_iretProt {w : Width} : Keeps (Steady q b) (iretProt w) := by
  refine keeps_bind keeps_get fun s => keeps_bind steady_peek fun _ => keeps_bind steady_peek fun _ => keeps_bind steady_peek fun _ =>
    keeps_ite (keeps_refuse _) (keeps_bind steady_testCode fun _ => keeps_ite ?same ?outer)
  case same => exact keeps_bind steady_mark fun _ => keeps_bind steady_commit fun _ => keeps_modify fun _ h => h
  case outer =>
    exact keeps_bind steady_peek fun _ => keeps_bind steady_peek fun _ => keeps_bind steady_testOuterSs fun _ =>
      keeps_bind steady_marks fun _ => keeps_bind (keeps_modify fun _ h => h) fun _ => keeps_bind steady_commitOuterStack fun _ =>
        keeps_modify keepsBy_nullOuter
theorem steady_interruptReturn : Keeps (Steady q b) interruptReturn := by
  refine keeps_bind (keeps_bind keeps_get fun _ => keeps_ite steady_iretReal (keeps_ite ?_ steady_iretProt)) fun _ =>
    keeps_modify fun _ h => h
  exact keeps_bind keeps_get fun _ => keeps_bind (keeps_sysRead stable_steady _ _) fun _ => steady_taskSwitch

theorem keepsBy_jumpIf {v : Bool} {disp : Word} : KeepsBy (Steady q b) fun s => s.jumpIf v disp := fun s h => by
  unfold State.jumpIf
  split <;> exact h

theorem steady_jumpE {e : RM} : Keeps (Steady q b) (jumpE e) :=
  keeps_bind keeps_get fun _ => keeps_bind steady_locE fun _ => keeps_bind steady_readLoc fun _ => keeps_modify fun _ h => h
theorem steady_callRel {jv : Word} : Keeps (Steady q b) (callRel jv) :=
  keeps_bind keeps_get fun _ => keeps_bind steady_push fun _ => keeps_modify fun _ h => h
theorem steady_callE {e : RM} : Keeps (Steady q b) (callE e) :=
  keeps_bind keeps_get fun _ => keeps_bind steady_locE fun _ => keeps_bind steady_readLoc fun _ => keeps_bind steady_push fun _ =>
    keeps_modify fun _ h => h
theorem steady_retNear {iw : Half} : Keeps (Steady q b) (retNear iw) :=
  keeps_bind keeps_get fun _ => keeps_bind steady_pop fun _ => keeps_bind (keeps_read _) fun _ => keeps_bind steady_commit fun _ =>
    keeps_modify fun _ h => h

theorem keepsBy_realJump {off : Word} {sel : Half} : KeepsBy (Steady q b) fun s => (s.realLoad .cs sel).jumpTo off :=
  fun s h => keepsBy_realLoad s h

theorem steady_farReal {isCall : Bool} {off : Word} {sel : Half} : Keeps (Steady q b) (farReal isCall off sel) :=
  keeps_bind keeps_get fun _ => keeps_bind (keeps_whenM (keeps_bind steady_pushAll fun _ => steady_commit)) fun _ =>
    keeps_modify keepsBy_realJump
theorem steady_farCode {isCall : Bool} {off : Word} {sel : Half} {d : Desc} : Keeps (Steady q b) (farCode isCall off sel d) :=
  keeps_bind keeps_get fun _ => keeps_bind (keeps_orRaise stable_steady _ _) fun _ => keeps_bind steady_pushAll fun _ =>
    keeps_bind steady_mark fun _ => keeps_bind steady_commit fun _ => keeps_modify fun _ h => h
theorem steady_readParams {w : Width} {k : Stack} : ∀ {n i : Nat}, Keeps (Steady q b) (readParams k w i n)
  | 0, _ => keeps_pure _
  | _ + 1, _ => keeps_bind (keeps_view_read stable_steady _ _ _ _) fun _ => keeps_bind steady_readParams fun _ => keeps_pure _
theorem steady_callInner {g : Desc} {w : Width} {n : NewCode} : Keeps (Steady q b) (callInner g w n) :=
  keeps_bind keeps_get fun _ => keeps_bind (keeps_tssStack stable_steady _ _) fun _ => steady_tested fun _ =>
    keeps_bind steady_readParams fun _ => keeps_bind steady_pushAll fun _ => keeps_bind steady_marks fun _ =>
      keeps_bind (keeps_modify keepsBy_setSeg) fun _ => keeps_bind steady_commit fun _ => keeps_modify fun _ h => h
theorem steady_gateCheck {sel : Half} {g : Desc} : Keeps (Steady q b) (gateCheck sel g) :=
  keeps_bind keeps_get fun _ => keeps_bind steady_ensure fun _ => steady_ensure
theorem steady_farGate {isCall : Bool} {sel : Half} {g : Desc} {w : Width} : Keeps (Steady q b) (farGate isCall sel g w) :=
  keeps_bind steady_gateCheck fun _ => keeps_bind keeps_get fun _ => keeps_bind steady_testCode fun _ =>
    keeps_ite steady_callInner (keeps_bind steady_pushAll fun _ => keeps_bind steady_mark fun _ => keeps_bind steady_commit fun _ =>
      keeps_modify fun _ h => h)

theorem steady_farProt {isCall : Bool} {off : Word} {sel : Half} : Keeps (Steady q b) (farProt isCall off sel) := by
  refine keeps_bind keeps_get fun s => keeps_bind steady_ensure fun _ => keeps_bind (keeps_fetchDesc stable_steady _) fun o => ?_
  cases o with
  | none => exact keeps_raise' stable_steady _
  | some d =>
    refine keeps_ite steady_farCode ?_
    cases farSystem s.cfg.model d.type with
    | none => exact keeps_raise' stable_steady _
    | some k =>
      cases k with
      | gate w => exact steady_farGate
      | taskGate => exact keeps_bind steady_gateCheck fun _ => keeps_bind keeps_get fun _ => steady_taskSwitch
      | tss => exact keeps_bind keeps_get fun _ => keeps_bind steady_ensure fun _ => steady_taskSwitch

theorem steady_farTransfer {isCall : Bool} {off : Word} {sel : Half} : Keeps (Steady q b) (farTransfer isCall off sel) :=
  keeps_bind keeps_get fun _ => keeps_ite steady_farProt steady_farReal
theorem steady_farMem {isCall : Bool} {m : MemOp} : Keeps (Steady q b) (farMem isCall m) :=
  keeps_bind steady_readFar fun _ => steady_farTransfer
theorem steady_retFarReal {iw : Half} : Keeps (Steady q b) (retFarReal iw) :=
  keeps_bind keeps_get fun _ => keeps_bind steady_peek fun _ => keeps_bind steady_peek fun _ => keeps_bind steady_commit fun _ =>
    keeps_modify keepsBy_realJump
theorem steady_retFarProt {iw : Half} : Keeps (Steady q b) (retFarProt iw) := by
  refine keeps_bind keeps_get fun s => keeps_bind steady_peek fun _ => keeps_bind steady_peek fun _ => keeps_bind steady_testCode fun _ =>
    keeps_ite ?same ?outer
  case same => exact keeps_bind steady_mark fun _ => keeps_bind steady_commit fun _ => keeps_modify fun _ h => h
  case outer =>
    exact keeps_bind steady_peek fun _ => keeps_bind steady_peek fun _ => keeps_bind steady_testOuterSs fun _ =>
      keeps_bind steady_marks fun _ => keeps_bind (keeps_modify fun _ h => h) fun _ => keeps_bind steady_commitOuterStack fun _ =>
        keeps_modify keepsBy_nullOuter
theorem steady_retFar {iw : Half} : Keeps (Steady q b) (retFar iw) :=
  keeps_bind keeps_get fun _ => keeps_ite steady_retFarProt steady_retFarReal
theorem steady_softInt {n : Byte} : Keeps (Steady q b) (softInt n) :=
  keeps_bind keeps_get fun _ => keeps_bind steady_deliver fun _ => keeps_modify fun _ h => h
theorem steady_intOnOverflow : Keeps (Steady q b) intOnOverflow :=
  keeps_bind keeps_get fun _ => keeps_ite steady_softInt (keeps_pure _)

/-! ### CR0 and the string instructions -/

theorem steady_lmsw {e : RM} : Keeps (Steady q b) (lmsw e) :=
  keeps_bind steady_locE fun _ => keeps_bind steady_privileged fun _ => keeps_bind steady_readLoc fun _ => keeps_modify fun _ h => h
theorem steady_clts : Keeps (Steady q b) clts := keeps_bind steady_privileged fun _ => keeps_modify fun _ h => h

theorem keepsBy_flagsControl {site : UndefSite} {n : BitVec 3} {v : Word} : KeepsBy (Steady q b) (State.flagsControl site n v) :=
  keepsBy_steady fun t => t.frame_flagsControl site n v

theorem steady_moveToCr {n : BitVec 3} {r : Reg} : Keeps (Steady q b) (moveToCr n r) := by
  refine keeps_bind steady_privileged fun _ => keeps_bind keeps_get fun s => ?_
  dsimp only
  split
  · exact keeps_bind steady_ensure fun _ => keeps_modify fun t h => keepsBy_flagsControl (t.setCr0 _) h
  · exact keeps_modify fun t h => keepsBy_flagsControl (t.setCr2 _) h
  · exact keeps_modify fun t h => keepsBy_flagsControl (t.setCr3 _) h
  · exact keeps_raise' stable_steady _

theorem keepsBy_repNext {compares : Bool} : KeepsBy (Steady q b) (State.repNext compares) := fun s h => by
  unfold State.repNext
  dsimp only
  split <;> exact h

theorem steady_stringStep {compares : Bool} {element : M Unit} (he : Keeps (Steady q b) element) :
    Keeps (Steady q b) (stringStep compares element) :=
  keeps_bind keeps_get fun _ => keeps_ite he (keeps_ite (keeps_pure _) (keeps_bind he fun _ => keeps_modify keepsBy_repNext))
theorem steady_stringStepV {compares : Bool} {element : Width → M Unit} (he : ∀ w, Keeps (Steady q b) (element w)) :
    Keeps (Steady q b) (stringStepV compares element) := keeps_bind keeps_get fun _ => steady_stringStep (he _)

/-! ### Outcomes -/

/-- The property holds of the next state, if there is one. -/
def Holds (p : State → Prop) (o : Host.Outcome State Fault Refusal) : Prop := ∀ t, o = .next t → p t

theorem holds_next {p : State → Prop} {t : State} (h : p t) : Holds p (.next t) := fun _ e => Host.Outcome.next.inj e ▸ h
theorem holds_fault {p : State → Prop} {x : Fault} : Holds p (.fault x) := fun _ e => by cases e
theorem holds_refused {p : State → Prop} {x : Refusal} : Holds p (.refused x) := fun _ e => by cases e

theorem holds_afterDelivery {again : State → Host.Outcome State Fault Refusal} (ha : ∀ t, Steady q b t → Holds (Steady q b) (again t))
    {m : M Unit} (hm : Keeps (Steady q b) m) {s : State} (hs : Steady q b s) : Holds (Steady q b) (afterDelivery again (m s)) := by
  have h := hm s hs
  cases hrun : m s with
  | ok _ t => exact holds_next (by rwa [hrun] at h)
  | error x t =>
    rw [hrun] at h
    cases x with
    | exn x => exact ha t h
    | fault x => exact holds_fault
    | refused x => exact holds_refused

theorem holds_tripleFault {s : State} (hs : Steady q b s) : Holds (Steady q b) (tripleFault s) := holds_next hs

theorem holds_doubleFault {s : State} (hs : Steady q b s) : Holds (Steady q b) (doubleFault s) :=
  holds_afterDelivery (fun _ => holds_tripleFault) steady_deliver hs

theorem holds_raiseExn (x : Exn) {s : State} (hs : Steady q b s) : Holds (Steady q b) (raiseExn x s) := by
  unfold raiseExn
  split
  · exact holds_afterDelivery (fun _ => holds_doubleFault) steady_deliver hs
  · split
    · exact holds_doubleFault hs
    · exact holds_tripleFault hs

theorem holds_finish {m : M Unit} (hm : Keeps (Steady q b) m) {s : State} (hs : Steady q b s) : Holds (Steady q b) (finish m s) := by
  have h := hm s hs
  unfold finish
  cases hrun : m s with
  | ok _ t => exact holds_next (by rwa [hrun] at h)
  | error x t =>
    rw [hrun] at h
    cases x with
    | exn x => exact holds_raiseExn x h
    | fault x => exact holds_fault
    | refused x => exact holds_refused

/-! ### The meanings of the instructions and the step -/

theorem keepsBy_loopRel {z : Option Bool} {jb : Byte} : KeepsBy (Steady q b) (loopRel z jb) := fun s h =>
  keepsBy_jumpIf (s.setReg s.adW .cx _) h

theorem holds_exec {s : State} (hs : Steady q b s) (i : Instr) : Holds (Steady q b) (exec i s) := by
  unfold exec
  cases i with
  | addEbGb | orEbGb | adcEbGb | sbbEbGb | andEbGb | subEbGb | xorEbGb | cmpEbGb | testEbGb => exact holds_finish steady_aluEbGb hs
  | addEvGv | orEvGv | adcEvGv | sbbEvGv | andEvGv | subEvGv | xorEvGv | cmpEvGv | testEvGv => exact holds_finish steady_aluEvGv hs
  | addGbEb | orGbEb | adcGbEb | sbbGbEb | andGbEb | subGbEb | xorGbEb | cmpGbEb => exact holds_finish steady_aluGbEb hs
  | addGvEv | orGvEv | adcGvEv | sbbGvEv | andGvEv | subGvEv | xorGvEv | cmpGvEv => exact holds_finish steady_aluGvEv hs
  | addALIb | orALIb | adcALIb | sbbALIb | andALIb | subALIb | xorALIb | cmpALIb | testALIb => exact holds_finish steady_aluALIb hs
  | addEAXIv | orEAXIv | adcEAXIv | sbbEAXIv | andEAXIv | subEAXIv | xorEAXIv | cmpEAXIv | testEAXIv =>
    exact holds_finish steady_aluEAXIv hs
  | addEbIb | addEbIb82 | orEbIb | orEbIb82 | adcEbIb | adcEbIb82 | sbbEbIb | sbbEbIb82 | andEbIb | andEbIb82 | subEbIb |
    subEbIb82 | xorEbIb | xorEbIb82 | cmpEbIb | cmpEbIb82 | testEbIb =>
    exact holds_finish steady_aluEbIb hs
  | addEvIv | orEvIv | adcEvIv | sbbEvIv | andEvIv | subEvIv | xorEvIv | cmpEvIv | testEvIv => exact holds_finish steady_aluEvIv hs
  | addEvIbs | orEvIbs | adcEvIbs | sbbEvIbs | andEvIbs | subEvIbs | xorEvIbs | cmpEvIbs => exact holds_finish steady_aluEvIbs hs
  | incR | decR => exact holds_finish steady_unaryR hs
  | pushR => exact holds_finish steady_pushReg hs
  | popR => exact holds_finish steady_popReg hs
  | boundGvMa => exact holds_finish steady_bound hs
  | arplEwGw => exact holds_finish steady_arpl hs
  | pushIv | pushIbs => exact holds_finish steady_pushImm hs
  | imulGvEvIv | imulGvEvIbs | imulGvEv => exact holds_finish steady_imulTo hs
  | xchgEbGb => exact holds_finish steady_exchangeE8 hs
  | xchgEvGv => exact holds_finish steady_exchangeE hs
  | movEbGb => exact holds_finish steady_moveToE8 hs
  | movEvGv => exact holds_finish steady_moveToE hs
  | movGbEb => exact holds_finish steady_moveFromE8 hs
  | movGvEv => exact holds_finish steady_moveFromE hs
  | movEwSw => exact holds_finish steady_moveFromSeg hs
  | leaGvM => exact holds_finish steady_lea hs
  | popEv => exact holds_finish steady_popE hs
  | xchgEAXR => exact holds_finish steady_exchangeAcc hs
  | movALOb | movEAXOv | movObAL | movOvEAX => exact holds_finish steady_moveOffset hs
  | movR8Ib | movRIv => exact holds_finish steady_writeLoc hs
  | rolEbIb | rolEbOne | rolEbCL | rorEbIb | rorEbOne | rorEbCL | rclEbIb | rclEbOne | rclEbCL | rcrEbIb | rcrEbOne | rcrEbCL |
    shlEbIb | shlEbOne | shlEbCL | shrEbIb | shrEbOne | shrEbCL | sarEbIb | sarEbOne | sarEbCL =>
    exact holds_finish steady_shiftEb hs
  | rolEvIb | rolEvOne | rolEvCL | rorEvIb | rorEvOne | rorEvCL | rclEvIb | rclEvOne | rclEvCL | rcrEvIb | rcrEvOne | rcrEvCL |
    shlEvIb | shlEvOne | shlEvCL | shrEvIb | shrEvOne | shrEvCL | sarEvIb | sarEvOne | sarEvCL =>
    exact holds_finish steady_shiftEv hs
  | shl6 => exact holds_finish steady_shiftDst hs
  | movEbIb => exact holds_finish steady_moveImmE8 hs
  | movEvIv => exact holds_finish steady_moveImmE hs
  | enterIwIb => exact holds_finish steady_enter hs
  | aamIb => exact holds_finish steady_aam hs
  | esc => exact holds_finish steady_escape hs
  | inALIb | inEAXIb | inALDX | inEAXDX => exact holds_finish steady_input hs
  | outIbAL | outIbEAX | outDXAL | outDXEAX => exact holds_finish steady_output hs
  | notEb | negEb | incEb | decEb => exact holds_finish steady_unaryEb hs
  | notEv | negEv | incEv | decEv => exact holds_finish steady_unaryEv hs
  | mulEb | imulEb => exact holds_finish steady_mulEb hs
  | mulEv | imulEv => exact holds_finish steady_mulEv hs
  | divEb | idivEb => exact holds_finish steady_divideEb hs
  | divEv | idivEv => exact holds_finish steady_divideEv hs
  | pushEv => exact holds_finish steady_pushE hs
  | sldtEw | strEw => exact holds_finish steady_storeSel hs
  | lldtEw => exact holds_finish steady_lldt hs
  | ltrEw => exact holds_finish steady_ltr hs
  | verrEw | verwEw => exact holds_finish steady_verify hs
  | sgdtMs | sidtMs => exact holds_finish steady_storeTable hs
  | lgdtMs => exact holds_finish steady_lgdt hs
  | lidtMs => exact holds_finish steady_lidt hs
  | smswEw => exact holds_finish steady_smsw hs
  | larGvEw | lslGvEw => exact holds_finish steady_queryLoad hs
  | movRdCd => exact holds_finish steady_moveFromCr hs
  | movRdDd => exact holds_finish steady_moveFromDr hs
  | movDdRd => exact holds_finish steady_moveToDr hs
  | setccEb => exact holds_finish steady_setcc hs
  | btEvGv | btsEvGv | btrEvGv | btcEvGv => exact holds_finish steady_bitGv hs
  | shldEvGvIb | shldEvGvCL | shrdEvGvIb | shrdEvGvCL => exact holds_finish steady_doubleShift hs
  | movzxGvEb | movsxGvEb => exact holds_finish steady_extendByte hs
  | movzxGvEw | movsxGvEw => exact holds_finish steady_extendWord hs
  | btEvIb | btsEvIb | btrEvIb | btcEvIb => exact holds_finish steady_bitIb hs
  | bsfGvEv | bsrGvEv => exact holds_finish steady_bitScan hs
  | pushES | pushCS | pushSS | pushDS | pushFS | pushGS => exact holds_finish steady_pushSeg hs
  | pusha => exact holds_finish steady_pushAllRegs hs
  | popa => exact holds_finish steady_popAllRegs hs
  | wait => exact holds_finish steady_waitCoprocessor hs
  | pushf => exact holds_finish steady_pushFlags hs
  | popf => exact holds_finish steady_popFlags hs
  | leave => exact holds_finish steady_leave hs
  | undefD6 | undefF1 | undefF6r1 | undefFFr7 | undefOther => exact holds_finish steady_undefinedOpcode hs
  | xlat => exact holds_finish steady_xlat hs
  | hlt => exact holds_finish steady_halt hs
  | cli => exact holds_finish steady_cli hs
  | sti => exact holds_finish steady_sti hs
  | clts => exact holds_finish steady_clts hs
  | prefixES | prefixCS | prefixSS | prefixDS | prefixFS | prefixGS | prefixOpSize | prefixAdSize | prefixLock | prefixRepNZ |
    prefixRepZ | nop | cwd | lahf =>
    exact holds_next hs
  | daa => exact holds_next (keepsBy_steady frame_daa s hs)
  | das => exact holds_next (keepsBy_steady frame_das s hs)
  | aaa | aas => exact holds_next (keepsBy_steady (frame_asciiAdjust _ _ _ _) s hs)
  | aadIb => exact holds_next (keepsBy_steady (frame_aad _) s hs)
  | cbw => exact holds_next (keepsBy_steady frame_convertAcc s hs)
  | sahf => exact holds_next hs
  | clc | stc | cmc => exact holds_next hs
  | cld | std => exact holds_next hs
  | jmpJb | jmpJv | jccJb | jccJv | jcxzJb => exact holds_next (keepsBy_jumpIf s hs)
  | loopJb | loopzJb | loopnzJb => exact holds_next (keepsBy_loopRel s hs)
  | callFarAp | jmpFarAp => exact holds_finish steady_farTransfer hs
  | retIw | ret => exact holds_finish steady_retNear hs
  | lesGvMp | ldsGvMp | lssGvMp | lfsGvMp | lgsGvMp =>
    exact holds_finish steady_loadFar hs
  | retfIw | retf => exact holds_finish steady_retFar hs
  | intIb | int3 => exact holds_finish steady_softInt hs
  | callJv => exact holds_finish steady_callRel hs
  | callEv => exact holds_finish steady_callE hs
  | callFarMp | jmpFarMp => exact holds_finish steady_farMem hs
  | jmpEv => exact holds_finish steady_jumpE hs
  | lmswEw => exact holds_finish steady_lmsw hs
  | movCdRd => exact holds_finish steady_moveToCr hs
  | popES | popCS | popSS | popDS | popFS | popGS => exact holds_finish steady_popSeg hs
  | into => exact holds_finish steady_intOnOverflow hs
  | iret => exact holds_finish steady_interruptReturn hs
  | insb => exact holds_finish (steady_stringStep steady_insElement) hs
  | outsb => exact holds_finish (steady_stringStep steady_outsElement) hs
  | movsb => exact holds_finish (steady_stringStep steady_movsElement) hs
  | cmpsb => exact holds_finish (steady_stringStep steady_cmpsElement) hs
  | stosb => exact holds_finish (steady_stringStep steady_stosElement) hs
  | lodsb => exact holds_finish (steady_stringStep steady_lodsElement) hs
  | scasb => exact holds_finish (steady_stringStep steady_scasElement) hs
  | insv => exact holds_finish (steady_stringStepV fun _ => steady_insElement) hs
  | outsv => exact holds_finish (steady_stringStepV fun _ => steady_outsElement) hs
  | movsv => exact holds_finish (steady_stringStepV fun _ => steady_movsElement) hs
  | cmpsv => exact holds_finish (steady_stringStepV fun _ => steady_cmpsElement) hs
  | stosv => exact holds_finish (steady_stringStepV fun _ => steady_stosElement) hs
  | lodsv => exact holds_finish (steady_stringStepV fun _ => steady_lodsElement) hs
  | scasv => exact holds_finish (steady_stringStepV fun _ => steady_scasElement) hs
  | movSwEw => exact holds_finish steady_moveToSeg hs

theorem steady_fetchByte : Keeps (Steady q b) fetchByte :=
  keeps_bind keeps_get fun _ => keeps_bind (keeps_view_read stable_steady _ _ _ _) fun _ =>
    keeps_bind (keeps_modify fun _ h => h) fun _ => keeps_pure _

theorem steady_fetchInstr : ∀ {n : Nat} {acc : List Byte}, Keeps (Steady q b) (fetchInstr n acc)
  | 0, _ => keeps_throw _
  | n + 1, acc => by
    refine keeps_bind steady_fetchByte fun v => keeps_bind (keeps_whenM (keeps_modify fun _ h => h)) fun _ =>
      keeps_bind keeps_get fun s => ?_
    cases decode s.ctx (acc ++ [v]) with
    | none => exact steady_fetchInstr
    | some x =>
      dsimp only
      split
      · exact keeps_bind (keeps_modify fun _ h => h) fun _ => steady_fetchInstr
      · exact keeps_pure _

theorem holds_endStep {o : Host.Outcome State Fault Refusal} (h : Holds (Steady q b) o) : Holds (Steady q b) (endStep o) := by
  cases o with
  | next s => exact holds_next (h s rfl)
  | fault x => exact holds_fault
  | refused x => exact holds_refused

theorem holds_retireOutcome {tf : Bool} {o : Host.Outcome State Fault Refusal} (h : Holds (Steady q b) o) :
    Holds (Steady q b) (retireOutcome tf o) := by
  cases o with
  | next s =>
    show Holds _ (retire tf s)
    unfold retire
    split
    · exact holds_endStep (holds_finish steady_deliver (h s rfl))
    · exact holds_next (h s rfl)
  | fault x => exact holds_fault
  | refused x => exact holds_refused

theorem holds_acceptInterrupt {s : State} (hs : Steady q b s) : Holds (Steady q b) (acceptInterrupt s) :=
  holds_endStep (holds_finish steady_deliver (s := { s.intAck.2 with intFlags := ⟨false, false⟩ })
    (keepsBy_steady State.frame_intAck s hs))

theorem holds_runFetched {tf : Bool} {s : State} (hs : Steady q b s) :
    Holds (Steady q b) (runFetched exec tf (fetchInstr fetchFuel [] s)) := by
  have h := steady_fetchInstr (n := fetchFuel) (acc := []) s hs
  cases hrun : fetchInstr fetchFuel [] s with
  | ok i t => exact holds_retireOutcome (holds_exec (s := t.setNoIntr false) (by rwa [hrun] at h) i)
  | error x t =>
    rw [hrun] at h
    cases x with
    | exn x => exact holds_endStep (holds_raiseExn x h)
    | fault x => exact holds_fault
    | refused x => exact holds_refused

theorem holds_step {s : State} (hs : Steady q b s) : Holds (Steady q b) (step s) := by
  unfold step stepWith
  split
  · exact holds_fault
  split
  · exact holds_refused
  split
  · exact holds_acceptInterrupt hs
  split
  · exact holds_next hs
  · exact holds_runFetched (s := s.begin) hs

/-- Settles O53: every operation of a step leaves the parameters alone, whether memory is in canonical form or not. -/
theorem stepKeepsParameters : Obligations.StepKeepsParameters := by
  unfold Obligations.StepKeepsParameters
  intro s t ht
  exact (holds_step (b := false) ⟨rfl, nofun⟩ t ht).1

end Sys2Proof.Machine
end

section
/-! Faults and their delivery (60_exceptions.md sections 2 and 3). -/

namespace Sys2Proof.Machine

/-! ### The entry into a fault (R660 to R663) -/

/-- A fault with none in flight is delivered, and so is any on the 8086 class. -/
theorem raiseExn_deliver {s : State} (x : Exn) (h : s.nFault = none ∨ s.cfg.model.class8086 = true) : raiseExn x s =
    afterDelivery doubleFault (deliver x.vector .exception x.code (s.opLIP - s.cs.base) (faulted x.vector s)) := by
  have hfirst : (s.nFault.isNone || s.cfg.model.class8086) = true := by
    rw [Bool.or_eq_true, Option.isNone_iff_eq_none]
    exact h
  rw [raiseExn, if_pos hfirst]
  rfl

/-- What may be delivered in real mode may be delivered when the instruction is abandoned. -/
theorem readyReal_faulted {s : State} {n : Byte} (h : readyReal s n) (v : Byte) : readyReal (faulted v s) n := h

/-- The delivery of an exception in real mode. -/
theorem deliver_exception_real {s : State} {n : Byte} (hm : s.mem.wf = true) (h : readyReal s n) (code : Option Half) (ret : Word) :
    ∃ t, deliver n .exception code ret s = .ok () t ∧ DeliveredReal n ret s t := by
  obtain ⟨u, hu, hrun⟩ := deliverReal_flat h ret
  obtain ⟨hreal, -, -, hpush⟩ := h
  exact ⟨_, (deliver_real hreal n .exception code ret).trans hrun, deliveredReal_delivered hm hpush ret hu⟩

/-- Settles O29: the fault's delivery is the one every vector has in real mode, from the state that the fault leaves. -/
theorem faultEntryInRealMode : Obligations.FaultEntryInRealMode := by
  unfold Obligations.FaultEntryInRealMode
  intro s x hm h hfirst
  obtain ⟨t, hrun, ht⟩ := deliver_exception_real (s := faulted x.vector s) hm (readyReal_faulted h x.vector) x.code
    (s.opLIP - s.cs.base)
  exact ⟨t, (raiseExn_deliver x hfirst).trans (congrArg (afterDelivery doubleFault) hrun), ht⟩

/-! ### Delivery in protected mode of what no program asked for (R671 to R677) -/

section
variable {s : State} {n : Byte} {kind : DeliveryKind} {e : Option Half} {ret : Word}

/-- Delivery once the entry is read, without the test of the gate's DPL. -/
def eventDelivery (s : State) (n : Byte) (g : Desc) (kind : DeliveryKind) (e : Option Half) (ret : Word) : M Unit :=
  match idtGate s.cfg.model g.type with
  | none => raise (.gp (idtErr n kind.ext))
  | some gate => do
    ensure (!g.isSegment) (.gp (idtErr n kind.ext))
    ensure g.present (.np (idtErr n kind.ext))
    match gate with
    | .task => deliverTask g.w1 kind e ret
    | .code w intr => deliverGate g w intr kind e ret

/-- Only a software interrupt has the gate's DPL tested. -/
theorem deliverProt_event (hk : kind ≠ .software) (hp : s.pagingOn = false) (hlimit : n.toNat * 8 + 7 ≤ s.idtr.limit.toNat) :
    ∃ v, ReadsOnly s v ∧ deliverProt n kind e ret s = eventDelivery s n (idtEntry s n) kind e ret v := by
  obtain ⟨v, hread, hv⟩ := (ReadsOnly.refl s).run_readDesc hp (s.idtr.base + BitVec.ofNat 32 (n.toNat * 8))
  refine ⟨v, hv, ?_⟩
  rw [deliverProt, run_get_bind, ensure_of (decide_eq_true hlimit), run_pure_bind, idtAddr_eq, run_bind_ok hread]
  cases kind with
  | software => exact absurd rfl hk
  | exception => rfl
  | external => rfl

theorem eventDelivery_code {g : Desc} {w : Width} {intr : Bool} (hseg : g.isSegment = false)
    (hgate : idtGate s.cfg.model g.type = some (.code w intr)) (hpresent : g.present = true) (v : State) :
    eventDelivery s n g kind e ret v = deliverGate g w intr kind e ret v := by
  simp only [eventDelivery, hgate, hseg, hpresent]
  rfl

theorem eventDelivery_task {g : Desc} (hseg : g.isSegment = false) (htask : g.type = 5) (hpresent : g.present = true) (v : State) :
    eventDelivery s n g kind e ret v = deliverTask g.w1 kind e ret v := by
  simp only [eventDelivery, htask, hseg, hpresent]
  rfl

/-- An entry that is no gate, or is not present, cannot be used. -/
theorem eventDelivery_unusable {g : Desc} (h : ¬ (idtKind s g ∧ g.present = true)) (v : State) :
    ∃ x, eventDelivery s n g kind e ret v = .error (.exn x) v.setNoReadWrite := by
  rw [eventDelivery]
  cases hgate : idtGate s.cfg.model g.type with
  | none => exact ⟨_, rfl⟩
  | some gate =>
    cases hseg : g.isSegment with
    | true => exact ⟨_, rfl⟩
    | false =>
      have hpresent : g.present = false := Bool.eq_false_iff.mpr fun hp => h ⟨(idtKind_iff hseg).mpr (by rw [hgate]; rfl), hp⟩
      rw [hpresent]
      exact ⟨_, rfl⟩

/-- Delivery through an interrupt or trap gate, whatever its DPL. -/
theorem deliveredGate_of_deliverProt {o : Host.Outcome State Fault Refusal} (hk : kind ≠ .software) (he : PushesCode kind e)
    (hm : s.mem.wf = true) (hp : s.pagingOn = false) (hentry : entryReady s n)
    (ho : ∀ t, deliverProt n kind e ret s = .ok () t → ∃ b, o = .next (t.setNoTrap b)) : DeliveredGate s n kind.ext ret e o := by
  intro w intr c hgate hv d
  obtain ⟨hlimit, hpresent⟩ := hentry
  obtain ⟨v, hread, hrun⟩ := deliverProt_event (kind := kind) (e := e) (ret := ret) hk hp hlimit
  rw [eventDelivery_code hgate.1 (idtGate_of_isGate hgate) hpresent] at hrun
  refine ⟨fun hc hpush => ?same, fun hc hswitch hpush => ?inner⟩
  case same =>
    subst hc
    obtain ⟨t, ht, hdeliver⟩ := hread.accessing.deliverGate_same (intr := intr) hp he hv hpush
    obtain ⟨b, hb⟩ := ho _ (hrun.trans hdeliver)
    exact ⟨_, hb, ht.transferred hm ⟨(idtEntry s n).w1, d, s.cpl⟩ (gateTarget (idtEntry s n) w) intr⟩
  case inner =>
    obtain ⟨t, ht, hdeliver⟩ := hread.accessing.deliverGate_inner (intr := intr) hp he hv hc hswitch hpush
    obtain ⟨b, hb⟩ := ho _ (hrun.trans hdeliver)
    exact ⟨_, hb, ht.transferred hm ⟨(idtEntry s n).w1, d, c⟩ (gateTarget (idtEntry s n) w) intr⟩

/-- A task gate: the tasks are switched, then the error code is pushed. -/
theorem deliverProt_task (hk : kind ≠ .software) (hp : s.pagingOn = false) (hentry : entryReady s n)
    (hseg : (idtEntry s n).isSegment = false) (htask : (idtEntry s n).type = 5) :
    ∃ u, ReadsOnly s u ∧ deliverProt n kind e ret s = deliverTask (idtEntry s n).w1 kind e ret u := by
  obtain ⟨hlimit, hpresent⟩ := hentry
  obtain ⟨u, hread, hrun⟩ := deliverProt_event (kind := kind) (e := e) (ret := ret) hk hp hlimit
  exact ⟨u, hread, hrun.trans (eventDelivery_task hseg htask hpresent u)⟩

/-- Nothing is pushed where nothing follows. -/
theorem State.commit_stack (t : State) : t.stack.commit t = .ok () t := by
  have hsame : t.setReg t.stack.w .sp t.stack.sp = t := by
    show { t with gpr := (t.setReg t.stack.w .sp (t.reg t.stack.w .sp)).gpr } = t
    rw [State.setReg_same]
  exact congrArg (EStateM.Result.ok ()) hsame

theorem deliverTask_none {sel : Half} {ret : Word} (h : errorPush kind e = []) :
    deliverTask sel kind e ret = taskSwitch sel .int ret kind.ext := by
  funext v
  rw [deliverTask, h]
  cases hrun : taskSwitch sel .int ret kind.ext v with
  | ok _ t => exact (run_bind_ok hrun _).trans t.commit_stack
  | error x t => exact run_bind_error hrun _

/-- The error code goes to the stack of the new task. -/
theorem deliverTask_some {sel x : Half} {u t : State} (h : errorPush kind e = [x.setWidth 32])
    (hrun : taskSwitch sel .int ret kind.ext u = .ok () t) (hpush : t.canPush t.tr.kind.width 1) :
    deliverTask sel kind e ret u = .ok () (t.pushed t.tr.kind.width [x.setWidth 32]) := by
  rw [deliverTask, h, run_bind_ok hrun]
  exact pushAll_commit (vs := [x.setWidth 32]) hpush

theorem taskSwitch_wf {sel ext : Half} {k : SwitchKind} {u t : State} (hm : u.mem.wf = true)
    (h : taskSwitch sel k ret ext u = .ok () t) : t.mem.wf = true := by
  have hkeep := steady_taskSwitch (q := u.cfg) (b := true) (sel := sel) (k := k) (retpc := ret) (ext := ext) u ⟨rfl, fun _ => hm⟩
  rw [h] at hkeep
  exact hkeep.2 rfl

theorem pushesCode_exception (e : Option Half) : PushesCode .exception e := by cases e <;> rfl

theorem deliver_prot (h : s.protectedMode = true) : deliver n kind e ret s = deliverProt n kind e ret s := by
  rw [deliver, run_get_bind, if_pos h]

end

/-- A fault is delivered in protected mode from the state that the taking of it has prepared. -/
theorem deliveredFault_of_deliver {f : State} {n : Byte} {e : Option Half} {again : State → Host.Outcome State Fault Refusal}
    (hm : f.mem.wf = true) (hready : readyProt f) :
    DeliveredFault f n e (afterDelivery again (deliver n .exception e f.pc f)) := by
  obtain ⟨hprot, hp⟩ := hready
  intro hentry
  rw [deliver_prot hprot]
  refine ⟨?gate, fun hseg htask => ?task⟩
  case gate =>
    exact deliveredGate_of_deliverProt (kind := .exception) (by decide) (pushesCode_exception e) hm hp hentry
      fun t ht => ⟨t.noTrap, congrArg (afterDelivery again) ht⟩
  case task =>
    obtain ⟨u, ⟨l, rfl, hl⟩, hrun⟩ := deliverProt_task (kind := .exception) (e := e) (ret := f.pc) (by decide) hp hentry hseg htask
    refine ⟨{ f with busLog := l }, rfl, hl, fun t ht => ⟨fun hnone => ?_, fun x hx hpush => ?_⟩⟩
    · rw [hrun, deliverTask_none (by rw [hnone]; rfl)]
      exact congrArg (afterDelivery again) ht
    · have hcode : errorPush .exception e = [x.setWidth 32] := by rw [hx]; rfl
      refine ⟨_, (congrArg (afterDelivery again) (hrun.trans (deliverTask_some hcode ht hpush))), ?_, ?_⟩
      · exact State.pushed_pushed (taskSwitch_wf (u := { f with busLog := l }) hm ht) hpush (pushes_fit _ (Nat.le_of_ble_eq_true rfl))
      · exact (t.moved_pushed _ _).plain

/-- Settles O37: a first fault is one delivery from the state that the fault leaves. -/
theorem faultEntryInProtectedMode : Obligations.FaultEntryInProtectedMode := by
  unfold Obligations.FaultEntryInProtectedMode
  intro s x hm hready hfirst
  rw [raiseExn_deliver x (.inl hfirst)]
  exact deliveredFault_of_deliver (f := faulted x.vector s) hm hready

/-! ### Double and triple faults (R662, R663) -/

/-- A fault while another is in flight, but no double fault. -/
theorem raiseExn_double {s : State} {v : Byte} (x : Exn) (h8086 : s.cfg.model.class8086 = false) (h : s.nFault = some v) (hv : v ≠ 8) :
    raiseExn x s = doubleFault s := by
  have hfirst : ¬ (s.nFault.isNone || s.cfg.model.class8086) = true := by rw [h, h8086]; exact Bool.false_ne_true
  have hsecond : s.nFault ≠ some 0x08 := by rw [h]; exact fun he => hv (Option.some.inj he)
  rw [raiseExn, if_neg hfirst, if_pos hsecond]

theorem raiseExn_triple {s : State} (x : Exn) (h8086 : s.cfg.model.class8086 = false) (h : s.nFault = some 8) :
    raiseExn x s = tripleOf s := by
  have hfirst : ¬ (s.nFault.isNone || s.cfg.model.class8086) = true := by rw [h, h8086]; exact Bool.false_ne_true
  rw [raiseExn, if_neg hfirst, if_neg (not_not.mpr h)]
  rfl

theorem doubleFault_eq (s : State) : doubleFault s =
    afterDelivery tripleFault (deliver 8 .exception (some 0) (faulted 8 s).pc (faulted 8 s)) := rfl

/-- A vector beyond the table in real mode. -/
theorem deliver_beyond {s : State} {n : Byte} (hreal : s.protectedMode = false) (h : ¬ vectorInLimit s n) (kind : DeliveryKind)
    (e : Option Half) (ret : Word) : deliver n kind e ret s = .error (.exn (.gp 0)) s.setNoReadWrite := by
  have hlimit := eq_false_of_ne_true (mt (vectorInLimit_iff s n).mp h)
  rw [deliver_real hreal, deliverReal, run_get_bind, hlimit]
  rfl

/-- A vector beyond the IDT in protected mode. -/
theorem deliver_beyondIdt {s : State} {n : Byte} (hprot : s.protectedMode = true) (h : s.idtr.limit.toNat < n.toNat * 8 + 7)
    (kind : DeliveryKind) (e : Option Half) (ret : Word) :
    deliver n kind e ret s = .error (.exn (.gp (idtErr n kind.ext))) s.setNoReadWrite := by
  rw [deliver_prot hprot, deliverProt, run_get_bind, decide_eq_false (Nat.not_le.mpr h)]
  rfl

/-- A double fault in either mode. -/
theorem doubleFault_delivered {s : State} (hm : s.mem.wf = true) :
    (readyReal s 8 → Next (doubleFault s) (DeliveredReal 8 (faulted 8 s).pc (faulted 8 s))) ∧
    (readyProt s → DeliveredFault (faulted 8 s) 8 (some 0) (doubleFault s)) := by
  refine ⟨fun h => ?_, fun h => deliveredFault_of_deliver (f := faulted 8 s) hm h⟩
  obtain ⟨t, hrun, ht⟩ := deliver_exception_real (s := faulted 8 s) hm (readyReal_faulted h 8) (some 0) (faulted 8 s).pc
  exact ⟨t, (doubleFault_eq s).trans (congrArg (afterDelivery tripleFault) hrun), ht⟩

/-- The delivery of a fault through an entry that is unusable, or whose target is refused, stops with no more than device reads
done. -/
theorem deliver_refused {s : State} {n : Byte} {e : Option Half} {ret : Word} (hready : readyProt s)
    (hlimit : n.toNat * 8 + 7 ≤ s.idtr.limit.toNat)
    (h : ¬ (idtKind s (idtEntry s n) ∧ (idtEntry s n).present = true) ∨
      ((idtEntry s n).type ≠ 5 ∧ ∃ y, codeGate s 1 (idtEntry s n).w1 true = .error y)) :
    ∃ x t, Accessing s s t ∧ deliver n .exception e ret s = .error (.exn x) t.setNoReadWrite := by
  obtain ⟨hprot, hp⟩ := hready
  rw [deliver_prot hprot]
  obtain ⟨v, hread, hrun⟩ := deliverProt_event (kind := .exception) (e := e) (ret := ret) (by decide) hp hlimit
  by_cases husable : idtKind s (idtEntry s n) ∧ (idtEntry s n).present = true
  · obtain ⟨hkind, hpresent⟩ := husable
    obtain ⟨htask, y, hy⟩ := h.resolve_left (not_not.mpr ⟨hkind, hpresent⟩)
    obtain ⟨hseg, gate, hgate⟩ := hkind.gate
    cases gate with
    | task => exact absurd ((idtGate_task hgate).mpr rfl) htask
    | code w intr =>
      obtain ⟨t, herror, ht⟩ := hread.accessing.deliverGate_error (kind := .exception) (w := w) (intr := intr) (e := e) (ret := ret) hp hy
      exact ⟨y, t, ht, hrun.trans ((eventDelivery_code hseg hgate hpresent v).trans herror)⟩
  · obtain ⟨x, hx⟩ := eventDelivery_unusable (kind := .exception) (e := e) (ret := ret) husable v
    exact ⟨x, v, hread.accessing, hrun.trans hx⟩

/-- Settles O30: a double fault is a delivery from the faulted state, and one that fails resets the registers. -/
theorem doubleAndTripleFaults : Obligations.DoubleAndTripleFaults := by
  unfold Obligations.DoubleAndTripleFaults
  intro s x v hm h8086 f g
  have htriple {y : Exn} (hfault : s.nFault = some v) (hv : v ≠ 8)
      (h : deliver 8 .exception (some 0) f.pc f = .error (.exn y) f.setNoReadWrite) : raiseExn x s = tripleOf s :=
    (raiseExn_double x h8086 hfault hv).trans (congrArg (afterDelivery tripleFault) h)
  refine ⟨fun hfault hv => ?second, fun hfault => ?failed, fun hfault h => ?reset, fun hfault hv hready hlimit h => ?refused⟩
  case second =>
    rw [raiseExn_double x h8086 hfault hv]
    exact doubleFault_delivered hm
  case failed =>
    rw [raiseExn_deliver x (.inl hfault)]
    refine ⟨fun hready hbeyond => ?_, fun hready hbeyond => ?_⟩
    · rw [deliver_beyond (s := faulted x.vector s) hready.1 hbeyond]
      exact (doubleFault_delivered hm).1 hready
    · rw [deliver_beyondIdt (s := faulted x.vector s) hready.1 hbeyond]
      exact (doubleFault_delivered hm).2 hready
  case reset =>
    by_cases hv : v = 8
    · exact raiseExn_triple x h8086 (hv ▸ hfault)
    · obtain ⟨hreal, hbeyond⟩ | ⟨hprot, hbeyond⟩ := h.resolve_left hv
      · exact htriple hfault hv (deliver_beyond (s := f) hreal hbeyond _ _ _)
      · exact htriple hfault hv (deliver_beyondIdt (s := f) (n := 8) hprot hbeyond _ _ _)
  case refused =>
    obtain ⟨y, t, ⟨m, e, w, l, hmem, rfl, hdev⟩, hrun⟩ := deliver_refused (s := f) (n := 8) (e := some 0) (ret := f.pc) hready hlimit h
    obtain rfl : s.mem = m := congrArg State.mem hmem
    exact ⟨{ s with busLog := l }, rfl, hdev, (raiseExn_double x h8086 hfault hv).trans (congrArg (afterDelivery tripleFault) hrun)⟩

/-! ### External interrupts and the halted state (R590, R680 to R683) -/

theorem sound_of_uncorrupted {s : State} (h : uncorrupted s) : s.sound = true := by
  obtain ⟨hlevel, hrecords⟩ := h
  rw [State.sound, Bool.and_eq_true, List.all_eq_true]
  constructor
  · cases hprot : s.protectedMode with
    | true => rfl
    | false => exact beq_iff_eq.mpr (hlevel hprot)
  · intro r hr
    obtain ⟨hdpl, hext⟩ := hrecords r hr
    rw [SegReg.sound, hdpl, beq_self_eq_true, Bool.true_and]
    cases h386 : s.cfg.model.has386 with
    | true => rfl
    | false => exact beq_iff_eq.mpr (hext h386)

theorem interruptible_iff (s : State) : s.interruptible = true ↔
    s.intFlags.intr = true ∧ s.direct psIF = true ∧ s.opFlags.noIntr = false := by
  rw [State.interruptible, Bool.and_eq_true, Bool.and_eq_true, Bool.not_eq_true', and_assoc]

theorem endStep_eq_settled (o : Host.Outcome State Fault Refusal) : endStep o = settled o := by cases o <;> rfl

/-- A step that accepts the vector `n`. -/
theorem step_accepting {s : State} {n : Byte} {r : List Byte} (h : uncorrupted s) (hv : s.virtual = false)
    (hi : s.interruptible = true) (hacks : s.intAcks = n :: r) :
    step s = settled (finish (deliver n .external none s.pc) { s with intFlags := ⟨false, false⟩, intAcks := r }) := by
  have hack : s.intAck = (n, { s with intAcks := r }) := by rw [State.intAck, hacks]
  rw [← endStep_eq_settled, step, stepWith, sound_of_uncorrupted h, hv, hi, acceptInterrupt, hack]
  rfl

/-- In the halted state nothing happens but that interrupts are no longer held off. -/
theorem step_halted {s : State} (h : uncorrupted s) (hv : s.virtual = false) (hi : s.interruptible = false)
    (hhalt : s.intFlags.halt = true) : step s = .next { s with opFlags := { s.opFlags with noIntr := false } } := by
  rw [step, stepWith, sound_of_uncorrupted h, hv, hi, hhalt]
  rfl

/-- A vector delivered between two instructions in protected mode. -/
theorem deliveredBetween_external {u : State} {n : Byte} (hm : u.mem.wf = true) (hready : readyProt u) :
    DeliveredBetween u n (settled (finish (deliver n .external none u.pc) u)) := by
  obtain ⟨hprot, hp⟩ := hready
  intro hentry
  refine ⟨?gate, fun hseg htask => ⟨_, ?task, rfl⟩⟩
  case gate =>
    refine deliveredGate_of_deliverProt (kind := .external) (by decide) rfl hm hp hentry fun t ht => ⟨false, ?_⟩
    rw [finish_ok ((deliver_prot hprot).trans ht)]
    rfl
  case task =>
    obtain ⟨v, ⟨l, rfl, hl⟩, hrun⟩ := deliverProt_task (kind := .external) (e := none) (ret := u.pc) (by decide) hp hentry hseg htask
    refine ⟨{ u with busLog := l }, rfl, hl, finish_congr ?_⟩
    rw [deliver_prot hprot, hrun, deliverTask_none rfl]
    exact congrFun (bind_pure _).symm _

/-- Settles O60: what the step does first decides, an acceptable interrupt or the halt. -/
theorem interruptsAndHalt : Obligations.InterruptsAndHalt := by
  unfold Obligations.InterruptsAndHalt
  intro s n r hm h hv accepted u
  refine ⟨fun hacc hready => ?real, fun hacc hready => ?prot, fun hhalt hno => ?halted⟩
  case real =>
    obtain ⟨hintr, hif, hheld, hacks⟩ := hacc
    obtain ⟨v, hread, hrun⟩ := deliverReal_flat (s := u) hready s.pc
    have ht := deliveredReal_delivered (s := u) hm (n := n) hready.2.2.2 s.pc hread
    refine ⟨(u.delivered n s.pc v).setNoTrap false, ?_, ht⟩
    rw [step_accepting h hv ((interruptible_iff s).mpr ⟨hintr, hif, hheld⟩) hacks,
      finish_ok ((deliver_real (s := u) hready.1 n .external none s.pc).trans hrun)]
    rfl
  case prot =>
    obtain ⟨hintr, hif, hheld, hacks⟩ := hacc
    rw [step_accepting h hv ((interruptible_iff s).mpr ⟨hintr, hif, hheld⟩) hacks]
    exact deliveredBetween_external (u := u) hm hready
  case halted =>
    refine step_halted h hv (eq_false_of_ne_true fun hi => ?_) hhalt
    obtain ⟨hintr, hif, hheld⟩ := (interruptible_iff s).mp hi
    rw [hintr, hif, hheld] at hno
    simp at hno

end Sys2Proof.Machine
end

section
/-! The save step of a task switch (47_task_and_mode.md R613, R614, R622): stores to different bytes may be made in any order, and the
fields of a TSS are such bytes. -/

namespace Sys2Proof.Machine

/-! ### Stores to different bytes -/

theorem Memory.write_comm {m : Memory} (h : m.wf = true) {a b : Nat} (hab : a ≠ b) (v w : Byte) :
    (m.write a v).write b w = (m.write b w).write a v := by
  refine Memory.eq_of_read (Memory.write_wf (Memory.write_wf h _ _) _ _) (Memory.write_wf (Memory.write_wf h _ _) _ _) fun c => ?_
  rw [Memory.read_write (Memory.write_wf h a v), Memory.read_write h, Memory.read_write (Memory.write_wf h b w), Memory.read_write h]
  by_cases hb : c = b
  · rw [if_pos hb, if_neg fun ha => hab (ha.symm.trans hb), if_pos hb]
  · rw [if_neg hb, if_neg hb]

section
variable {s : State} (h : s.mem.wf = true)
include h

theorem State.setBusByte_comm {a b : Nat} (hab : busAddr s.cfg.model a ≠ busAddr s.cfg.model b) (v w : Byte) :
    (s.setBusByte a v).setBusByte b w = (s.setBusByte b w).setBusByte a v := by
  rw [State.setBusByte_eq (s.setBusByte a v), State.setBusByte_eq (s.setBusByte b w), State.setBusByte_busKind, State.setBusByte_busKind,
    State.setBusByte_cfg, State.setBusByte_cfg, State.setBusByte_eq s a v, State.setBusByte_eq s b w]
  by_cases ha : s.busKind a = .ram
  · by_cases hb : s.busKind b = .ram
    · simp only [if_pos ha, if_pos hb, Memory.write_comm h hab]
    · simp only [if_neg hb]
  · simp only [if_neg ha]

theorem State.busWrite_setBusByte {a : Nat} {as : List Nat} (ha : ∀ c ∈ as, busAddr s.cfg.model a ≠ busAddr s.cfg.model c)
    (bs : List Byte) (v : Byte) : (s.setBusByte a v).busWrite as bs = (s.busWrite as bs).setBusByte a v := by
  induction as generalizing s bs with
  | nil => rfl
  | cons c as ih =>
    cases bs with
    | nil => rfl
    | cons b bs =>
      have hcomm := State.setBusByte_comm h (ha c List.mem_cons_self) v b
      rw [State.busWrite, State.busWrite, hcomm]
      exact ih (State.setBusByte_wf h c b) (fun d hd => by rw [State.setBusByte_cfg]; exact ha d (List.mem_cons_of_mem _ hd)) bs

theorem State.busWrite_comm {as cs : List Nat} (hapart : ApartOnBus s.cfg.model as cs) (bs ds : List Byte) :
    (s.busWrite as bs).busWrite cs ds = (s.busWrite cs ds).busWrite as bs := by
  induction as generalizing s bs with
  | nil => rfl
  | cons a as ih =>
    cases bs with
    | nil => rfl
    | cons b bs =>
      have hfirst := State.busWrite_setBusByte h (hapart a List.mem_cons_self) ds b
      rw [State.busWrite, State.busWrite, ← hfirst]
      exact ih (State.setBusByte_wf h a b) (by rw [State.setBusByte_cfg]; exact fun x hx => hapart x (List.mem_cons_of_mem _ hx)) bs

/-- Stores whose bytes have no Bus address in common may be made in any order. -/
theorem written_perm {ws xs : List (List Nat × Word)} (hp : ws.Perm xs)
    (hapart : ws.Pairwise fun p q => ApartOnBus s.cfg.model p.1 q.1 ∧ ApartOnBus s.cfg.model q.1 p.1) :
    written s ws = written s xs := by
  induction hp generalizing s with
  | nil => rfl
  | cons p _ ih =>
    refine ih (State.busWrite_wf p.1 _ h) ?_
    rw [State.busWrite_cfg]
    exact (List.pairwise_cons.mp hapart).2
  | swap p q ws =>
    have hpq := ((List.pairwise_cons.mp hapart).1 p List.mem_cons_self).2
    show written ((s.busWrite q.1 _).busWrite p.1 _) ws = written ((s.busWrite p.1 _).busWrite q.1 _) ws
    rw [State.busWrite_comm h hpq]
  | trans hp _ ih ih' => exact (ih h hapart).trans (ih' h (hapart.perm hp fun hxy => hxy.symm))

end

/-! ### The fields of a TSS -/

/-- Fields at different offsets of a TSS have no byte in common. -/
theorem fields_apart (m : Model) (base : Word) {a b n : Nat} (h : a + n ≤ b) (hb : b + n ≤ 128) :
    ApartOnBus m (addrs (base + BitVec.ofNat 32 a).toNat n) (addrs (base + BitVec.ofNat 32 b).toNat n) ∧
    ApartOnBus m (addrs (base + BitVec.ofNat 32 b).toNat n) (addrs (base + BitVec.ofNat 32 a).toNat n) := by
  have hne : ApartOnBus m (addrs (base + BitVec.ofNat 32 a).toNat n) (addrs (base + BitVec.ofNat 32 b).toNat n) := by
    intro x hx y hy heq
    replace heq := congrArg (· % 2 ^ 20) heq
    rw [mem_addrs, BitVec.toNat_add, BitVec.toNat_ofNat] at hx hy
    simp only [busAddr_mod] at heq
    omega
  exact ⟨hne, fun y hy x hx heq => hne x hx y hy heq.symm⟩

theorem TssKind.bytes_le (k : TssKind) : k.width.bytes ≤ 4 := by cases k <;> decide

/-- The stores of a list of fields. -/
def State.fieldStores (s : State) (l : List (Nat × Word)) : List (List Nat × Word) :=
  l.map fun p => (fieldAt s p.1 s.tr.kind.width.bytes, trunc s.tr.kind.width p.2)

/-- The save step writes the fields of the statements, in another order. -/
theorem tssFields_perm (s : State) (ret ps : Word) : (s.tssFields ret ps).Perm (savedFields s ret ps) := by
  have moved (a b c : List (Nat × Word)) : (a ++ b ++ c).Perm (b ++ a ++ c) := List.perm_append_comm.append_right c
  unfold State.tssFields savedFields
  cases s.tr.kind with
  | tss286 =>
    exact moved [(0x12, _), (0x14, _), (0x16, _), (0x18, _), (0x1A, _), (0x1C, _), (0x1E, _), (0x20, _), (0x22, _), (0x24, _), (0x26, _),
      (0x28, _)] [(0x0E, _), (0x10, _)] [(0x2A, _)]
  | tss386 =>
    refine (moved [(0x28, _), (0x2C, _), (0x30, _), (0x34, _), (0x38, _), (0x3C, _), (0x40, _), (0x44, _), (0x48, _), (0x4C, _), (0x50, _),
      (0x54, _), (0x58, _), (0x5C, _)] [(0x20, _), (0x24, _)] [(0x60, _), (0x1C, _)]).trans ?_
    exact List.perm_append_comm (l₁ := [(0x20, _), (0x24, _), (0x28, _), (0x2C, _), (0x30, _), (0x34, _), (0x38, _), (0x3C, _), (0x40, _),
      (0x44, _), (0x48, _), (0x4C, _), (0x50, _), (0x54, _), (0x58, _), (0x5C, _), (0x60, _)]) (l₂ := [(0x1C, _)])

/-- The offsets of the fields, in the order of the save step. -/
def TssKind.offsets : TssKind → List Nat
  | .tss286 => [0x12, 0x14, 0x16, 0x18, 0x1A, 0x1C, 0x1E, 0x20, 0x22, 0x24, 0x26, 0x28, 0x0E, 0x10, 0x2A]
  | .tss386 => [0x28, 0x2C, 0x30, 0x34, 0x38, 0x3C, 0x40, 0x44, 0x48, 0x4C, 0x50, 0x54, 0x58, 0x5C, 0x20, 0x24, 0x60, 0x1C]

theorem tssFields_offsets (s : State) (ret ps : Word) : (s.tssFields ret ps).map Prod.fst = s.tr.kind.offsets := by
  unfold State.tssFields
  cases s.tr.kind <;> rfl

theorem savedFields_offsets (s : State) (ret ps ps' : Word) :
    (savedFields s ret ps).map Prod.fst = (savedFields s ret ps').map Prod.fst := by
  unfold savedFields
  cases s.tr.kind <;> rfl

/-- No field reaches into another one. -/
theorem TssKind.offsets_apart (k : TssKind) : k.offsets.Pairwise fun a b =>
    (a + k.width.bytes ≤ b ∧ b + k.width.bytes ≤ 128) ∨ (b + k.width.bytes ≤ a ∧ a + k.width.bytes ≤ 128) := by
  cases k <;> decide

/-- The stores of the save step are apart. -/
theorem fieldStores_apart (s : State) (ret ps : Word) : (s.fieldStores (s.tssFields ret ps)).Pairwise fun p q =>
    ApartOnBus s.cfg.model p.1 q.1 ∧ ApartOnBus s.cfg.model q.1 p.1 := by
  have hoffs := s.tr.kind.offsets_apart
  rw [← tssFields_offsets s ret ps, List.pairwise_map] at hoffs
  refine List.pairwise_map.mpr (hoffs.imp fun {p q} h => ?_)
  rcases h with ⟨hle, hend⟩ | ⟨hle, hend⟩
  · exact fields_apart s.cfg.model s.tr.base hle hend
  · exact (fields_apart s.cfg.model s.tr.base hle hend).symm

/-- PS as the save step stores it. -/
def savedPs (s : State) (k : SwitchKind) : Word := if k = .iret then s.getPS &&& ~~~psNT else s.getPS

theorem written_tssFields {s : State} (h : s.mem.wf = true) (k : SwitchKind) (ret : Word) :
    written s (s.fieldStores (s.tssFields ret (savedPs s k))) = written s (saveStores s k ret) :=
  written_perm h ((tssFields_perm s ret (savedPs s k)).map _) (fieldStores_apart s ret (savedPs s k))

/-! ### The save step (R622) -/

theorem Accessing.run_writeFields {s u v : State} (hp : s.pagingOn = false) (base : Word) (w : Width) (l : List (Nat × Word))
    (h : Accessing s u v) : ∃ t, writeFields base w.bytes l v = .ok () t ∧
      Accessing s (written u (l.map fun p => (addrs (base + BitVec.ofNat 32 p.1).toNat w.bytes, trunc w p.2))) t := by
  induction l generalizing u v with
  | nil => exact ⟨v, rfl, h⟩
  | cons p l ih =>
    obtain ⟨t, hrun, ht⟩ := h.run_sysWrite hp (base + BitVec.ofNat 32 p.1) w.bytes p.2
    obtain ⟨t', hrun', ht'⟩ := ih ht
    refine ⟨t', (run_bind_ok hrun _).trans hrun', ?_⟩
    rw [List.map_cons, written, length_addrs, leBytes_trunc]
    exact ht'

theorem Accessing.run_saveTask {s v : State} (h : Accessing s s v) (hm : s.mem.wf = true) (hp : s.pagingOn = false) (k : SwitchKind)
    (ret : Word) : ∃ t, saveTask k ret v = .ok () t ∧ Accessing s (written s (saveStores s k ret)) t := by
  obtain ⟨t, hrun, ht⟩ := h.run_writeFields hp s.tr.base s.tr.kind.width (s.tssFields ret (savedPs s k))
  rw [← written_tssFields hm]
  refine ⟨t, ?_, ht⟩
  obtain ⟨m, e, w, l, -, rfl, -⟩ := h
  exact hrun

/-- The save step notes no operand address. -/
theorem saveTask_notes {s t : State} {k : SwitchKind} {ret : Word} (h : saveTask k ret s = .ok () t) :
    t.regEA = s.regEA ∧ t.regEAWrite = s.regEAWrite := by
  have hstable : Stable fun t => t.regEA = s.regEA ∧ t.regEAWrite = s.regEAWrite :=
    ⟨fun ops bs u hu => ⟨(State.busStore_regEA u ops bs).trans hu.1, (State.busStore_regEAWrite u ops bs).trans hu.2⟩,
      fun _ _ hu => hu, fun _ _ hu => hu, fun _ hu => hu⟩
  have hkeep := keeps_saveTask hstable k ret s ⟨rfl, rfl⟩
  rwa [h] at hkeep

/-- Settles O38: the save step is a list of stores that are apart, so that each reads back. -/
theorem taskSaveWritesEveryField : Obligations.TaskSaveWritesEveryField := by
  unfold Obligations.TaskSaveWritesEveryField
  intro s k ret hm hp _
  obtain ⟨t, hrun, ht⟩ := (Accessing.refl s).run_saveTask hm hp k ret
  have hnotes := saveTask_notes hrun
  have hmem : SameMemory (written s (saveStores s k ret)) t := fun a => congrFun ht.busByte_eq a
  refine ⟨t, hrun, fun p hpin hram => ?read, fun a ha => ?others, ?devices, ?rest⟩
  case read =>
    rw [State.busRead, ht.busByte_eq, ← State.busRead, ← written_tssFields hm]
    have hin : (fieldAt s p.1 s.tr.kind.width.bytes, trunc s.tr.kind.width p.2) ∈ s.fieldStores (s.tssFields ret (savedPs s k)) :=
      List.mem_map_of_mem ((tssFields_perm s ret (savedPs s k)).mem_iff.mpr hpin)
    obtain ⟨i, hi⟩ := List.getElem?_of_mem hin
    have hread := busRead_written hm _ hi (length_addrs _ _) (nodup_addrs_four _ s.tr.kind.bytes_le) hram fun j q hij hq => ?_
    · rwa [trunc_trunc] at hread
    · obtain ⟨hi', hi⟩ := List.getElem?_eq_some_iff.mp hi
      obtain ⟨hj', hj⟩ := List.getElem?_eq_some_iff.mp hq
      have happart := (List.pairwise_iff_getElem.mp (fieldStores_apart s ret (savedPs s k)) i j hi' hj' hij).1
      rwa [hj, hi] at happart
  case others =>
    rw [hmem a]
    refine sameMemoryBut_written (saveStores s k ret) hm a fun ⟨q, hq, hbyte⟩ => ha ?_
    obtain ⟨p, hpin, rfl⟩ := List.mem_map.mp hq
    obtain ⟨p', hpin', hoff⟩ := List.mem_map.mp (savedFields_offsets s ret _ 0 ▸ List.mem_map_of_mem (f := Prod.fst) hpin)
    exact ⟨p', hpin', hoff ▸ hbyte⟩
  case devices =>
    obtain ⟨m, e, w, l, -, rfl, hl⟩ := ht
    exact hl
  case rest =>
    obtain ⟨m, e, w, l, -, rfl, -⟩ := ht
    obtain ⟨rfl, rfl⟩ := hnotes
    rfl

end Sys2Proof.Machine
end

section
/-! The tests before a task switch (47_task_and_mode.md R621, R631). -/

namespace Sys2Proof.Machine

section
variable {s v : State}

theorem ReadsOnly.run_fetchDesc (h : ReadsOnly s v) (hp : s.pagingOn = false) (sel : Half) :
    ∃ t, fetchDesc sel v = .ok (s.fetched? sel) t ∧ ReadsOnly s t := by
  obtain ⟨-, -, -, htable, haddr, -⟩ := h.accessing.fields_eq
  rw [fetchDesc, run_get_bind, htable, State.fetched?]
  by_cases hin : s.inTable sel = true
  · obtain ⟨t, hrun, ht⟩ := h.run_readDesc hp (v.descAddr sel)
    rw [if_neg ((inTable_iff s sel).mp hin), if_pos hin]
    refine ⟨t, ?_, ht⟩
    rw [run_bind_ok hrun, haddr]
    rfl
  · rw [if_pos (Decidable.not_not.mp fun hn => hin ((inTable_iff s sel).mpr hn)), if_neg hin]
    exact ⟨v, rfl, h⟩

end

/-! ### The format and the busy bit of a TSS by its type (R146, R611, R631) -/

/-- The types of R631. -/
def wantedTypes (needs : Bool) : List Nat := if needs then [3, 11] else [1, 9]

theorem tssOfType_of_wanted {m : Model} {needs : Bool} {d : Desc} (h : d.type ∈ wantedTypes needs)
    (h386 : ¬ (9 ≤ d.type ∧ m.has386 = false)) : tssOfType m d.type = some (tssKindOf d, needs) := by
  have hmodel : 9 ≤ d.type → m.has386 = true := fun hle => Bool.of_not_eq_false fun hno => h386 ⟨hle, hno⟩
  rw [tssKindOf]
  generalize d.type = k at *
  cases needs with
  | true =>
    rcases List.mem_pair.mp h with rfl | rfl
    · rfl
    · exact (if_pos (hmodel (by decide))).trans rfl
  | false =>
    rcases List.mem_pair.mp h with rfl | rfl
    · rfl
    · exact (if_pos (hmodel (by decide))).trans rfl

theorem wanted_of_tssOfType {m : Model} {k : Nat} {kind : TssKind} {busy : Bool} (h : tssOfType m k = some (kind, busy)) :
    k ∈ wantedTypes busy ∧ ¬ (9 ≤ k ∧ m.has386 = false) := by
  unfold tssOfType at h
  split at h <;> cases hm : m.has386 <;> simp_all [wantedTypes]

/-! ### The tests (R621) -/

/-- The exception of a selector that names no TSS to switch to. -/
def badTask (sel ext : Half) (k : SwitchKind) : Exn := if k = .iret then .ts (selCode sel ||| ext) else .gp (selCode sel ||| ext)

/-- The tests of a descriptor once it is read. -/
def testTaskDesc (c : Params) (sel ext : Half) (k : SwitchKind) (d : Desc) : M NewTask :=
  match tssOfType c.model d.type with
  | none => raise (badTask sel ext k)
  | some (kind, busy) => do
    ensure (!d.isSegment) (badTask sel ext k)
    ensure (busy == k.needsBusy c.taskBusy) (badTask sel ext k)
    ensure d.present (.np (selErr ext sel))
    ensure (decide (kind.minLimit ≤ d.limit.toNat)) (.ts (selErr ext sel))
    return ⟨sel, d, kind⟩

theorem testTask_eq (sel ext : Half) (k : SwitchKind) (s : State) : testTask sel k ext s = (do
    ensure (decide (s.tr.kind.minLimit ≤ s.tr.limit.toNat)) (.ts (selErr ext s.tr.sel))
    ensure (!(selNull sel || selTI sel)) (badTask sel ext k)
    match ← fetchDesc sel with
    | none => raise (badTask sel ext k)
    | some d => testTaskDesc s.cfg sel ext k d) s := by
  have hbad : badTask sel ext k = (match k with | .iret => .ts (selErr ext sel) | _ => .gp (selErr ext sel)) := by cases k <;> rfl
  rw [hbad]
  cases k <;> rfl

/-- The descriptor is of no TSS to switch to. -/
abbrev NoTask (s : State) (k : SwitchKind) (d : Desc) : Prop :=
  d.isSegment = true ∨ d.type ∉ wantedTypes (k.needsBusy s.cfg.taskBusy) ∨ (9 ≤ d.type ∧ s.cfg.model.has386 = false)

theorem testTaskDesc_bad {s : State} {k : SwitchKind} {d : Desc} (h : NoTask s k d) (sel ext : Half) (v : State) :
    testTaskDesc s.cfg sel ext k d v = .error (.exn (badTask sel ext k)) v.setNoReadWrite := by
  rw [testTaskDesc]
  cases htype : tssOfType s.cfg.model d.type with
  | none => rfl
  | some p =>
    obtain ⟨kind, busy⟩ := p
    obtain ⟨hwanted, h386⟩ := wanted_of_tssOfType htype
    cases hseg : d.isSegment with
    | true => rfl
    | false =>
      have hbusy : (busy == k.needsBusy s.cfg.taskBusy) = false := by
        refine beq_false_of_ne fun heq => ?_
        rcases h with h | h | h
        · exact absurd (h.symm.trans hseg) (by decide)
        · exact h (heq ▸ hwanted)
        · exact h386 h
      simp only [hbusy]
      rfl

theorem testTaskDesc_good {s : State} {k : SwitchKind} {d : Desc} (h : ¬ NoTask s k d) (sel ext : Half) :
    testTaskDesc s.cfg sel ext k d = (do
      ensure d.present (.np (selErr ext sel))
      ensure (decide (leastTss (tssKindOf d) ≤ d.limit.toNat)) (.ts (selErr ext sel))
      return ⟨sel, d, tssKindOf d⟩) := by
  obtain ⟨hseg, htype, h386⟩ := not_or.mp h |>.imp_right not_or.mp
  have hleast : leastTss (tssKindOf d) = (tssKindOf d).minLimit := by cases tssKindOf d <;> rfl
  rw [testTaskDesc, tssOfType_of_wanted (Decidable.not_not.mp htype) h386, eq_false_of_ne_true hseg, hleast]
  dsimp only
  rw [beq_self_eq_true]
  rfl

/-- The verdict of the statements, with the tests of the descriptor apart. -/
theorem taskVerdict_eq (s : State) (sel ext : Half) (k : SwitchKind) : taskVerdict s sel ext k =
    if s.tr.limit.toNat < leastTss s.tr.kind then some (.ts (selCode s.tr.sel ||| ext))
    else if sel.toNat < 4 ∨ sel.getLsbD 2 = true ∨ s.inTable sel = false ∨ NoTask s k (s.named sel) then some (badTask sel ext k)
    else if (s.named sel).present = false then some (.np (selCode sel ||| ext))
    else if (s.named sel).limit.toNat < leastTss (tssKindOf (s.named sel)) then some (.ts (selCode sel ||| ext))
    else none := by
  have hwanted : (if s.cfg.taskBusy = .intel ∧ k = .iret then [3, 11] else [1, 9]) = wantedTypes (k.needsBusy s.cfg.taskBusy) := by
    cases s.cfg.taskBusy <;> cases k <;> rfl
  rw [taskVerdict, hwanted]
  rfl

/-- The tests of R621 read memory only, and they come to the verdict of the statements. -/
theorem testTask_run {s : State} (hp : s.pagingOn = false) (sel ext : Half) (k : SwitchKind) : ∃ t, ReadsOnly s t ∧
    testTask sel k ext s = match taskVerdict s sel ext k with
      | some x => .error (.exn x) t.setNoReadWrite
      | none => .ok ⟨sel, s.named sel, tssKindOf (s.named sel)⟩ t := by
  have hleast : leastTss s.tr.kind = s.tr.kind.minLimit := by cases s.tr.kind <;> rfl
  rw [testTask_eq, taskVerdict_eq, hleast]
  by_cases hlimit : s.tr.limit.toNat < s.tr.kind.minLimit
  · rw [if_pos hlimit, decide_eq_false (Nat.not_le.mpr hlimit)]
    exact ⟨s, .refl s, rfl⟩
  rw [if_neg hlimit, ensure_of (decide_eq_true (Nat.not_lt.mp hlimit)), run_pure_bind, selNull_eq, selTI]
  by_cases hsel : sel.toNat < 4 ∨ sel.getLsbD 2 = true
  · have hno : (!(decide (sel.toNat < 4) || sel.getLsbD 2)) = false := by simpa [or_iff_not_imp_left] using hsel
    rw [if_pos (hsel.elim .inl fun h => .inr (.inl h)), hno]
    exact ⟨s, .refl s, rfl⟩
  obtain ⟨hnull, hti⟩ := not_or.mp hsel
  have hyes : (!(decide (sel.toNat < 4) || sel.getLsbD 2)) = true := by
    rw [decide_eq_false hnull, eq_false_of_ne_true hti]
    rfl
  obtain ⟨t, hfetch, ht⟩ := (ReadsOnly.refl s).run_fetchDesc hp sel
  rw [ensure_of hyes, run_pure_bind]
  refine ⟨t, ht, ?_⟩
  by_cases hbad : s.inTable sel = false ∨ NoTask s k (s.named sel)
  · rw [if_pos (Or.inr (Or.inr hbad)), run_bind_ok hfetch, State.fetched?]
    cases hin : s.inTable sel with
    | false => rfl
    | true => exact testTaskDesc_bad (hbad.resolve_left (by rw [hin]; decide)) sel ext t
  · obtain ⟨hin, htask⟩ := not_or.mp hbad
    rw [if_neg fun h => h.elim hnull fun h => h.elim hti hbad, run_bind_ok hfetch, State.fetched?, if_pos (Bool.of_not_eq_false hin)]
    show testTaskDesc s.cfg sel ext k (s.named sel) t = _
    rw [testTaskDesc_good htask]
    cases hpresent : (s.named sel).present with
    | false => rfl
    | true =>
      by_cases hfit : (s.named sel).limit.toNat < leastTss (tssKindOf (s.named sel))
      · rw [if_pos hfit, decide_eq_false (Nat.not_le.mpr hfit)]
        rfl
      · rw [if_neg hfit, decide_eq_true (Nat.not_lt.mp hfit)]
        rfl

end Sys2Proof.Machine
end

section
/-! The new task's state up to its segment registers (47_task_and_mode.md R622 to R625): the old task saved, the busy bits, TR, and the
image of the new TSS. -/

namespace Sys2Proof.Machine

/-! ### Operations that read memory only -/

section
variable {α β : Type} {s u v x : State}

theorem Accessing.rebase (h : Accessing s u v) : Accessing u u v := by
  obtain ⟨m, e, w, l, rfl, rfl, hl⟩ := h
  exact ⟨m, e, w, l, rfl, rfl, hl⟩

/-- A change of the state that neither reads nor writes what an access may leave. -/
theorem Accessing.update (h : Accessing x x v) (g : State → State)
    (hg : ∀ e w l, g { x with regEA := e, regEAWrite := w, busLog := l } = { g x with regEA := e, regEAWrite := w, busLog := l })
    (hcfg : (g x).cfg = x.cfg) (hlog : (g x).busLog = x.busLog) : Accessing (g x) (g x) (g v) := by
  obtain ⟨m, e, w, l, hm, rfl, hl⟩ := h
  obtain rfl : x.mem = m := congrArg State.mem hm
  refine ⟨(g x).mem, e, w, l, rfl, hg e w l, fun hd => hlog ▸ hl fun a ha => hd a ?_⟩
  rw [State.busKind, hcfg]
  exact ha

/-- `m` answers `a` from whatever is `x` but for what accesses leave, and leaves no more than that. -/
def Reads (x : State) (m : M α) (a : α) : Prop := ∀ v, Accessing x x v → ∃ t, m v = .ok a t ∧ Accessing x x t

theorem reads_pure (a : α) : Reads x (pure a) a := fun v h => ⟨v, rfl, h⟩

theorem Reads.bind {m : M α} {f : α → M β} {a : α} {b : β} (hm : Reads x m a) (hf : Reads x (f a) b) : Reads x (m >>= f) b := by
  intro v h
  obtain ⟨t, hrun, ht⟩ := hm v h
  obtain ⟨t', hrun', ht'⟩ := hf t ht
  exact ⟨t', (run_bind_ok hrun f).trans hrun', ht'⟩

/-! ### The image of a task (R613, R614, R625) -/

theorem reads_tssField (hp : x.pagingOn = false) (n off : Nat) : Reads x (tssField n off) (fieldOf x off n) := by
  intro v h
  obtain ⟨t, hrun, ht⟩ := h.run_sysRead hp (x.tr.base + BitVec.ofNat 32 off) n
  refine ⟨t, ?_, ht⟩
  obtain ⟨m, e, w, l, -, rfl, -⟩ := h
  exact hrun

theorem reads_tssSel (hp : x.pagingOn = false) (off : Nat) : Reads x (tssSel off) ((fieldOf x off 2).setWidth 16) :=
  (reads_tssField hp 2 off).bind (reads_pure _)

/-- The image that the TSS in TR holds. -/
def imageOf (x : State) : TaskImage :=
  match x.tr.kind with
  | .tss286 =>
    { cr3 := x.cr3, ps := fieldOf x 0x10 2
      gpr := ⟨fieldOf x 0x12 2, fieldOf x 0x14 2, fieldOf x 0x16 2, fieldOf x 0x18 2, fieldOf x 0x1A 2, fieldOf x 0x1C 2,
        fieldOf x 0x1E 2, fieldOf x 0x20 2⟩
      es := (fieldOf x 0x22 2).setWidth 16, ss := (fieldOf x 0x26 2).setWidth 16, ds := (fieldOf x 0x28 2).setWidth 16
      fs := 0, gs := 0, ldt := (fieldOf x 0x2A 2).setWidth 16 }
  | .tss386 =>
    { cr3 := fieldOf x 0x1C 4, ps := fieldOf x 0x24 4
      gpr := ⟨fieldOf x 0x28 4, fieldOf x 0x2C 4, fieldOf x 0x30 4, fieldOf x 0x34 4, fieldOf x 0x38 4, fieldOf x 0x3C 4,
        fieldOf x 0x40 4, fieldOf x 0x44 4⟩
      es := (fieldOf x 0x48 2).setWidth 16, ss := (fieldOf x 0x50 2).setWidth 16, ds := (fieldOf x 0x54 2).setWidth 16
      fs := (fieldOf x 0x58 2).setWidth 16, gs := (fieldOf x 0x5C 2).setWidth 16, ldt := (fieldOf x 0x60 2).setWidth 16 }

theorem reads_readTask (hp : x.pagingOn = false) : Reads x readTask (imageOf x) := by
  intro v h
  have field (n off : Nat) := reads_tssField hp n off
  have sel (off : Nat) := reads_tssSel hp off
  have htr : v.tr = x.tr ∧ v.cr3 = x.cr3 := by
    obtain ⟨m, e, w, l, -, rfl, -⟩ := h
    exact ⟨rfl, rfl⟩
  obtain ⟨htr, hcr3⟩ := htr
  rw [readTask, run_get_bind, htr, hcr3, imageOf]
  cases x.tr.kind with
  | tss286 =>
    refine Reads.bind (field _ _) ?_ v h
    iterate 8 refine Reads.bind (field _ _) ?_
    iterate 4 refine Reads.bind (sel _) ?_
    exact reads_pure _
  | tss386 =>
    refine Reads.bind (field _ _) ?_ v h
    iterate 9 refine Reads.bind (field _ _) ?_
    iterate 6 refine Reads.bind (sel _) ?_
    exact reads_pure _

theorem run_onStop_ok {f : State → State} {m : M α} {a : α} {t : State} (h : m v = .ok a t) : onStop f m v = .ok a t := by
  rw [onStop, h]

/-- The entry point of the new task is read and entered. -/
theorem Accessing.run_enterEntry (h : Accessing x x v) (hp : x.pagingOn = false) :
    let y := x.enterAt (byKind x 0x0E 0x20 4) (taskSel x 0x24 0x4C)
    ∃ t, enterEntry v = .ok (taskSel x 0x24 0x4C) t ∧ Accessing y y t := by
  intro y
  have htr : v.tr = x.tr := by
    obtain ⟨m, e, w, l, -, rfl, -⟩ := h
    rfl
  obtain ⟨t₁, hpc, h₁⟩ := reads_tssField hp x.tr.kind.width.bytes (match x.tr.kind with | .tss286 => 0x0E | .tss386 => 0x20) v h
  obtain ⟨t, hcs, ht⟩ := reads_tssSel hp (match x.tr.kind with | .tss286 => 0x24 | .tss386 => 0x4C) t₁ h₁
  have hy := ht.update (State.enterAt (byKind x 0x0E 0x20 4) (taskSel x 0x24 0x4C)) (fun _ _ _ => rfl) rfl rfl
  refine ⟨_, ?_, hy⟩
  rw [enterEntry, run_read_bind, htr]
  rw [byKind, taskSel, byKind]
  revert hpc hcs
  cases x.tr.kind <;> intro hpc hcs <;>
    exact (run_bind_ok (run_onStop_ok hpc) _).trans (run_bind_ok (run_onStop_ok hcs) _)

end

/-! ### The old task is left (R622 to R624, R629) -/

/-- The store that clears the old TSS's busy bit. -/
def clearStores (s u : State) (k : SwitchKind) : List (List Nat × Word) :=
  if s.cfg.taskBusy = .source ∨ k = .jmp ∨ k = .iret then [(oldBusyAt s, u.busRead (oldBusyAt s) &&& 0xFFFFFDFF#32)] else []

/-- The store that sets the new TSS's busy bit. -/
def setStores (s : State) (sel : Half) (k : SwitchKind) : List (List Nat × Word) :=
  if s.cfg.taskBusy = .source ∨ k ≠ .iret then [(addrs ((s.named sel).addr + 4).toNat 2, ((s.named sel).w2 ||| 0x0200).setWidth 32)]
  else []

theorem clearsOld_iff (c : TaskBusyStyle) (k : SwitchKind) : k.clearsOld c = true ↔ c = .source ∨ k = .jmp ∨ k = .iret := by
  cases c <;> cases k <;> decide

theorem setsNew_iff (c : TaskBusyStyle) (k : SwitchKind) : (!k.needsBusy c) = true ↔ c = .source ∨ k ≠ .iret := by
  cases c <;> cases k <;> decide

section
variable {s u v : State}

theorem Accessing.run_clearBusy (h : Accessing s u v) (hp : s.pagingOn = false) (k : SwitchKind) :
    ∃ t, whenM (k.clearsOld s.cfg.taskBusy) clearBusy v = .ok () t ∧ Accessing s (written u (clearStores s u k)) t := by
  by_cases hold : s.cfg.taskBusy = .source ∨ k = .jmp ∨ k = .iret
  · obtain ⟨t, hread, ht⟩ := h.run_sysRead hp (s.gdtr.base + (s.tr.sel &&& 0xFFF8).setWidth 32 + 4) 2
    obtain ⟨t', hwrite, ht'⟩ := ht.run_sysWrite hp (s.gdtr.base + (s.tr.sel &&& 0xFFF8).setWidth 32 + 4) 2
      (u.busRead (oldBusyAt s) &&& 0xFFFFFDFF#32)
    rw [clearStores, if_pos hold, (clearsOld_iff _ _).mpr hold]
    refine ⟨t', ?_, ht'⟩
    obtain ⟨m, e, w, l, -, rfl, -⟩ := h
    exact (run_bind_ok hread _).trans hwrite
  · rw [clearStores, if_neg hold, eq_false_of_ne_true (mt (clearsOld_iff _ _).mp hold)]
    exact ⟨v, rfl, h⟩

theorem Accessing.run_setBusy (h : Accessing s u v) (hp : s.pagingOn = false) (sel : Half) (k : SwitchKind) :
    ∃ t, whenM (!k.needsBusy s.cfg.taskBusy) (sysWrite ((s.named sel).addr + 4) 2 (((s.named sel).w2 ||| 0x0200).setWidth 32)) v =
      .ok () t ∧ Accessing s (written u (setStores s sel k)) t := by
  by_cases hnew : s.cfg.taskBusy = .source ∨ k ≠ .iret
  · rw [setStores, if_pos hnew, (setsNew_iff _ _).mpr hnew]
    exact h.run_sysWrite hp _ 2 _
  · rw [setStores, if_neg hnew, eq_false_of_ne_true (mt (setsNew_iff _ _).mp hnew)]
    exact ⟨v, rfl, h⟩

/-- The steps before the new task is loaded. -/
def leaveTask (n : NewTask) (k : SwitchKind) (ret : Word) (c : TaskBusyStyle) : M Unit := do
  saveTask k ret
  whenM (k.clearsOld c) clearBusy
  enterTask n (!k.needsBusy c)

/-- The state that the new task is loaded in. -/
def leftTask (s : State) (sel : Half) (k : SwitchKind) (ret : Word) : State := { switched s sel k ret with cr0 := s.cr0 ||| 8 }

theorem written_left (s : State) (sel : Half) (k : SwitchKind) (ret : Word) :
    written (written (written s (saveStores s k ret)) (clearStores s (written s (saveStores s k ret)) k)) (setStores s sel k) =
      written s (saveStores s k ret ++ busyStores s sel k ret) := by
  rw [busyStores, ← List.append_assoc, written_append, written_append]
  rfl

theorem Accessing.run_leaveTask (h : Accessing s s v) (hm : s.mem.wf = true) (hp : s.pagingOn = false) (sel : Half) (k : SwitchKind)
    (ret : Word) : ∃ t, leaveTask ⟨sel, s.named sel, tssKindOf (s.named sel)⟩ k ret s.cfg.taskBusy v = .ok () t ∧
      Accessing (leftTask s sel k ret) (leftTask s sel k ret) t := by
  obtain ⟨t₁, hsave, h₁⟩ := h.run_saveTask hm hp k ret
  obtain ⟨t₂, hclear, h₂⟩ := h₁.run_clearBusy hp k
  obtain ⟨t₃, hset, h₃⟩ := h₂.run_setBusy hp sel k
  rw [written_left] at h₃
  rw [leftTask, switched]
  generalize written s (saveStores s k ret ++ busyStores s sel k ret) = u at h₃
  obtain ⟨m, e, w, l, rfl, rfl, hl⟩ := h₃
  exact ⟨_, (run_bind_ok hsave _).trans ((run_bind_ok hclear _).trans ((run_bind_ok hset _).trans rfl)), m, e, w, l, rfl, rfl, hl⟩

end

theorem taskSwitch_eq (sel ext : Half) (k : SwitchKind) (ret : Word) (s : State) : taskSwitch sel k ret ext s =
    (testTask sel k ext >>= fun n => get >>= fun t => leaveTask n k ret t.cfg.taskBusy >>= fun _ => loadTask k ext t.tr.sel) s := by
  simp only [taskSwitch, leaveTask, bind_assoc]

end Sys2Proof.Machine
end

section
/-! The new task (47_task_and_mode.md R625, R626, R630): its registers from the image, LDTR, CR3 and the back-link. -/

namespace Sys2Proof.Machine

section
variable {s u v x : State}

/-- The state of the new task when its image is loaded. -/
def newTask (x : State) : State := (x.enterAt (byKind x 0x0E 0x20 4) (taskSel x 0x24 0x4C)).enterImage (imageOf x)

/-- What follows the load of LDTR. -/
def afterLdt (k : SwitchKind) (ext back cs : Half) (i : TaskImage) : M Unit :=
  if bit i.ps 17 then refuse .virtual8086 else do
    modify (State.setCr3 i.cr3)
    whenM k.nests (nestTask back)
    loadTaskSegs cs i ext

/-- What follows the image. -/
def afterImage (k : SwitchKind) (ext back cs : Half) (i : TaskImage) : M Unit := do
  loadLdt (fun _ => .ts (selErr ext i.ldt)) i.ldt
  afterLdt k ext back cs i

theorem Accessing.run_image (h : Accessing x x v) (hp : x.pagingOn = false) (k : SwitchKind) (ext back : Half) :
    ∃ t, Accessing (newTask x) (newTask x) t ∧
      loadTask k ext back v = afterImage k ext back (taskSel x 0x24 0x4C) (imageOf x) t := by
  obtain ⟨t₁, hentry, h₁⟩ := h.run_enterEntry hp
  obtain ⟨t₂, himage, h₂⟩ := reads_readTask (x := x.enterAt (byKind x 0x0E 0x20 4) (taskSel x 0x24 0x4C)) hp t₁ h₁
  refine ⟨_, h₂.update (State.enterImage (imageOf x)) (fun _ _ _ => rfl) rfl rfl, ?_⟩
  rw [loadTask, run_bind_ok hentry]
  exact run_bind_ok himage _

/-! ### The new task's registers -/

theorem imageOf_ldt (x : State) : (imageOf x).ldt = taskSel x 0x2A 0x60 := by
  rw [imageOf, taskSel, byKind]
  cases x.tr.kind <;> rfl

theorem imageOf_ps (x : State) : (imageOf x).ps = taskPs x := by
  rw [imageOf, taskPs, byKind]
  cases x.tr.kind <;> rfl

theorem imageOf_sels (x : State) : (imageOf x).ss = taskSel x 0x26 0x50 ∧ (imageOf x).ds = taskSel x 0x28 0x54 ∧
    (imageOf x).es = taskSel x 0x22 0x48 ∧ (imageOf x).fs = taskSel386 x 0x58 ∧ (imageOf x).gs = taskSel386 x 0x5C := by
  simp only [imageOf, taskSel, byKind, taskSel386]
  cases x.tr.kind <;> exact ⟨rfl, rfl, rfl, rfl, rfl⟩

/-- Each register of the new task is empty with its new selector. -/
theorem newTask_seg (x : State) : ∀ p ∈ taskSels x, (newTask x).seg p.1 = (x.seg p.1).emptied p.2 := by
  obtain ⟨hss, hds, hes, hfs, hgs⟩ := imageOf_sels x
  have hfirst : ∀ p ∈ [(SReg.cs, taskSel x 0x24 0x4C), (.ss, taskSel x 0x26 0x50), (.ds, taskSel x 0x28 0x54),
      (.es, taskSel x 0x22 0x48)], (newTask x).seg p.1 = (x.seg p.1).emptied p.2 := by
    rw [← hss, ← hds, ← hes]
    exact List.forall_mem_cons.mpr ⟨rfl, List.forall_mem_cons.mpr ⟨rfl, List.forall_mem_cons.mpr ⟨rfl, List.forall_mem_cons.mpr
      ⟨rfl, List.forall_mem_nil _⟩⟩⟩⟩
  rw [taskSels]
  cases h386 : x.cfg.model.has386 with
  | false => exact hfirst
  | true =>
    refine List.forall_mem_append.mpr ⟨hfirst, ?_⟩
    rw [if_pos rfl, ← hfs, ← hgs]
    exact List.forall_mem_cons.mpr ⟨if_pos h386, List.forall_mem_cons.mpr ⟨if_pos h386, List.forall_mem_nil _⟩⟩

theorem newTask_extra (x : State) (h : x.cfg.model.has386 = false) : (newTask x).fs = x.fs ∧ (newTask x).gs = x.gs :=
  ⟨if_neg (show ¬ x.cfg.model.has386 = true from ne_true_of_eq_false h),
    if_neg (show ¬ x.cfg.model.has386 = true from ne_true_of_eq_false h)⟩

/-- The halves of a register that a 16-bit value replaces, as numbers. -/
theorem merge_w16_eq (old x : Word) (hx : x.toNat < 65536) :
    merge .w16 old x = BitVec.ofNat 32 (old.toNat / 65536 * 65536 + x.toNat) := by
  apply BitVec.eq_of_toNat_eq
  have hold := old.isLt
  rw [toNat_merge, BitVec.toNat_ofNat, Nat.mod_eq_of_lt (show x.toNat < 2 ^ Width.w16.bits from hx), Nat.mod_eq_of_lt (by omega)]
  rfl

theorem newTask_gpr (x : State) (h : x.tr.kind = .tss386 → x.cfg.model.has386 = true) : (newTask x).gpr = taskGpr x := by
  have hold (old : Word) (off : Nat) (h386 : x.cfg.model.has386 = false) :
      merge .w16 old (fieldOf x off 2) = gprOf286 x old off := by
    rw [gprOf286, h386, if_neg Bool.false_ne_true]
    exact merge_w16_eq _ _ (toNat_lt_of_trunc (w := .w16) (x.trunc_busRead (length_addrs _ 2)))
  have hnew (old : Word) (off : Nat) (h386 : x.cfg.model.has386 = true) : fieldOf x off 2 = gprOf286 x old off := by
    rw [gprOf286, if_pos h386]
  have hgpr : (newTask x).gpr = if x.cfg.model.has386 then (imageOf x).gpr else x.gpr.withLow (imageOf x).gpr := rfl
  rw [hgpr, taskGpr, imageOf]
  cases hkind : x.tr.kind with
  | tss386 => exact if_pos (h hkind)
  | tss286 =>
    cases h386 : x.cfg.model.has386 with
    | true => simp only [← hnew _ _ h386, if_true]
    | false =>
      simp only [← hold _ _ h386]
      rfl

end

end Sys2Proof.Machine
end

section
/-! The segment loads of a task switch (47_task_and_mode.md R625, R627), one register at a time. -/

namespace Sys2Proof.Machine

/-! ### States that agree on what a selector names -/

/-- The states agree on the descriptor tables, memory and CPL. -/
structure Agree (w y : State) : Prop where
  cfg  : w.cfg = y.cfg
  cpl  : w.cpl = y.cpl
  gdtr : w.gdtr = y.gdtr
  ldtr : w.ldtr = y.ldtr
  mem  : w.mem = y.mem

section
variable {s w y t : State}

theorem Agree.named_eq (h : Agree w y) : w.named = y.named ∧ w.inTable = y.inTable ∧ w.busByte = y.busByte := by
  obtain ⟨hcfg, -, hgdtr, hldtr, hmem⟩ := h
  cases w
  cases y
  dsimp only at hcfg hgdtr hldtr hmem
  subst hcfg hgdtr hldtr hmem
  exact ⟨rfl, rfl, rfl⟩

theorem Agree.verdict_eq (h : Agree w y) (ext : Half) (r : SReg) (sel : Half) :
    taskSegVerdict w ext r sel = taskSegVerdict y ext r sel := by
  obtain ⟨hnamed, hin, -⟩ := h.named_eq
  cases r <;> simp only [taskSegVerdict, hnamed, hin, h.cpl, h.cfg]

theorem busWrite_mem_congr (hcfg : w.cfg = y.cfg) (hmem : w.mem = y.mem) (as : List Nat) (bs : List Byte) :
    (w.busWrite as bs).mem = (y.busWrite as bs).mem := by
  induction as generalizing bs w y with
  | nil => exact hmem
  | cons a as ih =>
    cases bs with
    | nil => exact hmem
    | cons b bs =>
      refine ih ?_ ?_ bs
      · rw [State.setBusByte_eq w, State.setBusByte_eq y]
        exact hcfg
      · rw [State.setBusByte_eq w, State.setBusByte_eq y]
        simp only [State.busKind, hcfg, hmem]
        rfl

theorem written_mem_congr (hcfg : w.cfg = y.cfg) (hmem : w.mem = y.mem) (ws : List (List Nat × Word)) :
    (written w ws).mem = (written y ws).mem := by
  induction ws generalizing w y with
  | nil => exact hmem
  | cons p ws ih => exact ih (by rw [State.busWrite_cfg, State.busWrite_cfg, hcfg]) (busWrite_mem_congr hcfg hmem _ _)

theorem Agree.marked (h : Agree w y) (sel : Half) : Agree (marked w sel) (marked y sel) := by
  obtain ⟨hnamed, -⟩ := h.named_eq
  have hmem := written_mem_congr h.cfg h.mem (if sel.toNat < 4 then [] else markStores (y.named sel))
  rw [Machine.marked, Machine.marked, hnamed]
  generalize (if sel.toNat < 4 then [] else markStores (y.named sel)) = ws at hmem
  rw [written_eq ws w, written_eq ws y]
  exact ⟨h.cfg, h.cpl, h.gdtr, h.ldtr, hmem⟩

/-! ### One register -/

/-- Why a rule refuses a descriptor. -/
def refusal {α : Type} (x : SelFault → Exn) : Except SelFault α → Option Exn
  | .error f => some (x f)
  | .ok _ => none

theorem refusal_ite {α : Type} (x : SelFault → Exn) (c : Prop) [Decidable c] (a b : Except SelFault α) :
    refusal x (if c then a else b) = if c then refusal x a else refusal x b := apply_ite _ c a b

/-- A selector that is null or beyond its table is refused like the other, any other as its descriptor is. -/
theorem refusal_tested {x : SelFault → Exn} (hx : x .limit = x .null) (y : State) (sel : Half) (rule : Desc → Except SelFault Unit) :
    refusal x (y.tested sel rule) =
      if decide (4 ≤ sel.toNat) && y.inTable sel then refusal x (rule (y.named sel)) else some (x .null) := by
  rw [State.tested]
  by_cases hnull : sel.toNat < 4
  · rw [if_pos hnull, decide_eq_false (Nat.not_le.mpr hnull)]
    rfl
  rw [if_neg hnull, decide_eq_true (Nat.not_lt.mp hnull), Bool.true_and]
  cases y.inTable sel with
  | false => exact congrArg some hx
  | true => cases rule (y.named sel) <;> rfl

/-- The state that a successful load leaves. -/
def loadedSeg (y : State) (r : SReg) (sel : Half) : State := (marked y sel).setSeg r (taskRecord y y r sel)

/-- How the load of a register ends: with its exception and nothing changed, or with the register loaded. -/
def LoadEnds (y : State) (r : SReg) (sel : Half) (o : EStateM.Result Stop State Unit) : Option Exn → Prop
  | some x => ∃ u, Accessing y y u ∧ o = .error (.exn x) u.setNoReadWrite
  | none => ∃ u, Accessing (loadedSeg y r sel) (loadedSeg y r sel) u ∧ o = .ok () u

theorem Accessing.setSeg (h : Accessing y y t) (r : SReg) (x : SegReg) : Accessing (y.setSeg r x) (y.setSeg r x) (t.setSeg r x) :=
  h.update (State.setSeg r x) (fun _ _ _ => by cases r <;> rfl) (by cases r <;> rfl) (by cases r <;> rfl)

theorem Accessing.run_loadTaskSeg (h : Accessing y y t) (hp : y.pagingOn = false) (r : SReg) (sel : Half) (x : SelFault → Exn)
    (rule : Desc → Except SelFault Unit) : LoadEnds y r sel (loadTaskSeg r sel x rule t) (refusal x (y.tested sel rule)) := by
  obtain ⟨u, hrun, hu⟩ := h.run_testSel hp sel rule
  rw [loadTaskSeg, run_bind_ok hrun]
  rcases htest : y.tested sel rule with f | ⟨d, a⟩
  · exact ⟨u, hu, rfl⟩
  · obtain ⟨hsel, rfl⟩ := State.tested_ok htest
    obtain ⟨u', hmark, hu'⟩ := hu.run_mark hp (y.named sel)
    have hmarked : marked y sel = written y (markStores (y.named sel)) := by rw [marked, if_neg hsel]
    have hrecord : taskRecord y y r sel = (y.named sel).record sel := by
      rw [taskRecord, if_neg hsel]
      rfl
    refine ⟨u'.setSeg r ((y.named sel).record sel), ?_, (run_bind_ok hmark _).trans rfl⟩
    rw [loadedSeg, hmarked, hrecord]
    exact hu'.rebase.setSeg r _

/-- The load of one register of the new task. -/
def loadOne (ext : Half) (r : SReg) (sel : Half) : M Unit :=
  match r with
  | .cs => loadTaskSeg .cs sel (SelFault.tsNp ext sel) (ruleCsTask sel)
  | .ss => do
    let s ← get
    loadTaskSeg .ss sel (SelFault.tsSs s.cfg.taskStack ext sel) (ruleSs s.cpl sel)
  | .ds | .es | .fs | .gs => loadTaskData r sel ext

theorem taskSegVerdict_cs (y : State) (ext sel : Half) :
    taskSegVerdict y ext .cs sel = refusal (SelFault.tsNp ext sel) (y.tested sel (ruleCsTask sel)) := by
  rw [refusal_tested rfl, taskSegVerdict]
  generalize (decide (4 ≤ sel.toNat) && y.inTable sel) = known
  generalize y.named sel = d
  cases known with
  | false => rfl
  | true =>
    have hpriv : (if d.conforming then selRPL sel < d.dpl else d.dpl ≠ selRPL sel) ↔
        ¬ if d.conforming then d.dpl ≤ selRPL sel else d.dpl = selRPL sel := by
      cases d.conforming <;> simp
    simp only [hpriv, if_pos, Bool.true_and, ruleCsTask, refusal_ite, ite_not]
    cases d.conforming <;> simp only [beq_iff_eq] <;> rfl

theorem taskSegVerdict_ss (y : State) (ext sel : Half) :
    taskSegVerdict y ext .ss sel = refusal (SelFault.tsSs y.cfg.taskStack ext sel) (y.tested sel (ruleSs y.cpl sel)) := by
  rw [refusal_tested rfl, taskSegVerdict]
  generalize (decide (4 ≤ sel.toNat) && y.inTable sel) = known
  generalize y.named sel = d
  cases known with
  | false => rfl
  | true =>
    have hbad : (!(true && d.isSegment && !d.isCode && d.rw && d.dpl == y.cpl && selRPL sel == y.cpl)) =
        ((!d.isSegment || d.isCode || !d.rw) || !(d.dpl == y.cpl && selRPL sel == y.cpl)) := by
      simp only [Bool.true_and, Bool.not_and, Bool.not_not, Bool.or_assoc]
    rw [if_pos rfl, ruleSs, hbad]
    generalize (!d.isSegment || d.isCode || !d.rw) = type
    generalize (!(d.dpl == y.cpl && selRPL sel == y.cpl)) = level
    cases y.cfg.taskStack <;> cases type <;> cases level <;> cases d.present <;> rfl

theorem taskSegVerdict_data (y : State) (ext : Half) {r : SReg} {sel : Half} (hcs : r ≠ .cs) (hss : r ≠ .ss) (h : ¬ sel.toNat < 4) :
    taskSegVerdict y ext r sel = refusal (SelFault.tsNp ext sel) (y.tested sel (ruleData y.cpl sel)) := by
  have hdata : taskSegVerdict y ext r sel = taskSegVerdict y ext .ds sel := by
    cases r with
    | cs => exact absurd rfl hcs
    | ss => exact absurd rfl hss
    | ds | es | fs | gs => rfl
  rw [hdata, refusal_tested rfl, taskSegVerdict]
  generalize (decide (4 ≤ sel.toNat) && y.inTable sel) = known
  generalize y.named sel = d
  rw [if_neg h]
  cases known with
  | false => rfl
  | true =>
    have hle (a b : BitVec 2) : decide (b ≤ a) = !decide (a < b) := by rw [← decide_not, decide_eq_decide, BitVec.not_lt]
    have hbad : (!(true && d.isSegment && (!d.isCode || d.rw) &&
        ((d.isCode && d.conforming) || (decide (y.cpl ≤ d.dpl) && decide (selRPL sel ≤ d.dpl))))) =
        ((!d.isSegment || d.isCode && !d.rw) ||
          !(d.isCode && d.conforming) && (decide (d.dpl < y.cpl) || decide (d.dpl < selRPL sel))) := by
      simp only [hle, Bool.true_and, Bool.not_and, Bool.not_or, Bool.not_not, Bool.or_assoc]
    rw [if_pos rfl, ruleData, hbad]
    generalize (!d.isSegment || d.isCode && !d.rw) = type
    generalize (!(d.isCode && d.conforming) && (decide (d.dpl < y.cpl) || decide (d.dpl < selRPL sel))) = level
    cases type <;> cases level <;> cases d.present <;> rfl

theorem Accessing.run_loadTaskData (h : Accessing y y t) (hp : y.pagingOn = false) (ext : Half) {r : SReg} (hcs : r ≠ .cs)
    (hss : r ≠ .ss) (sel : Half) : LoadEnds y r sel (loadTaskData r sel ext t) (taskSegVerdict y ext r sel) := by
  obtain ⟨-, hcpl, hseg, -⟩ := h.fields_eq
  rw [loadTaskData, run_get_bind, selNull_eq, hcpl, hseg]
  by_cases hnull : sel.toNat < 4
  · have hnone : taskSegVerdict y ext r sel = none := by
      cases r with
      | cs => exact absurd rfl hcs
      | ss => exact absurd rfl hss
      | ds | es | fs | gs => exact if_pos hnull
    have hloaded : loadedSeg y r sel = y.setSeg r ((y.seg r).invalid sel) := by
      rw [loadedSeg, marked, taskRecord, if_pos hnull, if_pos hnull]
      rfl
    rw [hnone, if_pos (decide_eq_true hnull)]
    refine ⟨_, ?_, rfl⟩
    rw [hloaded]
    exact h.setSeg r _
  · rw [if_neg (by simpa using hnull), taskSegVerdict_data y ext hcs hss hnull]
    exact h.run_loadTaskSeg hp r sel _ _

theorem Accessing.run_loadOne (h : Accessing y y t) (hp : y.pagingOn = false) (ext : Half) (r : SReg) (sel : Half) :
    LoadEnds y r sel (loadOne ext r sel t) (taskSegVerdict y ext r sel) := by
  obtain ⟨hcfg, hcpl, -⟩ := h.fields_eq
  cases r with
  | cs =>
    rw [taskSegVerdict_cs]
    exact h.run_loadTaskSeg hp .cs sel _ _
  | ss =>
    rw [taskSegVerdict_ss, loadOne, run_get_bind, hcfg, hcpl]
    exact h.run_loadTaskSeg hp .ss sel _ _
  | ds | es | fs | gs => exact h.run_loadTaskData hp ext (by decide) (by decide) sel

end

end Sys2Proof.Machine
end

section
/-! The segment registers of the new task, one after the other (47_task_and_mode.md R625, R627). -/

namespace Sys2Proof.Machine

/-- `z` is `y` but for memory, the segment registers and the instruction pointer. -/
def ButSegs (y z : State) : Prop := z = { y with
  mem := z.mem, pc := z.pc, opLIP := z.opLIP, es := z.es, cs := z.cs, ss := z.ss, ds := z.ds, fs := z.fs, gs := z.gs }

/-- What a row of loads `l` by the selectors `sels` makes of `y`, whose registers are those of `s` emptied. -/
structure LoadsOf (s y z : State) (sels : List (SReg × Half)) (l : TaskLoads) : Prop where
  agree  : Agree l.left z
  same   : ButSegs y z
  regs   : ∀ i < sels.length, z.seg (sels.getD i (.cs, 0)).1 =
    l.recs.getD i ((s.seg (sels.getD i (.cs, 0)).1).emptied (sels.getD i (.cs, 0)).2)
  others : ∀ r, r ∉ sels.map Prod.fst → z.seg r = y.seg r

/-- How the loads end: as `l` says, and after an exception with NOREAD and NOWRITE set. -/
def RowEnds (l : TaskLoads) (o : EStateM.Result Stop State Unit) (u : State) : Prop :=
  match l.fails with
  | none => o = .ok () u
  | some x => o = .error (.exn x) u.setNoReadWrite

/-- The loads of a row. -/
def loadRow (ext : Half) : List (SReg × Half) → M Unit
  | [] => pure ()
  | p :: r => do
    loadOne ext p.1 p.2
    loadRow ext r

theorem ButSegs.refl (y : State) : ButSegs y y := rfl

theorem ButSegs.trans {x y z : State} (h : ButSegs x y) (h' : ButSegs y z) : ButSegs x z :=
  Eq.trans h' (by rw [h])

theorem butSegs_loadedSeg (y : State) (r : SReg) (sel : Half) : ButSegs y (loadedSeg y r sel) := by
  rw [loadedSeg, marked, written_eq, ButSegs]
  cases r <;> rfl

theorem loadedSeg_pc (y : State) (r : SReg) (sel : Half) : (loadedSeg y r sel).pc = y.pc ∧ (loadedSeg y r sel).opLIP = y.opLIP := by
  rw [loadedSeg, marked, written_eq]
  cases r <;> exact ⟨rfl, rfl⟩

theorem marked_seg (y : State) (sel : Half) : (marked y sel).seg = y.seg := by
  rw [marked, written_eq]
  rfl

theorem loadedSeg_seg_other (y : State) {r q : SReg} (h : q ≠ r) (sel : Half) : (loadedSeg y r sel).seg q = y.seg q := by
  rw [loadedSeg, State.seg_setSeg_other _ h, marked_seg]

theorem loadedSeg_seg_same (y : State) (r : SReg) (sel : Half) : (loadedSeg y r sel).seg r = taskRecord y y r sel :=
  State.seg_setSeg_same _ _ _

section
variable {s w y t : State}

theorem Agree.loadedSeg (h : Agree w y) (r : SReg) (sel : Half) : Agree (Machine.marked w sel) (Machine.loadedSeg y r sel) := by
  obtain ⟨hcfg, hcpl, hgdtr, hldtr, hmem⟩ := h.marked sel
  rw [Machine.loadedSeg]
  cases r <;> exact ⟨hcfg, hcpl, hgdtr, hldtr, hmem⟩

/-- The record of the statement, where the register was emptied before. -/
theorem Agree.taskRecord_eq (h : Agree w y) {r : SReg} {sel : Half} (hseg : y.seg r = (s.seg r).emptied sel) :
    taskRecord y y r sel = taskRecord s w r sel := by
  rw [taskRecord, taskRecord, hseg, h.named_eq.1]
  rfl

theorem ButSegs.pagingOn_eq (h : ButSegs w y) : y.pagingOn = w.pagingOn := by
  rw [h]
  rfl

theorem Accessing.run_loadRow (ext : Half) (sels : List (SReg × Half)) (hkeys : (sels.map Prod.fst).Nodup) (h : Accessing y y t)
    (hp : y.pagingOn = false) (hw : Agree w y) (hempty : ∀ p ∈ sels, y.seg p.1 = (s.seg p.1).emptied p.2) :
    ∃ z u, Accessing z z u ∧ LoadsOf s y z sels (taskLoads s ext sels w) ∧ (z.pc = y.pc ∧ z.opLIP = y.opLIP) ∧
      RowEnds (taskLoads s ext sels w) (loadRow ext sels t) u := by
  induction sels generalizing w y t with
  | nil => exact ⟨y, t, h, ⟨hw, .refl y, fun i hi => absurd hi (Nat.not_lt_zero i), fun _ _ => rfl⟩, ⟨rfl, rfl⟩, rfl⟩
  | cons p sels ih =>
    obtain ⟨hp1, hkeys⟩ := List.nodup_cons.mp hkeys
    obtain ⟨hempty₁, hempties⟩ := List.forall_mem_cons.mp hempty
    have hone := h.run_loadOne hp ext p.1 p.2
    rw [loadRow, taskLoads, hw.verdict_eq]
    cases hverdict : taskSegVerdict y ext p.1 p.2 with
    | some x =>
      rw [hverdict] at hone
      obtain ⟨u, hu, hrun⟩ := hone
      refine ⟨y, u, hu, ⟨hw, .refl y, fun i hi => hempty _ ?_, fun _ _ => rfl⟩, ⟨rfl, rfl⟩, run_bind_error hrun _⟩
      rw [List.getD_eq_getElem _ _ hi]
      exact List.getElem_mem hi
    | none =>
      rw [hverdict] at hone
      obtain ⟨t₁, h₁, hrun⟩ := hone
      have hother (q : SReg × Half) (hq : q ∈ sels) : q.1 ≠ p.1 := fun heq => hp1 (heq ▸ List.mem_map_of_mem hq)
      obtain ⟨z, u, hu, hloads, ⟨hpc, hlip⟩, hends⟩ := ih hkeys h₁ ((butSegs_loadedSeg y p.1 p.2).pagingOn_eq.trans hp)
        (hw.loadedSeg p.1 p.2) fun q hq => (loadedSeg_seg_other y (hother q hq) p.2).trans (hempties q hq)
      obtain ⟨hagree, hsame, hregs, hothers⟩ := hloads
      obtain ⟨hpc₁, hlip₁⟩ := loadedSeg_pc y p.1 p.2
      refine ⟨z, u, hu, ⟨hagree, (butSegs_loadedSeg y p.1 p.2).trans hsame, fun i hi => ?_, fun r hr => ?_⟩,
        ⟨hpc.trans hpc₁, hlip.trans hlip₁⟩, ?_⟩
      · cases i with
        | zero => exact (hothers p.1 hp1).trans ((loadedSeg_seg_same y p.1 p.2).trans (hw.taskRecord_eq hempty₁))
        | succ i => exact hregs i (Nat.lt_of_succ_lt_succ hi)
      · obtain ⟨hr, hrs⟩ := not_or.mp (mt List.mem_cons.mpr hr)
        exact (hothers r hrs).trans (loadedSeg_seg_other y hr p.2)
      · rw [run_bind_ok hrun]
        exact hends

/-! ### CS, the entry point, and the others (R625, R627, R630) -/

/-- The machine at its entry point in the code segment just loaded. -/
def enterCode (s : State) : State := (s.jumpTo s.pc).setOpLIP (s.cs.base + s.truncPc s.pc)

/-- The selectors that follow CS. -/
def dataSels (m : Model) (i : TaskImage) : List (SReg × Half) :=
  [(.ss, i.ss), (.ds, i.ds), (.es, i.es)] ++ if m.has386 then [(.fs, i.fs), (.gs, i.gs)] else []

theorem nodup_dataSels (m : Model) (i : TaskImage) : ((dataSels m i).map Prod.fst).Nodup ∧ SReg.cs ∉ (dataSels m i).map Prod.fst := by
  have hkeys : (dataSels m i).map Prod.fst = [.ss, .ds, .es] ++ if m.has386 then [.fs, .gs] else [] := by
    rw [dataSels]
    cases m.has386 <;> rfl
  rw [hkeys]
  cases m.has386 <;> decide

theorem loadRow_dataSels (ext : Half) (m : Model) (i : TaskImage) : loadRow ext (dataSels m i) = (do
    loadOne ext .ss i.ss
    loadTaskData .ds i.ds ext
    loadTaskData .es i.es ext
    if m.has386 then do
      loadTaskData .fs i.fs ext
      loadTaskData .gs i.gs ext
    else pure ()) := by
  have hlast (r : M Unit) : (r >>= fun _ => pure ()) = r := bind_pure_unit
  rw [dataSels]
  cases m.has386 with
  | false => rfl
  | true =>
    rw [if_pos rfl, if_pos rfl, ← hlast (loadTaskData .gs i.gs ext)]
    rfl

theorem loadTaskSegs_eq (cs : Half) (i : TaskImage) (ext : Half) : loadTaskSegs cs i ext = (do
    loadOne ext .cs cs
    modify enterCode
    let s ← get
    loadRow ext (dataSels s.cfg.model i)) := by
  simp only [loadRow_dataSels]
  rfl

theorem Accessing.run_loadTaskSegs (ext cs : Half) (i : TaskImage) (h : Accessing y y t) (hp : y.pagingOn = false) (hw : Agree w y)
    (hlip : y.opLIP = y.cs.base + y.pc)
    (hempty : ∀ p ∈ (SReg.cs, cs) :: dataSels y.cfg.model i, y.seg p.1 = (s.seg p.1).emptied p.2) :
    let sels := (SReg.cs, cs) :: dataSels y.cfg.model i
    let l := taskLoads s ext sels w
    ∃ z u, Accessing z z u ∧ LoadsOf s y z sels l ∧ z.pc = (if l.recs.isEmpty then y.pc else pcOf z y.pc) ∧
      z.opLIP = z.cs.base + z.pc ∧ RowEnds l (loadTaskSegs cs i ext t) u := by
  intro sels l
  obtain ⟨hkeys, hcs⟩ := nodup_dataSels y.cfg.model i
  obtain ⟨hempty₁, hempties⟩ := List.forall_mem_cons.mp hempty
  have hone := h.run_loadOne hp ext .cs cs
  have hl : l = _ := taskLoads.eq_2 ..
  rw [hw.verdict_eq] at hl
  rw [loadTaskSegs_eq]
  cases hverdict : taskSegVerdict y ext .cs cs with
  | some x =>
    rw [hverdict] at hone hl
    obtain ⟨u, hu, hrun⟩ := hone
    rw [hl]
    refine ⟨y, u, hu, ⟨hw, .refl y, fun i hi => hempty _ ?_, fun _ _ => rfl⟩, rfl, hlip, run_bind_error hrun _⟩
    rw [List.getD_eq_getElem _ _ hi]
    exact List.getElem_mem hi
  | none =>
    rw [hverdict] at hone hl
    obtain ⟨t₁, h₁, hrun⟩ := hone
    have hother (q : SReg × Half) (hq : q ∈ dataSels y.cfg.model i) : q.1 ≠ .cs := fun heq =>
      hcs (heq ▸ List.mem_map_of_mem (f := Prod.fst) hq)
    have h₂ := h₁.update enterCode (fun _ _ _ => rfl) rfl rfl
    have hbut : ButSegs y (enterCode (loadedSeg y .cs cs)) := (butSegs_loadedSeg y .cs cs).trans rfl
    have hseg : (enterCode (loadedSeg y .cs cs)).seg = (loadedSeg y .cs cs).seg := rfl
    obtain ⟨hcfg, hcpl, hgdtr, hldtr, hmem⟩ := hw.loadedSeg .cs cs
    obtain ⟨z, u, hu, ⟨hagree, hsame, hregs, hothers⟩, ⟨hpc, hlipz⟩, hends⟩ := h₂.run_loadRow (s := s) ext
      (dataSels y.cfg.model i) hkeys (hbut.pagingOn_eq.trans hp) (w := marked w cs) ⟨hcfg, hcpl, hgdtr, hldtr, hmem⟩ fun q hq =>
        (loadedSeg_seg_other y (hother q hq) cs).trans (hempties q hq)
    have hzcs : z.cs = (loadedSeg y .cs cs).cs := hothers .cs hcs
    rw [hl]
    refine ⟨z, u, hu, ⟨hagree, hbut.trans hsame, fun i hi => ?_, fun r hr => ?_⟩, ?_, ?_, ?_⟩
    · cases i with
      | zero => exact hzcs.trans ((loadedSeg_seg_same y .cs cs).trans (hw.taskRecord_eq hempty₁))
      | succ i => exact hregs i (Nat.lt_of_succ_lt_succ hi)
    · obtain ⟨hr, hrs⟩ := not_or.mp (mt List.mem_cons.mpr hr)
      exact (hothers r hrs).trans (loadedSeg_seg_other y hr cs)
    · have hmodel : (loadedSeg y .cs cs).cfg = z.cfg := by rw [hbut.trans hsame, butSegs_loadedSeg y .cs cs]
      have hpc' : z.pc = pcOf (loadedSeg y .cs cs) y.pc := by
        rw [hpc, ← State.truncPc_eq, ← (loadedSeg_pc y .cs cs).1]
        rfl
      rw [hpc', pcOf, hmodel, ← hzcs]
      rfl
    · rw [hlipz, hzcs, hpc]
      rfl
    · have hmodel : (enterCode t₁).cfg = y.cfg := h₂.cfg_eq.trans (by rw [hbut])
      rw [run_bind_ok hrun]
      show RowEnds _ (loadRow ext (dataSels (enterCode t₁).cfg.model i) (enterCode t₁)) u
      rw [hmodel]
      exact hends

end

end Sys2Proof.Machine
end

section
/-! The way into the new task (47_task_and_mode.md R625, R626): LDTR, CR3, the back-link, and PS. -/

namespace Sys2Proof.Machine

/-! ### LDTR (R156) -/

/-- LDTR of the new task. -/
def ldtOf (x : State) : LdtReg :=
  if (taskSel x 0x2A 0x60).toNat < 4 then ⟨taskSel x 0x2A 0x60, 0, 0⟩
  else ⟨taskSel x 0x2A 0x60, (x.named (taskSel x 0x2A 0x60)).base, (x.named (taskSel x 0x2A 0x60)).limit⟩

theorem ldtVerdict_of_fits {x : State} (h : taskLdtFits x) : x.ldtVerdict (taskSel x 0x2A 0x60) = .ok (ldtOf x) := by
  rw [ldtOf]
  by_cases hnull : (taskSel x 0x2A 0x60).toNat < 4
  · rw [if_pos hnull, State.ldtVerdict_null hnull]
  · obtain ⟨hti, hin, hseg, htype, hpresent⟩ := h.resolve_left hnull
    rw [if_neg hnull, State.ldtVerdict_global ⟨Nat.not_lt.mp hnull, hti, hin, hseg⟩ htype, if_pos hpresent]

theorem ldtVerdict_of_not_fits {x : State} (h : ¬ taskLdtFits x) : ∃ e, x.ldtVerdict (taskSel x 0x2A 0x60) = .error e := by
  obtain ⟨hnull, hno⟩ := not_or.mp h
  by_cases hg : x.global (taskSel x 0x2A 0x60) ∧ (x.named (taskSel x 0x2A 0x60)).type = 2
  · obtain ⟨hg, htype⟩ := hg
    refine ⟨.notPresent, (State.ldtVerdict_global hg htype).trans (if_neg fun hpresent => hno ?_)⟩
    exact ⟨hg.2.1, hg.2.2.1, hg.2.2.2, htype, hpresent⟩
  · obtain ⟨e, he, -⟩ := State.ldtVerdict_other (Nat.not_lt.mp hnull) hg
    exact ⟨e, he⟩

/-! ### The back-link and the rest (R626) -/

/-- The new task before the back-link is stored: LDTR, CR3, and NT of a nested task. -/
def readyTask (x : State) (k : SwitchKind) : State :=
  let y := ((newTask x).setLdtr (ldtOf x)).setCr3 (imageOf x).cr3
  if k.nests then y.setDirect psNT true else y

/-- The back-link of a nested task. -/
def linkStores (x : State) (k : SwitchKind) (back : Half) : List (List Nat × Word) :=
  if k.nests then [(fieldAt x 0 2, back.setWidth 32)] else []

section
variable {x v : State}

theorem Accessing.run_link (k : SwitchKind) (back : Half)
    (h : Accessing (((newTask x).setLdtr (ldtOf x)).setCr3 (imageOf x).cr3) (((newTask x).setLdtr (ldtOf x)).setCr3 (imageOf x).cr3) v)
    (hp : x.pagingOn = false) : ∃ t, whenM k.nests (nestTask back) v = .ok () t ∧
      Accessing (written (readyTask x k) (linkStores x k back)) (written (readyTask x k) (linkStores x k back)) t := by
  rw [readyTask, linkStores]
  cases k.nests with
  | false => exact ⟨v, rfl, h⟩
  | true =>
    have hnt := h.update (State.setDirect psNT true) (fun _ _ _ => rfl) rfl rfl
    obtain ⟨t, hwrite, ht⟩ := hnt.run_sysWrite hp (x.tr.base + 0) 2 (back.setWidth 32)
    refine ⟨t, ?_, ht.rebase⟩
    have hbase : x.tr.base + 0 = v.tr.base := by
      obtain ⟨m, e, w, l, -, rfl, -⟩ := h
      exact BitVec.add_zero _
    rw [hbase] at hwrite
    exact hwrite

theorem Accessing.run_ldt (h : Accessing x x v) (hp : x.pagingOn = false) (k : SwitchKind) (ext back : Half) (hldt : taskLdtFits x) :
    ∃ u, Accessing (newTask x) (newTask x) u ∧
      loadTask k ext back v = afterLdt k ext back (taskSel x 0x24 0x4C) (imageOf x) (u.setLdtr (ldtOf x)) := by
  obtain ⟨t, ht, hrun⟩ := h.run_image hp k ext back
  have hends := ht.run_loadLdt hp (fun _ => .ts (selErr ext (imageOf x).ldt)) (imageOf x).ldt
  have hverdict : (newTask x).ldtVerdict (imageOf x).ldt = .ok (ldtOf x) := by
    rw [imageOf_ldt]
    exact ldtVerdict_of_fits hldt
  rw [hverdict] at hends
  obtain ⟨u, hu, hload⟩ := hends
  exact ⟨u, hu, by rw [hrun, afterImage, run_bind_ok hload]⟩

/-- Where the loads of the segment registers begin. -/
theorem Accessing.run_loadTask (h : Accessing x x v) (hp : x.pagingOn = false) (k : SwitchKind) (ext back : Half)
    (hldt : taskLdtFits x) (hvm : bit (taskPs x) 17 = false) :
    ∃ t, Accessing (written (readyTask x k) (linkStores x k back)) (written (readyTask x k) (linkStores x k back)) t ∧
      loadTask k ext back v = loadTaskSegs (taskSel x 0x24 0x4C) (imageOf x) ext t := by
  obtain ⟨u, hu, hrun⟩ := h.run_ldt hp k ext back hldt
  have hcr3 := hu.update (fun s => (s.setLdtr (ldtOf x)).setCr3 (imageOf x).cr3) (fun _ _ _ => rfl) rfl rfl
  obtain ⟨t, hlink, ht⟩ := hcr3.run_link k back hp
  refine ⟨t, ht, ?_⟩
  rw [hrun, afterLdt, imageOf_ps, hvm, if_neg Bool.false_ne_true]
  exact run_bind_ok hlink _

theorem Accessing.loadTask_vm (h : Accessing x x v) (hp : x.pagingOn = false) (k : SwitchKind) (ext back : Half)
    (hldt : taskLdtFits x) (hvm : bit (taskPs x) 17 = true) : ∃ t, loadTask k ext back v = .error (.refused .virtual8086) t := by
  obtain ⟨u, -, hrun⟩ := h.run_ldt hp k ext back hldt
  refine ⟨u.setLdtr (ldtOf x), ?_⟩
  rw [hrun, afterLdt, imageOf_ps, hvm, if_pos rfl]
  rfl

theorem Accessing.loadTask_badLdt (h : Accessing x x v) (hp : x.pagingOn = false) (k : SwitchKind) (ext back : Half)
    (hldt : ¬ taskLdtFits x) : ∃ u, Accessing (newTask x) (newTask x) u ∧
      loadTask k ext back v = .error (.exn (.ts (selCode (taskSel x 0x2A 0x60) ||| ext))) u.setNoReadWrite := by
  obtain ⟨t₁, h₁, hrun⟩ := h.run_image hp k ext back
  have hends := h₁.run_loadLdt hp (fun _ => .ts (selErr ext (imageOf x).ldt)) (imageOf x).ldt
  obtain ⟨e, he⟩ := ldtVerdict_of_not_fits hldt
  have hverdict : (newTask x).ldtVerdict (imageOf x).ldt = .error e := by
    rw [imageOf_ldt]
    exact he
  rw [hverdict] at hends
  obtain ⟨u, hu, hload⟩ := hends
  refine ⟨u, hu, ?_⟩
  rw [hrun, afterImage, run_bind_error hload, imageOf_ldt]
  rfl

end

/-! ### PS (R53, R625, R626) -/

theorem FlagEngine.stored_of_empty {e : FlagEngine} (h : e.cached = .empty) : e.stored = e.ps := by
  have hcommit (f : Flag) : e.commit f e.ps = e.ps := FlagEngine.commit_stored _ (by rw [h]; cases f <;> rfl)
  rw [FlagEngine.stored]
  simp only [hcommit]

theorem getLsbD_psSet_of_writable (m : Model) {n : Nat} (hn : n < 32) (h : bit (psCached ||| m.psDirect) n = true) :
    m.psSet.getLsbD n = false := by
  revert n
  cases m <;> decide

/-- A writable bit of PS, where no flag is cached. -/
theorem bit_getPS_of_empty {t : State} (h : t.flags.cached = .empty) {n : Nat} (hn : n < 32)
    (hw : bit (psCached ||| t.cfg.model.psDirect) n = true) : bit t.getPS n = t.flags.ps.getLsbD n := by
  rw [bit, getLsbD_getPS, FlagEngine.stored_of_empty h, ← BitVec.getLsbD_or, getLsbD_psSet_of_writable _ hn hw, show
    (psCached ||| t.cfg.model.psDirect).getLsbD n = true from hw, Bool.and_true, Bool.or_false]

theorem readyTask_cached (x : State) (k : SwitchKind) : (readyTask x k).flags.cached = .empty := by
  rw [readyTask]
  cases k.nests <;> rfl

theorem getLsbD_newTask_ps (x : State) {n : Nat} (hn : n < 32) (hw : bit (psCached ||| x.cfg.model.psDirect) n = true)
    (hvm : bit (taskPs x) 17 = false) : (newTask x).flags.ps.getLsbD n = bit (taskPs x) n := by
  have hflags : (newTask x).flags.ps = (x.flags.setPS ((imageOf x).ps &&& ~~~psVM) x.psWritable).ps := rfl
  have hnot : ∀ n < 32, (~~~psVM).getLsbD n = !decide (n = 17) := by decide
  rw [hflags, FlagEngine.getLsbD_setPS_ps _ _ _ hn, if_pos (show x.psWritable.getLsbD n = true from hw), imageOf_ps,
    BitVec.getLsbD_and, hnot n hn]
  by_cases h17 : n = 17
  · subst h17
    rw [hvm]
    exact Bool.and_false _
  · rw [decide_eq_false h17]
    exact Bool.and_true _

/-- PS of the new task. -/
theorem bit_getPS_readyTask {x t : State} {k : SwitchKind} (hcfg : t.cfg = x.cfg) (hflags : t.flags = (readyTask x k).flags)
    (hvm : bit (taskPs x) 17 = false) {n : Nat} (hn : n < 32) (hw : bit (psCached ||| x.cfg.model.psDirect) n = true) :
    bit t.getPS n = if n = 14 then k.nests || bit (taskPs x) 14 else bit (taskPs x) n := by
  rw [bit_getPS_of_empty (hflags ▸ readyTask_cached x k) hn (hcfg ▸ hw), hflags, readyTask]
  cases k.nests with
  | false =>
    refine (getLsbD_newTask_ps x hn hw hvm).trans ?_
    by_cases h14 : n = 14
    · rw [if_pos h14, Bool.false_or, h14]
    · rw [if_neg h14]
  | true =>
    have hnt : ∀ n < 32, psNT.getLsbD n = decide (n = 14) := by decide
    have hset := getLsbD_putMask (newTask x).flags.ps psNT true hn
    rw [getLsbD_newTask_ps x hn hw hvm, hnt n hn] at hset
    refine hset.trans ?_
    by_cases h14 : n = 14 <;> simp [h14]

end Sys2Proof.Machine
end

section
/-! The task switch in every case (47_task_and_mode.md R621 to R631). -/

namespace Sys2Proof.Machine

/-! ### The states of the statement and those of the model -/

/-- Memory and TR after the old task was left; CR0.TS is set besides (R622 to R624, R629). -/
theorem switched_eq (s : State) (sel : Half) (k : SwitchKind) (ret : Word) : ∃ m,
    switched s sel k ret = { s with mem := m, tr := ⟨sel, (s.named sel).base, (s.named sel).limit, tssKindOf (s.named sel)⟩ } :=
  ⟨(written s (saveStores s k ret ++ busyStores s sel k ret)).mem, by
    rw [switched]
    generalize saveStores s k ret ++ busyStores s sel k ret = ws
    rw [written_eq ws s]⟩

/-- CR0.TS set. -/
def State.withTs (s : State) : State := { s with cr0 := s.cr0 ||| 8 }

theorem leftTask_eq (s : State) (sel : Half) (k : SwitchKind) (ret : Word) : leftTask s sel k ret = (switched s sel k ret).withTs := by
  obtain ⟨m, hm⟩ := switched_eq s sel k ret
  rw [leftTask, State.withTs, hm]

theorem State.withTs_pagingOn (s : State) : s.withTs.pagingOn = s.pagingOn := by
  have hbit : bit (s.cr0 ||| 8) 31 = bit s.cr0 31 := by
    rw [bit, BitVec.getLsbD_or]
    exact Bool.or_false _
  simp only [State.pagingOn, State.withTs, hbit]

theorem taskSels_eq (x : State) : taskSels x = (.cs, taskSel x 0x24 0x4C) :: dataSels x.cfg.model (imageOf x) := by
  obtain ⟨hss, hds, hes, hfs, hgs⟩ := imageOf_sels x
  rw [taskSels, dataSels, hss, hds, hes, hfs, hgs]
  rfl

theorem imageOf_cr3 (x : State) : (imageOf x).cr3 = match x.tr.kind with | .tss286 => x.cr3 | .tss386 => fieldOf x 0x1C 4 := by
  rw [imageOf]
  cases x.tr.kind <;> rfl

/-- The state that the segment loads begin in. -/
def startTask (x : State) (k : SwitchKind) (back : Half) : State := written (readyTask x k) (linkStores x k back)

theorem startTask_eq (x : State) (k : SwitchKind) (back : Half) : startTask x k back = { newTask x with
    ldtr := ldtOf x, cr3 := (imageOf x).cr3, flags := (readyTask x k).flags, mem := (startTask x k back).mem } := by
  have hready : readyTask x k = { newTask x with ldtr := ldtOf x, cr3 := (imageOf x).cr3, flags := (readyTask x k).flags } := by
    rw [readyTask]
    cases k.nests <;> rfl
  rw [startTask, written_eq]
  generalize (written (readyTask x k) (linkStores x k back)).mem = m
  rw [hready]

theorem nine_le_type {d : Desc} {needs : Bool} (h : d.type ∈ wantedTypes needs) (hkind : tssKindOf d = .tss386) : 9 ≤ d.type := by
  have hold : ¬ (d.type = 1 ∨ d.type = 3) := fun h => by
    rw [tssKindOf, if_pos h] at hkind
    exact nomatch hkind
  cases needs with
  | true =>
    rcases List.mem_pair.mp h with h3 | h11
    · exact absurd (.inr h3) hold
    · omega
  | false =>
    rcases List.mem_pair.mp h with h1 | h9
    · exact absurd (.inl h1) hold
    · omega

theorem not_noTask {s : State} {sel ext : Half} {k : SwitchKind} (h : taskVerdict s sel ext k = none) : ¬ NoTask s k (s.named sel) := by
  intro hno
  rw [taskVerdict_eq] at h
  split at h
  · exact nomatch h
  · rw [if_pos (Or.inr (Or.inr (Or.inr hno)))] at h
    exact nomatch h

/-- A task switch enters a TSS386 on the 80386 only (R611). -/
theorem has386_of_tss386 {s : State} {sel ext : Half} {k : SwitchKind} (h : taskVerdict s sel ext k = none)
    (hkind : tssKindOf (s.named sel) = .tss386) : s.cfg.model.has386 = true := by
  obtain ⟨-, hbad⟩ := not_or.mp (not_noTask h)
  obtain ⟨htype, hmodel⟩ := not_or.mp hbad
  exact Bool.of_not_eq_false fun h386 => hmodel ⟨nine_le_type (Decidable.not_not.mp htype) hkind, h386⟩

/-! ### A refused LDT (R630) -/

section
variable {s v u : State} {m : Memory} {r : TaskReg}

theorem inNewTask (hv : v = { s with mem := m, tr := r }) (hkind : r.kind = .tss386 → s.cfg.model.has386 = true)
    (h : Accessing (newTask v.withTs) (newTask v.withTs) u) : InNewTask s v u.setNoReadWrite := by
  have hgpr := newTask_gpr v.withTs (by rw [hv]; exact hkind)
  have hseg := newTask_seg v.withTs
  have hmem : SameMemory (newTask v.withTs) u := fun a => congrFun h.busByte_eq a
  obtain ⟨m', e, w, l, hm, rfl, -⟩ := h
  obtain rfl : (newTask v.withTs).mem = m' := congrArg State.mem hm
  subst hv
  exact ⟨hgpr, rfl, rfl, rfl, hseg, hmem,
    rfl, rfl, rfl, rfl, rfl, rfl, rfl, rfl, rfl, rfl, rfl, rfl, rfl, rfl, rfl, rfl, rfl, rfl, rfl, rfl⟩

/-! ### The segment loads (R625 to R627) -/

theorem agree_startTask (s v : State) (k : SwitchKind) :
    Agree (entered s v k) (startTask v.withTs k s.tr.sel) := by
  have hcfg : v.cfg = (readyTask v.withTs k).cfg := by
    rw [readyTask]
    cases k.nests <;> rfl
  have hmem : v.mem = (readyTask v.withTs k).mem := by
    rw [readyTask]
    cases k.nests <;> rfl
  have hwritten := written_mem_congr hcfg hmem (linkStores v k s.tr.sel)
  rw [startTask_eq, entered]
  refine ⟨?_, rfl, ?_, rfl, hwritten⟩
  · show (written v (linkStores v k s.tr.sel)).cfg = _
    rw [written_eq]
    rfl
  · show (written v (linkStores v k s.tr.sel)).gdtr = _
    rw [written_eq]
    rfl

theorem inTask {k : SwitchKind} {l : TaskLoads} {z : State} (hv : v = { s with mem := m, tr := r })
    (hkind : r.kind = .tss386 → s.cfg.model.has386 = true) (hvm : bit (taskPs v) 17 = false)
    (hl : LoadsOf s (startTask v.withTs k s.tr.sel) z (taskSels v) l)
    (hpc : z.pc = if l.recs.isEmpty then byKind v 0x0E 0x20 4 else pcOf z (byKind v 0x0E 0x20 4)) (hlip : z.opLIP = z.cs.base + z.pc)
    (h : Accessing z z u) : InTask s v (entered s v k) k l u := by
  obtain ⟨hagree, hsame, hregs, hothers⟩ := hl
  have hmem : SameMemory l.left u := fun a => congrFun (h.busByte_eq.trans hagree.named_eq.2.2.symm) a
  have hcpl : z.cpl = (entered s v k).cpl := by
    rw [hsame, startTask_eq]
    rfl
  have hps {n : Nat} := bit_getPS_readyTask (x := v.withTs) (t := z) (k := k) (by rw [hsame, startTask_eq]; rfl)
    (by rw [hsame, startTask_eq]) hvm (n := n)
  have hextra (h386 : s.cfg.model.has386 = false) : z.fs = s.fs ∧ z.gs = s.gs := by
    have hmodel : v.withTs.cfg.model.has386 = false := by rw [hv]; exact h386
    obtain ⟨hfs, hgs⟩ := newTask_extra v.withTs hmodel
    have hkeys : (taskSels v).map Prod.fst = [.cs, .ss, .ds, .es] := by
      rw [taskSels, show v.cfg.model.has386 = false from hmodel]
      rfl
    have hstart : (startTask v.withTs k s.tr.sel).fs = (newTask v.withTs).fs ∧
        (startTask v.withTs k s.tr.sel).gs = (newTask v.withTs).gs := by
      rw [startTask_eq]
      exact ⟨rfl, rfl⟩
    have hold : v.withTs.fs = s.fs ∧ v.withTs.gs = s.gs := by
      rw [hv]
      exact ⟨rfl, rfl⟩
    exact ⟨(hothers .fs (by rw [hkeys]; decide)).trans (hstart.1.trans (hfs.trans hold.1)),
      (hothers .gs (by rw [hkeys]; decide)).trans (hstart.2.trans (hgs.trans hold.2))⟩
  obtain ⟨lip, pc, m', es, cs, ss, ds, fs, gs, rfl⟩ : ∃ lip pc m' es cs ss ds fs gs, z = { newTask v.withTs with
      ldtr := ldtOf v.withTs, cr3 := (imageOf v.withTs).cr3, flags := (readyTask v.withTs k).flags, mem := m', pc := pc,
      opLIP := lip, es := es, cs := cs, ss := ss, ds := ds, fs := fs, gs := gs } := by
    rw [ButSegs, startTask_eq] at hsame
    exact ⟨_, _, _, _, _, _, _, _, _, hsame⟩
  obtain ⟨m'', e, w, bl, hm, rfl, hbus⟩ := h
  obtain rfl : m' = m'' := congrArg State.mem hm
  have hgpr := newTask_gpr v.withTs (by rw [hv]; exact hkind)
  have hcr3 := imageOf_cr3 v.withTs
  have hldtr : (entered s v k).ldtr = ldtOf v.withTs := rfl
  subst hv
  refine ⟨hgpr, hcpl, hpc, hlip, fun n hn hw => hps hn hw, hregs, hextra, hmem,
    ⟨rfl, rfl, hcr3, rfl, rfl, rfl, rfl, rfl, rfl, rfl, rfl, rfl, rfl, hldtr, rfl, rfl, rfl, rfl, rfl, rfl⟩, rfl, rfl, hbus⟩


theorem startTask_seg (x : State) (k : SwitchKind) (back : Half) (q : SReg) : (startTask x k back).seg q = (newTask x).seg q := by
  rw [startTask_eq]
  cases q <;> rfl

/-- The segment loads of the new task, from where they begin. -/
theorem Accessing.run_taskLoads {t : State} (ext : Half) (k : SwitchKind) (hv : v = { s with mem := m, tr := r })
    (hp : s.pagingOn = false)
    (h : Accessing (startTask v.withTs k s.tr.sel) (startTask v.withTs k s.tr.sel) t) :
    let l := taskLoads s ext (taskSels v) (entered s v k)
    let entry := byKind v 0x0E 0x20 4
    ∃ z u, Accessing z z u ∧ LoadsOf s (startTask v.withTs k s.tr.sel) z (taskSels v) l ∧
      z.pc = (if l.recs.isEmpty then entry else pcOf z entry) ∧ z.opLIP = z.cs.base + z.pc ∧
      RowEnds l (loadTaskSegs (taskSel v.withTs 0x24 0x4C) (imageOf v.withTs) ext t) u := by
  have hcfg : (startTask v.withTs k s.tr.sel).cfg = v.withTs.cfg := by
    rw [startTask_eq]
    rfl
  have hpaging : (startTask v.withTs k s.tr.sel).pagingOn = false := by
    rw [startTask_eq]
    exact v.withTs_pagingOn.trans (by rw [hv]; exact hp)
  have hentry : (startTask v.withTs k s.tr.sel).pc = byKind v 0x0E 0x20 4 ∧ (startTask v.withTs k s.tr.sel).opLIP =
      (startTask v.withTs k s.tr.sel).cs.base + (startTask v.withTs k s.tr.sel).pc := by
    rw [startTask_eq]
    exact ⟨rfl, rfl⟩
  have hsels : (SReg.cs, taskSel v.withTs 0x24 0x4C) :: dataSels (startTask v.withTs k s.tr.sel).cfg.model (imageOf v.withTs) =
      taskSels v := by
    rw [hcfg]
    exact (taskSels_eq v.withTs).symm
  have hseg (q : SReg) : v.withTs.seg q = s.seg q := by
    rw [hv]
    cases q <;> rfl
  have hempty : ∀ p ∈ taskSels v, (startTask v.withTs k s.tr.sel).seg p.1 = (s.seg p.1).emptied p.2 := fun p hp => by
    rw [startTask_seg, newTask_seg v.withTs p hp, hseg]
  have hloads := h.run_loadTaskSegs (s := s) ext (taskSel v.withTs 0x24 0x4C) (imageOf v.withTs) hpaging (agree_startTask s v k)
    hentry.2 (by rw [hsels]; exact hempty)
  rw [hsels, hentry.1] at hloads
  exact hloads

theorem InTask.setNoReadWrite {w : State} {k : SwitchKind} {l : TaskLoads} (h : InTask s v w k l u) :
    InTask s v w k l u.setNoReadWrite := h

/-- The loads end as the statement says, in a state in which NOREAD and NOWRITE may be set. -/
theorem rowEnds_ends {l : TaskLoads} {o o' : EStateM.Result Stop State Unit} (h : RowEnds l o u) (ho : o' = o) :
    l.ends o' u ∨ l.ends o' u.setNoReadWrite := by
  subst ho
  rw [TaskLoads.ends, TaskLoads.ends]
  rw [RowEnds] at h
  cases hfails : l.fails with
  | none =>
    rw [hfails] at h
    exact .inl h
  | some x =>
    rw [hfails] at h
    exact .inr h

end

/-! ### The switch -/

section
variable {s : State} {sel ext : Half} {k : SwitchKind} (hm : s.mem.wf = true) (hp : s.pagingOn = false) (ret : Word)
include hp

/-- A refused task switch (R621, R631). -/
theorem taskSwitch_refused {x : Exn} (h : taskVerdict s sel ext k = some x) : ∃ u, taskSwitch sel k ret ext s = .error (.exn x) u ∧
    SameDevices s u ∧ u = { s with opFlags := u.opFlags, busLog := u.busLog } := by
  obtain ⟨t, ⟨l, rfl, hl⟩, hrun⟩ := testTask_run hp sel ext k
  rw [h] at hrun
  exact ⟨({ s with busLog := l } : State).setNoReadWrite, by rw [taskSwitch_eq, run_bind_error hrun], hl, rfl⟩

include hm

/-- The old task is left, and the new one is loaded. -/
theorem taskSwitch_run (h : taskVerdict s sel ext k = none) : ∃ t,
    Accessing (switched s sel k ret).withTs (switched s sel k ret).withTs t ∧
      taskSwitch sel k ret ext s = loadTask k ext s.tr.sel t := by
  obtain ⟨t, ht, hrun⟩ := testTask_run hp sel ext k
  rw [h] at hrun
  obtain ⟨u, hleave, hu⟩ := ht.accessing.run_leaveTask hm hp sel k ret
  rw [leftTask_eq] at hu
  refine ⟨u, hu, ?_⟩
  have hcfg : t.cfg = s.cfg ∧ t.tr = s.tr := by
    obtain ⟨l, rfl, -⟩ := ht
    exact ⟨rfl, rfl⟩
  rw [taskSwitch_eq, run_bind_ok hrun, run_get_bind, hcfg.1, hcfg.2, run_bind_ok hleave]

end

/-- Settles O39: the tests, then the new task's image, LDTR, and the segment registers in a row. -/
theorem taskSwitchEntersNewTask : Obligations.TaskSwitchEntersNewTask := by
  unfold Obligations.TaskSwitchEntersNewTask
  intro s sel ext k ret hm hp _ o v w l
  refine ⟨fun x hx => taskSwitch_refused hp ret hx, fun hgood => ?_⟩
  obtain ⟨m, hv⟩ := switched_eq s sel k ret
  obtain ⟨t, ht, hrun⟩ := taskSwitch_run hm hp ret hgood
  have hpaging : v.withTs.pagingOn = false := by
    rw [v.withTs_pagingOn]
    show (switched s sel k ret).pagingOn = false
    rw [hv]
    exact hp
  refine ⟨fun hldt => ?badLdt, fun hldt hvm => ?vm, fun hldt hvm => ?loads⟩
  case badLdt =>
    obtain ⟨u, hu, hload⟩ := ht.loadTask_badLdt hpaging k ext s.tr.sel hldt
    exact ⟨_, hrun.trans hload, inNewTask hv (has386_of_tss386 hgood) hu⟩
  case vm =>
    obtain ⟨u, hload⟩ := ht.loadTask_vm hpaging k ext s.tr.sel hldt hvm
    exact ⟨u, hrun.trans hload⟩
  case loads =>
    obtain ⟨t', ht', hload⟩ := ht.run_loadTask hpaging k ext s.tr.sel hldt hvm
    obtain ⟨z, u, hu, hl, hpc, hlip, hends⟩ := ht'.run_taskLoads ext k hv hp
    have hin : InTask s v w k l u := inTask hv (has386_of_tss386 hgood) hvm hl hpc hlip hu
    exact (rowEnds_ends hends (hrun.trans hload)).elim (fun h => ⟨_, h, hin⟩) fun h => ⟨_, h, hin.setNoReadWrite⟩

end Sys2Proof.Machine
end
